-- ==== Sys2Proof/Word.lean ====
section
/-! DEFINITION. The words, bytes and byte strings of the model. Registers are 32 bits wide (R4). -/

namespace Sys2Proof

/-- A register word, R4. -/
abbrev Word := BitVec 32

/-- One byte. -/
abbrev Byte := BitVec 8

/-- A byte string, first byte first. -/
abbrev Bytes := List (BitVec 8)

/-- The number of one of the four strands, R19. -/
abbrev StrandId := Fin 4

end Sys2Proof
end

