-- ==== Sys2Proof/Syntax.lean ====
section
/-! DEFINITION. The commands: one constructor per row of spec/opcode_table.json, with the operands a command carries from
outside the block. -/

namespace Sys2Proof

/-- Who makes an access: the manager (PCI Express function 0), a virtual function, or a Garnet core of a strand at a
privilege (R74, R79, R430, R432). -/
inductive Requester where
  | manager
  | vf (f : Nat)
  | core (s : Fin 4) (c : Nat) (priv : Nat)
  deriving DecidableEq, Repr

/-- The parts of the ring that can fail, R24. -/
inductive RingPart where
  | hostPort | tagFrontEnd | supervision
  deriving DecidableEq, Repr

/-- How a register access crosses the strand data fabric, R437: its beat arrives whole, with an error that is corrected, or with one that
is not; and whether the register read has its parity right. -/
structure BusEnv where
  corrected : Bool := false
  discarded : Bool := false
  parityOk : Bool := true
  deriving DecidableEq, Repr

/-- One submission entry of a job as the block meets it: its input length, the input bytes in strand SRAM, and its
output area (R336). -/
structure Seg where
  inAddr : Nat := 0
  inLen : Nat := 0
  data : Bytes := []
  outAddr : Nat := 0
  outLen : Nat := 0
  deriving DecidableEq, Repr

/-- What the world does to a job while it runs: whether the doubled release decision agrees (R223), whether the key
transfer arrives whole and at its destination (R33), whether the engine's end check passes (R293) and else the code of the fault (R278, R281, R310), whether input was read and output written
without error (R352), whether a log record, reservation or marker that the job programs in Agate verifies (R215, R229, R237), and whether
main power fails between the COMMIT marker and the swap (R237). -/
structure JobEnv where
  agree : Bool := true
  transferOk : Bool := true
  destOk : Bool := true
  endOk : Bool := true
  fault : Nat := 2
  readOk : Bool := true
  writeOk : Bool := true
  logOk : Bool := true
  cut : Bool := false
  deriving DecidableEq, Repr

/-- A job as the host port hands it to a strand block: the fields of R336 with the stamp of R374 and the moments of R142;
`cop` names the logical core that submitted it through a coprocessor major, R406: its data lie in work SRAM. -/
structure Job where
  id : Nat := 0
  op : Nat := 0
  fn : Nat := 0
  gen : Nat := 1
  sq : Nat := 0
  cq : Nat := 0
  tag : Nat := 0
  irq : Bool := false
  specOk : Bool := false
  ctx : Nat := 0
  segs : List Seg := [{}]
  w6 : Nat := 0
  w7 : Nat := 0
  origin : Nat := 0
  lastInput : Nat := 0
  env : JobEnv := {}
  cop : Option (Fin 4) := none
  deriving DecidableEq, Repr

/-- A protected Gulsis frame as it arrives, R172, R173: COUNTER, the enciphered payload and the tag, and the number of bad blocks met in it. -/
structure GFrame where
  ctr : Nat := 0
  cipher : Bytes := []
  tag : Bytes := []
  badBlocks : Nat := 0
  deriving DecidableEq, Repr

/-- A protected station frame as it arrives, R457: whether its CRC and header hold, FFLAGS, COUNTER, the enciphered payload
and the authenticator; whether Topaz works without a fault on it, R498. -/
structure SFrame where
  crcOk : Bool := true
  engineOk : Bool := true
  flags : Nat := 0
  ctr : Nat := 0
  cipher : Bytes := []
  auth : Bytes := []
  deriving DecidableEq, Repr

/-- What a custodian card's answer-to-reset tells, R515: TA1, IFSC of TA3, whether TC3 selects the CRC. -/
structure CardAtr where
  ta1 : Nat := 0x11
  ifsc : Nat := 32
  crc : Bool := false
  deriving DecidableEq, Repr

/-- A boot block as step 6 finds it, R51, R53, R420: the Warden image, its version and the VDT_BASE of its header, and whether its
measurement matches. -/
structure BootImage where
  image : Bytes := []
  version : Nat := 0
  vdt : BitVec 32 := 0
  matches_ : Bool := true
  deriving DecidableEq, Repr

/-- What a start finds, R51: whether the canary held (R598), the fuse copies, the islands that fail the self-test, the Quartz sources
that fail the start-up health test with whether the adaptive test failed (R317), the detector self-test, the retained state's check, the
heads read from the journal card beyond the checkpoint with the anchor's entry number and J and whether the MAC of that answer holds (R170,
R512), the two boot blocks, the vault's unmasking, whether the anchors of the flash hold valid headers (R563), the nanoseconds to the end of step 7, the checkers' agreement at step 9, and what befalls the card keys on their way (R508). -/
structure StartEnv where
  fusesOk : Bool := true
  failed : List Nat := []
  quartz : List (Nat × Bool) := []
  detectorsOk : Bool := true
  retainedOk : Bool := true
  heads : List Bytes := []
  anchor : Option (Nat × Bytes) := none
  anchorOk : Bool := true
  anchorsOk : Bool := true
  bootA : BootImage := {}
  bootB : BootImage := {}
  vaultOk : Bool := true
  took : Nat := 0
  agree : Bool := true
  keys : JobEnv := {}
  deriving DecidableEq, Repr

/-- The commands, one constructor per row of the table of operations and events. -/
inductive Instr where
  /-- REGISTER_WRITE, R7. -/
  | registerWrite (who : Requester) (addr : Nat) (v : Word) (bus : BusEnv := {})
  /-- STAGED_VALUE_APPLY, R12. -/
  | stagedValueApply (n : Fin 4) (blk : Nat)
  /-- MISALIGNED_REGISTER_ACCESS, R5. -/
  | misalignedRegisterAccess (who : Requester) (addr size : Nat) (isWrite : Bool)
  /-- LO_REGISTER_READ, R122. -/
  | loRegisterRead (who : Requester) (addr : Nat) (bus : BusEnv := {})
  /-- RING_PART_FAILURE, R24. -/
  | ringPartFailure (p : RingPart)
  /-- RS_REFCLK_FAILOVER, R28. -/
  | rsRefclkFailover (bad : Fin 4)
  /-- ERASE_REQUEST_RECEIVED, R25. -/
  | eraseRequestReceived (n frm : Fin 4)
  /-- MAIN_POWER_LOSS, R56. -/
  | mainPowerLoss (vbat : Nat)
  /-- MAIN_POWER_RETURN, R56. -/
  | mainPowerReturn (lost : List Nat)
  /-- STRAND_START, R51. -/
  | strandStart (n : Fin 4) (env : StartEnv)
  /-- PAIR_WAIT_EXPIRED, R51. -/
  | pairWaitExpired (n : Fin 4) (agree : Bool)
  /-- DOUBLED_DECISION_RETRY, R60. -/
  | doubledDecisionRetry (n : Fin 4) (agree : Bool)
  /-- MODE_REQ_RESTART, R74. -/
  | modeReqRestart (n : Fin 4) (who : Requester)
  /-- MODE_REQ_THAW, R74. -/
  | modeReqThaw (n : Fin 4) (who : Requester) (agree : Bool)
  /-- MODE_REQ_FREEZE, R62. -/
  | modeReqFreeze (n : Fin 4) (who : Requester)
  /-- STRAND_FREEZE_COMPLETE, R62. -/
  | strandFreezeComplete (n : Fin 4)
  /-- CEREMONY_IDLE_EXPIRED, R56. -/
  | ceremonyIdleExpired (n : Fin 4) (agree : Bool)
  /-- MAKER_DEBUG_CHALLENGE, R70. -/
  | makerDebugChallenge (sig : Bytes) (key : Bytes := [])
  /-- MAKER_SCRAP_ORDER, R71. -/
  | makerScrapOrder (sig : Bytes) (agree : Bool) (key : Bytes := [])
  /-- RNG_SNAP_WRITE, R640. -/
  | rngSnapWrite (who : Requester) (v : Nat)
  /-- RING_RETAIN_WRITE, R357. -/
  | ringRetainWrite
  /-- POST_BATCH, R91. -/
  | postBatch (n : Fin 4) (j : Job)
  /-- CHECK_BATCH, R91. -/
  | checkBatch (n : Fin 4) (j : Job)
  /-- BATCH_INTAKE, R100. -/
  | batchIntake (n : Fin 4)
  /-- QUARANTINE_SLOT_TAKE, R130. -/
  | quarantineSlotTake (n : Fin 4)
  /-- RECORD_CHECK, R139. -/
  | recordCheck (n : Fin 4) (order : Nat) (fault : Nat := 0)
  /-- BATCH_DECISION, R141. -/
  | batchDecision (n : Fin 4) (order : Nat)
  /-- BATCH_COMMIT, R95. -/
  | batchCommit (n : Fin 4) (order : Nat)
  /-- SEAL_PREPARATION, R296. -/
  | sealPreparation (n : Fin 4) (order eng : Nat)
  /-- SEAL_COMPLETION, R284. -/
  | sealCompletion (n : Fin 4) (order eng : Nat) (endOk : Bool)
  /-- HOLD_LIMIT_EXPIRED, R181. -/
  | holdLimitExpired (n : Fin 4) (order : Nat)
  /-- COMPLETION_POST, R148. -/
  | completionPost (n : Fin 4) (writeOk : Bool)
  /-- SLOT_CLEAR_DONE, R130. -/
  | slotClearDone (n : Fin 4) (slot : Nat)
  /-- APPROVAL_CONFIRM, R679. -/
  | approvalConfirm (n : Fin 4) (j : Job)
  /-- APPROVAL_REVOKE, R679. -/
  | approvalRevoke (n : Fin 4) (j : Job)
  /-- APPROVAL_QUERY, R679. -/
  | approvalQuery (n : Fin 4) (j : Job)
  /-- RELAY_BUFFER, R110. -/
  | relayBuffer (n : Fin 4) (j : Job)
  /-- PIN_TRANSLATE, R109. -/
  | pinTranslate (n : Fin 4) (j : Job)
  /-- SUBMITTER_QUERY, R115. -/
  | submitterQuery (n : Fin 4) (j : Job)
  /-- APPROVAL_EXPIRY, R106. -/
  | approvalExpiry (n : Fin 4) (ref : Bytes) (station : Nat)
  /-- JNL_RECEIPT, R677. -/
  | jnlReceipt (n : Fin 4) (j : Job)
  /-- JNL_STORE_SET, R167. -/
  | jnlStoreSet (n : Fin 4) (j : Job)
  /-- JNL_STORE_FREE, R167. -/
  | jnlStoreFree (n : Fin 4) (j : Job)
  /-- JNL_REPLAY, R195. -/
  | jnlReplay (n : Fin 4) (j : Job) (twin : List Bytes)
  /-- JNL_EXPORT, R196. -/
  | jnlExport (n : Fin 4) (j : Job) (removed : Option (Nat × Nat))
  /-- JNL_SUPERSEDED, R187. -/
  | jnlSuperseded (n : Fin 4) (j : Job)
  /-- JNL_TIME_SET, R160. -/
  | jnlTimeSet (n : Fin 4) (j : Job)
  /-- JNL_TIME_SLEW, R160. -/
  | jnlTimeSlew (n : Fin 4) (j : Job)
  /-- JNL_ROLLOVER, R678. -/
  | jnlRollover (n : Fin 4) (j : Job)
  /-- MIR_ROLE_SWAP, R184. -/
  | mirRoleSwap (n : Fin 4) (j : Job)
  /-- MIR_TAKEOVER, R183. -/
  | mirTakeover (n : Fin 4) (j : Job)
  /-- MIR_RECONCILE, R188. -/
  | mirReconcile (n : Fin 4) (j : Job)
  /-- JOURNAL_CHECKPOINT, R170. -/
  | journalCheckpoint (n : Fin 4) (ok : Bool := true)
  /-- STORE_ENTRY_WRITE, R167. -/
  | storeEntryWrite (n : Fin 4) (writeOk : Bool)
  /-- CARD_HEAD_WRITE, R168. -/
  | cardHeadWrite (n : Fin 4) (ok : Bool)
  /-- ANCHOR_WRITE, R168. -/
  | anchorWrite (n : Fin 4) (result wcount : Nat) (macOk : Bool)
  /-- GULSIS_LANE_LOCK_LOST, R171. -/
  | gulsisLaneLockLost (n : Fin 4) (lanes : Nat)
  /-- GULSIS_LINK_TRAINED, R178. -/
  | gulsisLinkTrained (n : Fin 4) (lanes : Nat)
  /-- PAIRING_RETRY, R178. -/
  | pairingRetry (n : Fin 4)
  /-- MIR_HELLO_RECEIVED, R178. -/
  | mirHelloReceived (n : Fin 4) (p : Bytes) (errs : Nat := 0) (env : JobEnv := {})
  /-- MIR_ATTEST_RECEIVED, R178. -/
  | mirAttestReceived (n : Fin 4) (mac : Bytes) (errs : Nat := 0) (env : JobEnv := {})
  /-- MIR_HEAD_RECEIVED, R186. -/
  | mirHeadReceived (n : Fin 4) (f : GFrame) (time : Nat) (marks : List (Nat × Nat)) (keep : Option Bool) (tail : Nat := 0)
  /-- MIR_RESYNC_REQ_RECEIVED, R185. -/
  | mirResyncReqReceived (n : Fin 4) (f : GFrame) (marks : List (Nat × Nat)) (keep : Option Bool) (tail : Nat := 0)
  /-- MIR_ENTRY_RECEIVED, R176. -/
  | mirEntryReceived (n : Fin 4) (f : GFrame)
  /-- MIR_ACK_RECEIVED, R176. -/
  | mirAckReceived (n : Fin 4) (f : GFrame)
  /-- MIR_NAK_RECEIVED, R177. -/
  | mirNakReceived (n : Fin 4) (f : GFrame)
  /-- MIR_LEASE_RECEIVED, R180. -/
  | mirLeaseReceived (n : Fin 4) (f : GFrame) (agree : Bool)
  /-- MIR_HEARTBEAT_RECEIVED, R180. -/
  | mirHeartbeatReceived (n : Fin 4) (f : GFrame)
  /-- MIR_ROLE_RECEIVED, R184. -/
  | mirRoleReceived (n : Fin 4) (f : GFrame)
  /-- MIR_MARKS_RECEIVED, R192. -/
  | mirMarksReceived (n : Fin 4) (f : GFrame)
  /-- MIR_MARKS_ACK_RECEIVED, R192. -/
  | mirMarksAckReceived (n : Fin 4) (f : GFrame)
  /-- MIR_ROLLOVER_RECEIVED, R678. -/
  | mirRolloverReceived (n : Fin 4) (f : GFrame)
  /-- ENTRY_RESEND_TIMEOUT, R177. -/
  | entryResendTimeout (n : Fin 4)
  /-- NAK_FULL_RESEND, R177. -/
  | nakFullResend (n : Fin 4)
  /-- ROLLOVER_RESEND, R678. -/
  | rolloverResend (n : Fin 4)
  /-- HEARTBEAT_DUE, R180. -/
  | heartbeatDue (n : Fin 4)
  /-- LEASE_SEND_DUE, R180. -/
  | leaseSendDue (n : Fin 4) (agree : Bool)
  /-- LEASE_EXPIRED, R180. -/
  | leaseExpired (n : Fin 4)
  /-- WRITER_LOST, R180. -/
  | writerLost (n : Fin 4)
  /-- SOLO_ENTRY, R182. -/
  | soloEntry (n : Fin 4)
  /-- AUTO_TAKEOVER, R183. -/
  | autoTakeover (n : Fin 4)
  /-- MARKS_RESEND_TIMEOUT, R192. -/
  | marksResendTimeout (n : Fin 4)
  /-- VLT_CREATE, R217. -/
  | vltCreate (n : Fin 4) (j : Job)
  /-- VLT_IMPORT, R245. -/
  | vltImport (n : Fin 4) (j : Job)
  /-- VLT_FREE, R213. -/
  | vltFree (n : Fin 4) (j : Job)
  /-- VLT_QUERY, R217. -/
  | vltQuery (n : Fin 4) (j : Job)
  /-- VLT_SET_ATTR, R222. -/
  | vltSetAttr (n : Fin 4) (j : Job)
  /-- VLT_PUBLIC, R245. -/
  | vltPublic (n : Fin 4) (j : Job)
  /-- VLT_SPILL, R229. -/
  | vltSpill (n : Fin 4) (j : Job)
  /-- VLT_LOAD, R230. -/
  | vltLoad (n : Fin 4) (j : Job)
  /-- VLT_DISCARD, R229. -/
  | vltDiscard (n : Fin 4) (j : Job)
  /-- VLT_EXPORT_T, R233. -/
  | vltExportT (n : Fin 4) (j : Job)
  /-- VLT_IMPORT_T, R233. -/
  | vltImportT (n : Fin 4) (j : Job)
  /-- VLT_REWRAP, R232. -/
  | vltRewrap (n : Fin 4) (j : Job)
  /-- VLT_WRAP_RENEW, R232. -/
  | vltWrapRenew (n : Fin 4) (j : Job)
  /-- VLT_WRAP_CLOSE, R232. -/
  | vltWrapClose (n : Fin 4) (j : Job)
  /-- VLT_REPLACE, R234. -/
  | vltReplace (n : Fin 4) (j : Job)
  /-- VLT_VERIFY, R236. -/
  | vltVerify (n : Fin 4) (j : Job)
  /-- VLT_COMMIT, R234. -/
  | vltCommit (n : Fin 4) (j : Job)
  /-- VLT_ABANDON, R234. -/
  | vltAbandon (n : Fin 4) (j : Job)
  /-- VLT_ATTEST, R239. -/
  | vltAttest (n : Fin 4) (j : Job)
  /-- VLT_ROOT_IMPORT, R241. -/
  | vltRootImport (n : Fin 4) (j : Job)
  /-- VLT_ROOT_CLEAR, R241. -/
  | vltRootClear (n : Fin 4) (j : Job)
  /-- VLT_ATTEST_EXPORT, R240. -/
  | vltAttestExport (n : Fin 4) (j : Job)
  /-- VLT_WRAP_OUT, R241. -/
  | vltWrapOut (n : Fin 4) (j : Job)
  /-- ROOT_REMASK_PASS, R210. -/
  | rootRemaskPass (n : Fin 4) (masks : Nat)
  /-- KEY_RELEASE, R224. -/
  | keyRelease (n : Fin 4) (j : Job) (usage dest : Nat)
  /-- CONTEXT_SWEEP_DONE, R216. -/
  | contextSweepDone (n : Fin 4)
  /-- TOP_KCV, R269. -/
  | topKcv (n : Fin 4) (j : Job)
  /-- TOP_CBC_ENC, R269. -/
  | topCbcEnc (n : Fin 4) (j : Job)
  /-- TOP_CBC_DEC, R269. -/
  | topCbcDec (n : Fin 4) (j : Job)
  /-- TOP_CTR_ENC, R256. -/
  | topCtrEnc (n : Fin 4) (j : Job)
  /-- TOP_CTR_DEC, R269. -/
  | topCtrDec (n : Fin 4) (j : Job)
  /-- TOP_GCM_ENC, R256. -/
  | topGcmEnc (n : Fin 4) (j : Job)
  /-- TOP_GCM_DEC, R260. -/
  | topGcmDec (n : Fin 4) (j : Job)
  /-- TOP_GCM_DEC_STREAM, R263. -/
  | topGcmDecStream (n : Fin 4) (j : Job)
  /-- STREAM_CHAIN_ABORT, R262. -/
  | streamChainAbort (n : Fin 4) (id entries : Nat)
  /-- TOP_CCM_ENC, R269. -/
  | topCcmEnc (n : Fin 4) (j : Job)
  /-- TOP_CCM_DEC, R269. -/
  | topCcmDec (n : Fin 4) (j : Job)
  /-- TOP_CMAC_GEN, R269. -/
  | topCmacGen (n : Fin 4) (j : Job)
  /-- TOP_CMAC_VERIFY, R271. -/
  | topCmacVerify (n : Fin 4) (j : Job)
  /-- TOP_XTS_ENC, R255. -/
  | topXtsEnc (n : Fin 4) (j : Job)
  /-- TOP_XTS_DEC, R255. -/
  | topXtsDec (n : Fin 4) (j : Job)
  /-- TOP_KW_WRAP, R269. -/
  | topKwWrap (n : Fin 4) (j : Job)
  /-- TOP_KW_UNWRAP, R269. -/
  | topKwUnwrap (n : Fin 4) (j : Job)
  /-- JAD_HASH, R270. -/
  | jadHash (n : Fin 4) (j : Job)
  /-- JAD_HMAC_GEN, R270. -/
  | jadHmacGen (n : Fin 4) (j : Job)
  /-- JAD_HMAC_VERIFY, R271. -/
  | jadHmacVerify (n : Fin 4) (j : Job)
  /-- TOPAZ_RESEED, R259. -/
  | topazReseed (n : Fin 4) (lane : Nat) (supplied : Bool) (failed : Bool := false)
  /-- BER_MODMUL, R303. -/
  | berModmul (n : Fin 4) (j : Job)
  /-- BER_MODEXP, R303. -/
  | berModexp (n : Fin 4) (j : Job)
  /-- BER_MODINV, R303. -/
  | berModinv (n : Fin 4) (j : Job)
  /-- BER_RSA_SIGN, R303. -/
  | berRsaSign (n : Fin 4) (j : Job)
  /-- BER_RSA_VERIFY, R303. -/
  | berRsaVerify (n : Fin 4) (j : Job)
  /-- BER_RSA_ENCRYPT, R303. -/
  | berRsaEncrypt (n : Fin 4) (j : Job)
  /-- BER_RSA_DECRYPT, R303. -/
  | berRsaDecrypt (n : Fin 4) (j : Job)
  /-- BER_ECDSA_SIGN, R303. -/
  | berEcdsaSign (n : Fin 4) (j : Job)
  /-- BER_ECDSA_VERIFY, R303. -/
  | berEcdsaVerify (n : Fin 4) (j : Job)
  /-- BER_EDDSA_SIGN, R297. -/
  | berEddsaSign (n : Fin 4) (j : Job)
  /-- BER_EDDSA_VERIFY, R303. -/
  | berEddsaVerify (n : Fin 4) (j : Job)
  /-- BER_ECDH, R287. -/
  | berEcdh (n : Fin 4) (j : Job)
  /-- BER_FFDH, R287. -/
  | berFfdh (n : Fin 4) (j : Job)
  /-- BER_POINT_CHECK, R303. -/
  | berPointCheck (n : Fin 4) (j : Job)
  /-- BER_PRIME_GEN, R299. -/
  | berPrimeGen (n : Fin 4) (j : Job)
  /-- BERYL_WIPE_DONE, R305. -/
  | berylWipeDone (n : Fin 4) (e : Nat)
  /-- BERYL_JOB_START, R291. -/
  | berylJobStart (n : Fin 4) (e : Nat) (entropy : Bool)
  /-- BERYL_COUNT_REACHED, R292. -/
  | berylCountReached (n : Fin 4) (e : Nat)
  /-- BERYL_FENCE, R305. -/
  | berylFence (n : Fin 4) (e : Nat) (key : Bool)
  /-- PRIME_CANDIDATE, R299. -/
  | primeCandidate (n : Fin 4) (e : Nat) (entropy : Bool)
  /-- ENTROPY_BLOCK_CONDITIONED, R312. -/
  | entropyBlockConditioned (n : Fin 4)
  /-- RCT_FAILURE, R315. -/
  | rctFailure (n : Fin 4) (src : Nat)
  /-- APT_WINDOW_END, R315. -/
  | aptWindowEnd (n : Fin 4) (src count : Nat)
  /-- QTZ_DATA_READ, R321. -/
  | qtzDataRead (n : Fin 4) (who : Requester)
  /-- QTZ_FAIL_CLR_WRITE, R318. -/
  | qtzFailClrWrite (n : Fin 4) (who : Requester) (v : Nat)
  /-- QTZ_RANDOM, R322. -/
  | qtzRandom (n : Fin 4) (j : Job)
  /-- MGT_NOP, R339. -/
  | mgtNop (n : Fin 4) (j : Job)
  /-- ENTRY_TAKE, R341. -/
  | entryTake (n : Fin 4)
  /-- CHAIN_WAIT_EXPIRED, R337. -/
  | chainWaitExpired (q : Nat)
  /-- ENTRY_CACHE_FETCH, R342. -/
  | entryCacheFetch (q : Nat) (readOk : Bool)
  /-- JOB_INPUT_READ, R352. -/
  | jobInputRead (n : Fin 4) (id : Nat) (readOk : Bool)
  /-- JOB_OUTPUT_WRITE_ERROR, R352. -/
  | jobOutputWriteError (n : Fin 4) (id : Nat)
  /-- SQ_DB_WRITE, R335. -/
  | sqDbWrite (who : Requester) (q tail : Nat)
  /-- CQ_DB_WRITE, R335. -/
  | cqDbWrite (who : Requester) (q head : Nat)
  /-- SQ_ENABLE_WRITE, R344. -/
  | sqEnableWrite (who : Requester) (q : Nat)
  /-- SQ_DISABLE_WRITE, R344. -/
  | sqDisableWrite (who : Requester) (q : Nat)
  /-- SQ_INVAL_WRITE, R343. -/
  | sqInvalWrite (who : Requester) (q : Nat)
  /-- CQ_ENABLE_WRITE, R363. -/
  | cqEnableWrite (who : Requester) (q : Nat) (enable ien : Bool)
  /-- QUEUE_DISCARD_DONE, R344. -/
  | queueDiscardDone (q : Nat)
  /-- HEAD_PUBLISH, R345. -/
  | headPublish (q : Nat) (writeOk : Bool)
  /-- CQ_INTERRUPT_TIMER, R353. -/
  | cqInterruptTimer (q : Nat)
  /-- MSIX_VECTOR_UNMASK, R353. -/
  | msixVectorUnmask (f vec : Nat)
  /-- CONVENTIONAL_RESET, R330. -/
  | conventionalReset
  /-- HOT_RESET, R330. -/
  | hotReset
  /-- FUNCTION_LEVEL_RESET, R330. -/
  | functionLevelReset (f : Nat)
  /-- PCIE_LINK_DOWN, R330. -/
  | pcieLinkDown
  /-- PCIE_LINK_UP, R330. -/
  | pcieLinkUp (speed width : Nat)
  /-- VF_CREATE, R378. -/
  | vfCreate (n : Fin 4) (j : Job)
  /-- VF_SET_POOL, R371. -/
  | vfSetPool (n : Fin 4) (j : Job)
  /-- VF_REMOVE, R380. -/
  | vfRemove (n : Fin 4) (j : Job)
  /-- VF_RESET, R380. -/
  | vfReset (n : Fin 4) (j : Job)
  /-- VF_QUERY, R387. -/
  | vfQuery (n : Fin 4) (j : Job)
  /-- VF_FREEZE, R379. -/
  | vfFreeze (n : Fin 4) (j : Job)
  /-- VF_SAVE, R383. -/
  | vfSave (n : Fin 4) (j : Job)
  /-- VF_THAW, R378. -/
  | vfThaw (n : Fin 4) (j : Job)
  /-- VF_RESTORE, R386. -/
  | vfRestore (n : Fin 4) (j : Job)
  /-- SRIOV_VF_DISABLE, R368. -/
  | sriovVfDisable (enable : Bool) (numVfs : Nat)
  /-- VF_FREEZE_DONE, R378. -/
  | vfFreezeDone (f : Nat)
  /-- VF_SAVE_DONE, R378. -/
  | vfSaveDone (f : Nat) (writeOk : Bool)
  /-- VF_RESTORE_DONE, R386. -/
  | vfRestoreDone (f : Nat)
  /-- VF_RESET_DONE, R380. -/
  | vfResetDone (f : Nat)
  /-- VF_REMOVE_DONE, R380. -/
  | vfRemoveDone (f : Nat)
  /-- GENERATION_ADVANCE, R375. -/
  | generationAdvance (f : Nat)
  /-- ADD, R402. -/
  | gAdd (n c : Fin 4) (rd ra rb rc : Fin 32)
  /-- SUB, R402. -/
  | gSub (n c : Fin 4) (rd ra rb rc : Fin 32)
  /-- AND, R402. -/
  | gAnd (n c : Fin 4) (rd ra rb rc : Fin 32)
  /-- OR, R402. -/
  | gOr (n c : Fin 4) (rd ra rb rc : Fin 32)
  /-- XOR, R402. -/
  | gXor (n c : Fin 4) (rd ra rb rc : Fin 32)
  /-- SLL, R402. -/
  | gSll (n c : Fin 4) (rd ra rb rc : Fin 32)
  /-- SRL, R402. -/
  | gSrl (n c : Fin 4) (rd ra rb rc : Fin 32)
  /-- SRA, R402. -/
  | gSra (n c : Fin 4) (rd ra rb rc : Fin 32)
  /-- ROTR, R402. -/
  | gRotr (n c : Fin 4) (rd ra rb rc : Fin 32)
  /-- SLLI, R402. -/
  | gSlli (n c : Fin 4) (rd ra sh rc : Fin 32)
  /-- SRLI, R402. -/
  | gSrli (n c : Fin 4) (rd ra sh rc : Fin 32)
  /-- SRAI, R402. -/
  | gSrai (n c : Fin 4) (rd ra sh rc : Fin 32)
  /-- SEQ, R402. -/
  | gSeq (n c : Fin 4) (rd ra rb rc : Fin 32)
  /-- SNE, R402. -/
  | gSne (n c : Fin 4) (rd ra rb rc : Fin 32)
  /-- SLT, R402. -/
  | gSlt (n c : Fin 4) (rd ra rb rc : Fin 32)
  /-- SLTU, R402. -/
  | gSltu (n c : Fin 4) (rd ra rb rc : Fin 32)
  /-- CSEL, R402. -/
  | gCsel (n c : Fin 4) (rd ra rb rc : Fin 32)
  /-- MUL, R402. -/
  | gMul (n c : Fin 4) (rd ra rb rc : Fin 32)
  /-- MULH, R402. -/
  | gMulh (n c : Fin 4) (rd ra rb rc : Fin 32)
  /-- MULHU, R402. -/
  | gMulhu (n c : Fin 4) (rd ra rb rc : Fin 32)
  /-- DIVU, R402. -/
  | gDivu (n c : Fin 4) (rd ra rb rc : Fin 32)
  /-- REMU, R402. -/
  | gRemu (n c : Fin 4) (rd ra rb rc : Fin 32)
  /-- CLZ, R402. -/
  | gClz (n c : Fin 4) (rd ra rb rc : Fin 32)
  /-- PERM, R402. -/
  | gPerm (n c : Fin 4) (rd ra rb rc : Fin 32)
  /-- BFX, R402. -/
  | gBfx (n c : Fin 4) (rd ra lsb wm1 : Fin 32)
  /-- BFXS, R402. -/
  | gBfxs (n c : Fin 4) (rd ra lsb wm1 : Fin 32)
  /-- BFI, R402. -/
  | gBfi (n c : Fin 4) (rd ra lsb wm1 : Fin 32)
  /-- ADDI, R402. -/
  | gAddi (n c : Fin 4) (rd ra : Fin 32) (i : BitVec 16)
  /-- ANDI, R402. -/
  | gAndi (n c : Fin 4) (rd ra : Fin 32) (i : BitVec 16)
  /-- ORI, R402. -/
  | gOri (n c : Fin 4) (rd ra : Fin 32) (i : BitVec 16)
  /-- XORI, R402. -/
  | gXori (n c : Fin 4) (rd ra : Fin 32) (i : BitVec 16)
  /-- SEQI, R402. -/
  | gSeqi (n c : Fin 4) (rd ra : Fin 32) (i : BitVec 16)
  /-- SLTI, R402. -/
  | gSlti (n c : Fin 4) (rd ra : Fin 32) (i : BitVec 16)
  /-- SLTIU, R402. -/
  | gSltiu (n c : Fin 4) (rd ra : Fin 32) (i : BitVec 16)
  /-- LUI, R402. -/
  | gLui (n c : Fin 4) (rd ra : Fin 32) (i : BitVec 16)
  /-- JALR, R402. -/
  | gJalr (n c : Fin 4) (rd ra : Fin 32) (i : BitVec 16)
  /-- LW, R402. -/
  | gLw (n c : Fin 4) (rd ra : Fin 32) (i : BitVec 16)
  /-- LH, R402. -/
  | gLh (n c : Fin 4) (rd ra : Fin 32) (i : BitVec 16)
  /-- LHU, R402. -/
  | gLhu (n c : Fin 4) (rd ra : Fin 32) (i : BitVec 16)
  /-- LB, R402. -/
  | gLb (n c : Fin 4) (rd ra : Fin 32) (i : BitVec 16)
  /-- LBU, R402. -/
  | gLbu (n c : Fin 4) (rd ra : Fin 32) (i : BitVec 16)
  /-- LDP, R402. -/
  | gLdp (n c : Fin 4) (rd ra : Fin 32) (i : BitVec 16)
  /-- SW, R402. -/
  | gSw (n c : Fin 4) (rd ra : Fin 32) (i : BitVec 16)
  /-- SH, R402. -/
  | gSh (n c : Fin 4) (rd ra : Fin 32) (i : BitVec 16)
  /-- SB, R402. -/
  | gSb (n c : Fin 4) (rd ra : Fin 32) (i : BitVec 16)
  /-- SDP, R402. -/
  | gSdp (n c : Fin 4) (rd ra : Fin 32) (i : BitVec 16)
  /-- BZ, R402. -/
  | gBz (n c : Fin 4) (rt : Fin 32) (d : BitVec 21)
  /-- BNZ, R402. -/
  | gBnz (n c : Fin 4) (rt : Fin 32) (d : BitVec 21)
  /-- J, R402. -/
  | gJ (n c : Fin 4) (d : BitVec 26)
  /-- JAL, R402. -/
  | gJal (n c : Fin 4) (d : BitVec 26)
  /-- SYSCALL, R402. -/
  | gSyscall (n c : Fin 4) (k : BitVec 12)
  /-- BREAK, R402. -/
  | gBreak (n c : Fin 4) (k : BitVec 12)
  /-- ERET, R410. -/
  | gEret (n c : Fin 4)
  /-- WFI, R408. -/
  | gWfi (n c : Fin 4)
  /-- MFCR, R397. -/
  | gMfcr (n c : Fin 4) (rd : Fin 32) (k : BitVec 12)
  /-- MTCR, R397. -/
  | gMtcr (n c : Fin 4) (ra : Fin 32) (k : BitVec 12)
  /-- FENCE, R404. -/
  | gFence (n c : Fin 4)
  /-- CACHE_INVAL_ICACHE, R417. -/
  | gCacheInvalIcache (n c : Fin 4)
  /-- CACHE_INVAL_ILINE, R417. -/
  | gCacheInvalIline (n c : Fin 4) (ra : Fin 32)
  /-- CACHE_INVAL_DLINE, R417. -/
  | gCacheInvalDline (n c : Fin 4) (ra : Fin 32)
  /-- CACHE_INVAL_DCACHE, R417. -/
  | gCacheInvalDcache (n c : Fin 4)
  /-- MFB, R402. -/
  | gMfb (n c : Fin 4) (rd : Fin 32) (k : BitVec 12)
  /-- MTB, R402. -/
  | gMtb (n c : Fin 4) (ra : Fin 32) (k : BitVec 12)
  /-- COP_SUBMIT, R406. -/
  | copSubmit (n c unit : Fin 4) (rd ra rb : Fin 32)
  /-- COP_POLL, R406. -/
  | copPoll (n c unit : Fin 4) (rd ra : Fin 32)
  /-- COP_VERSION, R406. -/
  | copVersion (n c unit : Fin 4) (rd : Fin 32)
  /-- FABRIC_FUNCTION, R407. -/
  | fabricFunction (n c m : Fin 4) (fn11 : BitVec 11) (rd : Fin 32) (ra rb : Fin 32 := 0)
  /-- FABRIC_VERSION, R407. -/
  | fabricVersion (n c m : Fin 4) (rd : Fin 32)
  /-- INTERRUPT_ENTRY, R409. -/
  | interruptEntry (n c : Fin 4)
  /-- NMI_ENTRY, R411. -/
  | nmiEntry (n c : Fin 4)
  /-- WFI_WAKE, R408. -/
  | wfiWake (n c : Fin 4)
  /-- CORE_TIMER_EXPIRY, R397. -/
  | coreTimerExpiry (n c : Fin 4)
  /-- COP_TICKET_END, R406. -/
  | copTicketEnd (n c : Fin 4) (num : Nat)
  /-- COP_BEAT_ISSUE, R442. -/
  | copBeatIssue (n c : Fin 4) (num a : Nat) (write : Bool)
  /-- MPU_REGION_WRITE, R444. -/
  | mpuRegionWrite (n : Fin 4) (who : Requester) (core : Fin 4) (region : Fin 32) (part : Fin 3) (v : Word)
  /-- SRAM_PATROL_PASS, R439. -/
  | sramPatrolPass (n : Fin 4) (ce ue : List (Nat × Nat))
  /-- DUPLICATE_COPY_SWEEP, R437. -/
  | duplicateCopySweep (n : Fin 4) (off : Nat)
  /-- PLAIN_RECORD_RECEIVED, R453. -/
  | plainRecordReceived (n : Fin 4) (k : Nat) (chars : Bytes)
  /-- PLAIN_LINE_ERROR, R454. -/
  | plainLineError (n : Fin 4) (k : Nat)
  /-- LINK_HANDSHAKE_START, R461. -/
  | linkHandshakeStart (n : Fin 4) (k : Nat)
  /-- SL_CERT_FRAME, R462. -/
  | slCertFrame (n : Fin 4) (k : Nat) (crcOk : Bool) (p : Bytes) (env : JobEnv)
  /-- SL_READY_FRAME, R461. -/
  | slReadyFrame (n : Fin 4) (k : Nat) (f : SFrame)
  /-- SL_APPROVAL_FRAME, R470. -/
  | slApprovalFrame (n : Fin 4) (k : Nat) (f : SFrame) (env : JobEnv)
  /-- SL_RECORD_FRAME, R472. -/
  | slRecordFrame (n : Fin 4) (k : Nat) (f : SFrame)
  /-- SL_HOST_DATA_FRAME, R467. -/
  | slHostDataFrame (n : Fin 4) (k : Nat) (f : SFrame)
  /-- SL_EMPTY_FRAME, R468. -/
  | slEmptyFrame (n : Fin 4) (k : Nat) (f : SFrame)
  /-- SL_CLOSE_FRAME, R469. -/
  | slCloseFrame (n : Fin 4) (k : Nat) (f : SFrame)
  /-- SL_POLL_DUE, R468. -/
  | slPollDue (n : Fin 4) (k : Nat)
  /-- SL_POLL_MISS, R468. -/
  | slPollMiss (n : Fin 4) (k : Nat)
  /-- SL_HANDSHAKE_TIMEOUT, R461. -/
  | slHandshakeTimeout (n : Fin 4) (k : Nat)
  /-- SL_BACKOFF_ELAPSED, R469. -/
  | slBackoffElapsed (n : Fin 4) (k : Nat)
  /-- SL_SESSION_LIFE_EXPIRED, R465. -/
  | slSessionLifeExpired (n : Fin 4) (k : Nat)
  /-- SL_TRANSCEIVER_FAULT, R469. -/
  | slTransceiverFault (n : Fin 4) (k : Nat)
  /-- SL_SEND, R487. -/
  | slSend (n : Fin 4) (j : Job)
  /-- SL_RECEIVE, R487. -/
  | slReceive (n : Fin 4) (j : Job)
  /-- SL_CLOSE, R487. -/
  | slClose (n : Fin 4) (j : Job)
  /-- SL_QUERY, R487. -/
  | slQuery (n : Fin 4) (j : Job)
  /-- SL_LINK_ENABLE_WRITE, R469. -/
  | slLinkEnableWrite (n : Fin 4) (k v : Nat)
  /-- SL_LINK_CLOSE_WRITE, R496. -/
  | slLinkCloseWrite (n : Fin 4) (k : Nat)
  /-- RECORD_PORT_TRANSFER, R476. -/
  | recordPortTransfer (n : Fin 4) (data : Nat) (sor perr : Bool)
  /-- EOR_IDLE_EXPIRED, R479. -/
  | eorIdleExpired (n : Fin 4)
  /-- SPINEL_RECORD_CONVERT, R480. -/
  | spinelRecordConvert (n : Fin 4) (port : Bool) (len ce ue : Nat) (lrf : Option Bytes) (trailer : Bool)
  /-- SPINEL_BATCH_CLOSE, R485. -/
  | spinelBatchClose (n : Fin 4)
  /-- BATCH_IDLE_EXPIRED, R484. -/
  | batchIdleExpired (n : Fin 4) (link : Option Nat) (batchNo : Nat)
  /-- RELAY_BATCH_PRESENT, R486. -/
  | relayBatchPresent (n : Fin 4)
  /-- JC_CARD_INSERT, R505. -/
  | jcCardInsert (n : Fin 4)
  /-- JC_DEBOUNCE_DONE, R505. -/
  | jcDebounceDone (n : Fin 4)
  /-- JC_INIT_COMPLETE, R514. -/
  | jcInitComplete (n : Fin 4) (fail : Nat) (v18 v18Fail : Bool) (speed : Nat) (tuned : Bool) (ident : Option (Bytes × Nat)) (sectors wcount : Nat) (macOk : Bool) (again : Nat × Nat × Bool := (0, 0, true))
  /-- JC_CARD_REMOVE, R513. -/
  | jcCardRemove (n : Fin 4) (phase : Nat) (anchor : Bool) (started : Nat)
  /-- JC_BUSY_TIMEOUT, R506. -/
  | jcBusyTimeout (n : Fin 4)
  /-- JC_RETUNE_DUE, R504. -/
  | jcRetuneDue (n : Fin 4) (crc ok : Bool)
  /-- JC_PAIR, R508. -/
  | jcPair (n : Fin 4) (j : Job) (result wcount : Nat)
  /-- JC_HEADS, R512. -/
  | jcHeads (n : Fin 4) (j : Job) (sectors : List Bytes) (anchor : Bytes) (macOk : Bool)
  /-- JC_COUNTER, R522. -/
  | jcCounter (n : Fin 4) (j : Job) (wcount : Nat) (macOk : Bool)
  /-- JC_EJECT, R522. -/
  | jcEject (n : Fin 4) (j : Job) (result wcount : Nat) (macOk : Bool)
  /-- CC_ORDER, R521. -/
  | ccOrder (n : Fin 4) (j : Job)
  /-- CC_PIN, R520. -/
  | ccPin (n : Fin 4) (j : Job)
  /-- CC_ORDER_Q, R522. -/
  | ccOrderQ (n : Fin 4) (j : Job)
  /-- CC_CANCEL, R521. -/
  | ccCancel (n : Fin 4) (j : Job)
  /-- CC_CLOSE, R522. -/
  | ccClose (n : Fin 4) (j : Job) (agree : Bool) (owner : Option (BitVec 384) := none)
  /-- CC_CARD_INSERT, R520. -/
  | ccCardInsert (n : Fin 4) (cls : Nat) (t1 : Bool) (atr : CardAtr := {})
  /-- CC_CARD_REMOVE, R520. -/
  | ccCardRemove (n : Fin 4)
  /-- CC_APDU_RESPONSE, R520. -/
  | ccApduResponse (n : Fin 4) (data : Bytes) (sw : Nat) (agree : Bool) (abort : Bool := false)
  /-- T1_BLOCK_TIMEOUT, R516. -/
  | t1BlockTimeout (n : Fin 4)
  /-- CC_PIN_LAPSE, R520. -/
  | ccPinLapse (n : Fin 4)
  /-- CC_PIN_WAIT_EXPIRED, R520. -/
  | ccPinWaitExpired (n : Fin 4)
  /-- ORDER_LIFE_EXPIRED, R521. -/
  | orderLifeExpired (n : Fin 4)
  /-- TAG_FIELD_ON, R535. -/
  | tagFieldOn
  /-- TAG_FIELD_LOST, R535. -/
  | tagFieldLost
  /-- TAG_ROUND, R536. -/
  | tagRound (q : Nat)
  /-- TAG_NEXT, R535. -/
  | tagNext
  /-- TAG_ACK, R535. -/
  | tagAck (h : Nat)
  /-- TAG_NAK, R535. -/
  | tagNak
  /-- TAG_READ, R538. -/
  | tagRead (h first count : Nat)
  /-- TAG_STATE, R550. -/
  | tagState (h : Nat)
  /-- TAG_CHALLENGE, R543. -/
  | tagChallenge (h : Nat) (nonce : Bytes)
  /-- TAG_NOTE_WRITE, R544. -/
  | tagNoteWrite (h block : Nat) (data mac : Bytes) (ok : Bool)
  /-- TAG_QUIET, R535. -/
  | tagQuiet (h : Nat)
  /-- TAG_FIELD_ACCESS_END, R548. -/
  | tagFieldAccessEnd
  /-- TAG_HOST_READ, R549. -/
  | tagHostRead (who : Requester) (markOk : Bool := true)
  /-- TAG_HOST_WRITE, R549. -/
  | tagHostWrite (who : Requester)
  /-- TAG_HOST_PROGRAM_DONE, R545. -/
  | tagHostProgramDone (ok : Bool)
  /-- TAG_SECRET_COMMIT, R541. -/
  | tagSecretCommit (who : Requester) (v : Nat)
  /-- TAG_KILL, R546. -/
  | tagKill (n : Fin 4) (who : Requester) (v : Nat) (agree : Bool)
  /-- AGT_READ, R572. -/
  | agtRead (n : Fin 4) (who : Requester) (count : Nat) (noise : List (Nat × Nat))
  /-- AGT_PROGRAM, R557. -/
  | agtProgram (n : Fin 4) (who : Requester)
  /-- AGT_ERASE, R562. -/
  | agtErase (n : Fin 4) (who : Requester) (openOk : Bool)
  /-- AGT_READ_HDR, R572. -/
  | agtReadHdr (n : Fin 4) (who : Requester)
  /-- AGT_PROGRAM_DONE, R573. -/
  | agtProgramDone (n : Fin 4) (ok : Bool)
  /-- AGT_ERASE_DONE, R562. -/
  | agtEraseDone (n : Fin 4) (verifyOk headOk : Bool)
  /-- AGT_ERASE_RESUME, R564. -/
  | agtEraseResume (n : Fin 4)
  /-- SCRUB_BLOCK_READ, R570. -/
  | scrubBlockRead (n : Fin 4) (phys corrected : Nat) (bad : List (Nat × Nat))
  /-- DETECTOR_REPORT, R582. -/
  | detectorReport (n : Fin 4) (src det island reading : Nat) (chan : Option Nat := none)
  /-- ALARM_DECISION, R588. -/
  | alarmDecision (n : Fin 4)
  /-- THROTTLE_EXPIRED, R589. -/
  | throttleExpired (n : Fin 4)
  /-- ERASE_DECISION, R592. -/
  | eraseDecision (n : Fin 4) (agree : Bool) (cut : Nat × Bool × Nat := (0, false, 0))
  /-- ERASE_LINE_RELEASE, R593. -/
  | eraseLineRelease (n : Fin 4)
  /-- JSP_INJECT_WRITE, R603. -/
  | jspInjectWrite (n : Fin 4) (who : Requester) (v : Nat)
  /-- EVENT_LOG_WRITE, R602. -/
  | eventLogWrite (n : Fin 4) (ok : Bool) (chainOk : Bool := true)
  /-- VIGIL_SAMPLE, R595. -/
  | vigilSample (n : Fin 4) (vbat : Nat) (found : List (Nat × Nat))
  /-- VIGIL_SAMPLE_REPEAT, R595. -/
  | vigilSampleRepeat (n : Fin 4) (vbat : Nat) (found : List (Nat × Nat))
  /-- CELL_WINDOW_CLOSE, R601. -/
  | cellWindowClose (n : Fin 4) (vbat : Nat)
  /-- CRYSTAL_STOP, R663. -/
  | crystalStop
  /-- GRADIENT_CHECK, R616. -/
  | gradientCheck (n : Fin 4) (kind a b va vb det : Nat) (set : Nat × Nat := (650, 650))
  /-- AGING_WORN, R626. -/
  | agingWorn (n : Fin 4) (i margin : Nat) (monitorsOk : Bool := true)
  /-- SNAP_IN_EDGE, R622. -/
  | snapInEdge (ns : Nat)
  /-- SNP_TRIGGER, R622. -/
  | snpTrigger (n : Fin 4) (who : Requester)
  /-- SNP_RELEASE, R625. -/
  | snpRelease (n : Fin 4) (who : Requester)
  /-- SNAPSHOT_TOKEN, R623; `keyBus` says that the channel belongs to the masked key bus, R624. -/
  | snapshotToken (n : Fin 4) (i chan : Nat) (items : List Bytes) (quiet : Bool) (keyBus : Bool := false)
  /-- HLT_SWAP_WRITE, R628. -/
  | hltSwapWrite (n : Fin 4) (v : Nat)
  /-- SWAP_DECISION, R628. -/
  | swapDecision (n : Fin 4) (agree : Bool)
  /-- SWAP_MOVE_DONE, R628. -/
  | swapMoveDone (n : Fin 4) (ok : Bool := true)
  /-- TOPAZ_JOB_END, R253. -/
  | topazJobEnd (n : Fin 4) (id : Nat)
  /-- JADE_JOB_END, R253. -/
  | jadeJobEnd (n : Fin 4) (id : Nat)
  /-- THERM_N_THRESHOLD, R668. -/
  | thermNThreshold (hottest : Int)
  /-- SUPPLY_GLITCH, R65. -/
  | supplyGlitch (ns : Nat)
  /-- MAKER_LIFECYCLE_PROGRAM, R67. -/
  | makerLifecycleProgram (digest returnDigest : BitVec 384) (agree : Bool)
  /-- SOURCE_FUSE_OFF, R583. -/
  | sourceFuseOff (src : Nat)
  /-- TEST_PROBE_SESSION, R585. -/
  | testProbeSession (opening : Bool)
  deriving DecidableEq, Repr

end Sys2Proof
end

