-- ==== Sys2Proof/Config.lean ====
section
/-! DEFINITION. What the spec names without giving it (the published algorithms, by name) and the values it leaves open.
Every constant here is opaque: nothing in Lean can compute it or prove a value of it, so whatever is proved holds for
every choice. Log entries 2 and 3. -/

namespace Sys2Proof.Config

/-- The open value number `k` of strand `s`: every value drawn from Quartz, every measurement and every result the spec
does not state is this function at the strand's free-value counter (log entry 2). -/
opaque free : Nat → Nat → Nat

/-- What a monitor shows at a time: the register's offset in the ring window and the device's clock (log entry 2). -/
opaque reading : Nat → Nat → Nat

/-- The word from a quarantine slot's mask and a word's address that R132 has every word exclusive-ored with; the derivation is not stated. -/
opaque slotWord : BitVec 128 → Nat → BitVec 64

/-- What, if anything, a particle upsets in a core of a strand as an instruction retires at a moment: 0 a line of the instruction cache, 1
one of the data cache, else a general register, each by its number; whether a cache error cannot be corrected (log entry 145). -/
opaque upset : Nat → Nat → Nat → Option (Nat × Nat × Bool)

/-- SHA-256 (FIPS 180-4), named in R111, R161 and others (log entry 3). -/
opaque sha256 : Bytes → BitVec 256

/-- SHA-384 (FIPS 180-4), named in R44, R45, R53. -/
opaque sha384 : Bytes → BitVec 384

/-- Any other hash, by its code in R270's tables; the result as a number. -/
opaque hash : Nat → Bytes → Nat

/-- HMAC-SHA-256 with a key over a message. -/
opaque hmac256 : Bytes → Bytes → BitVec 256

/-- HMAC with another hash, by its code. -/
opaque hmacOther : Nat → Bytes → Bytes → Nat

/-- One AES block enciphered under a key (FIPS 197). -/
opaque aesEnc : Bytes → BitVec 128 → BitVec 128

/-- One AES block deciphered under a key. -/
opaque aesDec : Bytes → BitVec 128 → BitVec 128

/-- One TDEA block enciphered under a key (SP 800-67). -/
opaque tdeaEnc : Bytes → BitVec 64 → BitVec 64

/-- One TDEA block deciphered under a key. -/
opaque tdeaDec : Bytes → BitVec 64 → BitVec 64

/-- AES-CMAC over a message (SP 800-38B). -/
opaque aesCmac : Bytes → Bytes → BitVec 128

/-- The GCM ciphertext of a message under key and IV (SP 800-38D), as a byte stream by index. -/
opaque gcmStream : Bytes → Bytes → Nat → BitVec 8

/-- The GCM tag of associated data and ciphertext under key and IV. -/
opaque gcmTag : Bytes → Bytes → Bytes → Bytes → BitVec 128

/-- The encrypted initial counter block of GCM under key and IV, as a byte by index. -/
opaque gcmInit : Bytes → Bytes → Nat → BitVec 8

/-- The CCM tag of nonce, associated data and plaintext (SP 800-38C), 128 bits before truncation. -/
opaque ccmTag : Bytes → Bytes → Bytes → Bytes → BitVec 128

/-- AES key wrap with padding (SP 800-38F): the wrapped octets of a key under a key, as a byte by index. -/
opaque kwpByte : Bytes → Bytes → Nat → BitVec 8

/-- AES key unwrap with padding: the key, or none where the integrity check fails. -/
opaque kwpOpen : Bytes → Bytes → Option Bytes

/-- AES key wrap without padding: the wrapped octets, as a byte by index. -/
opaque kwByte : Bytes → Bytes → Nat → BitVec 8

/-- AES key unwrap without padding: the data, or none where the integrity check fails. -/
opaque kwOpen : Bytes → Bytes → Option Bytes

/-- TDEA-CMAC over a message. -/
opaque tdeaCmac : Bytes → Bytes → BitVec 64

/-- A session key that the spec derives "by ECDH P-256 and SHA-256" without giving the hashed string (R178): from the shared
secret and the direction. -/
opaque sessionKey : Bytes → Nat → BitVec 256

/-- The public key that belongs to a private key of an algorithm of R218, as a byte by index. -/
opaque publicByte : Nat → Bytes → Nat → BitVec 8

/-- Whether a private key of an algorithm is well formed, so that a job may use it. -/
opaque keyOk : Nat → Bytes → Bool

/-- A signature of an algorithm under a private key over a message with a nonce, as a byte by index. -/
opaque signByte : Nat → Bytes → Bytes → Nat → Nat → BitVec 8

/-- Whether a signature of an algorithm verifies under a public key over a message. -/
opaque verify : Nat → Bytes → Bytes → Bytes → Bool

/-- The shared secret of a private key and a peer's public key, as a byte by index. -/
opaque agreeByte : Nat → Bytes → Bytes → Nat → BitVec 8

/-- Whether a public value (a point, a group element, an RSA number) is valid for an algorithm. -/
opaque pointOk : Nat → Bytes → Bool

/-- An RSA operation, by opcode: private key or public key, input, result byte by index. -/
opaque rsaByte : Nat → Bytes → Bytes → Nat → BitVec 8

/-- The message of an RSA-OAEP ciphertext under a private key, or none where the decoding fails. -/
opaque oaepOpen : Nat → Bytes → Bytes → Option Bytes

/-- The prime modulus of a finite-field Diffie-Hellman key; R218 does not give the key's layout. -/
opaque ffdhPrime : Bytes → Nat

/-- Whether an odd candidate passes the prime test of R301. -/
opaque primeOk : Nat → Bool

/-- The clear PIN digits that a PIN block holds under a key, its account digits and format, or none where the block does
not have the fill and control nibbles of ISO 9564 (R109). -/
opaque pinOpen : Nat → Bytes → Bytes → Bytes → Option (List Nat)

/-- A PIN block of a format formed from PIN digits and account digits under a key, as a byte by index (R109). -/
opaque pinByte : Nat → Bytes → List Nat → Bytes → Nat → BitVec 8

end Sys2Proof.Config
end

