-- ==== Sys2Proof/Machine/Bytes.lean ====
section
/-! DEFINITION. Byte strings, byte order and the host memory: the one place where byte order is decided. Multi-byte fields
are little-endian unless a chapter says otherwise. -/

namespace Sys2Proof.Machine
open Sys2Proof

/-- `n` bytes of a string from an offset; a string that ends early gives fewer. -/
def sub (b : Bytes) (off n : Nat) : Bytes := (b.drop off).take n

/-- A little-endian number. -/
def leNat : Bytes → Nat
  | [] => 0
  | x :: r => x.toNat + 256 * leNat r

/-- A big-endian number. -/
def beNat (b : Bytes) : Nat := leNat b.reverse

/-- The little-endian field of `n` bytes at an offset. -/
def le (b : Bytes) (off n : Nat) : Nat := leNat (sub b off n)

/-- A number as `n` bytes, little-endian, cut to its width. -/
def toLE : Nat → Nat → Bytes
  | 0, _ => []
  | n + 1, v => BitVec.ofNat 8 v :: toLE n (v / 256)

/-- A number as `n` bytes, big-endian. -/
def toBE (n v : Nat) : Bytes := (toLE n v).reverse

/-- ASCII characters as bytes. -/
def ascii (s : String) : Bytes := s.toList.map fun c => BitVec.ofNat 8 c.toNat

/-- `n` zero bytes. -/
def zeros (n : Nat) : Bytes := List.replicate n 0

/-- Whether all bytes of a field are zero. -/
def allZero (b : Bytes) (off n : Nat) : Bool := (sub b off n).all (· == 0)

/-- A string of exactly `n` bytes: cut, or filled with zeros. -/
def fit (n : Nat) (b : Bytes) : Bytes := (b ++ zeros n).take n

/-- A bit string as bytes, most significant first (digests and MACs). -/
def bvBytes {w : Nat} (x : BitVec w) : Bytes := toBE (w / 8) x.toNat

/-- What an ECDSA signature over a text signs: its SHA-256 digest on P-256, its SHA-384 digest on P-384; other algorithms take
the text itself, R44, R111. -/
def signedText (alg : Nat) (m : Bytes) : Bytes :=
  if alg = 0x20 then bvBytes (Config.sha256 m) else if alg = 0x21 then bvBytes (Config.sha384 m) else m

/-- Exclusive or of two strings, as long as the shorter. -/
def xorBytes (a b : Bytes) : Bytes := List.zipWith (· ^^^ ·) a b

/-- One bit of the CRC-32 of IEEE 802.3, least significant bit first. -/
def crcBit (c : BitVec 32) : BitVec 32 := if c.getLsbD 0 then (c >>> 1) ^^^ 0xEDB88320 else c >>> 1

/-- One byte of it. -/
def crcByte (c : BitVec 32) (b : Byte) : BitVec 32 :=
  crcBit (crcBit (crcBit (crcBit (crcBit (crcBit (crcBit (crcBit (c ^^^ b.zeroExtend 32))))))))

/-- The CRC-32 of IEEE 802.3 of a string. -/
def crc32 (b : Bytes) : BitVec 32 := ~~~ (b.foldl crcByte 0xFFFFFFFF)

/-- The CRC-16 of ISO/IEC 13239 over a string, its bits from the lowest of each byte up, inverted, R533; T=1 blocks that select the CRC end in the
same, PRESUMED (log entry 149). -/
def crc16 (b : Bytes) : BitVec 16 :=
  let step := fun (c : BitVec 16) => if c.getLsbD 0 then (c >>> 1) ^^^ 0x8408 else c >>> 1
  ~~~ (b.foldl (fun (c : BitVec 16) (x : Byte) => (List.range 8).foldl (fun c _ => step c) (c ^^^ x.zeroExtend 16)) 0xFFFF)

/-- Bit `k` of a number. -/
def bit (v k : Nat) : Bool := v.testBit k

/-- Bits [hi:lo] of a number. -/
def bits (v lo width : Nat) : Nat := v / 2 ^ lo % 2 ^ width

/-- 1 for true, 0 for false. -/
def b2n (b : Bool) : Nat := if b then 1 else 0

namespace Mem

/-- One byte of host memory; a byte that nothing has written reads as zero (log entry 4). -/
def read : List Host.Cell → Nat → Byte
  | [], _ => 0
  | (a, b) :: r, x => if x = a then b else read r x

/-- List one byte before the first higher address. -/
def insert : List Host.Cell → Nat → Byte → List Host.Cell
  | [], x, v => [(x, v)]
  | (a, b) :: r, x, v => if x < a then (x, v) :: (a, b) :: r else (a, b) :: insert r x v

/-- Store one byte, keeping the canonical form. -/
def write (m : List Host.Cell) (x : Nat) (v : Byte) : List Host.Cell :=
  let r := m.filter fun (c : Host.Cell) => c.1 != x
  if v = 0 then r else insert r x v

/-- Store a byte string from an address upwards. -/
def writeBytes (m : List Host.Cell) : Nat → Bytes → List Host.Cell
  | _, [] => m
  | x, v :: r => writeBytes (write m x v) (x + 1) r

/-- Read `n` bytes from an address upwards. -/
def readBytes (m : List Host.Cell) (x : Nat) : Nat → Bytes
  | 0 => []
  | n + 1 => read m x :: readBytes m (x + 1) n

/-- The canonical form from an address on: addresses strictly rising, no zero byte listed. -/
def wfFrom : Nat → List Host.Cell → Bool
  | _, [] => true
  | lo, (a, b) :: r => decide (lo ≤ a) && decide (b ≠ 0) && wfFrom (a + 1) r

/-- The canonical form of host memory. -/
def wf (m : List Host.Cell) : Bool := wfFrom 0 m

end Mem

end Sys2Proof.Machine
end

