-- ==== Sys2Proof/Machine/RegDefs.lean ====
section
/-! DEFINITION. What a register table says: classes, access types, reset sources and "reads as" rules (R6 to R14), one
field's place in a register, and a register file as a sorted list of the words that differ from their reset words. -/

namespace Sys2Proof.Machine

/-- Configuration classes, R11 to R14; `none` is the dash of a status or control field. -/
inductive Cls where
  | none | s | b | l
  deriving DecidableEq, Repr

/-- Access types, R7. -/
inductive Acc where
  | ro | rw | w1c | w1s | wo
  deriving DecidableEq, Repr

/-- Reset sources, R9. -/
inductive Src where
  | lit | cht | ret
  deriving DecidableEq, Repr

/-- The "reads as" rule that a Meaning column gives a field. -/
inductive Norm where
  | id
  | zeroAs (v : Nat)
  | aboveAs (top v : Nat)
  | outside (lo hi v : Nat)
  | zeroAbove (top v : Nat)
  deriving DecidableEq, Repr

/-- The value a field reads as when it is given `x`. -/
def Norm.apply : Norm → Nat → Nat
  | .id, x => x
  | .zeroAs v, x => if x = 0 then v else x
  | .aboveAs top v, x => if x > top then v else x
  | .outside lo hi v, x => if x < lo ∨ x > hi then v else x
  | .zeroAbove top v, x => if x = 0 then v else if x > top then top else x

/-- One row of a register table. -/
structure FieldDef where
  lo : Nat
  width : Nat
  cls : Cls
  acc : Acc
  src : Src
  val : Nat
  norm : Norm
  deriving DecidableEq, Repr

/-- A row written in full. -/
def fd (lo width : Nat) (cls : Cls) (acc : Acc) (src : Src) (val : Nat) (norm : Norm) : FieldDef :=
  ⟨lo, width, cls, acc, src, val, norm⟩

/-- A read-only field with reset literal 0. -/
def ro (lo width : Nat) : FieldDef := ⟨lo, width, .none, .ro, .lit, 0, .id⟩

/-- A write-1-to-clear field with reset literal 0. -/
def w1c (lo width : Nat) : FieldDef := ⟨lo, width, .none, .w1c, .lit, 0, .id⟩

/-- A register, or a row of `count` registers `stride` bytes apart. -/
structure RegDef where
  off : Nat
  stride : Nat
  count : Nat
  fields : List FieldDef
  deriving DecidableEq, Repr

/-- Whether the register row covers window offset `o`. -/
def RegDef.covers (d : RegDef) (o : Nat) : Bool :=
  if d.count ≤ 1 then o == d.off
  else decide (d.off ≤ o) && (o - d.off) % d.stride == 0 && decide ((o - d.off) / d.stride < d.count)

/-- The word of a register at its literals and defaults, R9 and R10. -/
def RegDef.resetWord (d : RegDef) : Word :=
  BitVec.ofNat 32 ((d.fields.map fun f => f.val * 2 ^ f.lo).sum)

/-- One field of one register, or of a row of registers: offset, stride, lowest bit, width. -/
structure Fld where
  off : Nat
  stride : Nat
  lo : Nat
  width : Nat
  deriving DecidableEq, Repr

/-- The offset of the `k`-th register of the row. -/
def Fld.at (f : Fld) (k : Nat) : Nat := f.off + f.stride * k

/-- The field's value in a register word. -/
def Fld.ofWord (f : Fld) (w : Word) : Nat := w.toNat / 2 ^ f.lo % 2 ^ f.width

/-- The register word with the field replaced; the value is cut to the field's width. -/
def Fld.intoWord (f : Fld) (w : Word) (v : Nat) : Word :=
  BitVec.ofNat 32 (w.toNat - f.ofWord w * 2 ^ f.lo + v % 2 ^ f.width * 2 ^ f.lo)

/-- A register file: offset and word, offsets rising, no word equal to its reset word. -/
abbrev RegFile := List (Nat × Word)

namespace RegFile

/-- The word at an offset; an unlisted offset reads as its reset word. -/
def read (dflt : Nat → Word) : RegFile → Nat → Word
  | [], o => dflt o
  | (a, w) :: r, o => if o = a then w else read dflt r o

/-- List a word before the first higher offset. -/
def insert : RegFile → Nat → Word → RegFile
  | [], o, v => [(o, v)]
  | (a, w) :: r, o, v => if o < a then (o, v) :: (a, w) :: r else (a, w) :: insert r o v

/-- Insert or replace a word, keeping the offsets rising and no reset word listed. -/
def write (dflt : Nat → Word) (r : RegFile) (o : Nat) (v : Word) : RegFile :=
  let rest := r.filter fun (p : Nat × Word) => p.1 != o
  if v = dflt o then rest else insert rest o v

/-- The canonical form: offsets strictly rising from `lo`, no reset word listed. -/
def wfFrom (dflt : Nat → Word) : Nat → RegFile → Bool
  | _, [] => true
  | lo, (a, w) :: r => decide (lo ≤ a) && decide (w ≠ dflt a) && wfFrom dflt (a + 1) r

/-- The canonical form of a whole register file. -/
def wf (dflt : Nat → Word) (r : RegFile) : Bool := wfFrom dflt 0 r

end RegFile

end Sys2Proof.Machine
end

