-- ==== Sys2Proof/Machine/RegNames.lean ====
section
/-! DEFINITION. One name for every register field of the chapters' tables: `R.<REGISTER>_<FIELD>`, or `R.<REGISTER>` where
the register is one field. Each is offset in its window, stride (for registers that stand in rows), lowest bit and width. -/

namespace Sys2Proof.Machine.R
open Sys2Proof.Machine

def RNG_MODE_SUM_S0_MODE : Fld := ⟨0x300000, 0, 0, 3⟩
def RNG_MODE_SUM_S1_MODE : Fld := ⟨0x300000, 0, 4, 3⟩
def RNG_MODE_SUM_S2_MODE : Fld := ⟨0x300000, 0, 8, 3⟩
def RNG_MODE_SUM_S3_MODE : Fld := ⟨0x300000, 0, 12, 3⟩
def RNG_MODE_SUM_HALTED : Fld := ⟨0x300000, 0, 16, 4⟩
def RNG_MODE_SUM_SUMMARY : Fld := ⟨0x300000, 0, 24, 3⟩
def RNG_MODE_SUM_SERVING : Fld := ⟨0x300000, 0, 28, 3⟩
def RNG_STATUS_RING_SRC : Fld := ⟨0x300004, 0, 0, 2⟩
def RNG_STATUS_RING_SET : Fld := ⟨0x300004, 0, 2, 1⟩
def RNG_STATUS_RING_DIFF : Fld := ⟨0x300004, 0, 3, 1⟩
def RNG_STATUS_RS_REF : Fld := ⟨0x300004, 0, 4, 2⟩
def RNG_ERASE_WIRES : Fld := ⟨0x300008, 0, 0, 16⟩
def RNG_SUP_CORE : Fld := ⟨0x300010, 0, 0, 12⟩
def RNG_SUP_SERDES : Fld := ⟨0x300014, 0, 0, 12⟩
def RNG_SUP_IO18 : Fld := ⟨0x300018, 0, 0, 12⟩
def RNG_SUP_IO33 : Fld := ⟨0x30001C, 0, 0, 12⟩
def RNG_SUP_VBAT : Fld := ⟨0x300020, 0, 0, 12⟩
def RNG_SUP_GLITCH : Fld := ⟨0x300024, 0, 0, 32⟩
def RNG_SNAP_TRIGGER : Fld := ⟨0x300040, 0, 0, 4⟩
def RNG_SNAP_HELD : Fld := ⟨0x300040, 0, 4, 4⟩
def RNG_SNAP_DONE : Fld := ⟨0x300040, 0, 8, 4⟩
def RNG_SNAP_KEY : Fld := ⟨0x300040, 0, 24, 8⟩
def CHT_MODE_MODE : Fld := ⟨0x0, 0, 0, 3⟩
def CHT_MODE_HALTED : Fld := ⟨0x0, 0, 3, 1⟩
def CHT_MODE_PREV_MODE : Fld := ⟨0x0, 0, 8, 3⟩
def CHT_MODE_CAUSE : Fld := ⟨0x0, 0, 16, 4⟩
def CHT_MODE_REQ_TARGET : Fld := ⟨0x4, 0, 0, 3⟩
def CHT_MODE_REQ_KEY : Fld := ⟨0x4, 0, 24, 8⟩
def CHT_STATUS_S_REFUSED : Fld := ⟨0x8, 0, 0, 1⟩
def CHT_STATUS_FALLBACK : Fld := ⟨0x8, 0, 1, 1⟩
def CHT_STATUS_UNCHANGED : Fld := ⟨0x8, 0, 2, 1⟩
def CHT_STATUS_NEW_CHARTER : Fld := ⟨0x8, 0, 3, 1⟩
def CHT_STATUS_FALLBACK_WHY : Fld := ⟨0x8, 0, 4, 3⟩
def CHT_STATUS_PAIR_EXPIRED : Fld := ⟨0x8, 0, 7, 1⟩
def CHT_STATUS_OWNER_SLOT : Fld := ⟨0x8, 0, 8, 4⟩
def CHT_STATUS_PORT_QUAD : Fld := ⟨0x8, 0, 12, 1⟩
def CHT_START_STATUS_STEP : Fld := ⟨0xC, 0, 0, 4⟩
def CHT_START_STATUS_FAIL_STEP : Fld := ⟨0xC, 0, 4, 4⟩
def CHT_START_STATUS_FAIL_CODE : Fld := ⟨0xC, 0, 8, 8⟩
def CHT_START_STATUS_ELAPSED : Fld := ⟨0xC, 0, 16, 16⟩
def CHT_SERIAL_LO : Fld := ⟨0x10, 0, 0, 32⟩
def CHT_SERIAL_HI : Fld := ⟨0x14, 0, 0, 32⟩
def CHT_LIFECYCLE_STATE : Fld := ⟨0x18, 0, 0, 3⟩
def CHT_LIFECYCLE_INVALID : Fld := ⟨0x18, 0, 3, 1⟩
def CHT_LIFECYCLE_OWNER_CHANGES : Fld := ⟨0x18, 0, 8, 4⟩
def CHT_START_CFG_PAIR_WAIT : Fld := ⟨0x1C, 0, 0, 6⟩
def CHT_START_CFG_CEREMONY_IDLE : Fld := ⟨0x1C, 0, 8, 6⟩
def CHT_VIOL_VALID : Fld := ⟨0x20, 0, 0, 1⟩
def CHT_VIOL_MODE : Fld := ⟨0x20, 0, 1, 3⟩
def CHT_VIOL_SOURCE : Fld := ⟨0x20, 0, 4, 4⟩
def CHT_VIOL_OVERFLOW : Fld := ⟨0x20, 0, 16, 16⟩
def CHT_VIOL_ADDR_ADDR : Fld := ⟨0x24, 0, 0, 26⟩
def CHT_DIGEST : Fld := ⟨0x40, 4, 0, 32⟩
def PST_CTL_ENABLE : Fld := ⟨0x100000, 0, 0, 1⟩
def PST_CTL_SPEC_EN : Fld := ⟨0x100000, 0, 1, 1⟩
def PST_CTL_SPEC_EN_PEND : Fld := ⟨0x100000, 0, 2, 1⟩
def PST_CTL_AUTHZ_FORCE : Fld := ⟨0x100000, 0, 3, 1⟩
def PST_CTL_AUTHZ_FORCE_PEND : Fld := ⟨0x100000, 0, 4, 1⟩
def PST_CTL_SEAL_ALG : Fld := ⟨0x100000, 0, 8, 2⟩
def PST_CTL_PIN_FMT0 : Fld := ⟨0x100000, 0, 12, 1⟩
def PST_CFG_APPROVAL_LIFE : Fld := ⟨0x100004, 0, 0, 16⟩
def PST_CFG_APPROVAL_LIFE_PEND : Fld := ⟨0x100004, 0, 16, 1⟩
def PST_SEAL_CTX_CTX : Fld := ⟨0x100008, 0, 0, 32⟩
def PST_RELAY_CQ_QUEUE : Fld := ⟨0x10000C, 0, 0, 12⟩
def PST_RELAY_CQ_VALID : Fld := ⟨0x10000C, 0, 31, 1⟩
def PST_RELAY_MAC_CTX : Fld := ⟨0x100010, 0, 0, 32⟩
def PST_STATUS_ADMITTING : Fld := ⟨0x100014, 0, 0, 1⟩
def PST_STATUS_IN_FLIGHT : Fld := ⟨0x100014, 0, 8, 5⟩
def PST_STATUS_APPROVAL_FULL : Fld := ⟨0x100014, 0, 16, 1⟩
def PST_STATUS_APPROVAL_PIN : Fld := ⟨0x100014, 0, 17, 1⟩
def PST_STATUS_NOTICE_WAIT : Fld := ⟨0x100014, 0, 18, 1⟩
def PST_BATCH_LO : Fld := ⟨0x100018, 0, 0, 32⟩
def PST_BATCH_HI : Fld := ⟨0x10001C, 0, 0, 32⟩
def PST_REC_LO : Fld := ⟨0x100020, 0, 0, 32⟩
def PST_REC_HI : Fld := ⟨0x100024, 0, 0, 32⟩
def PST_FAIL_AUTH : Fld := ⟨0x100028, 0, 0, 32⟩
def PST_FAIL_BAL : Fld := ⟨0x10002C, 0, 0, 32⟩
def PST_FAIL_AUTHZ : Fld := ⟨0x100030, 0, 0, 32⟩
def PST_FAIL_OTHER : Fld := ⟨0x100034, 0, 0, 32⟩
def PST_APPROVALS_LIVE : Fld := ⟨0x100038, 0, 0, 16⟩
def PST_APPROVALS_PENDING : Fld := ⟨0x100038, 0, 16, 16⟩
def PST_ERR_VALID : Fld := ⟨0x10003C, 0, 0, 1⟩
def PST_ERR_STAGE : Fld := ⟨0x10003C, 0, 1, 4⟩
def PST_ERR_OVERFLOW : Fld := ⟨0x10003C, 0, 16, 16⟩
def PST_ERR_INFO_INFO : Fld := ⟨0x100040, 0, 0, 16⟩
def PST_SPEC_STATUS_SLOTS_BUSY : Fld := ⟨0x100044, 0, 0, 4⟩
def PST_SPEC_STATUS_SLOT_WAIT : Fld := ⟨0x100044, 0, 8, 5⟩
def PST_SPEC_STATUS_CAD_BUILTIN : Fld := ⟨0x100044, 0, 16, 1⟩
def PST_SPEC_STATUS_CAD_ABSENT : Fld := ⟨0x100044, 0, 17, 1⟩
def PST_CAD_OVERRUN : Fld := ⟨0x100048, 0, 0, 32⟩
def PST_SPEC_ABANDON : Fld := ⟨0x10004C, 0, 0, 32⟩
def PST_CAD_SEL_INDEX : Fld := ⟨0x100050, 0, 0, 8⟩
def PST_CAD_SEL_COUNT : Fld := ⟨0x100050, 0, 16, 8⟩
def PST_CAD_OPC_OPC_LO : Fld := ⟨0x100054, 0, 0, 16⟩
def PST_CAD_OPC_OPC_HI : Fld := ⟨0x100054, 0, 16, 16⟩
def PST_CAD_BASE : Fld := ⟨0x100058, 0, 0, 32⟩
def PST_CAD_REC_PER_RECORD : Fld := ⟨0x10005C, 0, 0, 16⟩
def PST_CAD_REC_EXEMPT : Fld := ⟨0x10005C, 0, 31, 1⟩
def PST_CAD_KIB : Fld := ⟨0x100060, 0, 0, 32⟩
def JNL_CTL_STORE_EN : Fld := ⟨0x200000, 0, 0, 1⟩
def JNL_CTL_CARD_REQUIRED : Fld := ⟨0x200000, 0, 1, 1⟩
def JNL_CTL_CARD_REQUIRED_PEND : Fld := ⟨0x200000, 0, 2, 1⟩
def JNL_STATUS_OPEN : Fld := ⟨0x200004, 0, 0, 1⟩
def JNL_STATUS_CLOSED : Fld := ⟨0x200004, 0, 1, 1⟩
def JNL_STATUS_CARD_OK : Fld := ⟨0x200004, 0, 2, 1⟩
def JNL_STATUS_STORE_SET : Fld := ⟨0x200004, 0, 3, 1⟩
def JNL_STATUS_STORE_FULL : Fld := ⟨0x200004, 0, 4, 1⟩
def JNL_STATUS_ANCHOR_BAD : Fld := ⟨0x200004, 0, 5, 1⟩
def JNL_STATUS_SUPERSEDED : Fld := ⟨0x200004, 0, 6, 1⟩
def JNL_STATUS_HEAD_ONLY : Fld := ⟨0x200004, 0, 7, 1⟩
def JNL_ENTRY_LO : Fld := ⟨0x200008, 0, 0, 32⟩
def JNL_ENTRY_HI : Fld := ⟨0x20000C, 0, 0, 32⟩
def JNL_SEQ_LO : Fld := ⟨0x200010, 0, 0, 32⟩
def JNL_SEQ_HI : Fld := ⟨0x200014, 0, 0, 32⟩
def JNL_ANCHOR_LO : Fld := ⟨0x200018, 0, 0, 32⟩
def JNL_ANCHOR_HI : Fld := ⟨0x20001C, 0, 0, 32⟩
def JNL_STORED_LO : Fld := ⟨0x200020, 0, 0, 32⟩
def JNL_STORED_HI : Fld := ⟨0x200024, 0, 0, 32⟩
def JNL_BUF_USED : Fld := ⟨0x200028, 0, 0, 22⟩
def JNL_REPLAY_PROG_POSITION : Fld := ⟨0x20002C, 0, 0, 24⟩
def JNL_REPLAY_PROG_PERCENT : Fld := ⟨0x20002C, 0, 24, 7⟩
def JNL_REPLAY_PROG_VALID : Fld := ⟨0x20002C, 0, 31, 1⟩
def JNL_EXPORT_PROG_POSITION : Fld := ⟨0x200030, 0, 0, 24⟩
def JNL_EXPORT_PROG_PERCENT : Fld := ⟨0x200030, 0, 24, 7⟩
def JNL_EXPORT_PROG_VALID : Fld := ⟨0x200030, 0, 31, 1⟩
def JNL_ERR_VALID : Fld := ⟨0x200034, 0, 0, 1⟩
def JNL_ERR_CODE : Fld := ⟨0x200034, 0, 1, 3⟩
def JNL_ERR_OVERFLOW : Fld := ⟨0x200034, 0, 16, 16⟩
def JNL_ERR_INFO : Fld := ⟨0x200038, 0, 0, 32⟩
def JNL_HEAD : Fld := ⟨0x200040, 4, 0, 32⟩
def JNL_ID : Fld := ⟨0x200060, 4, 0, 32⟩
def JNL_TIME_LO : Fld := ⟨0x200070, 0, 0, 32⟩
def JNL_TIME_HI : Fld := ⟨0x200074, 0, 0, 32⟩
def MIR_CTL_ENABLE : Fld := ⟨0x300000, 0, 0, 1⟩
def MIR_CTL_HOLD_LIMIT : Fld := ⟨0x300000, 0, 8, 8⟩
def MIR_CTL_AUTO_TAKEOVER : Fld := ⟨0x300000, 0, 16, 1⟩
def MIR_SOLO_POLICY_POLICY : Fld := ⟨0x300004, 0, 0, 1⟩
def MIR_STATUS_LINKED : Fld := ⟨0x300008, 0, 0, 1⟩
def MIR_STATUS_LANES : Fld := ⟨0x300008, 0, 1, 2⟩
def MIR_STATUS_PAIRED : Fld := ⟨0x300008, 0, 3, 1⟩
def MIR_STATUS_LEASE : Fld := ⟨0x300008, 0, 4, 1⟩
def MIR_STATUS_SOLO : Fld := ⟨0x300008, 0, 5, 1⟩
def MIR_STATUS_RECONCILING : Fld := ⟨0x300008, 0, 6, 1⟩
def MIR_STATUS_FORK : Fld := ⟨0x300008, 0, 7, 1⟩
def MIR_STATUS_HOLDING : Fld := ⟨0x300008, 0, 8, 5⟩
def MIR_ROLE_ROLE : Fld := ⟨0x30000C, 0, 0, 1⟩
def MIR_ROLE_HOME_ROLE : Fld := ⟨0x30000C, 0, 1, 1⟩
def MIR_TWIN_ID_ID : Fld := ⟨0x300010, 4, 0, 32⟩
def MIR_ACKED_LO : Fld := ⟨0x300020, 0, 0, 32⟩
def MIR_ACKED_HI : Fld := ⟨0x300024, 0, 0, 32⟩
def MIR_FRAME_BAD : Fld := ⟨0x300028, 0, 0, 32⟩
def MIR_BLOCK_ERR : Fld := ⟨0x30002C, 0, 0, 32⟩
def MIR_CHAIN_NAK : Fld := ⟨0x300030, 0, 0, 32⟩
def MIR_LEASE_LOST : Fld := ⟨0x300034, 0, 0, 32⟩
def MIR_RESYNC_PROG_POSITION : Fld := ⟨0x300038, 0, 0, 24⟩
def MIR_RESYNC_PROG_PERCENT : Fld := ⟨0x300038, 0, 24, 7⟩
def MIR_RESYNC_PROG_VALID : Fld := ⟨0x300038, 0, 31, 1⟩
def MIR_RECON_CASE : Fld := ⟨0x30003C, 0, 0, 4⟩
def MIR_RECON_AUTHORITY : Fld := ⟨0x30003C, 0, 4, 1⟩
def MIR_RECON_SUPERSEDED : Fld := ⟨0x30003C, 0, 8, 24⟩
def MIR_EPOCH : Fld := ⟨0x300040, 0, 0, 32⟩
def MIR_ERR_VALID : Fld := ⟨0x300044, 0, 0, 1⟩
def MIR_ERR_CODE : Fld := ⟨0x300044, 0, 1, 3⟩
def MIR_ERR_OVERFLOW : Fld := ⟨0x300044, 0, 16, 16⟩
def ONX_CTL_SPILL_EN : Fld := ⟨0x400000, 0, 0, 1⟩
def ONX_CTL_SPILL_EN_PEND : Fld := ⟨0x400000, 0, 1, 1⟩
def ONX_CTL_EVICT_EN : Fld := ⟨0x400000, 0, 2, 1⟩
def ONX_CTL_ATTEST_EN : Fld := ⟨0x400000, 0, 3, 1⟩
def ONX_CTL_PERSIST_LIMIT : Fld := ⟨0x400000, 0, 16, 11⟩
def ONX_STATUS_MIRROR_OPEN : Fld := ⟨0x400004, 0, 0, 1⟩
def ONX_STATUS_ZEROISED : Fld := ⟨0x400004, 0, 1, 1⟩
def ONX_STATUS_RENEWING : Fld := ⟨0x400004, 0, 2, 1⟩
def ONX_STATUS_SWEEPING : Fld := ⟨0x400004, 0, 3, 1⟩
def ONX_STATUS_SPILL_EXHAUSTED : Fld := ⟨0x400004, 0, 4, 1⟩
def ONX_CTX_FREE : Fld := ⟨0x400008, 0, 0, 17⟩
def ONX_LARGE_FREE : Fld := ⟨0x40000C, 0, 0, 12⟩
def ONX_PERSIST : Fld := ⟨0x400010, 0, 0, 11⟩
def ONX_STAGED : Fld := ⟨0x400014, 0, 0, 9⟩
def ONX_SPILL_NEXT : Fld := ⟨0x400018, 0, 0, 23⟩
def ONX_SPILL_LIVE : Fld := ⟨0x40001C, 0, 0, 23⟩
def ONX_REMASK : Fld := ⟨0x400020, 0, 0, 32⟩
def ONX_REMASK_LATE : Fld := ⟨0x400024, 0, 0, 32⟩
def ONX_EVICT : Fld := ⟨0x400028, 0, 0, 32⟩
def ONX_DENIED : Fld := ⟨0x40002C, 0, 0, 32⟩
def ONX_ABSENT : Fld := ⟨0x400030, 0, 0, 32⟩
def ONX_ERR_VALID : Fld := ⟨0x400034, 0, 0, 1⟩
def ONX_ERR_CODE : Fld := ⟨0x400034, 0, 1, 3⟩
def ONX_ERR_OVERFLOW : Fld := ⟨0x400034, 0, 16, 16⟩
def ONX_ERR_INFO_SLOT : Fld := ⟨0x400038, 0, 0, 16⟩
def ONX_ERR_INFO_RECEIVER : Fld := ⟨0x400038, 0, 16, 4⟩
def ONX_WRAP_GEN : Fld := ⟨0x40003C, 0, 0, 32⟩
def TOP_CTL_HOST_EN : Fld := ⟨0x500000, 0, 0, 1⟩
def TOP_CTL_TDEA_EN : Fld := ⟨0x500000, 0, 1, 1⟩
def TOP_CTL_HOST_MIN : Fld := ⟨0x500000, 0, 16, 7⟩
def TOP_CTL_HOST_MIN_PEND : Fld := ⟨0x500000, 0, 23, 1⟩
def TOP_STATUS_ACTIVE : Fld := ⟨0x500004, 0, 0, 2⟩
def TOP_STATUS_LANE_A : Fld := ⟨0x500004, 0, 4, 2⟩
def TOP_STATUS_LANE_B : Fld := ⟨0x500004, 0, 8, 2⟩
def TOP_STATUS_SWAPPING : Fld := ⟨0x500004, 0, 12, 1⟩
def TOP_STATUS_RESEED_WAIT : Fld := ⟨0x500004, 0, 16, 1⟩
def TOP_JOBS : Fld := ⟨0x500008, 0, 0, 32⟩
def TOP_AUTH_REC : Fld := ⟨0x50000C, 0, 0, 32⟩
def TOP_AUTH_STREAM : Fld := ⟨0x500010, 0, 0, 32⟩
def TOP_EXHAUST : Fld := ⟨0x500014, 0, 0, 32⟩
def TOP_RESEED_LATE : Fld := ⟨0x500018, 0, 0, 32⟩
def TOP_ERR_VALID : Fld := ⟨0x50001C, 0, 0, 1⟩
def TOP_ERR_CODE : Fld := ⟨0x50001C, 0, 1, 3⟩
def TOP_ERR_OVERFLOW : Fld := ⟨0x50001C, 0, 16, 16⟩
def TOP_ERR_INFO_SLOT : Fld := ⟨0x500020, 0, 0, 16⟩
def TOP_ERR_INFO_LANE : Fld := ⟨0x500020, 0, 16, 2⟩
def TOP_ERR_INFO_REQUESTER : Fld := ⟨0x500020, 0, 20, 4⟩
def JAD_CTL_HOST_EN : Fld := ⟨0x600000, 0, 0, 1⟩
def JAD_CTL_HOST_MIN : Fld := ⟨0x600000, 0, 16, 7⟩
def JAD_CTL_HOST_MIN_PEND : Fld := ⟨0x600000, 0, 23, 1⟩
def JAD_STATUS_S0_BUSY : Fld := ⟨0x600004, 0, 0, 1⟩
def JAD_STATUS_S1_BUSY : Fld := ⟨0x600004, 0, 1, 1⟩
def JAD_STATUS_K_BUSY : Fld := ⟨0x600004, 0, 2, 1⟩
def JAD_JOBS : Fld := ⟨0x600008, 0, 0, 32⟩
def JAD_VERIFY_FAIL : Fld := ⟨0x60000C, 0, 0, 32⟩
def JAD_ERR_VALID : Fld := ⟨0x600010, 0, 0, 1⟩
def JAD_ERR_CODE : Fld := ⟨0x600010, 0, 1, 3⟩
def JAD_ERR_OVERFLOW : Fld := ⟨0x600010, 0, 16, 16⟩
def JAD_ERR_INFO_SLOT : Fld := ⟨0x600014, 0, 0, 16⟩
def JAD_ERR_INFO_CORE : Fld := ⟨0x600014, 0, 16, 4⟩
def JAD_ERR_INFO_REQUESTER : Fld := ⟨0x600014, 0, 20, 4⟩
def BER_CTL_HOST_EN : Fld := ⟨0x700000, 0, 0, 1⟩
def BER_CTL_RSA_MIN : Fld := ⟨0x700000, 0, 8, 5⟩
def BER_CTL_HOST_MIN : Fld := ⟨0x700000, 0, 16, 7⟩
def BER_CTL_HOST_MIN_PEND : Fld := ⟨0x700000, 0, 23, 1⟩
def BER_STATUS_ACTIVE : Fld := ⟨0x700004, 0, 0, 3⟩
def BER_STATUS_BUSY : Fld := ⟨0x700004, 0, 8, 5⟩
def BER_STATUS_SPARE : Fld := ⟨0x700004, 0, 16, 3⟩
def BER_STATUS_SWAPPING : Fld := ⟨0x700004, 0, 20, 1⟩
def BER_JOBS : Fld := ⟨0x700008, 0, 0, 32⟩
def BER_INV_FAIL : Fld := ⟨0x70000C, 0, 0, 32⟩
def BER_POINT_BAD : Fld := ⟨0x700010, 0, 0, 32⟩
def BER_WIPES : Fld := ⟨0x700014, 0, 0, 32⟩
def BER_ENT_WAIT : Fld := ⟨0x700018, 0, 0, 32⟩
def BER_ERR_VALID : Fld := ⟨0x70001C, 0, 0, 1⟩
def BER_ERR_CODE : Fld := ⟨0x70001C, 0, 1, 3⟩
def BER_ERR_OVERFLOW : Fld := ⟨0x70001C, 0, 16, 16⟩
def BER_ERR_INFO_SLOT : Fld := ⟨0x700020, 0, 0, 16⟩
def BER_ERR_INFO_ENGINE : Fld := ⟨0x700020, 0, 16, 3⟩
def BER_ERR_INFO_REQUESTER : Fld := ⟨0x700020, 0, 20, 4⟩
def BER_PROG_POSITION : Fld := ⟨0x700040, 4, 0, 24⟩
def BER_PROG_PERCENT : Fld := ⟨0x700040, 4, 24, 7⟩
def BER_PROG_VALID : Fld := ⟨0x700040, 4, 31, 1⟩
def QTZ_CTL_DEBIAS : Fld := ⟨0x800000, 0, 0, 1⟩
def QTZ_CTL_HOST_EN : Fld := ⟨0x800000, 0, 1, 1⟩
def QTZ_CTL_SRC_EN : Fld := ⟨0x800000, 0, 4, 4⟩
def QTZ_STATUS_VALID : Fld := ⟨0x800004, 0, 0, 1⟩
def QTZ_STATUS_UNDERRUN : Fld := ⟨0x800004, 0, 1, 1⟩
def QTZ_STATUS_START_FAIL : Fld := ⟨0x800004, 0, 2, 1⟩
def QTZ_STATUS_GATED : Fld := ⟨0x800004, 0, 3, 1⟩
def QTZ_STATUS_LEVEL : Fld := ⟨0x800004, 0, 4, 13⟩
def QTZ_DATA : Fld := ⟨0x800008, 0, 0, 32⟩
def QTZ_FAIL_COUNT : Fld := ⟨0x80000C, 0, 0, 32⟩
def QTZ_FAIL_SRC_RCT : Fld := ⟨0x800010, 4, 0, 16⟩
def QTZ_FAIL_SRC_APT : Fld := ⟨0x800010, 4, 16, 16⟩
def QTZ_TEST_RCT_CUTOFF : Fld := ⟨0x800020, 0, 0, 8⟩
def QTZ_TEST_APT_CUTOFF : Fld := ⟨0x800020, 0, 16, 11⟩
def QTZ_GATE_LIMIT : Fld := ⟨0x800024, 0, 0, 32⟩
def QTZ_FAIL_CLR_KEY : Fld := ⟨0x800028, 0, 0, 16⟩
def HQ_CTL_FETCH_EN : Fld := ⟨0x0, 0, 0, 1⟩
def HQ_CTL_CHAIN_WAIT : Fld := ⟨0x0, 0, 8, 8⟩
def HQ_CTL_RO_DATA : Fld := ⟨0x0, 0, 16, 1⟩
def HQ_STATUS_LINK_UP : Fld := ⟨0x4, 0, 0, 1⟩
def HQ_STATUS_SPEED : Fld := ⟨0x4, 0, 1, 3⟩
def HQ_STATUS_WIDTH : Fld := ⟨0x4, 0, 4, 4⟩
def HQ_STATUS_FETCHING : Fld := ⟨0x4, 0, 8, 4⟩
def HQ_TAKEN : Fld := ⟨0x10, 4, 0, 32⟩
def HQ_LATE : Fld := ⟨0x20, 4, 0, 32⟩
def HQ_DISCARD : Fld := ⟨0x30, 4, 0, 32⟩
def HQ_LOST : Fld := ⟨0x40, 4, 0, 32⟩
def HQ_ERR_VALID : Fld := ⟨0x50, 0, 0, 1⟩
def HQ_ERR_CODE : Fld := ⟨0x50, 0, 1, 3⟩
def HQ_ERR_OVERFLOW : Fld := ⟨0x50, 0, 16, 16⟩
def HQ_ERR_INFO_QUEUE : Fld := ⟨0x54, 0, 0, 12⟩
def HQ_ERR_INFO_SIDE : Fld := ⟨0x54, 0, 12, 1⟩
def HQ_ERR_INFO_FUNCTION : Fld := ⟨0x54, 0, 16, 8⟩
def HQ_SQ_BASE_LO_BASE_LO : Fld := ⟨0x10000, 32, 12, 20⟩
def HQ_SQ_BASE_HI_BASE_HI : Fld := ⟨0x10004, 32, 0, 32⟩
def HQ_SQ_CFG_SIZE_LOG2 : Fld := ⟨0x10008, 32, 0, 5⟩
def HQ_SQ_CFG_OWNER : Fld := ⟨0x10008, 32, 8, 8⟩
def HQ_SQ_CFG_CQ_HIGH : Fld := ⟨0x10008, 32, 16, 2⟩
def HQ_SQ_CFG_CQ_DEF : Fld := ⟨0x10008, 32, 20, 10⟩
def HQ_SQ_CFG_MAPPED : Fld := ⟨0x10008, 32, 31, 1⟩
def HQ_SQ_SCHED_WEIGHT : Fld := ⟨0x1000C, 32, 0, 8⟩
def HQ_SQ_SCHED_BURST : Fld := ⟨0x1000C, 32, 8, 7⟩
def HQ_SQ_CTL_ENABLE : Fld := ⟨0x10010, 32, 0, 1⟩
def HQ_SQ_CTL_INVAL : Fld := ⟨0x10010, 32, 1, 1⟩
def HQ_SQ_STATUS_STATE : Fld := ⟨0x10014, 32, 0, 2⟩
def HQ_SQ_STATUS_CHAIN_OPEN : Fld := ⟨0x10014, 32, 2, 1⟩
def HQ_SQ_STATUS_FENCE_WAIT : Fld := ⟨0x10014, 32, 3, 1⟩
def HQ_SQ_STATUS_CQ_WAIT : Fld := ⟨0x10014, 32, 4, 1⟩
def HQ_SQ_STATUS_DB_ERR : Fld := ⟨0x10014, 32, 5, 1⟩
def HQ_SQ_STATUS_CACHED : Fld := ⟨0x10014, 32, 8, 5⟩
def HQ_SQ_STATUS_HEAD : Fld := ⟨0x10014, 32, 16, 16⟩
def HQ_SQ_HPUB_LO_HPUB_LO : Fld := ⟨0x10018, 32, 3, 29⟩
def HQ_SQ_HPUB_HI_HPUB_HI : Fld := ⟨0x1001C, 32, 0, 32⟩
def HQ_CQ_BASE_LO_BASE_LO : Fld := ⟨0x30000, 32, 12, 20⟩
def HQ_CQ_BASE_HI_BASE_HI : Fld := ⟨0x30004, 32, 0, 32⟩
def HQ_CQ_CFG_SIZE_LOG2 : Fld := ⟨0x30008, 32, 0, 5⟩
def HQ_CQ_CFG_OWNER : Fld := ⟨0x30008, 32, 8, 8⟩
def HQ_CQ_CFG_VECTOR : Fld := ⟨0x30008, 32, 16, 6⟩
def HQ_CQ_CFG_MAPPED : Fld := ⟨0x30008, 32, 31, 1⟩
def HQ_CQ_INTR_COUNT : Fld := ⟨0x3000C, 32, 0, 8⟩
def HQ_CQ_INTR_TIME : Fld := ⟨0x3000C, 32, 16, 8⟩
def HQ_CQ_CTL_ENABLE : Fld := ⟨0x30010, 32, 0, 1⟩
def HQ_CQ_CTL_IEN : Fld := ⟨0x30010, 32, 1, 1⟩
def HQ_CQ_STATUS_ENABLED : Fld := ⟨0x30014, 32, 0, 1⟩
def HQ_CQ_STATUS_WRITE_ERR : Fld := ⟨0x30014, 32, 1, 1⟩
def HQ_CQ_STATUS_FULL_WAIT : Fld := ⟨0x30014, 32, 2, 1⟩
def HQ_CQ_STATUS_DB_ERR : Fld := ⟨0x30014, 32, 3, 1⟩
def HQ_CQ_STATUS_TAIL : Fld := ⟨0x30014, 32, 16, 16⟩
def HQ_CQ_USE_USE : Fld := ⟨0x30018, 32, 0, 17⟩
def HQ_CQ_HEAD_HEAD : Fld := ⟨0x3001C, 32, 0, 16⟩
def VF_STATUS_PRESENT : Fld := ⟨0x100000, 0, 0, 9⟩
def VF_STATUS_SRIOV_EN : Fld := ⟨0x100000, 0, 16, 1⟩
def VF_ERR_VALID : Fld := ⟨0x100004, 0, 0, 1⟩
def VF_ERR_STATUS : Fld := ⟨0x100004, 0, 1, 3⟩
def VF_ERR_OVERFLOW : Fld := ⟨0x100004, 0, 16, 16⟩
def VF_ERR_INFO_FUNCTION : Fld := ⟨0x100008, 0, 0, 8⟩
def VF_ERR_INFO_OPCODE : Fld := ⟨0x100008, 0, 8, 8⟩
def VF_ERR_INFO_REASON : Fld := ⟨0x100008, 0, 16, 8⟩
def VF_STATE_STATE : Fld := ⟨0x101000, 64, 0, 4⟩
def VF_STATE_GEN : Fld := ⟨0x101000, 64, 8, 8⟩
def VF_STATE_HOME : Fld := ⟨0x101000, 64, 16, 2⟩
def VF_STATE_IMAGE_OK : Fld := ⟨0x101000, 64, 24, 1⟩
def VF_POOL_Q_QBASE : Fld := ⟨0x101004, 64, 0, 10⟩
def VF_POOL_Q_QCOUNT : Fld := ⟨0x101004, 64, 16, 11⟩
def VF_POOL_CTX : Fld := ⟨0x101008, 64, 0, 17⟩
def VF_POOL_LARGE : Fld := ⟨0x10100C, 64, 0, 12⟩
def VF_POOL_SUB_SUB_BASE : Fld := ⟨0x101010, 64, 0, 12⟩
def VF_POOL_SUB_SUB_COUNT : Fld := ⟨0x101010, 64, 16, 12⟩
def VF_WEIGHT_W_TOP : Fld := ⟨0x101014, 64, 0, 8⟩
def VF_WEIGHT_W_JAD : Fld := ⟨0x101014, 64, 8, 8⟩
def VF_WEIGHT_W_BER : Fld := ⟨0x101014, 64, 16, 8⟩
def VF_USE_CTX : Fld := ⟨0x101018, 64, 0, 17⟩
def VF_USE_LARGE : Fld := ⟨0x101018, 64, 20, 12⟩
def VF_INFLIGHT_JOBS : Fld := ⟨0x10101C, 64, 0, 16⟩
def VF_INFLIGHT_OLD : Fld := ⟨0x10101C, 64, 16, 16⟩
def VF_PROG_POSITION : Fld := ⟨0x101020, 64, 0, 24⟩
def VF_PROG_PERCENT : Fld := ⟨0x101020, 64, 24, 7⟩
def VF_PROG_VALID : Fld := ⟨0x101020, 64, 31, 1⟩
def VF_BYTES : Fld := ⟨0x101024, 64, 0, 32⟩
def GAR_ID_MINOR : Fld := ⟨0x900000, 0, 0, 8⟩
def GAR_ID_MAJOR : Fld := ⟨0x900000, 0, 8, 8⟩
def GAR_ID_IMPL : Fld := ⟨0x900000, 0, 16, 8⟩
def GAR_CTL_NMI_ROUTE : Fld := ⟨0x900004, 0, 0, 2⟩
def GAR_CTL_NMI_ROUTE_PEND : Fld := ⟨0x900004, 0, 2, 1⟩
def GAR_CTL_APPLET_EN : Fld := ⟨0x900004, 0, 4, 1⟩
def GAR_CTL_FABRIC_PRIV : Fld := ⟨0x900004, 0, 8, 2⟩
def GAR_STATUS_ACTIVE : Fld := ⟨0x900008, 0, 0, 4⟩
def GAR_STATUS_SPARE : Fld := ⟨0x900008, 0, 4, 3⟩
def GAR_STATUS_SWAPPING : Fld := ⟨0x900008, 0, 8, 1⟩
def GAR_STATUS_CHECKSTOP : Fld := ⟨0x900008, 0, 16, 1⟩
def GAR_MAP_MAP : Fld := ⟨0x90000C, 0, 0, 16⟩
def GAR_NMI_CAUSE_SENTINEL : Fld := ⟨0x900010, 0, 0, 1⟩
def GAR_NMI_CAUSE_LEASE_LOST : Fld := ⟨0x900010, 0, 1, 1⟩
def GAR_NMI_CAUSE_WRITER_LOST : Fld := ⟨0x900010, 0, 2, 1⟩
def GAR_CHK_VALID : Fld := ⟨0x900014, 0, 0, 1⟩
def GAR_CHK_CORE : Fld := ⟨0x900014, 0, 1, 2⟩
def GAR_CHK_PHYS : Fld := ⟨0x900014, 0, 4, 3⟩
def GAR_CHK_VECTOR : Fld := ⟨0x900014, 0, 8, 6⟩
def GAR_CHK_BANK : Fld := ⟨0x900014, 0, 14, 2⟩
def GAR_CHK_OVERFLOW : Fld := ⟨0x900014, 0, 16, 16⟩
def GAR_CHK_PC : Fld := ⟨0x900018, 0, 0, 32⟩
def GAR_ERR_VALID : Fld := ⟨0x90001C, 0, 0, 1⟩
def GAR_ERR_DETAIL : Fld := ⟨0x90001C, 0, 1, 3⟩
def GAR_ERR_PHYS : Fld := ⟨0x90001C, 0, 4, 3⟩
def GAR_ERR_OVERFLOW : Fld := ⟨0x90001C, 0, 16, 16⟩
def GAR_ERR_INFO : Fld := ⟨0x900020, 0, 0, 32⟩
def GAR_APPLET_REFUSED : Fld := ⟨0x900024, 0, 0, 32⟩
def GAR_CE_IC : Fld := ⟨0x900040, 4, 0, 16⟩
def GAR_CE_DC : Fld := ⟨0x900040, 4, 16, 16⟩
def MPU_VIOL_VALID : Fld := ⟨0xA00000, 0, 0, 1⟩
def MPU_VIOL_CORE : Fld := ⟨0xA00000, 0, 1, 2⟩
def MPU_VIOL_PRIV : Fld := ⟨0xA00000, 0, 3, 2⟩
def MPU_VIOL_KIND : Fld := ⟨0xA00000, 0, 5, 3⟩
def MPU_VIOL_CAUSE : Fld := ⟨0xA00000, 0, 8, 4⟩
def MPU_VIOL_OVERFLOW : Fld := ⟨0xA00000, 0, 16, 16⟩
def MPU_VIOL_ADDR : Fld := ⟨0xA00004, 0, 0, 32⟩
def MPU_VIOL_INFO_REGION : Fld := ⟨0xA00008, 0, 0, 6⟩
def MPU_VIOL_INFO_SIZE : Fld := ⟨0xA00008, 0, 8, 8⟩
def MPU_SRAM_CE : Fld := ⟨0xA00010, 0, 0, 32⟩
def MPU_SRAM_UE : Fld := ⟨0xA00014, 0, 0, 32⟩
def MPU_BUS_CE : Fld := ⟨0xA00018, 0, 0, 32⟩
def MPU_BUS_UE : Fld := ⟨0xA0001C, 0, 0, 32⟩
def MPU_DUP_ERR : Fld := ⟨0xA00020, 0, 0, 32⟩
def MPU_PATROL : Fld := ⟨0xA00024, 0, 0, 32⟩
def MPU_BASE_BASE : Fld := ⟨0xA01000, 16, 5, 27⟩
def MPU_LIMIT_LIMIT : Fld := ⟨0xA01004, 16, 5, 27⟩
def MPU_ATTR_P0 : Fld := ⟨0xA01008, 16, 0, 3⟩
def MPU_ATTR_P1 : Fld := ⟨0xA01008, 16, 4, 3⟩
def MPU_ATTR_P2 : Fld := ⟨0xA01008, 16, 8, 3⟩
def MPU_ATTR_P3 : Fld := ⟨0xA01008, 16, 12, 3⟩
def MPU_ATTR_NOCACHE : Fld := ⟨0xA01008, 16, 16, 1⟩
def MPU_ATTR_VALID : Fld := ⟨0xA01008, 16, 31, 1⟩
def SL_CTL_ROUTE : Fld := ⟨0xB00000, 0, 0, 2⟩
def SL_CTL_SESSION_LIFE : Fld := ⟨0xB00000, 0, 8, 16⟩
def SL_STATUS_LIVE : Fld := ⟨0xB00004, 0, 0, 7⟩
def SL_STATUS_PLAIN : Fld := ⟨0xB00004, 0, 8, 7⟩
def SL_STATUS_FAILED : Fld := ⟨0xB00004, 0, 16, 7⟩
def SL_IDENT_CTX_CTX : Fld := ⟨0xB00008, 0, 0, 32⟩
def SL_HS_COUNT : Fld := ⟨0xB0000C, 0, 0, 32⟩
def SL_HS_FAIL : Fld := ⟨0xB00010, 0, 0, 32⟩
def SL_ERR_VALID : Fld := ⟨0xB00014, 0, 0, 1⟩
def SL_ERR_CODE : Fld := ⟨0xB00014, 0, 1, 3⟩
def SL_ERR_OVERFLOW : Fld := ⟨0xB00014, 0, 16, 16⟩
def SL_ERR_INFO : Fld := ⟨0xB00018, 0, 0, 6⟩
def SL_LINK_CFG_MODE : Fld := ⟨0xB01000, 32, 0, 2⟩
def SL_LINK_CFG_DUPLEX : Fld := ⟨0xB01000, 32, 2, 1⟩
def SL_LINK_CFG_DATA8 : Fld := ⟨0xB01000, 32, 3, 1⟩
def SL_LINK_CFG_PARITY : Fld := ⟨0xB01000, 32, 4, 2⟩
def SL_LINK_CFG_STOP2 : Fld := ⟨0xB01000, 32, 6, 1⟩
def SL_LINK_CFG_ACKNAK : Fld := ⟨0xB01000, 32, 7, 1⟩
def SL_LINK_CFG_RATE : Fld := ⟨0xB01000, 32, 8, 16⟩
def SL_LINK_CFG_FORMAT : Fld := ⟨0xB01000, 32, 24, 8⟩
def SL_LINK_FMT_DELIM : Fld := ⟨0xB01004, 32, 0, 2⟩
def SL_LINK_FMT_END_BYTE : Fld := ⟨0xB01004, 32, 8, 8⟩
def SL_LINK_FMT_FIX_LEN : Fld := ⟨0xB01004, 32, 16, 12⟩
def SL_LINK_TIME_POLL_PERIOD : Fld := ⟨0xB01008, 32, 0, 16⟩
def SL_LINK_TIME_REPLY_WAIT : Fld := ⟨0xB01008, 32, 16, 8⟩
def SL_LINK_TIME_MISS_LIMIT : Fld := ⟨0xB01008, 32, 24, 4⟩
def SL_LINK_TIME_TIME_PEND : Fld := ⟨0xB01008, 32, 28, 1⟩
def SL_LINK_CTL_ENABLE : Fld := ⟨0xB0100C, 32, 0, 1⟩
def SL_LINK_CTL_CLOSE : Fld := ⟨0xB0100C, 32, 1, 1⟩
def SL_LINK_STAT_STATE : Fld := ⟨0xB01010, 32, 0, 3⟩
def SL_LINK_STAT_DISTRUST : Fld := ⟨0xB01010, 32, 3, 1⟩
def SL_LINK_STAT_HS_CAUSE : Fld := ⟨0xB01010, 32, 4, 4⟩
def SL_LINK_STAT_MISSES : Fld := ⟨0xB01010, 32, 8, 8⟩
def SL_LINK_RX_OK : Fld := ⟨0xB01014, 32, 0, 32⟩
def SL_LINK_RX_BAD : Fld := ⟨0xB01018, 32, 0, 32⟩
def SL_LINK_TX_OK : Fld := ⟨0xB0101C, 32, 0, 32⟩
def RP_CFG_FORMAT : Fld := ⟨0xC00000, 0, 0, 8⟩
def RP_CFG_EOR_IDLE_PEND : Fld := ⟨0xC00000, 0, 8, 1⟩
def RP_CFG_EOR_IDLE : Fld := ⟨0xC00000, 0, 16, 16⟩
def RP_CTL_ENABLE : Fld := ⟨0xC00004, 0, 0, 1⟩
def RP_CTL_ROUTE : Fld := ⟨0xC00004, 0, 4, 2⟩
def RP_STATUS_HOLD : Fld := ⟨0xC00008, 0, 0, 1⟩
def RP_STATUS_RECORD_OPEN : Fld := ⟨0xC00008, 0, 1, 1⟩
def RP_STATUS_GAP_OPEN : Fld := ⟨0xC00008, 0, 2, 1⟩
def RP_STATUS_PERR_SEEN : Fld := ⟨0xC00008, 0, 3, 1⟩
def RP_STATUS_HELD_FULL : Fld := ⟨0xC00008, 0, 4, 1⟩
def RP_TRANSFERS : Fld := ⟨0xC0000C, 0, 0, 32⟩
def RP_ORPHAN : Fld := ⟨0xC00010, 0, 0, 32⟩
def RP_ACKS_ACK : Fld := ⟨0xC00014, 0, 0, 16⟩
def RP_ACKS_ERR : Fld := ⟨0xC00014, 0, 16, 16⟩
def OPL_LEVEL : Fld := ⟨0xC00020, 0, 0, 14⟩
def OPL_WM_HIGH : Fld := ⟨0xC00024, 0, 0, 13⟩
def OPL_WM_LOW : Fld := ⟨0xC00024, 0, 16, 13⟩
def OPL_CE : Fld := ⟨0xC00028, 0, 0, 32⟩
def OPL_UE : Fld := ⟨0xC0002C, 0, 0, 32⟩
def OPL_GAPS : Fld := ⟨0xC00030, 0, 0, 32⟩
def OPL_LOST : Fld := ⟨0xC00034, 0, 0, 32⟩
def JC_CTL_ROUTE : Fld := ⟨0xD00000, 0, 0, 2⟩
def JC_CTL_SPEED_MAX : Fld := ⟨0xD00000, 0, 4, 3⟩
def JC_CTL_RETUNE : Fld := ⟨0xD00000, 0, 8, 8⟩
def JC_CTL_RETUNE_PEND : Fld := ⟨0xD00000, 0, 16, 1⟩
def JC_STATUS_PRESENT : Fld := ⟨0xD00004, 0, 0, 1⟩
def JC_STATUS_JARTEX : Fld := ⟨0xD00004, 0, 1, 1⟩
def JC_STATUS_PAIRED : Fld := ⟨0xD00004, 0, 2, 1⟩
def JC_STATUS_ANCHORING : Fld := ⟨0xD00004, 0, 3, 1⟩
def JC_STATUS_SPEED : Fld := ⟨0xD00004, 0, 4, 3⟩
def JC_STATUS_V18 : Fld := ⟨0xD00004, 0, 7, 1⟩
def JC_STATUS_RPA_UNCERTAIN : Fld := ⟨0xD00004, 0, 8, 1⟩
def JC_STATUS_DISTRUST : Fld := ⟨0xD00004, 0, 9, 1⟩
def JC_STATUS_COUNTER_LOW : Fld := ⟨0xD00004, 0, 10, 1⟩
def JC_STATUS_COUNTER_EXPIRED : Fld := ⟨0xD00004, 0, 11, 1⟩
def JC_WCOUNT : Fld := ⟨0xD00008, 0, 0, 32⟩
def JC_ANCHORS : Fld := ⟨0xD0000C, 0, 0, 32⟩
def JC_UNCERTAIN_HELD : Fld := ⟨0xD00010, 0, 0, 5⟩
def JC_UNCERTAIN_OVERFLOW : Fld := ⟨0xD00010, 0, 8, 1⟩
def JC_CRC_ERR : Fld := ⟨0xD00014, 0, 0, 32⟩
def JC_ERR_VALID : Fld := ⟨0xD00018, 0, 0, 1⟩
def JC_ERR_CODE : Fld := ⟨0xD00018, 0, 1, 3⟩
def JC_ERR_OVERFLOW : Fld := ⟨0xD00018, 0, 16, 16⟩
def JC_ERR_INFO : Fld := ⟨0xD0001C, 0, 0, 32⟩
def JC_CARD_ID : Fld := ⟨0xD00020, 4, 0, 32⟩
def JC_PAIR : Fld := ⟨0xD00030, 0, 0, 16⟩
def CC_CTL_ROUTE : Fld := ⟨0xE00000, 0, 0, 2⟩
def CC_CTL_CLK_MAX : Fld := ⟨0xE00000, 0, 4, 3⟩
def CC_CTL_ORDER_LIFE : Fld := ⟨0xE00000, 0, 8, 8⟩
def CC_CTL_WAIT_MAX : Fld := ⟨0xE00000, 0, 16, 8⟩
def CC_STATUS_PRESENT : Fld := ⟨0xE00004, 0, 0, 1⟩
def CC_STATUS_CLASS : Fld := ⟨0xE00004, 0, 1, 2⟩
def CC_STATUS_ACTIVE : Fld := ⟨0xE00004, 0, 3, 1⟩
def CC_STATUS_CUSTODIAN_OK : Fld := ⟨0xE00004, 0, 4, 1⟩
def CC_STATUS_QUORUM : Fld := ⟨0xE00004, 0, 5, 1⟩
def CC_ORDER_NO : Fld := ⟨0xE00008, 0, 0, 32⟩
def CC_APPROVALS_HELD : Fld := ⟨0xE0000C, 0, 0, 4⟩
def CC_APPROVALS_M : Fld := ⟨0xE0000C, 0, 8, 4⟩
def CC_APPROVALS_STATE : Fld := ⟨0xE0000C, 0, 16, 3⟩
def CC_T1_RETRY : Fld := ⟨0xE00010, 0, 0, 32⟩
def CC_ERR_VALID : Fld := ⟨0xE00014, 0, 0, 1⟩
def CC_ERR_CODE : Fld := ⟨0xE00014, 0, 1, 3⟩
def CC_ERR_OVERFLOW : Fld := ⟨0xE00014, 0, 16, 16⟩
def CC_ERR_INFO_SW : Fld := ⟨0xE00018, 0, 0, 16⟩
def CC_ERR_INFO_ORDER_TYPE : Fld := ⟨0xE00018, 0, 16, 8⟩
def TAG_CTL_FDET_EN : Fld := ⟨0x200000, 0, 0, 1⟩
def TAG_CTL_NOTE_EN : Fld := ⟨0x200000, 0, 1, 1⟩
def TAG_CTL_IRQ_FIELD : Fld := ⟨0x200000, 0, 2, 1⟩
def TAG_CTL_ROUTE_STRAND : Fld := ⟨0x200000, 0, 4, 2⟩
def TAG_CTL_ROUTE_CORE : Fld := ⟨0x200000, 0, 8, 2⟩
def TAG_STATUS_PRESENT : Fld := ⟨0x200004, 0, 0, 1⟩
def TAG_STATUS_FIELD : Fld := ⟨0x200004, 0, 1, 1⟩
def TAG_STATUS_OWNED : Fld := ⟨0x200004, 0, 2, 1⟩
def TAG_STATUS_BUSY : Fld := ⟨0x200004, 0, 3, 1⟩
def TAG_STATUS_WIP : Fld := ⟨0x200004, 0, 4, 1⟩
def TAG_STATUS_SECRET_SET : Fld := ⟨0x200004, 0, 5, 1⟩
def TAG_STATUS_KILLED : Fld := ⟨0x200004, 0, 6, 1⟩
def TAG_ADDR_BLOCK : Fld := ⟨0x200008, 0, 0, 8⟩
def TAG_CMD_OP : Fld := ⟨0x20000C, 0, 0, 2⟩
def TAG_WDATA : Fld := ⟨0x200010, 4, 0, 32⟩
def TAG_RDATA : Fld := ⟨0x200020, 4, 0, 32⟩
def TAG_FIELD_CMDS : Fld := ⟨0x200030, 0, 0, 32⟩
def TAG_BUSY_COUNT : Fld := ⟨0x200034, 0, 0, 32⟩
def TAG_ERR_VALID : Fld := ⟨0x200038, 0, 0, 1⟩
def TAG_ERR_CODE : Fld := ⟨0x200038, 0, 1, 3⟩
def TAG_ERR_OVERFLOW : Fld := ⟨0x200038, 0, 16, 16⟩
def TAG_ERR_INFO : Fld := ⟨0x20003C, 0, 0, 8⟩
def TAG_SECRET : Fld := ⟨0x200040, 4, 0, 32⟩
def TAG_SECRET_CTL_COMMIT : Fld := ⟨0x200060, 0, 0, 8⟩
def TAG_KILL_KEY : Fld := ⟨0x200064, 0, 0, 8⟩
def TAG_UID : Fld := ⟨0x200070, 4, 0, 32⟩
def AGT_CTL_SUSP_PROG : Fld := ⟨0xF00000, 0, 0, 1⟩
def AGT_CTL_ROUTE : Fld := ⟨0xF00000, 0, 8, 2⟩
def AGT_CTL_AGE_WARN : Fld := ⟨0xF00000, 0, 16, 8⟩
def AGT_STATUS_BUSY : Fld := ⟨0xF00004, 0, 0, 1⟩
def AGT_STATUS_ERASE_OPEN : Fld := ⟨0xF00004, 0, 1, 1⟩
def AGT_STATUS_SUSPENDED : Fld := ⟨0xF00004, 0, 2, 1⟩
def AGT_STATUS_UNSTABLE : Fld := ⟨0xF00004, 0, 3, 1⟩
def AGT_STATUS_ERASE_OLD : Fld := ⟨0xF00004, 0, 4, 1⟩
def AGT_STATUS_SPARE_LOW : Fld := ⟨0xF00004, 0, 5, 1⟩
def AGT_STATUS_SPARE_OUT : Fld := ⟨0xF00004, 0, 6, 1⟩
def AGT_STATUS_SCANNED : Fld := ⟨0xF00004, 0, 7, 1⟩
def AGT_CMD_OP : Fld := ⟨0xF00008, 0, 0, 4⟩
def AGT_CMD_COUNT : Fld := ⟨0xF00008, 0, 4, 6⟩
def AGT_ADDR_ADDR : Fld := ⟨0xF0000C, 0, 0, 32⟩
def AGT_MASK_LO_MASK : Fld := ⟨0xF00010, 0, 0, 32⟩
def AGT_MASK_HI_MASK : Fld := ⟨0xF00014, 0, 0, 32⟩
def AGT_RESULT_CODE : Fld := ⟨0xF00018, 0, 0, 4⟩
def AGT_RESULT_WORD : Fld := ⟨0xF00018, 0, 4, 6⟩
def AGT_RESULT_CORRECTED : Fld := ⟨0xF00018, 0, 16, 1⟩
def AGT_RESULT_CLASS : Fld := ⟨0xF00018, 0, 17, 3⟩
def AGT_ERASE_AGE : Fld := ⟨0xF0001C, 0, 0, 32⟩
def AGT_ERASE_SUSP : Fld := ⟨0xF00020, 0, 0, 32⟩
def AGT_INCOMPLETE : Fld := ⟨0xF00024, 0, 0, 14⟩
def AGT_SPARE_FREE : Fld := ⟨0xF00028, 0, 0, 10⟩
def AGT_SPARE_RETIRED : Fld := ⟨0xF00028, 0, 16, 10⟩
def AGT_CE : Fld := ⟨0xF0002C, 0, 0, 32⟩
def AGT_UE : Fld := ⟨0xF00030, 0, 0, 32⟩
def AGT_SCRUB_PROG_POSITION : Fld := ⟨0xF00034, 0, 0, 24⟩
def AGT_SCRUB_PROG_PERCENT : Fld := ⟨0xF00034, 0, 24, 7⟩
def AGT_SCRUB_PROG_VALID : Fld := ⟨0xF00034, 0, 31, 1⟩
def AGT_SCRUB_CFG_EN : Fld := ⟨0xF00038, 0, 0, 1⟩
def AGT_SCRUB_CFG_PERIOD : Fld := ⟨0xF00038, 0, 8, 8⟩
def AGT_SCRUB_CFG_REFRESH : Fld := ⟨0xF00038, 0, 16, 8⟩
def AGT_ERR_VALID : Fld := ⟨0xF0003C, 0, 0, 1⟩
def AGT_ERR_CODE : Fld := ⟨0xF0003C, 0, 1, 3⟩
def AGT_ERR_OVERFLOW : Fld := ⟨0xF0003C, 0, 16, 16⟩
def AGT_ERR_INFO_BLOCK : Fld := ⟨0xF00040, 0, 0, 16⟩
def AGT_ERR_INFO_PAGE : Fld := ⟨0xF00040, 0, 16, 7⟩
def AGT_ERR_INFO_WORD : Fld := ⟨0xF00040, 0, 23, 6⟩
def AGT_PBUF : Fld := ⟨0xF00200, 4, 0, 32⟩
def JSP_CTL_TAMP_EN : Fld := ⟨0x1000000, 0, 0, 8⟩
def JSP_CTL_TAMP_POL : Fld := ⟨0x1000000, 0, 8, 8⟩
def JSP_CTL_THROTTLE_S : Fld := ⟨0x1000000, 0, 16, 8⟩
def JSP_CTL_ROUTE : Fld := ⟨0x1000000, 0, 24, 2⟩
def JSP_STATUS_LATCH : Fld := ⟨0x1000004, 0, 0, 1⟩
def JSP_STATUS_TEST : Fld := ⟨0x1000004, 0, 1, 1⟩
def JSP_STATUS_WINDOWED : Fld := ⟨0x1000004, 0, 2, 1⟩
def JSP_STATUS_THROTTLED : Fld := ⟨0x1000004, 0, 3, 1⟩
def JSP_STATUS_ERASED : Fld := ⟨0x1000004, 0, 4, 1⟩
def JSP_STATUS_CELL_OK : Fld := ⟨0x1000004, 0, 5, 1⟩
def JSP_STATUS_DET_SPARE_OUT : Fld := ⟨0x1000004, 0, 6, 1⟩
def JSP_STATUS_VIGIL_EVENTS : Fld := ⟨0x1000004, 0, 8, 8⟩
def JSP_FUSE_OFF_FUSED : Fld := ⟨0x1000008, 0, 0, 16⟩
def JSP_LAST_RANK : Fld := ⟨0x100000C, 0, 0, 3⟩
def JSP_LAST_SOURCE : Fld := ⟨0x100000C, 0, 8, 8⟩
def JSP_LAST_ALARMS : Fld := ⟨0x100000C, 0, 16, 16⟩
def JSP_ERASE_VALID : Fld := ⟨0x1000010, 0, 0, 1⟩
def JSP_ERASE_CAUSE : Fld := ⟨0x1000010, 0, 1, 3⟩
def JSP_ERASE_SOURCE : Fld := ⟨0x1000010, 0, 4, 8⟩
def JSP_ERASE_FROM : Fld := ⟨0x1000010, 0, 12, 2⟩
def JSP_ERASE_TRIES : Fld := ⟨0x1000010, 0, 16, 2⟩
def JSP_INJECT_SOURCE : Fld := ⟨0x1000014, 0, 0, 8⟩
def JSP_INJECT_DETECTORS : Fld := ⟨0x1000014, 0, 8, 2⟩
def JSP_INJECT_ISLAND : Fld := ⟨0x1000014, 0, 16, 5⟩
def JSP_INJECT_KEY : Fld := ⟨0x1000014, 0, 24, 8⟩
def JSP_CELL_VBAT : Fld := ⟨0x1000018, 0, 0, 12⟩
def JSP_CELL_WINDOW_LEFT : Fld := ⟨0x1000018, 0, 16, 10⟩
def JSP_CELL_WINDOW_OPEN : Fld := ⟨0x1000018, 0, 31, 1⟩
def JSP_LOG_HEAD : Fld := ⟨0x100001C, 0, 0, 32⟩
def JSP_LOG_SEL_SEQ : Fld := ⟨0x1000020, 0, 0, 32⟩
def JSP_LOG_DATA : Fld := ⟨0x1000024, 4, 0, 32⟩
def JSP_ERR_VALID : Fld := ⟨0x1000044, 0, 0, 1⟩
def JSP_ERR_CODE : Fld := ⟨0x1000044, 0, 1, 3⟩
def JSP_ERR_OVERFLOW : Fld := ⟨0x1000044, 0, 16, 16⟩
def JSP_ERR_INFO_SOURCE : Fld := ⟨0x1000048, 0, 0, 8⟩
def JSP_ERR_INFO_ISLAND : Fld := ⟨0x1000048, 0, 8, 8⟩
def JSP_SRC_CFG_RANK : Fld := ⟨0x1000100, 8, 0, 3⟩
def JSP_SRC_CFG_VIGIL_RANK : Fld := ⟨0x1000100, 8, 4, 3⟩
def JSP_SRC_CFG_N : Fld := ⟨0x1000100, 8, 8, 4⟩
def JSP_SRC_CFG_W : Fld := ⟨0x1000100, 8, 12, 16⟩
def JSP_SRC_CFG_NMI : Fld := ⟨0x1000100, 8, 28, 1⟩
def JSP_SRC_CNT_EVENTS : Fld := ⟨0x1000104, 8, 0, 16⟩
def JSP_SRC_CNT_FIRINGS : Fld := ⟨0x1000104, 8, 16, 16⟩
def ISL_CTL_ROUTE : Fld := ⟨0x1100000, 0, 0, 2⟩
def ISL_STATUS_GRAD_SEEN : Fld := ⟨0x1100004, 0, 0, 1⟩
def ISL_STATUS_STEPPED : Fld := ⟨0x1100004, 0, 1, 1⟩
def ISL_STATUS_WORN : Fld := ⟨0x1100004, 0, 2, 1⟩
def ISL_FENCED : Fld := ⟨0x1100008, 0, 0, 21⟩
def ISL_GRAD_ISLAND_A : Fld := ⟨0x110000C, 0, 0, 5⟩
def ISL_GRAD_ISLAND_B : Fld := ⟨0x110000C, 0, 8, 5⟩
def ISL_GRAD_KIND : Fld := ⟨0x110000C, 0, 13, 2⟩
def ISL_GRAD_NAMED_B : Fld := ⟨0x110000C, 0, 15, 1⟩
def ISL_GRAD_COUNT : Fld := ⟨0x110000C, 0, 16, 16⟩
def ISL_ERR_VALID : Fld := ⟨0x1100010, 0, 0, 1⟩
def ISL_ERR_CODE : Fld := ⟨0x1100010, 0, 1, 3⟩
def ISL_ERR_OVERFLOW : Fld := ⟨0x1100010, 0, 16, 16⟩
def ISL_ERR_INFO_ISLAND : Fld := ⟨0x1100014, 0, 0, 5⟩
def ISL_ERR_INFO_CHANNEL : Fld := ⟨0x1100014, 0, 8, 8⟩
def ISL_SUP_MV : Fld := ⟨0x1100100, 16, 0, 10⟩
def ISL_SUP_SETPOINT : Fld := ⟨0x1100100, 16, 16, 10⟩
def ISL_CLK_MHZ : Fld := ⟨0x1100104, 16, 0, 12⟩
def ISL_CLK_SET_MHZ : Fld := ⟨0x1100104, 16, 16, 12⟩
def ISL_TEMP_TEMP : Fld := ⟨0x1100108, 16, 0, 12⟩
def ISL_AGE_MARGIN : Fld := ⟨0x110010C, 16, 0, 8⟩
def ISL_AGE_STEP : Fld := ⟨0x110010C, 16, 8, 3⟩
def ISL_AGE_WORN : Fld := ⟨0x110010C, 16, 16, 1⟩
def ISL_AGE_FENCED : Fld := ⟨0x110010C, 16, 17, 1⟩
def HLT_CTL_AUTO_AGE : Fld := ⟨0x1100800, 0, 0, 1⟩
def HLT_CTL_ROW_CE : Fld := ⟨0x1100800, 0, 8, 8⟩
def HLT_CTL_AGE_MIN : Fld := ⟨0x1100800, 0, 16, 5⟩
def HLT_CTL_AGE_MIN_PEND : Fld := ⟨0x1100800, 0, 21, 1⟩
def HLT_SPARE_CORE : Fld := ⟨0x1100804, 0, 0, 1⟩
def HLT_SPARE_BERYL : Fld := ⟨0x1100804, 0, 1, 1⟩
def HLT_SPARE_TOPAZ : Fld := ⟨0x1100804, 0, 2, 1⟩
def HLT_SPARE_DET : Fld := ⟨0x1100804, 0, 4, 4⟩
def HLT_SPARE_ROWS : Fld := ⟨0x1100804, 0, 8, 8⟩
def HLT_SPARE_FLASH : Fld := ⟨0x1100804, 0, 16, 10⟩
def HLT_SWAP_KIND : Fld := ⟨0x1100808, 0, 0, 4⟩
def HLT_SWAP_ISLAND : Fld := ⟨0x1100808, 0, 4, 5⟩
def HLT_SWAP_ROW : Fld := ⟨0x1100808, 0, 9, 13⟩
def HLT_SWAP_KEY : Fld := ⟨0x1100808, 0, 24, 8⟩
def HLT_STATUS_STATE : Fld := ⟨0x110080C, 0, 0, 3⟩
def HLT_STATUS_KIND : Fld := ⟨0x110080C, 0, 4, 3⟩
def HLT_STATUS_QUEUED : Fld := ⟨0x110080C, 0, 8, 5⟩
def HLT_STATUS_ROW_OUT : Fld := ⟨0x110080C, 0, 16, 1⟩
def HLT_STATUS_ABANDONED : Fld := ⟨0x110080C, 0, 17, 1⟩
def HLT_PROG_POSITION : Fld := ⟨0x1100810, 0, 0, 24⟩
def HLT_PROG_PERCENT : Fld := ⟨0x1100810, 0, 24, 7⟩
def HLT_PROG_VALID : Fld := ⟨0x1100810, 0, 31, 1⟩
def HLT_ERR_VALID : Fld := ⟨0x1100814, 0, 0, 1⟩
def HLT_ERR_CODE : Fld := ⟨0x1100814, 0, 1, 3⟩
def HLT_ERR_OVERFLOW : Fld := ⟨0x1100814, 0, 16, 16⟩
def SNP_CTL_SNAP_IN_EN : Fld := ⟨0x1200000, 0, 0, 1⟩
def SNP_CTL_JSP_RANK : Fld := ⟨0x1200000, 0, 1, 3⟩
def SNP_CTL_EVENT : Fld := ⟨0x1200000, 0, 8, 6⟩
def SNP_CTL_ROUTE : Fld := ⟨0x1200000, 0, 16, 2⟩
def SNP_CMD_TRIGGER : Fld := ⟨0x1200004, 0, 0, 1⟩
def SNP_CMD_RELEASE : Fld := ⟨0x1200004, 0, 1, 1⟩
def SNP_STATUS_HELD : Fld := ⟨0x1200008, 0, 0, 1⟩
def SNP_STATUS_DONE : Fld := ⟨0x1200008, 0, 1, 1⟩
def SNP_STATUS_SOURCE : Fld := ⟨0x1200008, 0, 2, 3⟩
def SNP_STATUS_MISSED : Fld := ⟨0x1200008, 0, 8, 8⟩
def SNP_STATUS_SNAP_NO : Fld := ⟨0x1200008, 0, 16, 16⟩
def SNP_ABSENT_ISLANDS : Fld := ⟨0x120000C, 0, 0, 21⟩
def SNP_ABSENT_RING : Fld := ⟨0x120000C, 0, 24, 3⟩
def SNP_SEL_ISLAND : Fld := ⟨0x1200010, 0, 0, 5⟩
def SNP_SEL_CHANNEL : Fld := ⟨0x1200010, 0, 8, 8⟩
def SNP_SEL_ITEM : Fld := ⟨0x1200010, 0, 16, 16⟩
def SNP_CYC_LO : Fld := ⟨0x1200014, 0, 0, 32⟩
def SNP_CYC_HI : Fld := ⟨0x1200018, 0, 0, 32⟩
def SNP_DATA : Fld := ⟨0x1200040, 4, 0, 32⟩

end Sys2Proof.Machine.R
end

