-- ==== Sys2Proof/Machine/RegMap.lean ====
section
/-! DEFINITION. The register map of the device: every register table of the chapters, field by field (R4 to R15, R426 to R429).
One list per block of a strand window (index = offset / 1 MiB) and per block of the ring window.
A row is offset, stride, count, fields; a field is lowest bit, width, class, access type, reset source, literal or default,
and the "reads as" rule its Meaning column gives. Fields written `ro` and `w1c` have class none and reset 0. -/

namespace Sys2Proof.Machine.RegMap
open Sys2Proof.Machine

/-- Block CHT at offset 0x0 of the strand window (02_charter_startup.md; R72, R73, R74, R75, R76, R77, R78, R79, R80).
PAIR_WAIT and CEREMONY_IDLE of 61 to 63 are kept and used as written (log entry 151). -/
def st_CHT : List RegDef := [
  ⟨0x0, 0, 1, [fd 0 3 .none .ro .lit 1 .id, ro 3 1, ro 8 3, fd 16 4 .none .ro .lit 2 .id]⟩, -- CHT_MODE
  ⟨0x4, 0, 1, [fd 0 3 .none .wo .lit 0 .id, fd 24 8 .none .wo .lit 0 .id]⟩, -- CHT_MODE_REQ
  ⟨0x8, 0, 1, [w1c 0 1, ro 1 1, ro 2 1, ro 3 1, ro 4 3, ro 7 1, fd 8 4 .none .ro .lit 15 .id, ro 12 1]⟩, -- CHT_STATUS
  ⟨0xC, 0, 1, [ro 0 4, ro 4 4, ro 8 8, ro 16 16]⟩, -- CHT_START_STATUS
  ⟨0x10, 0, 1, [ro 0 32]⟩, -- CHT_SERIAL_LO
  ⟨0x14, 0, 1, [ro 0 32]⟩, -- CHT_SERIAL_HI
  ⟨0x18, 0, 1, [ro 0 3, ro 3 1, ro 8 4]⟩, -- CHT_LIFECYCLE
  ⟨0x1C, 0, 1, [fd 0 6 .s .rw .cht 10 (.zeroAs 10), fd 8 6 .l .rw .ret 15 (.zeroAs 15)]⟩, -- CHT_START_CFG
  ⟨0x20, 0, 1, [w1c 0 1, ro 1 3, ro 4 4, ro 16 16]⟩, -- CHT_VIOL
  ⟨0x24, 0, 1, [ro 0 26]⟩, -- CHT_VIOL_ADDR
  ⟨0x40, 4, 12, [ro 0 32]⟩] -- CHT_DIGEST

/-- Block PST at offset 0x100000 of the strand window (03_posting_pipeline.md, 04_speculation.md; R121, R123, R124, R125, R126, R127, R152, R153, R154, R155). -/
def st_PST : List RegDef := [
  ⟨0x100000, 0, 1, [fd 0 1 .l .rw .cht 1 .id, fd 1 1 .b .rw .cht 1 .id, ro 2 1, fd 3 1 .b .rw .cht 0 .id, ro 4 1, fd 8 2 .s .rw .cht 1 (.zeroAs 1), fd 12 1 .s .rw .cht 1 .id]⟩, -- PST_CTL
  ⟨0x100004, 0, 1, [fd 0 16 .b .rw .cht 300 (.zeroAs 300), ro 16 1]⟩, -- PST_CFG
  ⟨0x100008, 0, 1, [fd 0 32 .s .rw .cht 0 .id]⟩, -- PST_SEAL_CTX
  ⟨0x10000C, 0, 1, [fd 0 12 .s .rw .cht 0 .id, fd 31 1 .s .rw .cht 0 .id]⟩, -- PST_RELAY_CQ
  ⟨0x100010, 0, 1, [fd 0 32 .s .rw .cht 0 .id]⟩, -- PST_RELAY_MAC
  ⟨0x100014, 0, 1, [ro 0 1, ro 8 5, w1c 16 1, w1c 17 1, ro 18 1]⟩, -- PST_STATUS
  ⟨0x100018, 0, 1, [ro 0 32]⟩, -- PST_BATCH_LO
  ⟨0x10001C, 0, 1, [ro 0 32]⟩, -- PST_BATCH_HI
  ⟨0x100020, 0, 1, [ro 0 32]⟩, -- PST_REC_LO
  ⟨0x100024, 0, 1, [ro 0 32]⟩, -- PST_REC_HI
  ⟨0x100028, 0, 1, [ro 0 32]⟩, -- PST_FAIL_AUTH
  ⟨0x10002C, 0, 1, [ro 0 32]⟩, -- PST_FAIL_BAL
  ⟨0x100030, 0, 1, [ro 0 32]⟩, -- PST_FAIL_AUTHZ
  ⟨0x100034, 0, 1, [ro 0 32]⟩, -- PST_FAIL_OTHER
  ⟨0x100038, 0, 1, [ro 0 16, ro 16 16]⟩, -- PST_APPROVALS
  ⟨0x10003C, 0, 1, [w1c 0 1, ro 1 4, ro 16 16]⟩, -- PST_ERR
  ⟨0x100040, 0, 1, [ro 0 16]⟩, -- PST_ERR_INFO
  ⟨0x100044, 0, 1, [ro 0 4, ro 8 5, ro 16 1, ro 17 1]⟩, -- PST_SPEC_STATUS
  ⟨0x100048, 0, 1, [ro 0 32]⟩, -- PST_CAD_OVERRUN
  ⟨0x10004C, 0, 1, [ro 0 32]⟩, -- PST_SPEC_ABANDON
  ⟨0x100050, 0, 1, [fd 0 8 .none .rw .lit 0 .id, ro 16 8]⟩, -- PST_CAD_SEL
  ⟨0x100054, 0, 1, [ro 0 16, ro 16 16]⟩, -- PST_CAD_OPC
  ⟨0x100058, 0, 1, [ro 0 32]⟩, -- PST_CAD_BASE
  ⟨0x10005C, 0, 1, [ro 0 16, ro 31 1]⟩, -- PST_CAD_REC
  ⟨0x100060, 0, 1, [ro 0 32]⟩] -- PST_CAD_KIB

/-- Block JNL at offset 0x200000 of the strand window (05_journal_twin.md; R198, R199, R200, R201). -/
def st_JNL : List RegDef := [
  ⟨0x200000, 0, 1, [fd 0 1 .l .rw .cht 1 .id, fd 1 1 .b .rw .cht 0 .id, ro 2 1]⟩, -- JNL_CTL
  ⟨0x200004, 0, 1, [ro 0 1, ro 1 1, ro 2 1, ro 3 1, w1c 4 1, ro 5 1, ro 6 1, ro 7 1]⟩, -- JNL_STATUS
  ⟨0x200008, 0, 1, [fd 0 32 .none .ro .ret 0 .id]⟩, -- JNL_ENTRY_LO
  ⟨0x20000C, 0, 1, [fd 0 32 .none .ro .ret 0 .id]⟩, -- JNL_ENTRY_HI
  ⟨0x200010, 0, 1, [fd 0 32 .none .ro .ret 0 .id]⟩, -- JNL_SEQ_LO
  ⟨0x200014, 0, 1, [fd 0 32 .none .ro .ret 0 .id]⟩, -- JNL_SEQ_HI
  ⟨0x200018, 0, 1, [fd 0 32 .none .ro .ret 0 .id]⟩, -- JNL_ANCHOR_LO
  ⟨0x20001C, 0, 1, [fd 0 32 .none .ro .ret 0 .id]⟩, -- JNL_ANCHOR_HI
  ⟨0x200020, 0, 1, [ro 0 32]⟩, -- JNL_STORED_LO
  ⟨0x200024, 0, 1, [ro 0 32]⟩, -- JNL_STORED_HI
  ⟨0x200028, 0, 1, [ro 0 22]⟩, -- JNL_BUF_USED
  ⟨0x20002C, 0, 1, [ro 0 24, ro 24 7, ro 31 1]⟩, -- JNL_REPLAY_PROG
  ⟨0x200030, 0, 1, [ro 0 24, ro 24 7, ro 31 1]⟩, -- JNL_EXPORT_PROG
  ⟨0x200034, 0, 1, [w1c 0 1, ro 1 3, ro 16 16]⟩, -- JNL_ERR
  ⟨0x200038, 0, 1, [ro 0 32]⟩, -- JNL_ERR_INFO
  ⟨0x200040, 4, 8, [ro 0 32]⟩, -- JNL_HEAD
  ⟨0x200060, 4, 4, [ro 0 32]⟩, -- JNL_ID
  ⟨0x200070, 0, 1, [ro 0 32]⟩, -- JNL_TIME_LO
  ⟨0x200074, 0, 1, [ro 0 32]⟩] -- JNL_TIME_HI

/-- Block MIR at offset 0x300000 of the strand window (05_journal_twin.md; R201, R202, R203, R204, R205, R206, R207). -/
def st_MIR : List RegDef := [
  ⟨0x300000, 0, 1, [fd 0 1 .s .rw .cht 1 .id, fd 8 8 .l .rw .ret 2 (.zeroAs 2), fd 16 1 .l .rw .ret 0 .id]⟩, -- MIR_CTL
  ⟨0x300004, 0, 1, [fd 0 1 .l .rw .ret 0 .id]⟩, -- MIR_SOLO_POLICY
  ⟨0x300008, 0, 1, [ro 0 1, ro 1 2, ro 3 1, ro 4 1, ro 5 1, ro 6 1, ro 7 1, ro 8 5]⟩, -- MIR_STATUS
  ⟨0x30000C, 0, 1, [fd 0 1 .none .ro .ret 0 .id, fd 1 1 .s .rw .cht 0 .id]⟩, -- MIR_ROLE
  ⟨0x300010, 4, 4, [fd 0 32 .s .rw .cht 0 .id]⟩, -- MIR_TWIN_ID
  ⟨0x300020, 0, 1, [fd 0 32 .none .ro .ret 0 .id]⟩, -- MIR_ACKED_LO
  ⟨0x300024, 0, 1, [fd 0 32 .none .ro .ret 0 .id]⟩, -- MIR_ACKED_HI
  ⟨0x300028, 0, 1, [ro 0 32]⟩, -- MIR_FRAME_BAD
  ⟨0x30002C, 0, 1, [ro 0 32]⟩, -- MIR_BLOCK_ERR
  ⟨0x300030, 0, 1, [ro 0 32]⟩, -- MIR_CHAIN_NAK
  ⟨0x300034, 0, 1, [ro 0 32]⟩, -- MIR_LEASE_LOST
  ⟨0x300038, 0, 1, [ro 0 24, ro 24 7, ro 31 1]⟩, -- MIR_RESYNC_PROG
  ⟨0x30003C, 0, 1, [ro 0 4, ro 4 1, ro 8 24]⟩, -- MIR_RECON
  ⟨0x300040, 0, 1, [fd 0 32 .none .ro .ret 0 .id]⟩, -- MIR_EPOCH
  ⟨0x300044, 0, 1, [w1c 0 1, ro 1 3, ro 16 16]⟩] -- MIR_ERR

/-- Block ONX at offset 0x400000 of the strand window (06_key_vault.md; R246, R247, R248, R249, R250). -/
def st_ONX : List RegDef := [
  ⟨0x400000, 0, 1, [fd 0 1 .b .rw .cht 1 .id, ro 1 1, fd 2 1 .l .rw .ret 1 .id, fd 3 1 .l .rw .cht 1 .id, fd 16 11 .s .rw .cht 1024 (.aboveAs 1024 1024)]⟩, -- ONX_CTL
  ⟨0x400004, 0, 1, [ro 0 1, ro 1 1, ro 2 1, ro 3 1, ro 4 1]⟩, -- ONX_STATUS
  ⟨0x400008, 0, 1, [ro 0 17]⟩, -- ONX_CTX_FREE
  ⟨0x40000C, 0, 1, [ro 0 12]⟩, -- ONX_LARGE_FREE
  ⟨0x400010, 0, 1, [ro 0 11]⟩, -- ONX_PERSIST
  ⟨0x400014, 0, 1, [ro 0 9]⟩, -- ONX_STAGED
  ⟨0x400018, 0, 1, [fd 0 23 .none .ro .ret 0 .id]⟩, -- ONX_SPILL_NEXT
  ⟨0x40001C, 0, 1, [fd 0 23 .none .ro .ret 0 .id]⟩, -- ONX_SPILL_LIVE
  ⟨0x400020, 0, 1, [ro 0 32]⟩, -- ONX_REMASK
  ⟨0x400024, 0, 1, [ro 0 32]⟩, -- ONX_REMASK_LATE
  ⟨0x400028, 0, 1, [ro 0 32]⟩, -- ONX_EVICT
  ⟨0x40002C, 0, 1, [ro 0 32]⟩, -- ONX_DENIED
  ⟨0x400030, 0, 1, [ro 0 32]⟩, -- ONX_ABSENT
  ⟨0x400034, 0, 1, [w1c 0 1, ro 1 3, ro 16 16]⟩, -- ONX_ERR
  ⟨0x400038, 0, 1, [ro 0 16, ro 16 4]⟩, -- ONX_ERR_INFO
  ⟨0x40003C, 0, 1, [fd 0 32 .none .ro .ret 0 .id]⟩] -- ONX_WRAP_GEN

/-- Block TOP at offset 0x500000 of the strand window (07_cipher_hash.md; R275, R276, R277, R278). -/
def st_TOP : List RegDef := [
  ⟨0x500000, 0, 1, [fd 0 1 .l .rw .cht 1 .id, fd 1 1 .s .rw .cht 1 .id, fd 16 7 .b .rw .cht 25 (.aboveAs 50 50), ro 23 1]⟩, -- TOP_CTL
  ⟨0x500004, 0, 1, [ro 0 2, fd 4 2 .none .ro .lit 3 .id, fd 8 2 .none .ro .lit 3 .id, ro 12 1, ro 16 1]⟩, -- TOP_STATUS
  ⟨0x500008, 0, 1, [ro 0 32]⟩, -- TOP_JOBS
  ⟨0x50000C, 0, 1, [ro 0 32]⟩, -- TOP_AUTH_REC
  ⟨0x500010, 0, 1, [ro 0 32]⟩, -- TOP_AUTH_STREAM
  ⟨0x500014, 0, 1, [ro 0 32]⟩, -- TOP_EXHAUST
  ⟨0x500018, 0, 1, [ro 0 32]⟩, -- TOP_RESEED_LATE
  ⟨0x50001C, 0, 1, [w1c 0 1, ro 1 3, ro 16 16]⟩, -- TOP_ERR
  ⟨0x500020, 0, 1, [ro 0 16, ro 16 2, ro 20 4]⟩] -- TOP_ERR_INFO

/-- Block JAD at offset 0x600000 of the strand window (07_cipher_hash.md; R278, R279, R280, R281). -/
def st_JAD : List RegDef := [
  ⟨0x600000, 0, 1, [fd 0 1 .l .rw .cht 1 .id, fd 16 7 .b .rw .cht 25 (.aboveAs 50 50), ro 23 1]⟩, -- JAD_CTL
  ⟨0x600004, 0, 1, [ro 0 1, ro 1 1, ro 2 1]⟩, -- JAD_STATUS
  ⟨0x600008, 0, 1, [ro 0 32]⟩, -- JAD_JOBS
  ⟨0x60000C, 0, 1, [ro 0 32]⟩, -- JAD_VERIFY_FAIL
  ⟨0x600010, 0, 1, [w1c 0 1, ro 1 3, ro 16 16]⟩, -- JAD_ERR
  ⟨0x600014, 0, 1, [ro 0 16, ro 16 4, ro 20 4]⟩] -- JAD_ERR_INFO

/-- Block BER at offset 0x700000 of the strand window (08_bignum.md; R307, R308, R309, R310). -/
def st_BER : List RegDef := [
  ⟨0x700000, 0, 1, [fd 0 1 .l .rw .cht 1 .id, fd 8 5 .s .rw .cht 4 (.zeroAs 4), fd 16 7 .b .rw .cht 25 (.aboveAs 50 50), ro 23 1]⟩, -- BER_CTL
  ⟨0x700004, 0, 1, [ro 0 3, ro 8 5, fd 16 3 .none .ro .lit 7 .id, ro 20 1]⟩, -- BER_STATUS
  ⟨0x700008, 0, 1, [ro 0 32]⟩, -- BER_JOBS
  ⟨0x70000C, 0, 1, [ro 0 32]⟩, -- BER_INV_FAIL
  ⟨0x700010, 0, 1, [ro 0 32]⟩, -- BER_POINT_BAD
  ⟨0x700014, 0, 1, [ro 0 32]⟩, -- BER_WIPES
  ⟨0x700018, 0, 1, [ro 0 32]⟩, -- BER_ENT_WAIT
  ⟨0x70001C, 0, 1, [w1c 0 1, ro 1 3, ro 16 16]⟩, -- BER_ERR
  ⟨0x700020, 0, 1, [ro 0 16, ro 16 3, ro 20 4]⟩, -- BER_ERR_INFO
  ⟨0x700040, 4, 5, [ro 0 24, ro 24 7, ro 31 1]⟩] -- BER_PROG

/-- Block QTZ at offset 0x800000 of the strand window (09_entropy.md; R323, R324, R325, R326, R327). -/
def st_QTZ : List RegDef := [
  ⟨0x800000, 0, 1, [fd 0 1 .s .rw .cht 0 .id, fd 1 1 .l .rw .cht 1 .id, fd 4 4 .s .rw .cht 15 (.zeroAs 15)]⟩, -- QTZ_CTL
  ⟨0x800004, 0, 1, [ro 0 1, w1c 1 1, ro 2 1, ro 3 1, ro 4 13]⟩, -- QTZ_STATUS
  ⟨0x800008, 0, 1, [ro 0 32]⟩, -- QTZ_DATA
  ⟨0x80000C, 0, 1, [ro 0 32]⟩, -- QTZ_FAIL_COUNT
  ⟨0x800010, 4, 4, [ro 0 16, ro 16 16]⟩, -- QTZ_FAIL_SRC
  ⟨0x800020, 0, 1, [fd 0 8 .s .rw .cht 41 (.outside 8 255 41), fd 16 11 .s .rw .cht 640 (.outside 513 1024 640)]⟩, -- QTZ_TEST
  ⟨0x800024, 0, 1, [fd 0 32 .s .rw .cht 0 .id]⟩, -- QTZ_GATE
  ⟨0x800028, 0, 1, [fd 0 16 .none .wo .lit 0 .id]⟩] -- QTZ_FAIL_CLR

/-- Block GAR at offset 0x900000 of the strand window (12_garnet.md; R420, R421, R422, R423, R424, R425). -/
def st_GAR : List RegDef := [
  ⟨0x900000, 0, 1, [ro 0 8, fd 8 8 .none .ro .lit 1 .id, fd 16 8 .none .ro .lit 1 .id]⟩, -- GAR_ID
  ⟨0x900004, 0, 1, [fd 0 2 .b .rw .cht 0 .id, ro 2 1, fd 4 1 .s .rw .cht 1 .id, fd 8 2 .s .rw .cht 1 .id]⟩, -- GAR_CTL
  ⟨0x900008, 0, 1, [ro 0 4, fd 4 3 .none .ro .lit 7 .id, ro 8 1, ro 16 1]⟩, -- GAR_STATUS
  ⟨0x90000C, 0, 1, [fd 0 16 .none .ro .lit 30583 .id]⟩, -- GAR_MAP
  ⟨0x900010, 0, 1, [w1c 0 1, w1c 1 1, w1c 2 1]⟩, -- GAR_NMI_CAUSE
  ⟨0x900014, 0, 1, [fd 0 1 .none .w1c .ret 0 .id, fd 1 2 .none .ro .ret 0 .id, fd 4 3 .none .ro .ret 0 .id, fd 8 6 .none .ro .ret 0 .id, fd 14 2 .none .ro .ret 0 .id, fd 16 16 .none .ro .ret 0 .id]⟩, -- GAR_CHK
  ⟨0x900018, 0, 1, [fd 0 32 .none .ro .ret 0 .id]⟩, -- GAR_CHK_PC
  ⟨0x90001C, 0, 1, [w1c 0 1, ro 1 3, ro 4 3, ro 16 16]⟩, -- GAR_ERR
  ⟨0x900020, 0, 1, [ro 0 32]⟩, -- GAR_ERR_INFO
  ⟨0x900024, 0, 1, [ro 0 32]⟩, -- GAR_APPLET_REFUSED
  ⟨0x900040, 4, 5, [ro 0 16, ro 16 16]⟩] -- GAR_CE

/-- Block MPU at offset 0xA00000 of the strand window (13_memory_protection.md; R447, R448, R449). -/
def st_MPU : List RegDef := [
  ⟨0xA00000, 0, 1, [w1c 0 1, ro 1 2, ro 3 2, ro 5 3, ro 8 4, ro 16 16]⟩, -- MPU_VIOL
  ⟨0xA00004, 0, 1, [ro 0 32]⟩, -- MPU_VIOL_ADDR
  ⟨0xA00008, 0, 1, [ro 0 6, ro 8 8]⟩, -- MPU_VIOL_INFO
  ⟨0xA00010, 0, 1, [ro 0 32]⟩, -- MPU_SRAM_CE
  ⟨0xA00014, 0, 1, [ro 0 32]⟩, -- MPU_SRAM_UE
  ⟨0xA00018, 0, 1, [ro 0 32]⟩, -- MPU_BUS_CE
  ⟨0xA0001C, 0, 1, [ro 0 32]⟩, -- MPU_BUS_UE
  ⟨0xA00020, 0, 1, [ro 0 32]⟩, -- MPU_DUP_ERR
  ⟨0xA00024, 0, 1, [ro 0 32]⟩, -- MPU_PATROL
  ⟨0xA01000, 16, 128, [fd 5 27 .l .rw .lit 0 .id]⟩, -- MPU_BASE
  ⟨0xA01004, 16, 128, [fd 5 27 .l .rw .lit 0 .id]⟩, -- MPU_LIMIT
  ⟨0xA01008, 16, 128, [fd 0 3 .l .rw .lit 0 .id, fd 4 3 .l .rw .lit 0 .id, fd 8 3 .l .rw .lit 0 .id, fd 12 3 .l .rw .lit 0 .id, fd 16 1 .l .rw .lit 0 .id, fd 31 1 .l .rw .lit 0 .id]⟩] -- MPU_ATTR

/-- Block SL at offset 0xB00000 of the strand window (14_station_record.md; R490, R491, R492, R493, R494, R495, R496, R497, R498). -/
def st_SL : List RegDef := [
  ⟨0xB00000, 0, 1, [fd 0 2 .l .rw .cht 0 .id, fd 8 16 .l .rw .ret 1440 (.zeroAs 1440)]⟩, -- SL_CTL
  ⟨0xB00004, 0, 1, [ro 0 7, ro 8 7, ro 16 7]⟩, -- SL_STATUS
  ⟨0xB00008, 0, 1, [fd 0 32 .s .rw .cht 0 .id]⟩, -- SL_IDENT_CTX
  ⟨0xB0000C, 0, 1, [ro 0 32]⟩, -- SL_HS_COUNT
  ⟨0xB00010, 0, 1, [ro 0 32]⟩, -- SL_HS_FAIL
  ⟨0xB00014, 0, 1, [w1c 0 1, ro 1 3, ro 16 16]⟩, -- SL_ERR
  ⟨0xB00018, 0, 1, [ro 0 6]⟩, -- SL_ERR_INFO
  ⟨0xB01000, 32, 64, [fd 0 2 .s .rw .cht 0 (.aboveAs 2 0), fd 2 1 .s .rw .cht 0 .id, fd 3 1 .s .rw .cht 1 .id, fd 4 2 .s .rw .cht 0 (.aboveAs 2 0), fd 6 1 .s .rw .cht 0 .id, fd 7 1 .s .rw .cht 0 .id, fd 8 16 .s .rw .cht 0 .id, fd 24 8 .s .rw .cht 0 .id]⟩, -- SL_LINK_CFG
  ⟨0xB01004, 32, 64, [fd 0 2 .s .rw .cht 1 .id, fd 8 8 .s .rw .cht 13 .id, fd 16 12 .s .rw .cht 80 (.zeroAs 80)]⟩, -- SL_LINK_FMT
  ⟨0xB01008, 32, 64, [fd 0 16 .b .rw .ret 100 (.zeroAs 100), fd 16 8 .b .rw .ret 100 (.zeroAs 100), fd 24 4 .b .rw .ret 8 (.zeroAs 8), ro 28 1]⟩, -- SL_LINK_TIME
  ⟨0xB0100C, 32, 64, [fd 0 1 .l .rw .cht 1 .id, fd 1 1 .none .wo .lit 0 .id]⟩, -- SL_LINK_CTL
  ⟨0xB01010, 32, 64, [ro 0 3, w1c 3 1, ro 4 4, ro 8 8]⟩, -- SL_LINK_STAT
  ⟨0xB01014, 32, 64, [ro 0 32]⟩, -- SL_LINK_RX_OK
  ⟨0xB01018, 32, 64, [ro 0 32]⟩, -- SL_LINK_RX_BAD
  ⟨0xB0101C, 32, 64, [ro 0 32]⟩] -- SL_LINK_TX_OK

/-- Block RP and OPL at offset 0xC00000 of the strand window (14_station_record.md; R498, R499, R500, R501, R502). -/
def st_RP_OPL : List RegDef := [
  ⟨0xC00000, 0, 1, [fd 0 8 .s .rw .cht 0 .id, ro 8 1, fd 16 16 .b .rw .ret 100 (.zeroAs 100)]⟩, -- RP_CFG
  ⟨0xC00004, 0, 1, [fd 0 1 .l .rw .cht 1 .id, fd 4 2 .l .rw .cht 0 .id]⟩, -- RP_CTL
  ⟨0xC00008, 0, 1, [fd 0 1 .none .ro .lit 1 .id, ro 1 1, ro 2 1, w1c 3 1, ro 4 1]⟩, -- RP_STATUS
  ⟨0xC0000C, 0, 1, [ro 0 32]⟩, -- RP_TRANSFERS
  ⟨0xC00010, 0, 1, [ro 0 32]⟩, -- RP_ORPHAN
  ⟨0xC00014, 0, 1, [ro 0 16, ro 16 16]⟩, -- RP_ACKS
  ⟨0xC00020, 0, 1, [ro 0 14]⟩, -- OPL_LEVEL
  ⟨0xC00024, 0, 1, [fd 0 13 .l .rw .ret 6144 .id, fd 16 13 .l .rw .ret 2048 .id]⟩, -- OPL_WM
  ⟨0xC00028, 0, 1, [ro 0 32]⟩, -- OPL_CE
  ⟨0xC0002C, 0, 1, [ro 0 32]⟩, -- OPL_UE
  ⟨0xC00030, 0, 1, [ro 0 32]⟩, -- OPL_GAPS
  ⟨0xC00034, 0, 1, [ro 0 32]⟩] -- OPL_LOST

/-- Block JC at offset 0xD00000 of the strand window (15_cards.md; R524, R525, R526, R527). -/
def st_JC : List RegDef := [
  ⟨0xD00000, 0, 1, [fd 0 2 .l .rw .cht 0 .id, fd 4 3 .s .rw .cht 4 (.aboveAs 4 4), fd 8 8 .b .rw .ret 10 (.zeroAs 10), ro 16 1]⟩, -- JC_CTL
  ⟨0xD00004, 0, 1, [ro 0 1, ro 1 1, ro 2 1, ro 3 1, ro 4 3, ro 7 1, ro 8 1, w1c 9 1, ro 10 1, ro 11 1]⟩, -- JC_STATUS
  ⟨0xD00008, 0, 1, [ro 0 32]⟩, -- JC_WCOUNT
  ⟨0xD0000C, 0, 1, [ro 0 32]⟩, -- JC_ANCHORS
  ⟨0xD00010, 0, 1, [ro 0 5, ro 8 1]⟩, -- JC_UNCERTAIN
  ⟨0xD00014, 0, 1, [ro 0 32]⟩, -- JC_CRC_ERR
  ⟨0xD00018, 0, 1, [w1c 0 1, ro 1 3, ro 16 16]⟩, -- JC_ERR
  ⟨0xD0001C, 0, 1, [ro 0 32]⟩, -- JC_ERR_INFO
  ⟨0xD00020, 4, 4, [fd 0 32 .none .ro .ret 0 .id]⟩, -- JC_CARD_ID
  ⟨0xD00030, 0, 1, [fd 0 16 .none .ro .ret 0 .id]⟩] -- JC_PAIR

/-- Block CC at offset 0xE00000 of the strand window (15_cards.md; R527, R528, R529, R530). -/
def st_CC : List RegDef := [
  ⟨0xE00000, 0, 1, [fd 0 2 .l .rw .cht 0 .id, fd 4 3 .s .rw .cht 5 (.outside 1 5 5), fd 8 8 .l .rw .ret 10 (.zeroAs 10), fd 16 8 .l .rw .ret 30 (.zeroAs 30)]⟩, -- CC_CTL
  ⟨0xE00004, 0, 1, [ro 0 1, ro 1 2, ro 3 1, ro 4 1, ro 5 1]⟩, -- CC_STATUS
  ⟨0xE00008, 0, 1, [ro 0 32]⟩, -- CC_ORDER_NO
  ⟨0xE0000C, 0, 1, [ro 0 4, ro 8 4, ro 16 3]⟩, -- CC_APPROVALS
  ⟨0xE00010, 0, 1, [ro 0 32]⟩, -- CC_T1_RETRY
  ⟨0xE00014, 0, 1, [w1c 0 1, ro 1 3, ro 16 16]⟩, -- CC_ERR
  ⟨0xE00018, 0, 1, [ro 0 16, ro 16 8]⟩] -- CC_ERR_INFO

/-- Block AGT at offset 0xF00000 of the strand window (17_flash.md; R574, R575, R576, R577, R578, R579). -/
def st_AGT : List RegDef := [
  ⟨0xF00000, 0, 1, [fd 0 1 .l .rw .cht 1 .id, fd 8 2 .l .rw .cht 0 .id, fd 16 8 .l .rw .ret 60 (.zeroAs 60)]⟩, -- AGT_CTL
  ⟨0xF00004, 0, 1, [ro 0 1, ro 1 1, ro 2 1, w1c 3 1, ro 4 1, ro 5 1, ro 6 1, ro 7 1]⟩, -- AGT_STATUS
  ⟨0xF00008, 0, 1, [fd 0 4 .none .wo .lit 0 .id, fd 4 6 .none .wo .lit 0 .id]⟩, -- AGT_CMD
  ⟨0xF0000C, 0, 1, [fd 0 32 .l .rw .lit 0 .id]⟩, -- AGT_ADDR
  ⟨0xF00010, 0, 1, [fd 0 32 .l .rw .lit 0 .id]⟩, -- AGT_MASK_LO
  ⟨0xF00014, 0, 1, [fd 0 32 .l .rw .lit 0 .id]⟩, -- AGT_MASK_HI
  ⟨0xF00018, 0, 1, [ro 0 4, ro 4 6, ro 16 1, ro 17 3]⟩, -- AGT_RESULT
  ⟨0xF0001C, 0, 1, [ro 0 32]⟩, -- AGT_ERASE_AGE
  ⟨0xF00020, 0, 1, [ro 0 32]⟩, -- AGT_ERASE_SUSP
  ⟨0xF00024, 0, 1, [ro 0 14]⟩, -- AGT_INCOMPLETE
  ⟨0xF00028, 0, 1, [fd 0 10 .none .ro .ret 0 .id, fd 16 10 .none .ro .ret 0 .id]⟩, -- AGT_SPARE
  ⟨0xF0002C, 0, 1, [ro 0 32]⟩, -- AGT_CE
  ⟨0xF00030, 0, 1, [ro 0 32]⟩, -- AGT_UE
  ⟨0xF00034, 0, 1, [ro 0 24, ro 24 7, ro 31 1]⟩, -- AGT_SCRUB_PROG
  ⟨0xF00038, 0, 1, [fd 0 1 .l .rw .cht 1 .id, fd 8 8 .l .rw .ret 24 (.zeroAs 24), fd 16 8 .l .rw .ret 8 (.zeroAs 8)]⟩, -- AGT_SCRUB_CFG
  ⟨0xF0003C, 0, 1, [w1c 0 1, ro 1 3, ro 16 16]⟩, -- AGT_ERR
  ⟨0xF00040, 0, 1, [ro 0 16, ro 16 7, ro 23 6]⟩, -- AGT_ERR_INFO
  ⟨0xF00200, 4, 128, [fd 0 32 .none .rw .lit 0 .id]⟩] -- AGT_PBUF

/-- Block JSP at offset 0x1000000 of the strand window (18_sentinel.md; R603, R604, R605, R606, R607, R608, R609). -/
def st_JSP : List RegDef := [
  ⟨0x1000000, 0, 1, [fd 0 8 .s .rw .cht 0 .id, fd 8 8 .s .rw .cht 0 .id, fd 16 8 .l .rw .ret 10 (.zeroAs 10), fd 24 2 .l .rw .cht 0 .id]⟩, -- JSP_CTL
  ⟨0x1000004, 0, 1, [fd 0 1 .none .ro .ret 0 .id, ro 1 1, ro 2 1, ro 3 1, ro 4 1, ro 5 1, ro 6 1, ro 8 8]⟩, -- JSP_STATUS
  ⟨0x1000008, 0, 1, [ro 0 16]⟩, -- JSP_FUSE_OFF
  ⟨0x100000C, 0, 1, [ro 0 3, ro 8 8, ro 16 16]⟩, -- JSP_LAST
  ⟨0x1000010, 0, 1, [fd 0 1 .none .w1c .ret 0 .id, fd 1 3 .none .ro .ret 0 .id, fd 4 8 .none .ro .ret 0 .id, fd 12 2 .none .ro .ret 0 .id, fd 16 2 .none .ro .ret 0 .id]⟩, -- JSP_ERASE
  ⟨0x1000014, 0, 1, [fd 0 8 .none .wo .lit 0 .id, fd 8 2 .none .wo .lit 0 .id, fd 16 5 .none .wo .lit 0 .id, fd 24 8 .none .wo .lit 0 .id]⟩, -- JSP_INJECT
  ⟨0x1000018, 0, 1, [ro 0 12, ro 16 10, ro 31 1]⟩, -- JSP_CELL
  ⟨0x100001C, 0, 1, [fd 0 32 .none .ro .ret 0 .id]⟩, -- JSP_LOG_HEAD
  ⟨0x1000020, 0, 1, [fd 0 32 .l .rw .lit 0 .id]⟩, -- JSP_LOG_SEL
  ⟨0x1000024, 4, 8, [ro 0 32]⟩, -- JSP_LOG_DATA
  ⟨0x1000044, 0, 1, [w1c 0 1, ro 1 3, ro 16 16]⟩, -- JSP_ERR
  ⟨0x1000048, 0, 1, [ro 0 8, ro 8 8]⟩, -- JSP_ERR_INFO
  ⟨0x1000100, 8, 16, [fd 0 3 .s .rw .cht 0 .id, fd 4 3 .s .rw .cht 0 .id, fd 8 4 .s .rw .cht 0 .id, fd 12 16 .s .rw .cht 0 .id, fd 28 1 .s .rw .cht 0 .id]⟩, -- JSP_SRC_CFG
  ⟨0x1000104, 8, 16, [ro 0 16, ro 16 16]⟩] -- JSP_SRC_CNT

/-- Block ISL and HLT at offset 0x1100000 of the strand window (19_islands_health.md; R632, R633, R634, R635, R636, R637). -/
def st_ISL_HLT : List RegDef := [
  ⟨0x1100000, 0, 1, [fd 0 2 .l .rw .cht 0 .id]⟩, -- ISL_CTL
  ⟨0x1100004, 0, 1, [w1c 0 1, ro 1 1, ro 2 1]⟩, -- ISL_STATUS
  ⟨0x1100008, 0, 1, [ro 0 21]⟩, -- ISL_FENCED
  ⟨0x110000C, 0, 1, [ro 0 5, ro 8 5, ro 13 2, ro 15 1, ro 16 16]⟩, -- ISL_GRAD
  ⟨0x1100010, 0, 1, [w1c 0 1, ro 1 3, ro 16 16]⟩, -- ISL_ERR
  ⟨0x1100014, 0, 1, [ro 0 5, ro 8 8]⟩, -- ISL_ERR_INFO
  ⟨0x1100100, 16, 21, [ro 0 10, ro 16 10]⟩, -- ISL_SUP
  ⟨0x1100104, 16, 21, [ro 0 12, ro 16 12]⟩, -- ISL_CLK
  ⟨0x1100108, 16, 21, [ro 0 12]⟩, -- ISL_TEMP
  ⟨0x110010C, 16, 21, [fd 0 8 .none .ro .ret 0 .id, fd 8 3 .none .ro .ret 0 .id, fd 16 1 .none .ro .ret 0 .id, fd 17 1 .none .ro .ret 0 .id]⟩, -- ISL_AGE
  ⟨0x1100800, 0, 1, [fd 0 1 .l .rw .cht 1 .id, fd 8 8 .l .rw .ret 16 (.zeroAs 16), fd 16 5 .b .rw .cht 5 (.outside 3 20 5), ro 21 1]⟩, -- HLT_CTL
  ⟨0x1100804, 0, 1, [ro 0 1, ro 1 1, ro 2 1, ro 4 4, ro 8 8, ro 16 10]⟩, -- HLT_SPARE
  ⟨0x1100808, 0, 1, [fd 0 4 .none .wo .lit 0 .id, fd 4 5 .none .wo .lit 0 .id, fd 9 13 .none .wo .lit 0 .id, fd 24 8 .none .wo .lit 0 .id]⟩, -- HLT_SWAP
  ⟨0x110080C, 0, 1, [ro 0 3, ro 4 3, ro 8 5, ro 16 1, w1c 17 1]⟩, -- HLT_STATUS
  ⟨0x1100810, 0, 1, [ro 0 24, ro 24 7, ro 31 1]⟩, -- HLT_PROG
  ⟨0x1100814, 0, 1, [w1c 0 1, ro 1 3, ro 16 16]⟩] -- HLT_ERR

/-- Block SNP at offset 0x1200000 of the strand window (19_islands_health.md; R637, R638, R639). -/
def st_SNP : List RegDef := [
  ⟨0x1200000, 0, 1, [fd 0 1 .s .rw .cht 1 .id, fd 1 3 .l .rw .cht 7 .id, fd 8 6 .l .rw .cht 0 .id, fd 16 2 .l .rw .cht 0 .id]⟩, -- SNP_CTL
  ⟨0x1200004, 0, 1, [fd 0 1 .none .wo .lit 0 .id, fd 1 1 .none .wo .lit 0 .id]⟩, -- SNP_CMD
  ⟨0x1200008, 0, 1, [ro 0 1, w1c 1 1, ro 2 3, ro 8 8, ro 16 16]⟩, -- SNP_STATUS
  ⟨0x120000C, 0, 1, [ro 0 21, ro 24 3]⟩, -- SNP_ABSENT
  ⟨0x1200010, 0, 1, [fd 0 5 .l .rw .lit 0 .id, fd 8 8 .l .rw .lit 0 .id, fd 16 16 .l .rw .lit 0 .id]⟩, -- SNP_SEL
  ⟨0x1200014, 0, 1, [ro 0 32]⟩, -- SNP_CYC_LO
  ⟨0x1200018, 0, 1, [ro 0 32]⟩, -- SNP_CYC_HI
  ⟨0x1200040, 4, 16, [ro 0 32]⟩] -- SNP_DATA

/-- Block HQ at offset 0x0 of the ring window (10_host_queues.md; R357, R358, R359, R360, R361, R362, R363, R364, R365, R366). -/
def rg_HQ : List RegDef := [
  ⟨0x0, 0, 1, [fd 0 1 .l .rw .cht 1 .id, fd 8 8 .l .rw .ret 100 (.zeroAs 100), fd 16 1 .l .rw .cht 1 .id]⟩, -- HQ_CTL
  ⟨0x4, 0, 1, [ro 0 1, ro 1 3, ro 4 4, ro 8 4]⟩, -- HQ_STATUS
  ⟨0x10, 4, 4, [ro 0 32]⟩, -- HQ_TAKEN
  ⟨0x20, 4, 4, [ro 0 32]⟩, -- HQ_LATE
  ⟨0x30, 4, 4, [ro 0 32]⟩, -- HQ_DISCARD
  ⟨0x40, 4, 4, [ro 0 32]⟩, -- HQ_LOST
  ⟨0x50, 0, 1, [w1c 0 1, ro 1 3, ro 16 16]⟩, -- HQ_ERR
  ⟨0x54, 0, 1, [ro 0 12, ro 12 1, ro 16 8]⟩, -- HQ_ERR_INFO
  ⟨0x10000, 32, 4096, [fd 12 20 .l .rw .lit 0 .id]⟩, -- HQ_SQ_BASE_LO
  ⟨0x10004, 32, 4096, [fd 0 32 .l .rw .lit 0 .id]⟩, -- HQ_SQ_BASE_HI
  ⟨0x10008, 32, 4096, [fd 0 5 .l .rw .lit 0 .id, fd 8 8 .l .rw .lit 0 .id, fd 16 2 .l .rw .lit 0 .id, fd 20 10 .l .rw .lit 0 .id, fd 31 1 .l .rw .lit 0 .id]⟩, -- HQ_SQ_CFG
  ⟨0x1000C, 32, 4096, [fd 0 8 .l .rw .lit 1 (.zeroAs 1), fd 8 7 .l .rw .lit 1 (.zeroAbove 64 1)]⟩, -- HQ_SQ_SCHED
  ⟨0x10010, 32, 4096, [fd 0 1 .none .rw .lit 0 .id, fd 1 1 .none .w1s .lit 0 .id]⟩, -- HQ_SQ_CTL
  ⟨0x10014, 32, 4096, [ro 0 2, ro 2 1, ro 3 1, ro 4 1, w1c 5 1, ro 8 5, ro 16 16]⟩, -- HQ_SQ_STATUS
  ⟨0x10018, 32, 4096, [fd 3 29 .l .rw .lit 0 .id]⟩, -- HQ_SQ_HPUB_LO
  ⟨0x1001C, 32, 4096, [fd 0 32 .l .rw .lit 0 .id]⟩, -- HQ_SQ_HPUB_HI
  ⟨0x30000, 32, 4096, [fd 12 20 .l .rw .lit 0 .id]⟩, -- HQ_CQ_BASE_LO
  ⟨0x30004, 32, 4096, [fd 0 32 .l .rw .lit 0 .id]⟩, -- HQ_CQ_BASE_HI
  ⟨0x30008, 32, 4096, [fd 0 5 .l .rw .lit 0 .id, fd 8 8 .l .rw .lit 0 .id, fd 16 6 .l .rw .lit 0 .id, fd 31 1 .l .rw .lit 0 .id]⟩, -- HQ_CQ_CFG
  ⟨0x3000C, 32, 4096, [fd 0 8 .l .rw .lit 0 .id, fd 16 8 .l .rw .lit 0 .id]⟩, -- HQ_CQ_INTR
  ⟨0x30010, 32, 4096, [fd 0 1 .none .rw .lit 0 .id, fd 1 1 .none .rw .lit 0 .id]⟩, -- HQ_CQ_CTL
  ⟨0x30014, 32, 4096, [ro 0 1, w1c 1 1, ro 2 1, w1c 3 1, ro 16 16]⟩, -- HQ_CQ_STATUS
  ⟨0x30018, 32, 4096, [ro 0 17]⟩, -- HQ_CQ_USE
  ⟨0x3001C, 32, 4096, [ro 0 16]⟩] -- HQ_CQ_HEAD

/-- Block VF at offset 0x100000 of the ring window (11_functions.md; R389, R390, R391, R392). -/
def rg_VF : List RegDef := [
  ⟨0x100000, 0, 1, [fd 0 9 .none .ro .lit 1 .id, ro 16 1]⟩, -- VF_STATUS
  ⟨0x100004, 0, 1, [w1c 0 1, ro 1 3, ro 16 16]⟩, -- VF_ERR
  ⟨0x100008, 0, 1, [ro 0 8, ro 8 8, ro 16 8]⟩, -- VF_ERR_INFO
  ⟨0x101000, 64, 249, [ro 0 4, fd 8 8 .none .ro .lit 1 .id, ro 16 2, ro 24 1]⟩, -- VF_STATE
  ⟨0x101004, 64, 249, [ro 0 10, ro 16 11]⟩, -- VF_POOL_Q
  ⟨0x101008, 64, 249, [ro 0 17]⟩, -- VF_POOL_CTX
  ⟨0x10100C, 64, 249, [ro 0 12]⟩, -- VF_POOL_LARGE
  ⟨0x101010, 64, 249, [ro 0 12, ro 16 12]⟩, -- VF_POOL_SUB
  ⟨0x101014, 64, 249, [fd 0 8 .l .rw .lit 1 (.zeroAs 1), fd 8 8 .l .rw .lit 1 (.zeroAs 1), fd 16 8 .l .rw .lit 1 (.zeroAs 1)]⟩, -- VF_WEIGHT
  ⟨0x101018, 64, 249, [ro 0 17, ro 20 12]⟩, -- VF_USE
  ⟨0x10101C, 64, 249, [ro 0 16, ro 16 16]⟩, -- VF_INFLIGHT
  ⟨0x101020, 64, 249, [ro 0 24, ro 24 7, ro 31 1]⟩, -- VF_PROG
  ⟨0x101024, 64, 249, [ro 0 32]⟩] -- VF_BYTES

/-- Block TAG at offset 0x200000 of the ring window (16_tag.md; R551, R552, R553, R554). -/
def rg_TAG : List RegDef := [
  ⟨0x200000, 0, 1, [fd 0 1 .s .rw .cht 1 .id, fd 1 1 .l .rw .cht 1 .id, fd 2 1 .l .rw .cht 0 .id, fd 4 2 .l .rw .cht 0 .id, fd 8 2 .l .rw .cht 0 .id]⟩, -- TAG_CTL
  ⟨0x200004, 0, 1, [ro 0 1, ro 1 1, ro 2 1, w1c 3 1, ro 4 1, ro 5 1, ro 6 1]⟩, -- TAG_STATUS
  ⟨0x200008, 0, 1, [fd 0 8 .l .rw .lit 0 .id]⟩, -- TAG_ADDR
  ⟨0x20000C, 0, 1, [fd 0 2 .none .wo .lit 0 .id]⟩, -- TAG_CMD
  ⟨0x200010, 4, 4, [fd 0 32 .none .rw .lit 0 .id]⟩, -- TAG_WDATA
  ⟨0x200020, 4, 4, [ro 0 32]⟩, -- TAG_RDATA
  ⟨0x200030, 0, 1, [ro 0 32]⟩, -- TAG_FIELD_CMDS
  ⟨0x200034, 0, 1, [ro 0 32]⟩, -- TAG_BUSY_COUNT
  ⟨0x200038, 0, 1, [w1c 0 1, ro 1 3, ro 16 16]⟩, -- TAG_ERR
  ⟨0x20003C, 0, 1, [ro 0 8]⟩, -- TAG_ERR_INFO
  ⟨0x200040, 4, 8, [fd 0 32 .none .wo .lit 0 .id]⟩, -- TAG_SECRET
  ⟨0x200060, 0, 1, [fd 0 8 .none .wo .lit 0 .id]⟩, -- TAG_SECRET_CTL
  ⟨0x200064, 0, 1, [fd 0 8 .none .wo .lit 0 .id]⟩, -- TAG_KILL
  ⟨0x200070, 4, 3, [ro 0 32]⟩] -- TAG_UID

/-- Block RNG at offset 0x300000 of the ring window (02_charter_startup.md; R63, R65, R66, R640). -/
def rg_RNG : List RegDef := [
  ⟨0x300000, 0, 1, [fd 0 3 .none .ro .lit 1 .id, fd 4 3 .none .ro .lit 1 .id, fd 8 3 .none .ro .lit 1 .id, fd 12 3 .none .ro .lit 1 .id, ro 16 4, fd 24 3 .none .ro .lit 1 .id, ro 28 3]⟩, -- RNG_MODE_SUM
  ⟨0x300004, 0, 1, [ro 0 2, ro 2 1, w1c 3 1, ro 4 2]⟩, -- RNG_STATUS
  ⟨0x300008, 0, 1, [ro 0 16]⟩, -- RNG_ERASE_WIRES
  ⟨0x300010, 0, 1, [ro 0 12]⟩, -- RNG_SUP_CORE
  ⟨0x300014, 0, 1, [ro 0 12]⟩, -- RNG_SUP_SERDES
  ⟨0x300018, 0, 1, [ro 0 12]⟩, -- RNG_SUP_IO18
  ⟨0x30001C, 0, 1, [ro 0 12]⟩, -- RNG_SUP_IO33
  ⟨0x300020, 0, 1, [ro 0 12]⟩, -- RNG_SUP_VBAT
  ⟨0x300024, 0, 1, [ro 0 32]⟩, -- RNG_SUP_GLITCH
  ⟨0x300040, 0, 1, [fd 0 4 .none .wo .lit 0 .id, ro 4 4, ro 8 4, fd 24 8 .none .wo .lit 0 .id]⟩] -- RNG_SNAP

/-- The blocks of a strand window, R428. -/
def strandBlock : Nat → List RegDef
  | 0 => st_CHT
  | 1 => st_PST
  | 2 => st_JNL
  | 3 => st_MIR
  | 4 => st_ONX
  | 5 => st_TOP
  | 6 => st_JAD
  | 7 => st_BER
  | 8 => st_QTZ
  | 9 => st_GAR
  | 10 => st_MPU
  | 11 => st_SL
  | 12 => st_RP_OPL
  | 13 => st_JC
  | 14 => st_CC
  | 15 => st_AGT
  | 16 => st_JSP
  | 17 => st_ISL_HLT
  | 18 => st_SNP
  | _ => []

/-- The blocks of the ring window, R427. -/
def ringBlock : Nat → List RegDef
  | 0 => rg_HQ
  | 1 => rg_VF
  | 2 => rg_TAG
  | 3 => rg_RNG
  | _ => []

/-- The register that covers window offset `o` of a strand window, if its chapter lists one there (R429). -/
def strandReg (o : Nat) : Option RegDef := (strandBlock (o / 0x100000)).find? (·.covers o)

/-- The register that covers window offset `o` of the ring window, if its chapter lists one there (R429). -/
def ringReg (o : Nat) : Option RegDef := (ringBlock (o / 0x100000)).find? (·.covers o)

end Sys2Proof.Machine.RegMap
end

