-- ==== Sys2Proof/Machine/Types.lean ====
section
/-! DEFINITION. The parts of the machine's state, chapter by chapter: plain records that State.lean puts together. -/

namespace Sys2Proof.Machine
open Sys2Proof

/-! ### Charter, start-up, modes and life-cycle -/

/-- One entry of a FIELDS or RING section, R43, R55, R356. -/
structure FieldEntry where
  off : Nat
  val : Nat
  mask : Nat
  deriving DecidableEq, Repr

/-- One entry of the CADENCE section, R144. -/
structure CadEntry where
  lo : Nat
  hi : Nat
  exempt : Bool
  perRecord : Nat
  base : Nat
  perKib : Nat
  deriving DecidableEq, Repr

/-- A staged Boundary value, R12. -/
structure Staged where
  off : Nat
  lo : Nat
  val : Nat
  deriving DecidableEq, Repr

/-- The charter memory of a strand, R40, R49, R50: whether it answers, whether it declares the octal read, and the two
image slots. -/
structure CharterMem where
  present : Bool := false
  octal : Bool := false
  slotA : Bytes := []
  slotB : Bytes := []
  deriving DecidableEq, Repr

/-- A mode transition that waits for its repeated doubled decision, R60. -/
inductive Decision where
  | admission | thaw | service | ceremonyClose | returnOrder | reprovision | ownership | scrap | returned
  deriving DecidableEq, Repr

/-- The life-cycle fuses, R67: three copies of six bits. -/
structure LifeFuses where
  a : Nat := 0
  b : Nat := 0
  c : Nat := 0
  deriving DecidableEq, Repr

/-! ### Posting -/

/-- Batch phases, R100. -/
inductive BPhase where
  | checking | aborted | committed | sealed | released
  deriving DecidableEq, Repr

/-- A failed check with its place in the order of R97: stage, record place (0 the header, record i is i + 1), rank of
the status in the stage's row, and the fields of the detail word R98. -/
structure Fail where
  stage : Nat
  place : Nat
  rank : Nat
  status : Nat
  slot : Nat
  batch : Bool
  deriving DecidableEq, Repr

/-- One currency slot with its two accumulators, R101, R102. -/
structure CurSlot where
  ccy : Bytes
  exp : Nat
  debit : Nat
  credit : Nat
  deriving DecidableEq, Repr

/-- The reservation of approval uses by a batch in CHECKING, R107: the entry by its number in the table. -/
structure Reserved where
  app : Nat
  uses : Nat
  deriving DecidableEq, Repr

/-- A relayed batch as Spinel closes it, R480, R485: its source (1 record port, 2 station), the link, the station's BATCH_NO,
the header and records, the rejected record with its status, and the moment it closed. -/
structure Relay where
  source : Nat
  link : Nat
  batchNo : Nat
  header : Bytes
  recs : List Bytes
  cause : Option (Nat × Nat)
  closedAt : Nat
  held : Bool := false
  deriving DecidableEq, Repr

/-- What waits for a RELAY_BUFFER, in the order in which each began to wait, R110, R486. -/
inductive Wait where
  | notice (ref : Bytes) (station : Nat)
  | relay (r : Relay)
  deriving DecidableEq, Repr

/-- A batch past intake, R95, R100: `fault` the stage of an internal fault before commit (R127), `counts` the vault's refusals on its behalf,
which show at its completion (R136), `dead` that its strand lost the journal to its twin (R187). -/
structure Batch where
  order : Nat
  job : Job
  relay : Option Relay
  check : Bool
  header : Bytes
  recs : List Bytes
  authz : Bool
  sealAlg : Nat
  sealCtx : Nat
  spec : Bool
  phase : BPhase := .checking
  mac : Option Bytes := none
  parsed : Nat := 0
  fails : List Fail := []
  cur : List CurSlot := []
  lastSeq : Nat := 0
  reserved : List Reserved := []
  slot : Option Nat := none
  abandoned : Bool := false
  iv : Bytes := []
  prep : Option Nat := none
  prepEng : Nat := 0
  decision : Option Nat := none
  commitAt : Nat := 0
  firstSeq : Nat := 0
  entryNo : Nat := 0
  head : Bytes := []
  sig : Bytes := []
  ended : Bool := false
  posted : Bool := false
  berJobs : Nat := 0
  berWipes : Nat := 0
  fault : Option Nat := none
  counts : List (Fld × Nat) := []
  dead : Bool := false
  deriving DecidableEq, Repr

/-- An approval table entry, R105, R106: its number in the order of arrival; `removed` while only reservations keep it; the notice while it
waits, R110. -/
structure Approval where
  num : Nat := 0
  ref : Bytes
  station : Nat
  ccy : Bytes
  limit : Nat
  uses : Nat
  expiry : Nat
  live : Bool := false
  removed : Bool := false
  notice : Option Bytes := none
  deriving DecidableEq, Repr

/-- A quarantine slot, R130, R132: its holder, the mask register while it holds one, when the zeroing under way ends, and whether the
slot returns to the free pool then, its batch having completed. Its content stands in the quarantine area. -/
structure QSlot where
  num : Nat
  order : Nat
  mask : Option (BitVec 128)
  zeroAt : Option Nat := none
  free : Bool := false
  deriving DecidableEq, Repr

/-- The posting engine of a strand. -/
structure Post where
  waiting : List (Job × Option Relay) := []
  batches : List Batch := []
  nextOrder : Nat := 0
  parseDone : Nat := 0
  approvals : List Approval := []
  nextApproval : Nat := 0
  slots : List QSlot := []
  buffers : List Job := []
  waits : List Wait := []
  cad : List CadEntry := []
  cadAbsent : Bool := true
  deriving DecidableEq, Repr

/-- A job whose outcome is known and whose completion waits for its time, R148. `after` names the batch whose Parse must
finish before the origin is known, R142; `counts` are the activity counters that advance at the completion, R136, R275. -/
structure Done where
  job : Job
  records : Nat
  status : Nat
  resLen : Nat
  detail : Nat
  ended : Nat
  due : Nat
  after : Option Nat := none
  counts : List (Fld × Nat) := []
  deriving DecidableEq, Repr

/-! ### Journal and mirror -/

/-- A journal entry: its head of R163, and its totals block and records; a head-only entry has no body, R170. -/
structure Entry where
  head : Bytes
  body : Option Bytes
  deriving DecidableEq, Repr

/-- The head of a journal: JOURNAL_ID, ENTRY_NO and J, R678. -/
structure JHead where
  id : Bytes := List.replicate 16 0
  no : Nat := 0
  j : Bytes := List.replicate 32 0
  deriving DecidableEq, Repr

/-- The journal state of R170. -/
structure JState where
  isOpen : Bool := false
  cur : JHead := {}
  seq : Nat := 0
  time : Nat := 0
  epoch : Nat := 0
  role : Option Bool := none
  pred : JHead := {}
  marks : List (Nat × Nat) := []
  raised : List (Nat × Nat) := []
  deriving DecidableEq, Repr

/-- An entry in the host journal store: number, offset, length, superseded copy; `old` where it no longer belongs to the live chain
(of a journal that has ended, or since superseded). -/
structure StoreEnt where
  no : Nat
  off : Nat
  len : Nat
  sup : Bool
  old : Bool := false
  deriving DecidableEq, Repr

/-- An entry of a journal that has ended, R678, while R166 keeps it in the buffer: whether the host store and the card still lack it. -/
structure OldEnt where
  e : Entry
  store : Bool
  card : Bool
  deriving DecidableEq, Repr

/-- Where the strand's own knowledge of the chain begins: the head adopted from the twin, R186, with its LAST_SEQ and DEVICE_TIME. -/
structure JBase where
  no : Nat := 0
  j : Bytes := []
  seq : Nat := 0
  time : Nat := 0
  deriving DecidableEq, Repr

/-- A superseded entry, R187: whether the host store holds its copy and whether JNL_SUPERSEDED has returned it. -/
structure SupEnt where
  e : Entry
  stored : Bool := false
  returned : Bool := false
  deriving DecidableEq, Repr

/-- The host journal store, R167: ring base and length, pointer address, the offset space is freed up to, and the bytes in
use from there. -/
structure Store where
  base : Nat
  len : Nat
  ptr : Nat
  free : Nat := 0
  used : Nat := 0
  ents : List StoreEnt := []
  deriving DecidableEq, Repr

/-- The journal of a strand: its state, the receipt index (heads of the live chain), the journal buffer, the numbers that
wait for the host store, head-only entries, superseded entries, the last entry acknowledged, the last head
on the card, a rollover in progress; where its index begins, and the entries of ended journals that are still held. -/
structure Jnl where
  s : JState := {}
  base : JBase := {}
  old : List OldEnt := []
  index : List Entry := []
  buf : List Entry := []
  storeQ : List Nat := []
  headOnly : List Nat := []
  sup : List SupEnt := []
  store : Option Store := none
  acked : Nat := 0
  headNo : Nat := 0
  anchorNo : Nat := 0
  takeover : Bool := false
  ckptAt : Nat := 0
  rolling : Option Job := none
  deriving DecidableEq, Repr

/-- The twin's HEAD frame, R175. -/
structure TwinHead where
  cur : JHead
  seq : Nat
  epoch : Nat
  writer : Bool
  firstSolo : Nat
  firstHeadOnly : Nat
  pred : JHead
  isOpen : Bool
  deriving DecidableEq, Repr

/-- A MARKS frame that waits for its MARKS_ACK, R192: payload, when it was sent, the function whose restore it serves. -/
structure MarksFrame where
  payload : Bytes
  sentAt : Nat
  fn : Nat
  deriving DecidableEq, Repr

/-- Steps of pairing, R178; `refused` is the ROLE_CONFLICT of R179. -/
inductive MirStep where
  | down | trained | hello | attest | agree | copying | paired | refused
  deriving DecidableEq, Repr

/-- The line coder of a Gulsis link, R171: the lane that the next block goes to, each lane's scrambler and its blocks since the last ALIGN. -/
structure Coder where
  lane : Nat := 0
  scr0 : BitVec 58 := 0
  scr1 : BitVec 58 := 0
  since0 : Nat := 0
  since1 : Nat := 0
  deriving DecidableEq, Repr

/-- The mirror link of a strand, R171 to R189; `conflict` from a ROLE_CONFLICT until a pairing completes, R179. -/
structure Mir where
  step : MirStep := .down
  helloTx : Bytes := []
  helloRx : Bytes := []
  eph : Bytes := []
  keyTx : Option Nat := none
  keyRx : Option Nat := none
  txCtr : Nat := 0
  rxCtr : Nat := 0
  fails : Nat := 0
  retryAt : Option Nat := none
  lastTx : Nat := 0
  lastRx : Nat := 0
  leaseAt : Option Nat := none
  leaseTx : Nat := 0
  leaseNo : Nat := 0
  lostAt : Option Nat := none
  twin : Option TwinHead := none
  agree : Option Nat := none
  search : Nat := 0
  peerMax : Nat := 0
  sentAt : Nat := 0
  resend : Option (Nat × Nat) := none
  nakAt : Option Nat := none
  roll : Option (Bytes × Nat) := none
  marks : List MarksFrame := []
  swap : Option Job := none
  swapSent : Bool := false
  copyTo : Option Nat := none
  copyLen : Nat := 0
  copyDone : Nat := 0
  keep : Option Bool := none
  conflict : Bool := false
  coder : Coder := {}
  deriving DecidableEq, Repr

/-! ### What goes out -/

/-- The interfaces on which a strand sends. -/
inductive Port where
  | gulsis | station (l : Nat) | recordPort | journalCard | custodianCard
  deriving DecidableEq, Repr

/-- One transmission: a frame, a character, a pulse or a command, with its type code, its clear content, and for a link that protects
its frames the frame as it stands on the wire (log entry 13). -/
structure Sent where
  port : Port
  kind : Nat
  data : Bytes
  wire : Bytes := []
  deriving DecidableEq, Repr

/-! ### Station links, record port, Spinel -/

/-- A binding of the STATION_ROOTS section, R460. -/
structure Bind where
  link : Nat
  roots : Nat
  pinCtx : Nat
  verifyCtx : Nat
  station : Nat
  deriving DecidableEq, Repr

/-- The STATION_ROOTS section. -/
structure Stations where
  roots : List Bytes := []
  binds : List Bind := []
  deny : List Nat := []
  deriving DecidableEq, Repr

/-- Link states, R469, R497; `off` is a link that has not begun since the strand serves: OFF, PLAIN or DOWN by its mode. -/
inductive LinkSt where
  | off | handshake | live | backoff | failed
  deriving DecidableEq, Repr

/-- A station link: handshake data, session contexts and counters, back-off, waiting host jobs and notices. -/
structure Link where
  num : Nat
  st : LinkSt := .off
  bad : Bool := false
  hello : Bytes := []
  eph : Bytes := []
  finishSent : Bool := false
  hsAt : Nat := 0
  d2s : Option Nat := none
  s2d : Option Nat := none
  poll : Option Nat := none
  txCtr : Nat := 0
  rxCtr : Nat := 0
  liveAt : Nat := 0
  stationId : Nat := 0
  notAfter : Nat := 0
  b : Nat := 10000000
  bNext : Nat := 10000000
  backAt : Nat := 0
  polled : Option Nat := none
  misses : Nat := 0
  nextPoll : Nat := 0
  receives : List Job := []
  sends : List Job := []
  notices : List Bytes := []
  plain : List Bytes := []
  deriving DecidableEq, Repr

/-- A format of the FABRIC section, R484. -/
structure Fmt where
  id : Nat
  sources : Nat
  pathMode : Nat
  close : Nat
  count : Nat
  idle : Nat
  authz : Nat
  extra : Bytes
  deriving DecidableEq, Repr

/-- A declaration of the FABRIC section, R483. -/
structure Decl where
  major : Nat
  fn11 : Nat
  cycles : Nat
  deriving DecidableEq, Repr

/-- A batch that Spinel is forming: its source (none: the record port; else the link), format, station BATCH_NO, records,
the first rejected record, and when the last record came. -/
structure Forming where
  link : Option Nat
  fmt : Nat
  batchNo : Nat
  recs : List Bytes
  count : Nat
  cause : Option (Nat × Nat)
  lastAt : Nat
  closing : Bool := false
  deriving DecidableEq, Repr

/-- A record waiting for Spinel: its source, format and BATCH_NO, raw bytes, the fault it met, whether it ends its batch. -/
structure RawRec where
  link : Option Nat
  fmt : Nat
  batchNo : Nat
  data : Bytes
  fault : Nat
  last : Bool
  deriving DecidableEq, Repr

/-- A slot of the Opal queue, R476. -/
structure OSlot where
  data : Nat
  sor : Bool
  half : Bool
  perr : Bool
  gap : Bool
  eor : Bool := false
  deriving DecidableEq, Repr

/-- Spinel and the Opal queue of a strand. -/
structure Fabric where
  fmts : List Fmt := []
  decls : List Decl := []
  forming : List Forming := []
  raw : List RawRec := []
  running : Nat := 0
  plainRun : List (Nat × Nat) := []
  seqs : List (Nat × Nat) := []
  queue : List OSlot := []
  lowHalf : Option OSlot := none
  lastStb : Nat := 0
  recOpen : Bool := false
  hold : Bool := false
  deriving DecidableEq, Repr

/-! ### Cards -/

/-- An extent of uncertain sectors, R513. -/
structure Extent where
  first : Nat
  count : Nat
  deriving DecidableEq, Repr

/-- The journal-card slot: debounce, whether the card awaits the end of its initialisation, the CARD_ID and sector count met at
the last one, the contexts of the pairing keys, UNCERTAIN extents, the WCOUNT and entry of an UNCERTAIN anchor write, the
ring length of R511, when tuning is due. -/
structure Jc where
  inserted : Bool := false
  debounceAt : Option Nat := none
  awaitInit : Bool := false
  cardId : Bytes := []
  sectors : Nat := 0
  kMac : Option Nat := none
  kX1 : Option Nat := none
  kX2 : Option Nat := none
  extents : List Extent := []
  anchorUnc : Option (Nat × Nat) := none
  ringLen : Nat := 0
  missed : List Nat := []
  retuneAt : Nat := 0
  deriving DecidableEq, Repr

/-- A rule of the QUORUM section, R517. -/
structure Rule where
  order : Nat
  m : Nat
  groups : Nat
  deriving DecidableEq, Repr

/-- The QUORUM section, R517. -/
structure Quorum where
  roots : List Bytes := []
  rules : List Rule := []
  deny : List Nat := []
  kek : Option Nat := none
  deriving DecidableEq, Repr

/-- The order slot, R521. -/
structure Order where
  kind : Nat
  no : Nat
  block : Bytes
  m : Nat
  groups : Nat
  held : List Nat := []
  deadline : Nat
  deriving DecidableEq, Repr

/-- The steps of a custodian card's session, R520. -/
inductive CcStep where
  | idle | select | getData | verify | auth | over
  deriving DecidableEq, Repr

/-- The T=1 session, R515: the send-sequence bits of the next block each way, the card's IFSC, whether blocks end in a CRC. -/
structure T1 where
  ns : Bool := false
  nr : Bool := false
  ifsc : Nat := 32
  crc : Bool := false
  deriving DecidableEq, Repr

/-- The custodian-card slot: the T=1 session, the order slot with whether the last order took effect, the card's session (step, the custodian
and key of its certificate, the challenge), a held format 2 PIN block with the moment it lapses, the wait for one, T=1 retries
and resynchronisations, the status with which the last session ended, the custodians who opened the ceremony, the JC_PAIR
permit. -/
structure Cc where
  t1 : T1 := {}
  order : Option Order := none
  effected : Bool := false
  step : CcStep := .idle
  custodian : Nat := 0
  cardKey : Bytes := []
  challenge : Bytes := []
  pin : Option (Bytes × Nat) := none
  waitUntil : Option Nat := none
  retries : Nat := 0
  resyncs : Nat := 0
  ended : Nat := 0
  openers : List Nat := []
  pairPermit : Bool := false
  deriving DecidableEq, Repr

/-! ### The vault -/

/-- The attribute block's fields, R217. -/
structure Attr where
  alg : Nat
  dest : Nat
  usage : Nat
  flags : Nat
  owner : Nat
  ownerGen : Nat
  keylen : Nat
  usesLeft : Nat
  expiry : Nat
  counter : Nat
  deriving DecidableEq, Repr

/-- A staged successor, R234 to R236. -/
structure Succ where
  key : Bytes
  usesLeft : Nat
  expiry : Nat
  counter : Nat
  imported : Bool
  check : Bytes
  verified : Bool
  hidden : Nat
  large : List Nat
  deriving DecidableEq, Repr

/-- A context in its slot, R213, R216, R217. -/
structure Ctx where
  idx : Nat
  attr : Attr
  key : Bytes
  baseGen : Nat
  curGen : Nat
  succ : Option Succ := none
  large : List Nat := []
  spill : Option Nat := none
  lastRelease : Nat := 0
  poisoned : Bool := false
  deriving DecidableEq, Repr

/-- The last transfer on the masked key bus, R30, R33: the receiver as ONX_ERR_INFO codes it, the mask drawn for each 64-bit word, and
each word with its mask exclusive-ored on. A receiver that discards the shares leaves none. -/
structure KeyBus where
  receiver : Nat
  masks : List (BitVec 64)
  shares : List (BitVec 64)
  deriving DecidableEq, Repr

/-- A root slot of island V or of the mirror: a masked value and its mask, R208, R210. -/
structure Root where
  num : Nat
  v : BitVec 256
  m : BitVec 256
  deriving DecidableEq, Repr

/-- The persistent record of a context with its PENDING successor and COMMIT marker, R226, R237: `ctx` holds everything but the key,
`key` the key wrapped under root 0, and the successor's key is wrapped in the same way. -/
structure Persist where
  ctx : Ctx
  key : Bytes
  pending : Option Succ := none
  marker : Bool := false
  deriving DecidableEq, Repr

/-- The vault's volatile state in island K; `remaskRun` is the word that a re-masking pass under way has reached, R211. -/
structure Vault where
  ctxs : List Ctx := []
  fresh : Nat := 0
  freed : List Nat := []
  mirror : List Root := []
  gens : List (Nat × Nat) := []
  remaskAt : Nat := 0
  remaskRun : Option Nat := none
  sweep : Option Nat := none
  deriving DecidableEq, Repr

/-- What the vault keeps in Agate and in counters that are never reset, R215, R226, R228, R229. -/
structure VaultNv where
  reserve : List (Nat × Nat) := []
  persist : List Persist := []
  ivs : List (Nat × Nat) := []
  spillNext : Nat := 0
  live : List Nat := []
  oldLive : List Nat := []
  wrapGen : Nat := 0
  renewing : Bool := false
  attestDraw : Nat := 0
  deriving DecidableEq, Repr

/-! ### Topaz and Jade -/

/-- What a cipher or hash job has computed: status, the bytes to write with their addresses, the result length, whether a
stream's tag failed, the blocks worked, the least lane or core cycles it takes (R266, R267), and whether its counter values used up the
context's last, R257. -/
structure Work where
  status : Nat
  outs : List (Nat × Bytes)
  resLen : Nat
  poison : Bool := false
  blocks : Nat := 0
  cycles : Nat := 0
  exhaust : Bool := false
  deriving DecidableEq, Repr

/-- A job running on a Topaz lane, R251, R253: the context slot whose key the lane holds with the context's BASE_GEN, the moment it
began, the first counter value reserved with their number (R275), the blocks still to work (R259), and the moment at which its stream was
poisoned by another chain (R262); the work done by `mark`, when the lane's clock last changed (R589). -/
structure TopRun where
  job : Job
  lane : Nat
  serial : Bool
  slot : Nat
  work : Work
  base : Nat := 0
  since : Nat := 0
  drawn : Nat × Nat := (0, 0)
  left : Nat := 0
  poisonAt : Option Nat := none
  mark : Nat := 0
  done : Nat := 0
  deriving DecidableEq, Repr

/-- A Topaz lane's mask generator, R259: its seed, the blocks since it, and whether the lane is stalled for want of the next. -/
structure Lane where
  num : Nat
  seed : Nat := 0
  blocks : Nat := 0
  stalled : Bool := false
  deriving DecidableEq, Repr

/-- A job running on a Jade core: 0 S0, 1 S1, 2 Keccak, R264; `mark` and `done` as on a lane. -/
structure JadRun where
  job : Job
  core : Nat
  slot : Option Nat
  work : Work
  since : Nat := 0
  mark : Nat := 0
  done : Nat := 0
  deriving DecidableEq, Repr

/-- The states of a Beryl engine that holds a job, R305; an engine that holds none is IDLE, or FENCED. -/
inductive BerSt where
  | wiping | loading | running | checking
  deriving DecidableEq, Repr

/-- A job on a Beryl engine: the state with the moment it began, the cycle count of R289 and R290, the released key with its
slot, the random value drawn, whether a delay for entropy was counted; for a prime search the length of a prime, whether two are sought,
the first of them, the candidates of this search and of the job, and the prime accepted last, R299 to R301; `mark` and `done` as on a lane. -/
structure BerRun where
  job : Job
  eng : Nat
  st : BerSt
  since : Nat
  cycles : Nat := 0
  slot : Nat := 0
  key : Bytes := []
  nonce : Nat := 0
  waited : Bool := false
  len : Nat := 0
  two : Bool := false
  first : Option Nat := none
  cands : Nat := 0
  total : Nat := 0
  prime : Option Nat := none
  mark : Nat := 0
  done : Nat := 0
  deriving DecidableEq, Repr

/-- What a Beryl engine remembers between jobs, R295: the owner of its last job (function and generation), a wipe owed. -/
structure BerEng where
  num : Nat
  owner : Option (Nat × Nat) := none
  owe : Bool := false
  deriving DecidableEq, Repr

/-- How an engine's time in the current window was divided, R252, R283, R373: the window's number, the time of all work, and that of each
function's host jobs. -/
structure Share where
  window : Nat := 0
  all : Nat := 0
  hosts : List (Nat × Nat) := []
  deriving DecidableEq, Repr

/-- The engines of a strand with the jobs that wait for them. -/
structure Engines where
  topShare : Share := {}
  jadShare : Share := {}
  berShare : Share := {}
  topQ : List Job := []
  topRuns : List TopRun := []
  lanes : List Lane := []
  jadQ : List Job := []
  jadRuns : List JadRun := []
  berQ : List Job := []
  berRuns : List BerRun := []
  berEngs : List BerEng := []
  qtzQ : List Job := []
  deriving DecidableEq, Repr

/-! ### Host port and functions -/

/-- Submission queue states, R344. -/
inductive SqState where
  | disabled | enabled | disabling | error
  deriving DecidableEq, Repr

/-- An open chain: its entries taken so far, R337, and when the last was taken. -/
structure Chain where
  entries : List Bytes
  lastAt : Nat
  gen : Nat
  deriving DecidableEq, Repr

/-- A submission queue; its configuration fields stand in the HQ registers. A restored queue with `thaw` is enabled by VF_THAW, R386. -/
structure Sq where
  id : Nat
  state : SqState := .disabled
  head : Nat := 0
  next : Nat := 0
  tail : Nat := 0
  cache : List (Nat × Bytes) := []
  chain : Option Chain := none
  pubNo : Nat := 0
  pubDue : Option Nat := none
  inval : Bool := false
  dbErr : Bool := false
  thaw : Bool := false
  deriving DecidableEq, Repr

/-- A completion queue; its configuration fields stand in the HQ registers; `thaw` as for a submission queue. -/
structure Cq where
  id : Nat
  enabled : Bool := false
  ien : Bool := false
  head : Nat := 0
  tail : Nat := 0
  phase : Bool := true
  posted : Nat := 0
  reserved : Nat := 0
  unsignalled : Nat := 0
  timer : Option Nat := none
  writeErr : Bool := false
  dbErr : Bool := false
  thaw : Bool := false
  deriving DecidableEq, Repr

/-- The states of a function, R377. -/
inductive FnSt where
  | absent | active | freezing | frozen | saving | saved | restoring | resetting | removing
  deriving DecidableEq, Repr

/-- The pool block, R369. -/
structure Pool where
  qbase : Nat := 0
  qcount : Nat := 0
  ctxQuota : Nat := 0
  largeQuota : Nat := 0
  subBase : Nat := 0
  subCount : Nat := 0
  wTop : Nat := 1
  wJad : Nat := 1
  wBer : Nat := 1
  deriving DecidableEq, Repr

/-- One MSI-X vector of a function, R332, R353: masked, pending, times sent, and the message words of its table entry (log entry 27). -/
structure Msix where
  vec : Nat
  masked : Bool
  pend : Bool
  sent : Nat
  msgAddr : Word := 0
  msgAddrHi : Word := 0
  msgData : Word := 0
  deriving DecidableEq, Repr

/-- A function of the function table, R368 to R378: `past` holds the pools that stood until given moments, for the windows already begun
(R371); `job` is the function opcode that waits for its end. -/
structure Fn where
  num : Nat
  st : FnSt := .absent
  gen : Nat := 1
  advance : Bool := false
  home : Fin 4 := 0
  pool : Pool := {}
  imageOk : Bool := false
  msix : List Msix := []
  past : List (Nat × Pool) := []
  job : Option Job := none
  image : Bytes := []
  map : Bytes := []
  awaitMarks : Nat := 0
  deriving DecidableEq, Repr

/-- A strand's scheduler: the grants left of the round, the queue being visited with the takes left in the visit, whether the pass has taken
an entry, and the moment of the last take, R340, R341. -/
structure Sched where
  grants : List (Nat × Nat) := []
  cur : Option Nat := none
  left : Nat := 0
  took : Bool := false
  lastAt : Option Nat := none
  deriving DecidableEq, Repr

/-! ### Sentinel -/

/-- One event or firing, R584, R588: source, detectors, island, reading, configured rank, whether it is logged as a NOTE only,
the MODE byte of R602 at that moment, device time. -/
structure Firing where
  src : Nat
  det : Nat
  island : Nat
  reading : Nat
  rank : Nat
  note : Bool
  modeByte : Nat
  time : Nat
  deriving DecidableEq, Repr

/-- A record that waits to be written to the event log, R602: the firing, the rank applied to its alarm, and whether it opens
its GROUP. -/
structure LogRec where
  f : Firing
  applied : Nat
  first : Bool
  deriving DecidableEq, Repr

/-- An erase under decision, R592: cause code of R607, source, requesting strand, decisions asked so far. -/
structure EraseTry where
  cause : Nat
  src : Nat
  frm : Nat
  tries : Nat
  deriving DecidableEq, Repr

/-- One entry of a Vigil record, R597. -/
structure VigilEntry where
  src : Nat
  det : Nat
  rank : Nat
  time : Nat
  deriving DecidableEq, Repr

/-- The sentinel of a strand: event ring, window histories, the alarm being gathered, the rank in effect, the throttle, the
erase under decision, the erase line, the strands to which it drives its request wires (R25), the cell-change window, the sample awaiting its repeat, the records that wait for
the log with the GROUP of the alarm being written. -/
structure Jsp where
  events : List Firing := []
  hist : List (Nat × List Nat) := []
  alarm : List Firing := []
  alarmAt : Nat := 0
  inEffect : Nat := 0
  throttleUntil : Option Nat := none
  erase : Option EraseTry := none
  lineSince : Option Nat := none
  window : Option Nat := none
  sample : Option (List (Nat × Nat) × Nat) := none
  logQ : List LogRec := []
  group : Nat := 0
  wires : List Nat := []
  deriving DecidableEq, Repr

/-! ### Garnet -/

/-- An open or ended coprocessor ticket, R406, R442: unit 0 to 3 for majors 0x38 to 0x3B, the privilege captured at SUBMIT, the
descriptor's job, the completion record's address, the status once ended. -/
structure Ticket where
  num : Nat
  unit : Nat
  priv : Nat
  job : Job
  recAt : Nat
  ended : Option Nat := none
  deriving DecidableEq, Repr

/-- An error that waits to be met in a core: in a cache line, R416, where it can be corrected or not; or the parity of a general register,
R413. -/
inductive Upset where
  | line (data : Bool) (no : Nat) (hard : Bool)
  | reg (bank : Fin 4) (r : Fin 32)
  deriving DecidableEq, Repr

/-- The architectural state of a logical core, R395 to R399: four banks of 32 registers, pc, the fields of STATUS, the control
registers, the cycle counter's base and the moment of it, the WFI wait, the tickets, the cache lines that may be held, and the errors in them and in the registers. -/
structure Core where
  num : Nat
  banks : Vector (Vector Word 32) 4 := Vector.replicate 4 (Vector.replicate 32 0)
  pc : Word := 0
  bank : Fin 4 := 0
  priv : Nat := 0
  ie : Bool := false
  nmiPend : Bool := false
  vdt : Word := 0
  imask : Nat := 0
  epc : Vector Word 4 := Vector.replicate 4 0
  esr : Vector Word 4 := Vector.replicate 4 0
  ecause : Vector Word 4 := Vector.replicate 4 0
  eaddr : Vector Word 4 := Vector.replicate 4 0
  timer : Word := 0
  cycBase : Nat := 0
  cycAt : Nat := 0
  cycHi : Word := 0
  running : Bool := false
  waiting : Bool := false
  tickets : List Ticket := []
  lastTicket : Nat := 0
  ilines : List Nat := []
  dlines : List Nat := []
  upsets : List Upset := []
  deriving DecidableEq, Repr

/-! ### Spares and the snapshot -/

/-- A requested spare swap, R628: kind as HLT_SWAP codes it, the island or SRAM row it replaces, mismatches so far. -/
structure SwapReq where
  kind : Nat
  island : Nat
  row : Nat
  misses : Nat := 0
  deriving DecidableEq, Repr

/-- The health block, R628, R629: the swap in progress with its state (1 REQUESTED, 2 DECIDING, 3 MOVING), those queued, and
the kinds that continue as if no spare remained. -/
structure Hlt where
  cur : Option SwapReq := none
  st : Nat := 0
  queue : List SwapReq := []
  out : List Nat := []
  deriving DecidableEq, Repr

/-- What a snapshot latched of an island, R623: its code, its cycle count, its words. -/
structure SnapIsland where
  code : Nat
  cycle : Nat
  words : List Word
  deriving DecidableEq, Repr

/-- A channel into a latched island while the snapshot is taken, R623: island, channel index, whether its token has come, the
items recorded. -/
structure SnapChan where
  island : Nat
  chan : Nat
  closed : Bool
  items : List Bytes
  deriving DecidableEq, Repr

/-- A held snapshot, R625. -/
structure Snap where
  islands : List SnapIsland := []
  chans : List SnapChan := []
  deriving DecidableEq, Repr

/-! ### Agate -/

/-- Flash words that are not blank, by word index: 64 data bits and 8 check bits, R555, R556. -/
abbrev FlashCells := List (Nat × BitVec 72)

/-- An erase ledger record, R561. -/
structure EraseRec where
  no : Nat
  phys : Nat
  logical : Nat
  time : Nat
  closed : Bool := false
  voided : Bool := false
  deriving DecidableEq, Repr

/-- The erase in progress, R562, R564: its record number, blocks, whether suspended, whether a spare was drawn for it. -/
structure EraseRun where
  no : Nat
  phys : Nat
  logical : Nat
  suspended : Bool := false
  drew : Bool := false
  deriving DecidableEq, Repr

/-- A page program in progress, R557, R572: the blocks and the words to be written, by word of the block. -/
structure ProgRun where
  logical : Nat
  phys : Nat
  words : List (Nat × BitVec 64)
  deriving DecidableEq, Repr

/-- The Agate die of a strand: data and header words by physical block, the block map where it differs from the one at wafer
test, spares handed out in order and those returned, blocks retired, erase counts, the ledger with its active anchor and
generation, records it still has room for. -/
structure Flash where
  data : FlashCells := []
  heads : FlashCells := []
  map : List (Nat × Nat) := []
  drawn : Nat := 0
  freed : List Nat := []
  retired : List Nat := []
  counts : List (Nat × Nat) := []
  ledger : List EraseRec := []
  nextRec : Nat := 0
  anchor : Nat := 2
  anchorGen : Nat := 1
  room : Nat := 2048
  bad : List Nat := []
  deriving DecidableEq, Repr

/-- The flash controller: an erase and a program in progress. -/
structure Agt where
  erase : Option EraseRun := none
  prog : Option ProgRun := none
  deriving DecidableEq, Repr

/-! ### The tag -/

/-- Tag states, R535. -/
inductive TagSt where
  | off | ready | arbitrate | reply | acknowledged | quiet | killed
  deriving DecidableEq, Repr

/-- A host program of a tag block in progress, R545, R548. -/
structure TagProg where
  block : Nat
  data : Bytes
  abandoned : Bool := false
  deriving DecidableEq, Repr

/-- The tag front end and its memory, R531 to R554: state, handle, slot counter, the blocks whose content is not zero, the
secret and the words written for it, the configuration word FDET_EN, a field command's ownership, a host program, the
replies sent, the FIELD_DETn pin; block 0 as ring supervision left it when it failed, R24. -/
structure Tag where
  st : TagSt := .off
  h : Nat := 0
  slot : Nat := 0
  blocks : List (Nat × Bytes) := []
  noteCount : Nat := 0
  updateNo : Nat := 0
  uid : Bytes := List.replicate 12 0
  secret : Option Bytes := none
  staged : Bytes := List.replicate 32 0
  fdet : Bool := true
  owned : Bool := false
  prog : Option TagProg := none
  draws : Nat := 0
  replies : List Bytes := []
  fieldDet : Bool := false
  held0 : Option Bytes := none
  deriving DecidableEq, Repr

end Sys2Proof.Machine
end

