-- ==== Sys2Proof/Machine/State.lean ====
section
/-! DEFINITION. The machine's state as plain data, and the state after reset. -/

namespace Sys2Proof.Machine
open Sys2Proof

/-- Faults that stop the machine. No command of this block stops it: every effect the spec gives is a next state. -/
inductive Fault where
  /-- Raised by no command; kept so that the type is inhabited. Safe. -/
  | none
  deriving DecidableEq, Repr

/-- Refusals. -/
inductive Refusal where
  /-- Raised by Dispatch.lean alone, for a command whose meaning is not written yet. Safe. -/
  | notModelled (mnemonic : String)
  deriving DecidableEq, Repr

/-- What the last register access returned to its requester: nothing, a word, or an error response (with zero), R5. -/
inductive Resp where
  | none
  | word (w : Word)
  | error
  deriving DecidableEq, Repr

/-- What a strand keeps without main power: Agate, island V and the board's charter memory; `distrust` stands beside the card's pairing
record until the card is paired again, R512. -/
structure Nv where
  charterMem : CharterMem := {}
  retCharter : Option Bytes := none
  retDigest : BitVec 384 := 0
  runtime : List FieldEntry := []
  ringRuntime : List FieldEntry := []
  quarantine : Bool := false
  returnRec : Bool := false
  reprov : Option Nat := none
  latch : Bool := false
  canaryOk : Bool := true
  canaryVoid : Bool := false
  bootActive : Nat := 0
  roots : List Root := []
  vault : VaultNv := {}
  jnl : JState := {}
  timeBase : Nat := 0
  timeAt : Nat := 0
  slew : Int := 0
  pair : Option (Bytes × Nat) := none
  pairNo : Nat := 0
  distrust : Bool := false
  restored : List Bytes := []
  evlog : List (Nat × Bytes) := []
  evCheck : Bytes := List.replicate 8 0
  evSeq : Nat := 0
  vigil : List VigilEntry := []
  vigilOver : Nat := 0
  rowsUsed : Nat := 0
  pairsUsed : Nat := 0
  flash : Flash := {}
  orderNo : Nat := 0
  vigilCfg : List (Nat × Nat) := []
  vigilTamp : Nat := 0
  downAt : Nat := 0
  tagMode : Nat := 1
  tagUpdates : Nat := 0
  deriving DecidableEq, Repr

/-- One strand, R21. -/
structure Strand where
  id : Fin 4
  nv : Nv := {}
  regs : RegFile := []
  staged : List Staged := []
  hiLatch : List (Nat × Word) := []
  draws : Nat := 0
  accepted : Option Bytes := none
  startedAt : Nat := 0
  pairDue : Option Nat := none
  retry : Option (Decision × Nat) := none
  freezeOpen : Bool := false
  ceremonyBeat : Nat := 0
  newOwner : Option (BitVec 384) := none
  chkAt : Option Nat := none
  post : Post := {}
  taken : List Job := []
  done : List Done := []
  vault : Vault := {}
  eng : Engines := {}
  jnl : Jnl := {}
  mir : Mir := {}
  stations : Stations := {}
  links : List Link := []
  fab : Fabric := {}
  jc : Jc := {}
  quorum : Quorum := {}
  cc : Cc := {}
  sent : List Sent := []
  jsp : Jsp := {}
  fenced : List Nat := []
  keyBus : Option KeyBus := none
  measure : Bytes := []
  cores : Vector Core 4 := Vector.ofFn fun c => { num := c.val }
  sram : List Host.Cell := []
  quar : List Host.Cell := []
  sramBad : List Nat := []
  dupBad : List Nat := []
  hlt : Hlt := {}
  snap : Option Snap := none
  agt : Agt := {}
  bootVdt : Word := 0
  ipend : Vector Nat 4 := Vector.replicate 4 0
  nmi : Vector Bool 4 := Vector.replicate 4 false
  deriving DecidableEq, Repr

/-- The device's identity and fuses, R39, R41, R45, R67, R69: no CONSTELLATION_ID before the ownership ceremony installs one, R190. The
ordering code is `tagFused`, the fuse of R3 that makes a BY5120-N4E. -/
structure Ident where
  deviceId : Bytes := List.replicate 16 0
  constellation : Option Bytes := none
  makerDigest : BitVec 384 := 0
  returnDigest : BitVec 384 := 0
  ownerDigests : List (Nat × BitVec 384) := []
  revoked : List Nat := []
  life : LifeFuses := {}
  tagFused : Bool := false
  sourceOff : Nat := 0
  deriving DecidableEq, Repr

/-- The ring, R20; `cell` is VBAT in millivolts as last measured anywhere. -/
structure Ring where
  regs : RegFile := []
  staged : List Staged := []
  ident : Ident := {}
  power : Bool := true
  hpFailed : Bool := false
  tfFailed : Bool := false
  rsFailed : Bool := false
  refBad : List Nat := []
  debugOpen : Bool := false
  challenge : Option Bytes := none
  scrapChallenge : Option Bytes := none
  wrongDebug : Nat := 0
  wrongScrap : Nat := 0
  retainPend : List FieldEntry := []
  govSection : Option (List FieldEntry) := none
  sriov : Bool := false
  numVfs : Nat := 0
  sqs : List Sq := []
  cqs : List Cq := []
  fns : List Fn := [{ num := 0, st := .active }]
  jobSeq : Nat := 1
  scheds : Vector Sched 4 := Vector.replicate 4 {}
  tag : Tag := {}
  thermLow : Bool := false
  cell : Nat := 0
  xtalStopped : Bool := false
  deriving DecidableEq, Repr

/-- The whole device, with the queue of waiting commands. -/
structure State where
  now : Nat
  strands : Vector Strand 4
  ring : Ring
  mem : List Host.Cell
  resp : Resp
  pending : List Instr
  deriving DecidableEq, Repr

/-- A strand right after reset: in CHARTER by the return of main power (CHT_MODE at its reset literals). -/
def Strand.reset (n : Fin 4) : Strand := { id := n }

/-- The device right after reset: of ordering code BY5120-A4E, BLANK, with the identity of log entry 35. -/
def State.reset : State :=
  { now := 0, strands := Vector.ofFn Strand.reset, ring := {}, mem := [], resp := .none, pending := [] }

end Sys2Proof.Machine
end

