-- ==== Sys2Proof/Machine/Ops.lean ====
section
/-! DEFINITION. The operations every family shares: strands and registers, open values, error records, interrupt vectors,
sentinel events, key release, and the end of a job. -/

namespace Sys2Proof.Job

/-- The first entry. -/
def seg0 (j : Job) : Seg := j.segs.headD {}

/-- The input bytes of the whole chain, R336. -/
def input (j : Job) : Bytes := (j.segs.map (·.data)).flatten

/-- The input length as written in the entries, R143. -/
def inLen (j : Job) : Nat := (j.segs.map (·.inLen)).sum

end Sys2Proof.Job

namespace Sys2Proof.Machine
open Sys2Proof

/-! ### Registers -/

/-- Default RANK, minimum RANK, default VIGIL_RANK, default N and W of a sentinel source, R587. -/
def jspDefaults : Nat → Nat × Nat × Nat × Nat × Nat
  | 1 | 2 => (4, 3, 4, 1, 1)
  | 3 => (4, 0, 4, 2, 10)
  | 4 | 5 => (2, 1, 0, 3, 100)
  | 6 => (1, 0, 4, 4, 10000)
  | 7 => (2, 1, 0, 2, 10)
  | 8 => (3, 2, 0, 1, 1)
  | 9 => (4, 0, 4, 1, 50)
  | 10 => (4, 0, 4, 1, 1)
  | 11 => (2, 0, 0, 3, 1000)
  | 12 => (3, 2, 0, 2, 1000)
  | 13 => (2, 0, 1, 2, 60000)
  | 14 => (2, 1, 0, 3, 1000)
  | 15 => (4, 4, 0, 1, 1)
  | _ => (0, 0, 0, 0, 0)

/-- JSP_SRC_CFG of a source at its defaults, R587, R606. -/
def jspCfgWord (c : Nat) : Word :=
  let (rank, _, vrank, n, w) := jspDefaults c
  BitVec.ofNat 32 (rank + vrank * 2 ^ 4 + n * 2 ^ 8 + w * 2 ^ 12)

/-- The reset word at an offset of a strand window: literals and defaults (R9, R10); zero where nothing is listed (R429). -/
def strandReset (o : Nat) : Word :=
  if 0x1000100 ≤ o ∧ o < 0x1000180 ∧ o % 8 = 0 then jspCfgWord ((o - 0x1000100) / 8)
  else match RegMap.strandReg o with
    | some d => d.resetWord
    | none => 0

/-- The reset word at an offset of the ring window. -/
def ringReset (o : Nat) : Word :=
  match RegMap.ringReg o with
  | some d => d.resetWord
  | none => 0

namespace Strand

/-- The register word at a window offset. -/
def rd (st : Strand) (o : Nat) : Word := RegFile.read strandReset st.regs o

/-- Replace the register word at a window offset. -/
def wr (st : Strand) (o : Nat) (w : Word) : Strand := { st with regs := RegFile.write strandReset st.regs o w }

/-- A field of the `k`-th register of a row. -/
def get (st : Strand) (f : Fld) (k : Nat := 0) : Nat := f.ofWord (st.rd (f.at k))

/-- A one-bit field as a Bool. -/
def flag (st : Strand) (f : Fld) (k : Nat := 0) : Bool := st.get f k == 1

/-- Replace a field. -/
def put (st : Strand) (f : Fld) (v : Nat) (k : Nat := 0) : Strand :=
  st.wr (f.at k) (f.intoWord (st.rd (f.at k)) v)

/-- Raise a saturating counter field by `n`. -/
def add (st : Strand) (f : Fld) (n : Nat) (k : Nat := 0) : Strand :=
  st.put f (min (st.get f k + n) (2 ^ f.width - 1)) k

/-- Raise a saturating counter field by one. -/
def bump (st : Strand) (f : Fld) (k : Nat := 0) : Strand := st.add f 1 k

/-- Raise a saturating counter field when a condition holds. -/
def bumpIf (st : Strand) (c : Bool) (f : Fld) (k : Nat := 0) : Strand := if c then st.bump f k else st

/-- A 64-bit value held in a _LO register and the _HI register behind it. -/
def get64 (st : Strand) (lo : Fld) : Nat := (st.rd lo.off).toNat + 2 ^ 32 * (st.rd (lo.off + 4)).toNat

/-- Set a 64-bit value held in a _LO register and the _HI register behind it. -/
def put64 (st : Strand) (lo : Fld) (v : Nat) : Strand :=
  (st.wr lo.off (BitVec.ofNat 32 v)).wr (lo.off + 4) (BitVec.ofNat 32 (v / 2 ^ 32))

/-- Write a byte string into a row of registers, byte 0 in bits [7:0] of the first. -/
def putBytes (st : Strand) (f : Fld) (b : Bytes) : Nat → Nat → Strand
  | _, 0 => st
  | k, n + 1 => (st.wr (f.at k) (BitVec.ofNat 32 (le b (4 * k) 4))).putBytes f b (k + 1) n

/-- A progress register, R15: VALID, with a percentage and a position. -/
def progress (st : Strand) (o pct pos : Nat) : Strand := st.wr o (BitVec.ofNat 32 (2 ^ 31 + pct % 128 * 2 ^ 24 + pos % 2 ^ 24))

/-- An operation is abandoned, R17: VALID falls, PERCENT and POSITION keep their values; one that has completed stays. -/
def progDrop (st : Strand) (o : Nat) : Strand :=
  let w := st.rd o
  if bits w.toNat 24 7 = 100 then st else st.wr o (w &&& 0x7FFFFFFF)

/-- The strand's mode, R37. -/
def mode (st : Strand) : Nat := st.get R.CHT_MODE_MODE

/-- Whether the strand is HALTED, R59. -/
def halted (st : Strand) : Bool := st.flag R.CHT_MODE_HALTED

/-- An open value of the strand, with the counter advanced (log entry 2). -/
def draw (st : Strand) : Nat × Strand := (Config.free st.id.val st.draws, { st with draws := st.draws + 1 })

/-- Open bytes drawn from Quartz. -/
def drawBytes (st : Strand) (n : Nat) : Bytes × Strand :=
  (toBE n (Config.free st.id.val st.draws), { st with draws := st.draws + 1 })

/-- Device time in microseconds, R159, at the trimmed rate of R160: `slew` is in parts per million. -/
def deviceTime (st : Strand) (t : Nat) : Nat :=
  (st.nv.timeBase + ((t - st.nv.timeAt) * (1000000 + st.nv.slew).toNat) / 1000000000) % 2 ^ 63

/-- The clock takes a new base at a moment, with the rate from then on. -/
def rebase (st : Strand) (t base : Nat) (slew : Int) : Strand :=
  { st with nv := { st.nv with timeBase := base, timeAt := t, slew := slew } }

/-- Something goes out on an interface. -/
def emit (st : Strand) (port : Port) (kind : Nat) (data : Bytes) (wire : Bytes := []) : Strand :=
  { st with sent := st.sent ++ [{ port, kind, data, wire }] }

/-- A trigger reaches the strand's snapshot block, R622, R625: a new snapshot begins, or the trigger is missed while one is
held. Sources are coded as SNP_STATUS.SOURCE. -/
def snapTrigger (st : Strand) (source : Nat) : Strand :=
  if st.snap.isSome then st.bump R.SNP_STATUS_MISSED
  else
    let no := st.get R.SNP_STATUS_SNAP_NO
    let st := ((st.put R.SNP_STATUS_HELD 1).put R.SNP_STATUS_DONE 0).put R.SNP_STATUS_SOURCE source
    let st := ((st.put R.SNP_STATUS_SNAP_NO (no + 1)).put R.SNP_ABSENT_ISLANDS ((st.fenced.map fun i => 2 ^ i).sum)).put R.SNP_ABSENT_RING 0
    { st with snap := some {} }

/-- Set an interrupt vector pending on a logical core, R408; the vector that SNP_CTL.EVENT names triggers a snapshot, R622. -/
def vector (st : Strand) (v core : Nat) : Strand :=
  let ev := st.get R.SNP_CTL_EVENT
  let st := if h : core < 4 then { st with ipend := st.ipend.set core (st.ipend[core] ||| 2 ^ v) } else st
  if ev = v ∧ ev ≠ 0 then st.snapTrigger 5 else st

/-- The vector of a block whose error record takes a fault, with the core that the block's routing field names, R408 (log entry 146). -/
def errVector (st : Strand) (off : Nat) : Option (Nat × Nat) :=
  match off / 0x100000 with
  | 1 => some (20, 0)
  | 2 => some (21, 0)
  | 3 => some (22, 0)
  | 4 => some (23, 0)
  | 5 => some (24, 0)
  | 6 => some (25, 0)
  | 7 => some (26, 0)
  | 8 => some (27, 0)
  | 11 => some (30 + st.get R.SL_ERR_INFO / 16, st.get R.SL_CTL_ROUTE)
  | 12 => some (34, st.get R.RP_CTL_ROUTE)
  | 13 => some (35, st.get R.JC_CTL_ROUTE)
  | 14 => some (36, st.get R.CC_CTL_ROUTE)
  | 15 => some (28, st.get R.AGT_CTL_ROUTE)
  | 17 => some (39, st.get R.ISL_CTL_ROUTE)
  | _ => none

/-- Hold the first fault of a block in its error record, which raises the block's vector; later ones count in OVERFLOW. -/
def noteErr (st : Strand) (valid code ovf : Fld) (c : Nat) (info : Strand → Strand) : Strand :=
  if st.flag valid then st.bump ovf
  else
    let st := info ((st.put valid 1).put code c)
    match st.errVector valid.off with
    | some (v, core) => st.vector v core
    | none => st

/-- Whether a logical core runs, R422. -/
def coreActive (st : Strand) (c : Nat) : Bool := bit (st.get R.GAR_STATUS_ACTIVE) c

/-- The logical core that takes the NMI, R411: the routed one, or the lowest-numbered active one where it is fenced. -/
def nmiCore (st : Strand) : Nat :=
  let c := st.get R.GAR_CTL_NMI_ROUTE
  if st.coreActive c then c else ((List.range 4).find? st.coreActive).getD c

/-- A cause of the NMI, R411: its bit in GAR_NMI_CAUSE, and an edge on the core that takes it where no cause stood. -/
def raiseNmi (st : Strand) (cause : Fld) : Strand :=
  let quiet := (st.rd cause.off) == 0
  let st := st.put cause 1
  let c := st.nmiCore
  if h : c < 4 then (if quiet then { st with nmi := st.nmi.set c true } else st) else st

/-- Whether windows apply to sentinel events, R585. -/
def windowed (st : Strand) : Bool :=
  (st.mode == 2 || st.mode == 3 || st.mode == 4) && !st.halted && !st.flag R.JSP_STATUS_TEST

/-- The MODE byte of a log record, R602. -/
def modeByte (st : Strand) (windowed : Bool) : Nat := st.mode + 8 * b2n st.halted + 16 * b2n windowed

/-- A source fires: it joins the alarm of the running decision interval, R584, R588. -/
def fire (st : Strand) (t : Nat) (f : Firing) : Strand :=
  let st := st.bump R.JSP_SRC_CNT_FIRINGS f.src
  let j := st.jsp
  { st with jsp := { j with
      alarm := j.alarm ++ [f],
      alarmAt := if j.alarm.isEmpty then t else j.alarmAt } }

/-- The firing that an event would make: its configured rank, and a NOTE for CELL inside a cell-change window, R601. -/
def firingOf (st : Strand) (t src det island reading : Nat) : Firing :=
  { src := src, det := det, island := island, reading := reading
    rank := if src = 15 then 4 else st.get R.JSP_SRC_CFG_RANK src
    note := src == 10 && st.jsp.window.isSome && st.mode == 5, modeByte := st.modeByte (st.windowed && src != 15), time := st.deviceTime t }

/-- One event of a source under the count-within-window rule, R584, R585, and its place in the event ring, R602. -/
def countEvent (st : Strand) (t src det island reading : Nat) : Strand :=
  let st := st.bump R.JSP_SRC_CNT_EVENTS src
  if bit (st.get R.JSP_FUSE_OFF_FUSED) src then st else
  let f := st.firingOf t src det island reading
  let st := { st with jsp := { st.jsp with events := (f :: st.jsp.events).take 256 } }
  if st.windowed && src != 15 then
    let old := ((st.jsp.hist.find? (·.1 == src)).map (·.2)).getD []
    let h := (old ++ [t]).filter fun x => t < x + 1000000 * st.get R.JSP_SRC_CFG_W src
    let keep := st.jsp.hist.filter (·.1 != src)
    if h.length ≥ st.get R.JSP_SRC_CFG_N src then
      { st with jsp := { st.jsp with hist := keep } }.fire t f
    else { st with jsp := { st.jsp with hist := keep ++ [(src, h)] } }
  else st.fire t f

/-- A detector report: both detectors make one event; one alone makes in addition one event of DETECTOR_DISAGREE naming the
pair, R582. Sources 0x0C to 0x0F have a single detector. -/
def event (st : Strand) (t src det island : Nat) (reading : Nat := 0) : Strand :=
  let st' := st.countEvent t src det island reading
  if src ≤ 11 ∧ det % 4 ≠ 3 ∧ ¬ bit (st.get R.JSP_FUSE_OFF_FUSED) src then st'.countEvent t 13 (src * 256 + det) island 0 else st'

/-- A datapath fault event of an island, R293, R437. -/
def datapath (st : Strand) (t island : Nat) : Strand := st.event t 14 1 island

/-- A DECISION_MISMATCH event, R592. -/
def mismatch (st : Strand) (t : Nat) : Strand := st.event t 12 1 0xFF

/-- Every change of mode, HALTED or TEST empties the window histories, R585. -/
def emptyWindows (st : Strand) : Strand := { st with jsp := { st.jsp with hist := [] } }

/-- Ring supervision rewrites tag block 0 at a change of mode, R540; without main power it does not run, and the copy of the
last update stays. -/
def tagModeUpdate (st : Strand) (m : Nat) : Strand :=
  if m = 0 then st else { st with nv := { st.nv with tagMode := m, tagUpdates := st.nv.tagUpdates + 1 } }

/-- Take a mode transition: MODE, PREV_MODE and CAUSE, R56, R73. -/
def setMode (st : Strand) (m cause : Nat) : Strand :=
  ((((st.put R.CHT_MODE_PREV_MODE st.mode).put R.CHT_MODE_MODE m).put R.CHT_MODE_CAUSE cause).emptyWindows).tagModeUpdate m

end Strand

namespace State

/-- Strand `n`. -/
def sd (s : State) (n : Fin 4) : Strand := s.strands[n]

/-- Replace strand `n`. -/
def setSd (s : State) (n : Fin 4) (st : Strand) : State := { s with strands := s.strands.set n st }

/-- Change strand `n`. -/
def up (s : State) (n : Fin 4) (f : Strand → Strand) : State := s.setSd n (f (s.sd n))

/-- Change every strand. -/
def upAll (s : State) (f : Strand → Strand) : State := { s with strands := s.strands.map f }

/-- Change the ring. -/
def upR (s : State) (f : Ring → Ring) : State := { s with ring := f s.ring }

/-- The register word at an offset of the ring window. -/
def rrd (s : State) (o : Nat) : Word := RegFile.read ringReset s.ring.regs o

/-- Replace the register word at an offset of the ring window. -/
def rwr (s : State) (o : Nat) (w : Word) : State :=
  { s with ring := { s.ring with regs := RegFile.write ringReset s.ring.regs o w } }

/-- A field of the ring window. -/
def rget (s : State) (f : Fld) (k : Nat := 0) : Nat := f.ofWord (s.rrd (f.at k))

/-- A one-bit field of the ring window. -/
def rflag (s : State) (f : Fld) (k : Nat := 0) : Bool := s.rget f k == 1

/-- Replace a field of the ring window. -/
def rput (s : State) (f : Fld) (v : Nat) (k : Nat := 0) : State :=
  s.rwr (f.at k) (f.intoWord (s.rrd (f.at k)) v)

/-- Raise a saturating counter of the ring window. -/
def radd (s : State) (f : Fld) (n : Nat) (k : Nat := 0) : State :=
  s.rput f (min (s.rget f k + n) (2 ^ f.width - 1)) k

/-- Raise a saturating counter of the ring window by one. -/
def rbump (s : State) (f : Fld) (k : Nat := 0) : State := s.radd f 1 k

/-- Hold the first fault of a ring block in its error record. -/
def rnoteErr (s : State) (valid code ovf : Fld) (c : Nat) (info : State → State) : State :=
  if s.rflag valid then s.rbump ovf else info ((s.rput valid 1).rput code c)

/-- Advance the clock to a moment, never back: an event that falls due at `t` happens at `t` (log entry 5). -/
def upTo (s : State) (t : Nat) : State := { s with now := max s.now t }

/-- The life-cycle code by majority of the three fuse copies, R67. -/
def lifeCode (s : State) : Nat :=
  let f := s.ring.ident.life
  (f.a &&& f.b) ||| (f.a &&& f.c) ||| (f.b &&& f.c)

/-- The life-cycle state: the count of ones of the thermometer code; a 1 above a 0 decodes as SCRAPPED, R67, R68. -/
def life (s : State) : Nat :=
  match s.lifeCode % 64 with
  | 0 => 0 | 1 => 1 | 3 => 2 | 7 => 3 | 15 => 4 | _ => 5

/-- Whether the code has a 1 above a 0, R68; 0b111111 has none, and reads as SCRAPPED all the same (log entry 151). -/
def lifeInvalid (s : State) : Bool := !([0, 1, 3, 7, 15, 31, 63].contains (s.lifeCode % 64))

/-- The function table entry of a function number. -/
def fn (s : State) (f : Nat) : Fn := (s.ring.fns.find? (·.num == f)).getD { num := f }

/-- Replace a function table entry. -/
def setFn (s : State) (f : Fn) : State :=
  s.upR fun r => { r with fns :=
    if (r.fns.any fun g => g.num == f.num) = true then r.fns.map (fun g => if g.num = f.num then f else g) else r.fns ++ [f] }

/-- The submission queue of a global id. -/
def sq (s : State) (q : Nat) : Sq := (s.ring.sqs.find? (·.id == q)).getD { id := q }

/-- Replace a submission queue. -/
def setSq (s : State) (q : Sq) : State :=
  s.upR fun r => { r with sqs :=
    if (r.sqs.any fun g => g.id == q.id) = true then r.sqs.map (fun g => if g.id = q.id then q else g) else r.sqs ++ [q] }

/-- The completion queue of a global id. -/
def cq (s : State) (q : Nat) : Cq := (s.ring.cqs.find? (·.id == q)).getD { id := q }

/-- Replace a completion queue. -/
def setCq (s : State) (q : Cq) : State :=
  s.upR fun r => { r with cqs :=
    if (r.cqs.any fun g => g.id == q.id) = true then r.cqs.map (fun g => if g.id = q.id then q else g) else r.cqs ++ [q] }

/-- The strand of a global queue id, R34. -/
def homeOf (q : Nat) : Fin 4 := ⟨q / 1024 % 4, Nat.mod_lt _ (by decide)⟩

end State

/-! ### Jobs -/


/-- The built-in cadence entry, R146. -/
def cadBuiltin : CadEntry := { lo := 0x100, hi := 0x9FF, exempt := false, perRecord := 2000, base := 200000, perKib := 1000 }

/-- The cadence entry of an opcode on a strand, R143 to R146; management opcodes are exempt. -/
def Strand.cadEntry (st : Strand) (op : Nat) : CadEntry :=
  if op < 0x100 then { cadBuiltin with exempt := true }
  else (st.post.cad.find? fun e => e.lo ≤ op && op ≤ e.hi).getD cadBuiltin

/-- The cadence point of a job, R143. -/
def Strand.cadencePoint (st : Strand) (j : Job) (records : Nat) : Nat :=
  let e := st.cadEntry j.op
  let n := if 0x100 ≤ j.op ∧ j.op ≤ 0x1FF then records else 0
  let cad := e.base + e.perRecord * n + e.perKib * ((j.inLen + 1023) / 1024)
  j.origin + min cad 10000000000

/-- A time rounded up to the 10 ns tick, R147. -/
def tick10 (t : Nat) : Nat := (t + 9) / 10 * 10

/-- The completion time of a job, R148. -/
def Strand.dueTime (st : Strand) (j : Job) (records : Nat) (ok : Bool) (moment : Nat) : Nat :=
  if (st.cadEntry j.op).exempt ∨ j.cop.isSome then moment
  else if ok then tick10 (max (st.cadencePoint j records) moment)
  else tick10 (max (max (st.cadencePoint j records) j.lastInput) moment)

/-- Record a job's outcome; its completion is posted by COMPLETION_POST at its time. -/
def Strand.finish (st : Strand) (t : Nat) (j : Job) (records status resLen detail : Nat)
    (counts : List (Fld × Nat) := []) : Strand :=
  { st with
    taken := if st.taken.any (·.id == j.id) || j.cop.isSome then st.taken else st.taken ++ [j]
    done := st.done.filter (fun d => d.job.id != j.id) ++
      [{ job := j, records, status, resLen, detail, ended := t, counts
         due := st.dueTime j records (status == 0 || status == 1) t }] }

namespace Strand

/-- Whether a job submits a batch. -/
def isBatch (j : Job) : Bool := j.op == 0x100 || j.op == 0x101

/-- RECORD_COUNT of a chain as far as its header is in strand SRAM, R143; zero for every other job (log entry 135). -/
def recordCount (j : Job) : Nat := if isBatch j then le j.input 4 2 else 0

/-- A posting job that ends before intake: its origin is also the end of the Parse before it, and waits for a Parse still under way, R142. -/
def finishEarly (st : Strand) (t : Nat) (j : Job) (records status detail : Nat) : Strand :=
  let last := st.post.batches.getLast?
  let st := st.finish t { j with origin := max j.origin st.post.parseDone } records status 0 detail
  match last with
  | some b =>
    if b.parsed < b.recs.length then
      { st with done := st.done.map fun d => if d.job.id = j.id then { d with after := some b.order } else d }
    else st
  | none => st

end Strand

namespace State

/-- A job ends with a status other than success: nothing is written. -/
def fail (s : State) (n : Fin 4) (j : Job) (status : Nat) (detail : Nat := 0) : State :=
  if Strand.isBatch j then s.up n fun st => st.finishEarly s.now j (Strand.recordCount j) status detail
  else s.up n fun st => st.finish s.now j 0 status 0 detail

/-- Record a host-port fault, R366. -/
def hqErr (s : State) (code q side fnum : Nat) : State :=
  s.rnoteErr R.HQ_ERR_VALID R.HQ_ERR_CODE R.HQ_ERR_OVERFLOW code fun s =>
    ((s.rput R.HQ_ERR_INFO_QUEUE q).rput R.HQ_ERR_INFO_SIDE side).rput R.HQ_ERR_INFO_FUNCTION fnum

/-- Job output is written: to host memory, or to work SRAM for a coprocessor job, where every cached copy of it falls, R336, R406,
R415. -/
def writeJob (s : State) (n : Fin 4) (j : Job) (a : Nat) (b : Bytes) : State :=
  if j.cop.isNone then { s with mem := Mem.writeBytes s.mem a b }
  else s.up n fun st => { st with
    sram := Mem.writeBytes st.sram a b,
    cores := st.cores.map fun (c : Core) =>
      { c with dlines := c.dlines.filter fun (l : Nat) => decide (l < a / 32) || decide ((a + b.length - 1) / 32 < l) } }

/-- A job succeeds: its result is written at the first entry's output address, and its completion waits for its time. An
output write error ends it with 0x40 instead, R352. -/
def succeed (s : State) (n : Fin 4) (j : Job) (out : Bytes) (detail : Nat := 0) (status : Nat := 0) : State :=
  if j.env.writeOk || out.isEmpty then
    (s.writeJob n j j.seg0.outAddr out).up n fun st =>
      st.finish s.now j 0 status out.length detail
  else (s.hqErr 3 j.sq 0 j.fn).fail n j 0x40 (2 * 2 ^ 16)

/-- The block of a strand window that serves an opcode, R34: the number of its window block. -/
def blockOf (op : Nat) : Nat :=
  match op / 256 with
  | 1 => 1 | 2 => 4 | 3 => 5 | 4 => 7 | 5 => 6 | 6 => 2 | 7 => 11 | 8 => if op < 0x810 then 13 else 14 | 9 => 8 | _ => 0

/-- Whether a field that a job needs has copies that disagree; its whole block counts as needed, R438. -/
def dupHits (s : State) (n : Fin 4) (op : Nat) : Bool := (s.sd n).dupBad.any fun o => o / 0x100000 == blockOf op

/-- In QUARANTINE and RETURN every job that names a context completes with 0x60, R243: of the opcodes whose blocks have no rule of their own,
the receipt and PIN jobs. -/
def namesContext (j : Job) : Bool := j.op == 0x120 || (j.op == 0x600 && j.ctx != 0)

/-- Run a job's own work where the strand serves jobs at all: a HALTED strand delivers nothing (R59); in CHARTER no block
serves (R340; log entry 6); a job whose input could not be read ends with 0x40 (R352). -/
def runJob (s : State) (n : Fin 4) (j : Job) (work : State → State) : State :=
  if (s.sd n).halted then s
  else if ((s.sd n).mode = 6 ∨ (s.sd n).mode = 7) ∧ namesContext j then s.fail n j 0x60
  else if (s.sd n).mode ≤ 1 then s.fail n j 0x30
  else if s.dupHits n j.op then s.fail n j 0x7F
  else if !j.env.readOk then (s.hqErr 2 j.sq 0 j.fn).fail n j 0x40 (1 * 2 ^ 16)
  else work s

/-- R674: a job whose output area cannot hold its result ends with 0x41 before anything else happens. -/
def room (s : State) (n : Fin 4) (j : Job) (need : Nat) (work : State → State) : State :=
  if j.seg0.outLen < need then s.fail n j 0x41 else work s

end State

/-! ### Contexts and key release -/

/-- Whether a handle's generation lies in the cyclic range from BASE_GEN to CUR_GEN, R213. -/
def genInRange (g base cur : Nat) : Bool :=
  decide (1 ≤ g) && decide (g ≤ 255) && decide ((g + 255 - base) % 255 ≤ (cur + 255 - base) % 255)

/-- A mark of the submitter table, R96. -/
def markOf (l : List (Nat × Nat)) (sub : Nat) : Nat := ((l.find? (·.1 == sub)).map (·.2)).getD 0

/-- Raise a submitter mark, never lower it, R94, R192, R386. -/
def raiseMark (l : List (Nat × Nat)) (sub mark : Nat) : List (Nat × Nat) :=
  if markOf l sub ≥ mark then l else l.filter (·.1 != sub) ++ [(sub, mark)]

/-- The next generation, 255 followed by 1, R213, R374. -/
def nextGen (g : Nat) : Nat := if g ≥ 255 then 1 else g + 1

/-- The handle of a slot under a generation, R212. -/
def mkHandle (n : Fin 4) (gen idx : Nat) : Nat := n.val * 2 ^ 30 + gen * 2 ^ 22 + idx

/-- A length raised to a multiple of 8. -/
def pad8 (n : Nat) : Nat := (n + 7) / 8 * 8

/-- AES key wrap with padding (SP 800-38F): the octets. -/
def kwpWrap (kek key : Bytes) : Bytes := (List.range (pad8 key.length + 8)).map (Config.kwpByte kek key)

/-- A key as 64-bit words, the last filled with zeros. -/
def keyWords (key : Bytes) : List (BitVec 64) := (List.range ((key.length + 7) / 8)).map fun i => BitVec.ofNat 64 (le key (8 * i) 8)

/-- The clear value of a root: masked value and mask combined, R208. -/
def Root.key (r : Root) : BitVec 256 := r.v ^^^ r.m

namespace Strand

/-- A root as the vault uses it: the mirror for roots 0 to 5, island V for the others, R210. -/
def root (st : Strand) (k : Nat) : BitVec 256 :=
  match (if k ≤ 5 then st.vault.mirror else st.nv.roots).find? (·.num == k) with
  | some r => Root.key r
  | none => 0

/-- The persistent record of a context, wrapped under root 0, with the successor that is staged for it, R226, R237 (log entry 127). -/
def record (st : Strand) (c : Ctx) : Persist :=
  let wrap := fun (k : Bytes) => kwpWrap (bvBytes (st.root 0)) k
  { ctx := { c with key := [], succ := none }, key := wrap c.key, pending := c.succ.map fun x => { x with key := wrap x.key } }

/-- The context in a slot. -/
def slot (st : Strand) (idx : Nat) : Option Ctx := st.vault.ctxs.find? (·.idx == idx)

/-- The context a handle names, whoever owns it, R212, R213. -/
def ctxOf (st : Strand) (h : Nat) : Option Ctx :=
  if bits h 30 2 ≠ st.id.val ∨ bits h 16 6 ≠ 0 then none
  else match st.slot (bits h 0 16) with
    | some c => if genInRange (bits h 22 8) c.baseGen c.curGen then some c else none
    | none => none

/-- The context a handle names for an owner under a generation; another owner's reads as a free slot, R216. -/
def ctxFor (st : Strand) (fn gen h : Nat) : Option Ctx :=
  match st.ctxOf h with
  | some c => if c.attr.owner = fn ∧ (fn = 0xFF ∨ c.attr.ownerGen = gen) then some c else none
  | none => none

/-- Replace a context in its slot. -/
def setCtx (st : Strand) (c : Ctx) : Strand :=
  { st with vault := { st.vault with ctxs := st.vault.ctxs.map fun d => if d.idx = c.idx then c else d } }

/-- Keep the persistent record of a context in step with its slot, R226. -/
def syncPersist (st : Strand) (c : Ctx) : Strand :=
  if bit c.attr.flags 0 then
    { st with nv := { st.nv with vault := { st.nv.vault with
        persist := st.nv.vault.persist.map fun p => if p.ctx.idx = c.idx then st.record c else p } } }
  else st

/-- Change a context and its persistent record. -/
def putCtx (st : Strand) (c : Ctx) : Strand := (st.setCtx c).syncPersist c

/-- One use charged, R224. -/
def chargeUse (c : Ctx) : Ctx :=
  if c.attr.usesLeft = 0xFFFFFFFF then c else { c with attr := { c.attr with usesLeft := c.attr.usesLeft - 1 } }

/-- Whether EXPIRY has passed, R217. -/
def expired (st : Strand) (t : Nat) (c : Ctx) : Bool :=
  c.attr.expiry ≠ 0 && decide (st.deviceTime t > c.attr.expiry)

/-- The vault records a fault, R249, R250. -/
def onxErr (st : Strand) (code idx receiver : Nat) : Strand :=
  st.noteErr R.ONX_ERR_VALID R.ONX_ERR_CODE R.ONX_ERR_OVERFLOW code fun st =>
    (st.put R.ONX_ERR_INFO_SLOT idx).put R.ONX_ERR_INFO_RECEIVER receiver

/-- The receiver code of ONX_ERR_INFO for a DEST bit, R220, R250. -/
def receiverCode : Nat → Nat
  | 0 => 2 | 1 => 1 | 2 => 4 | 3 => 3 | 4 => 5 | 5 => 6 | 6 => 7 | _ => 0

/-- A key goes over the bus, R30: every 64-bit word under a mask drawn for this transfer. -/
def transfer (st : Strand) (receiver : Nat) (key : Bytes) : Strand :=
  let w := keyWords key
  let masks := (List.range w.length).map fun i => BitVec.ofNat 64 (Config.free st.id.val (st.draws + i))
  { st with draws := st.draws + w.length, keyBus := some { receiver, masks, shares := List.zipWith (· ^^^ ·) w masks } }

/-- A transfer as its receiver meets it, R33: with a failed check code or a wrong destination both shares are discarded, nothing is
loaded, and the vault records the fault. -/
def deliver (st : Strand) (env : JobEnv) (idx receiver : Nat) (key : Bytes) : Strand × Bool :=
  let st := st.transfer receiver key
  if env.transferOk && env.destOk then (st, true)
  else ({ st with keyBus := none }.onxErr (if env.transferOk then 2 else 1) idx receiver, false)

/-- The engine a root may reach, as ONX_ERR_INFO codes receivers: Jade for PAIRING, ATTEST and CARD, Topaz for the others, none for
the reserved ones, R209. -/
def rootReceiver (k : Nat) : Nat := if k = 2 ∨ k = 3 ∨ k = 4 then 3 else if 6 ≤ k ∧ k ≤ 15 then 0 else 2

/-- A root is released as any other key, R30, R32: after the doubled decision, in shares, to the engine of its role; none where the
decision disagrees or the transfer fails. ONX_ERR_INFO shows the root's number (log entry 127). -/
def rootRelease (st : Strand) (t : Nat) (env : JobEnv) (k : Nat) : Strand × Option Bytes :=
  if !env.agree then ((st.onxErr 3 k (rootReceiver k)).mismatch t, none)
  else
    let key := bvBytes (st.root k)
    match st.deliver env k (rootReceiver k) key with
    | (st, true) => (st, some key)
    | (st, false) => (st, none)

/-- The key a receiver holds for a session in a context slot: a key reaches only a receiver that its DEST names, R30. -/
def sessionKey (st : Strand) (slot : Option Nat) (dest : Nat) : Option Bytes :=
  match slot.bind st.slot with
  | some c => if bit c.attr.dest dest then some c.key else none
  | none => none

/-- The checks of R223 in order, the charge of R224, and the transfer of R30 and R33. `usage` is the mask of the usages
needed and `dest` the receiver's bit number; `limits` says whether USES_LEFT and EXPIRY are judged and a use charged (not for keys charged at intake). -/
def release (st : Strand) (t : Nat) (env : JobEnv) (fn gen h usage dest : Nat) (limits : Bool) :
    Strand × (Nat ⊕ Ctx) :=
  match st.ctxFor fn gen h with
  | none => (st.bump R.ONX_ABSENT, .inl 0x22)
  | some c =>
    if usage &&& c.attr.usage ≠ usage ∨ ¬ bit c.attr.dest dest
        ∨ (limits ∧ (st.expired t c ∨ c.attr.usesLeft = 0)) then
      (st.bump R.ONX_DENIED, .inl 0x21)
    else if !env.agree then
      ((st.onxErr 3 c.idx (receiverCode dest)).mismatch t, .inl 0x7F)
    else
      let c' := { (if limits then chargeUse c else c) with lastRelease := t }
      match (st.putCtx c').deliver env c.idx (receiverCode dest) c'.key with
      | (st, true) => (st, .inr c')
      | (st, false) => (st, .inl 0x7F)

/-- Reserve `k` counter values of a context in one step, R256, R257: the first value, or none with the context exhausted. -/
def drawCounter (st : Strand) (c : Ctx) (k : Nat) : Strand × Option Nat :=
  if c.attr.counter + k > 0xFFFFFFFFFFFFFFFF then
    (st.putCtx { c with attr := { c.attr with counter := 0xFFFFFFFFFFFFFFFF } }, none)
  else (st.putCtx { c with attr := { c.attr with counter := c.attr.counter + k } }, some c.attr.counter)

/-- In QUARANTINE and RETURN the keys are gone, R243. -/
def zeroised (st : Strand) : Bool := st.mode == 6 || st.mode == 7

end Strand

end Sys2Proof.Machine
end

