-- ==== Sys2Proof/Machine/Charter.lean ====
section
/-! DEFINITION. The Carvis charter image: its header, sections and signature (R40 to R48), the limits each section's chapter sets
(R144, R145, R356, R418, R460, R483, R484, R517, R586), what each section holds, and the "reads as" rules of registers. -/

namespace Sys2Proof.Machine
open Sys2Proof

/-! ### Registers as configuration -/

/-- The bits of a register that a FIELDS entry may name: configuration bits whose Reset is Cht or Ret, R46. -/
def RegDef.cfgMask (d : RegDef) : Nat :=
  ((d.fields.filter fun f => f.src != .lit && f.acc == .rw && f.cls != .none).map fun f => (2 ^ f.width - 1) * 2 ^ f.lo).sum

/-- A word under the "reads as" rules of its fields. -/
def RegDef.normal (d : RegDef) (w : Nat) : Nat :=
  d.fields.foldl (fun w f =>
    let x := bits w f.lo f.width
    w - x * 2 ^ f.lo + f.norm.apply x % 2 ^ f.width * 2 ^ f.lo) w

/-- JSP_SRC_CFG as it reads, R587, R606: RANK not below its minimum, N and W at their defaults where out of range; the fixed sources keep
their word. -/
def jspCfgNormal (c w : Nat) : Nat :=
  if c = 0 ∨ c ≥ 15 then (jspCfgWord c).toNat
  else
    let (_, least, _, n, ms) := jspDefaults c
    let rank := max (bits w 0 3) least
    let n' := if bits w 8 4 = 0 then n else bits w 8 4
    let w' := if bits w 12 16 = 0 ∨ bits w 12 16 > 60000 then ms else bits w 12 16
    rank + bits w 4 3 * 2 ^ 4 + n' * 2 ^ 8 + w' * 2 ^ 12 + bits w 28 1 * 2 ^ 28

/-- SL_LINK_CFG as it reads: RATE out of range reads as 96 on PLAIN and 10 on SEALED, R493. -/
def slCfgNormal (w : Nat) : Nat :=
  let rate := bits w 8 16
  let rest := w - rate * 2 ^ 8
  let ok := if bits w 0 2 = 1 then decide (3 ≤ rate) && decide (rate ≤ 9216) else decide (1 ≤ rate) && decide (rate ≤ 10)
  if bits w 0 2 = 0 ∨ ok then w else rest + (if bits w 0 2 = 1 then 96 else 10) * 2 ^ 8

/-- OPL_WM as it reads: both defaults where LOW is not below HIGH, R502. HIGH never exceeds its 13 bits. -/
def oplWmNormal (w : Nat) : Nat :=
  if bits w 16 13 < bits w 0 13 then w else 6144 + 2048 * 2 ^ 16

/-- A strand register word as it reads. -/
def strandNormal (o w : Nat) : Nat :=
  match RegMap.strandReg o with
  | none => w
  | some d =>
    let w := d.normal w
    if 0x1000100 ≤ o ∧ o < 0x1000180 ∧ o % 8 = 0 then jspCfgNormal ((o - 0x1000100) / 8) w
    else if 0xB01000 ≤ o ∧ o < 0xB01800 ∧ o % 32 = 0 then slCfgNormal w
    else if o = 0xC00024 then oplWmNormal w
    else w

/-- A ring register word as it reads. -/
def ringNormal (o w : Nat) : Nat :=
  match RegMap.ringReg o with
  | none => w
  | some d => d.normal w

namespace Charter

/-! ### The image -/

/-- A directory entry with its section, R42. -/
structure Sec where
  ty : Nat
  mask : Nat
  off : Nat
  len : Nat
  body : Bytes
  deriving DecidableEq, Repr

/-- IMAGE_LEN, SERIAL, KEY_SLOT, FLAGS and WARDEN_MIN of the header, R41. -/
def imageLen (b : Bytes) : Nat := le b 8 4

def serial (b : Bytes) : Nat := le b 0xC 8

def keySlot (b : Bytes) : Nat := le b 0x15 1

def flags (b : Bytes) : Nat := le b 0x34 4

def wardenMin (b : Bytes) : Nat := le b 0x30 4

/-- The sections of an image, R42. -/
def sections (b : Bytes) : List Sec :=
  (List.range (le b 0x16 2)).map fun i =>
    let e := 0x80 + 16 * i
    { ty := le b e 2, mask := le b (e + 2) 1, off := le b (e + 4) 4, len := le b (e + 8) 4
      body := Machine.sub b (le b (e + 4) 4) (le b (e + 8) 4) }

/-- The section of a type that a strand applies, R42. -/
def sectionOf (b : Bytes) (n : Fin 4) (ty : Nat) : Option Bytes :=
  ((sections b).find? fun x => x.ty == ty && bit x.mask n.val).map (·.body)

/-- The signed part of a slot's image. -/
def signed (b : Bytes) : Bytes := Machine.sub b 0 (imageLen b)

/-- The SHA-384 digest of an image, R44, R47. -/
def digest (b : Bytes) : BitVec 384 := Config.sha384 (signed b)

/-- Check 1 of R46. -/
def headerOk (b : Bytes) : Bool :=
  Machine.sub b 0 4 == ascii "CRVS" && le b 4 2 == 1 && le b 6 2 == 0x80
    && decide (1 ≤ serial b) && decide (serial b ≤ 2 ^ 64 - 2)
    && decide (1 ≤ le b 0x16 2) && decide (le b 0x16 2 ≤ 64)
    && decide (flags b < 2) && allZero b 0x38 72 && decide (imageLen b + 256 ≤ 2 ^ 25)

/-- The digest fused for a key slot, R45; none where the slot is empty or revoked. -/
def fused (i : Ident) (slot : Nat) : Option (BitVec 384) :=
  if slot = 0xFF then some i.makerDigest
  else if i.revoked.contains slot then none
  else (i.ownerDigests.find? (·.1 == slot)).map (·.2)

/-- Check 2 of R46: the key under R45, the signature of R44, and the key slot that the life-cycle permits. -/
def keyOk (i : Ident) (life : Nat) (b : Bytes) : Bool :=
  let sig := Machine.sub b (imageLen b) 256
  let key := Machine.sub sig 0 97
  let slot := keySlot b
  fused i slot == some (Config.sha384 key) && Machine.sub key 0 1 == [4]
    && allZero sig 97 31 && allZero sig 224 32
    && Config.verify 0x21 (key.drop 1) (signedText 0x21 (signed b)) (Machine.sub sig 128 96)
    && (if slot = 0xFF then life == 1 || life == 2 else decide (slot ≤ 7) && life == 3)

/-- Check 3 of R46: the binding; before the ownership ceremony no CONSTELLATION_ID is installed to compare with, R190 (log entry 125). -/
def bound (i : Ident) (n : Fin 4) (b : Bytes) : Bool :=
  let dev := Machine.sub b 0x20 16
  (i.constellation.all fun c => Machine.sub b 0x18 8 == c) && (dev == zeros 16 || dev == i.deviceId) && bit (le b 0x14 1) n.val

/-! ### What the sections hold -/

/-- The 12-byte entries of a FIELDS section, R43. -/
def fieldsFrom : Nat → Bytes → List FieldEntry
  | 0, _ => []
  | k + 1, b => { off := le b 0 4, val := le b 4 4, mask := le b 8 4 } :: fieldsFrom k (b.drop 12)

def fields (b : Bytes) : List FieldEntry := fieldsFrom (b.length / 12) b

/-- A FIELDS section names only configuration bits of Cht and Ret fields, R46. -/
def fieldsOk (b : Bytes) : Bool :=
  b.length % 12 == 0 && (fields b).all fun e =>
    match RegMap.strandReg e.off with
    | some d => e.mask &&& d.cfgMask == e.mask
    | none => e.mask == 0

/-- The entries of a CADENCE section, R144. -/
def cadence (b : Bytes) : List CadEntry :=
  (List.range (le b 0 2)).map fun i =>
    let e := 8 + 16 * i
    { lo := le b e 2, hi := le b (e + 2) 2, exempt := bit (le b (e + 4) 1) 0, perRecord := le b (e + 6) 2
      base := le b (e + 8) 4, perKib := le b (e + 12) 4 }

/-- Ascending without overlap, R145. -/
def rising : List CadEntry → Bool
  | a :: b :: r => decide (a.hi < b.lo) && rising (b :: r)
  | _ => true

/-- The limits of R144 and R145. -/
def cadenceOk (b : Bytes) : Bool :=
  let l := cadence b
  decide (1 ≤ l.length) && decide (l.length ≤ 255) && le b 2 1 == 1 && allZero b 3 5 && b.length == 8 + 16 * l.length
    && ((List.range l.length).all fun i => decide (le b (0xC + 16 * i) 1 < 2) && le b (0xD + 16 * i) 1 == 0)
    && (l.all fun e => decide (0x100 ≤ e.lo) && decide (e.hi ≤ 0x9FF) && decide (e.lo ≤ e.hi)
      && (decide (e.lo > 0x101) || decide (e.hi < 0x100) || (decide (e.base ≥ 20000) && decide (e.perRecord ≥ 2000))))
    && rising l

/-- The STATION_ROOTS section, R460. -/
def stations (b : Bytes) : Stations :=
  let roots := le b 0 1
  let binds := le b 1 1
  let bind := fun (i : Nat) =>
    let e := 8 + 64 * roots + 24 * i
    ({ link := le b e 1, roots := le b (e + 2) 2, pinCtx := le b (e + 4) 4, verifyCtx := le b (e + 8) 4
       station := le b (e + 12) 8 } : Bind)
  { roots := (List.range roots).map fun i => Machine.sub b (8 + 64 * i) 64
    binds := (List.range binds).map bind
    deny := (List.range (le b 2 2)).map fun i => le b (8 + 64 * roots + 24 * binds + 8 * i) 8 }

/-- No value twice. -/
def distinct : List Nat → Bool
  | [] => true
  | a :: r => !r.contains a && distinct r

/-- The limits of R460. -/
def stationsOk (b : Bytes) : Bool :=
  let s := stations b
  decide (1 ≤ s.roots.length) && decide (s.roots.length ≤ 16) && decide (s.binds.length ≤ 64) && decide (s.deny.length ≤ 256)
    && le b 4 1 == 1 && allZero b 5 3 && b.length == 8 + 64 * s.roots.length + 24 * s.binds.length + 8 * s.deny.length
    && ((List.range s.binds.length).all fun i =>
      let e := 8 + 64 * s.roots.length + 24 * i
      le b (e + 1) 1 == 0 && allZero b (e + 20) 4)
    && (s.binds.all fun x => decide (x.link ≤ 63)) && distinct (s.binds.map (·.link))

/-- The formats of a FABRIC section, R484. -/
def formats (b : Bytes) : List Fmt :=
  (List.range (le b 1 1)).map fun i =>
    let e := 0x10 + 32 * i
    { id := le b e 1, sources := le b (e + 1) 1, pathMode := le b (e + 2) 1, close := le b (e + 3) 1, count := le b (e + 4) 2
      idle := le b (e + 6) 2, authz := le b (e + 8) 1, extra := Machine.sub b (e + 9) 23 }

/-- Its declarations, R483. -/
def decls (b : Bytes) : List Decl :=
  (List.range (le b 2 2)).map fun i =>
    let e := 0x10 + 32 * le b 1 1 + 4 * i
    { major := le b e 1, fn11 := le b (e + 1) 2, cycles := le b (e + 3) 1 }

/-- CFG_VERSION, R483. -/
def fabricVersion (b : Bytes) : Nat := le b 4 4

/-- The limits of R483 and R484. -/
def fabricOk (b : Bytes) : Bool :=
  let f := formats b
  let d := decls b
  le b 0 1 == 1 && decide (1 ≤ f.length) && decide (f.length ≤ 63) && decide (d.length ≤ 1024) && decide (le b 0xC 4 ≤ 2 ^ 21)
    && decide (0x10 + 32 * f.length + 4 * d.length ≤ b.length) && decide (le b 8 4 + le b 0xC 4 ≤ b.length)
    && (f.all fun x => decide (1 ≤ x.id) && decide (x.sources < 8) && decide (x.pathMode ≤ 2) && decide (x.close < 16)
      && decide (1 ≤ x.count) && decide (x.count ≤ 4096) && decide (1 ≤ x.idle)
      && (x.authz == 0 || (x.authz == 1 && x.sources == 4)))
    && distinct (f.map (·.id))
    && (d.all fun x => decide (0x3C ≤ x.major) && decide (x.major ≤ 0x3F) && decide (x.fn11 ≤ 0x7FF)
      && decide (1 ≤ x.cycles) && decide (x.cycles ≤ 64))

/-- The limits of R586. -/
def sentinelOk (b : Bytes) : Bool :=
  let k := le b 0 1
  let src := (List.range k).map fun i => le b (8 + 8 * i) 1
  decide (1 ≤ k) && decide (k ≤ 14) && le b 1 1 == 1 && allZero b 4 4 && b.length == 8 + 8 * k && distinct src
    && ((List.range k).all fun i =>
      let e := 8 + 8 * i
      let c := le b e 1
      let sampled := [1, 2, 3, 6, 9, 10, 13].contains c
      decide (1 ≤ c) && decide (c ≤ 14) && decide (le b (e + 1) 1 ≤ 5) && decide ((jspDefaults c).2.1 ≤ le b (e + 1) 1)
        && decide (le b (e + 2) 1 ≤ 5) && (sampled || le b (e + 2) 1 == 0)
        && decide (1 ≤ le b (e + 3) 1) && decide (le b (e + 3) 1 ≤ 15)
        && decide (1 ≤ le b (e + 4) 2) && decide (le b (e + 4) 2 ≤ 60000) && decide (le b (e + 6) 1 < 2) && le b (e + 7) 1 == 0)

/-- A SENTINEL section as the fields it gives: every source's JSP_SRC_CFG, named or at its defaults, and the TAMP_IN fields of
JSP_CTL, R586, R604, R606. -/
def sentinelFields (b : Bytes) : List FieldEntry :=
  let word := fun (c : Nat) =>
    match (List.range (le b 0 1)).find? fun i => le b (8 + 8 * i) 1 == c with
    | some i =>
      let e := 8 + 8 * i
      le b (e + 1) 1 + le b (e + 2) 1 * 2 ^ 4 + le b (e + 3) 1 * 2 ^ 8 + le b (e + 4) 2 * 2 ^ 12 + le b (e + 6) 1 * 2 ^ 28
    | none => (jspCfgWord c).toNat
  { off := 0x1000000, val := le b 2 2, mask := 0xFFFF } ::
    (List.range 14).map fun i => { off := 0x1000100 + 8 * (i + 1), val := word (i + 1), mask := 0x1FFFFF77 }

/-- An applet of the APPLETS section, R418. -/
structure Applet where
  isaMin : Nat
  cops : Nat
  priv : Nat
  core : Nat
  image : Bytes
  load : Nat
  entry : Nat
  stack : Nat
  deriving DecidableEq, Repr

/-- The applets of a section. -/
def applets (b : Bytes) : List Applet :=
  (List.range (le b 0 2)).map fun i =>
    let e := 8 + 32 * i
    { isaMin := le b (e + 4) 2, cops := le b (e + 6) 1, priv := le b (e + 7) 1, core := le b (e + 8) 1
      image := Machine.sub b (le b (e + 12) 4) (le b (e + 16) 4), load := le b (e + 20) 4, entry := le b (e + 24) 4
      stack := le b (e + 28) 4 }

/-- Whether a range lies in one bank of work SRAM, R431. -/
def inWork (a len : Nat) : Bool := decide (a + len ≤ 0x80000) || (decide (0x400000 ≤ a) && decide (a + len ≤ 0x480000))

/-- The limits of R418. -/
def appletsOk (b : Bytes) : Bool :=
  let k := le b 0 2
  decide (1 ≤ k) && decide (k ≤ 32) && le b 2 1 == 1 && allZero b 3 5 && decide (8 + 32 * k ≤ b.length)
    && ((List.range k).all fun i =>
      let e := 8 + 32 * i
      (le b (e + 7) 1 == 2 || le b (e + 7) 1 == 3) && decide (le b (e + 8) 1 ≤ 3) && allZero b (e + 9) 3
        && le b (e + 16) 4 % 4 == 0 && decide (le b (e + 12) 4 + le b (e + 16) 4 ≤ b.length)
        && le b (e + 20) 4 % 32 == 0 && inWork (le b (e + 20) 4) (le b (e + 16) 4))

/-- The QUORUM section, R517. -/
def quorum (b : Bytes) : Quorum :=
  let roots := le b 0 1
  let rules := le b 1 1
  let rule := fun (i : Nat) =>
    let e := 8 + 64 * roots + 8 * i
    ({ order := le b e 1, m := le b (e + 1) 1, groups := le b (e + 2) 2 } : Rule)
  { roots := (List.range roots).map fun i => Machine.sub b (8 + 64 * i) 64
    rules := (List.range rules).map rule
    deny := (List.range (le b 2 2)).map fun i => le b (8 + 64 * roots + 8 * rules + 8 * i) 8
    kek := if le b 5 1 = 0xFF then none else some (le b 5 1) }

/-- The limits of R517. -/
def quorumOk (b : Bytes) : Bool :=
  let q := quorum b
  decide (1 ≤ q.roots.length) && decide (q.roots.length ≤ 4) && decide (1 ≤ q.rules.length) && decide (q.rules.length ≤ 8)
    && decide (q.deny.length ≤ 256) && le b 4 1 == 1 && allZero b 6 2
    && b.length == 8 + 64 * q.roots.length + 8 * q.rules.length + 8 * q.deny.length
    && (q.rules.all fun r => decide (1 ≤ r.m) && decide (r.m ≤ 15))
    && ((List.range q.rules.length).all fun i => allZero b (8 + 64 * q.roots.length + 8 * i + 4) 4)

/-- The entries of a RING section, R356. -/
def ringFields (b : Bytes) : List FieldEntry := fieldsFrom (le b 0 2) (b.drop 8)

/-- The limits of R356. -/
def ringOk (b : Bytes) : Bool :=
  let k := le b 0 2
  decide (1 ≤ k) && decide (k ≤ 64) && le b 2 1 == 1 && allZero b 3 5 && b.length == 8 + 12 * k
    && ((ringFields b).all fun e =>
      match RegMap.ringReg e.off with
      | some d => [0x0, 0x200000, 0x101014].contains e.off && (e.mask &&& (if e.off = 0x101014 then 0xFFFFFF else d.cfgMask)) == e.mask
      | none => false)

/-- Whether a section obeys its chapter's limits, R43, R46. -/
def sectionOk (ty : Nat) (b : Bytes) : Bool :=
  match ty with
  | 1 => fieldsOk b
  | 2 => cadenceOk b
  | 3 => stationsOk b
  | 4 => fabricOk b
  | 5 => sentinelOk b
  | 6 => appletsOk b
  | 7 => quorumOk b
  | 8 => ringOk b
  | _ => false

/-- No type twice for one strand, R43. -/
def onePerStrand (l : List Sec) : Bool :=
  [0, 1, 2, 3].all fun n => distinct ((l.filter fun x => bit x.mask n).map (·.ty))

/-- Check 4 of R46. -/
def contentOk (life : Nat) (b : Bytes) : Bool :=
  let l := sections b
  decide (0x80 + 16 * le b 0x16 2 ≤ imageLen b)
    && ((List.range l.length).all fun i => le b (0x83 + 16 * i) 1 == 0 && allZero b (0x8C + 16 * i) 4)
    && (l.all fun x => decide (x.off + x.len ≤ imageLen b) && sectionOk x.ty x.body)
    && onePerStrand l && (life != 2 || flags b == 1)

/-- FALLBACK_WHY of a slot: 0 where it is valid, R46. -/
def judge (i : Ident) (life : Nat) (n : Fin 4) (b : Bytes) : Nat :=
  if !headerOk b then 2
  else if !keyOk i life b then 3
  else if !bound i n b then 6
  else if !contentOk life b then 7
  else 0

/-- The image chosen between the slots with what FALLBACK_WHY shows of the other, or the reason why none is, R46, R75: 7 where content alone
keeps out an image that would otherwise have been chosen, R145. -/
def choose (i : Ident) (life : Nat) (n : Fin 4) (m : CharterMem) : (Bytes × Nat) ⊕ Nat :=
  let newer := decide (serial m.slotB > serial m.slotA)
  if !m.present then .inr 1
  else
    match judge i life n m.slotA, judge i life n m.slotB with
    | 0, 0 => .inl (if newer then m.slotB else m.slotA, 0)
    | 0, b => .inl (m.slotA, if b = 7 ∧ newer then 7 else 0)
    | a, 0 => .inl (m.slotB, if a = 7 ∧ ¬ newer then 7 else 0)
    | a, b => .inr (if a = 7 ∨ b = 7 then 7 else a)

/-- The FIELDS entries that an image gives a strand, its SENTINEL section among them. -/
def entries (b : Bytes) (n : Fin 4) : List FieldEntry :=
  ((sectionOf b n 1).map fields).getD [] ++ ((sectionOf b n 5).map sentinelFields).getD []

end Charter

/-- The fault of a coprocessor or fabric major, R407: 0 none, else the detail of vector 8. A kind of several lanes is absent with
detail 1, an island of its own with detail 2, an unconfigured or undeclared fabric with detail 3. -/
def Strand.majorFault (st : Strand) (m : Nat) : Nat :=
  let gone := fun (l : List Nat) => l.all fun i => st.fenced.contains i
  match m with
  | 0x38 => if gone [7, 8, 9, 10, 11] then 1 else 0
  | 0x39 => if gone [12, 13, 14] then 1 else 0
  | 0x3A => if gone [18] then 2 else 0
  | 0x3B => if gone [15] then 2 else 0
  | _ => if gone [19] then 2 else if (st.fab.decls.any fun d => d.major == m) then 0 else 3

/-- Warden loads the applets at the first entry to SERVICE or DEGRADED after a start, and refuses those of R419; it starts one with ERET,
R410, which its own instructions do. -/
def Strand.loadApplets (st : Strand) : Strand :=
  if !st.flag R.GAR_CTL_APPLET_EN then st
  else match st.accepted.bind fun b => Charter.sectionOf b st.id 6 with
    | none => st
    | some b =>
      let l := Charter.applets b
      let refused := fun (a : Charter.Applet) =>
        decide (a.isaMin > st.get R.GAR_ID_MINOR + 256 * st.get R.GAR_ID_MAJOR)
          || ((List.range 8).any fun k => bit a.cops k && st.majorFault (0x38 + k) != 0) || !st.coreActive a.core
      let word := ((List.range l.length).map fun i => match l[i]? with | some a => if refused a then 2 ^ i else 0 | none => 0).sum
      let st := st.put R.GAR_APPLET_REFUSED word
      l.foldl (fun st a => if refused a then st else { st with sram := Mem.writeBytes st.sram a.load a.image }) st

end Sys2Proof.Machine
end

