-- ==== Sys2Proof/Machine/Modes.lean ====
section
/-! DEFINITION. The mode machine of a strand, R56 to R62, and what a halt, a restart and a loss of power do to a strand's
volatile state. -/

namespace Sys2Proof.Machine
open Sys2Proof

/-- The bits of a register word that are retained status (RO or W1C fields whose Reset is Ret), R9. -/
def retMask (d : RegDef) : Nat :=
  ((d.fields.filter fun f => f.src == .ret && (f.acc == .ro || f.acc == .w1c)).map
    fun f => (2 ^ f.width - 1) * 2 ^ f.lo).sum

/-- The register file after a stop: retained status stays, every other word is at its reset word, R9. -/
def keepRet : RegFile → RegFile
  | [] => []
  | (o, w) :: r =>
    match RegMap.strandReg o with
    | some d =>
      let m := BitVec.ofNat 32 (retMask d)
      let v := (w &&& m) ||| (strandReset o &&& ~~~m)
      if v = strandReset o then keepRet r else (o, v) :: keepRet r
    | none => keepRet r

/-- The set frequency of an island in MHz, R611; V has its crystal. -/
def setMhz (i : Nat) : Nat :=
  if i < 5 then 1200 else if i = 5 ∨ i = 16 ∨ i = 18 then 800 else if i = 6 ∨ i = 19 then 400
  else if i < 12 ∨ i = 15 then 1000 else if i < 15 then 900 else if i = 20 then 500 else 0

/-- The progress registers of a strand window, R15. -/
def progRegs : List Nat := [0x20002C, 0x200030, 0x300038, 0x700040, 0x700044, 0x700048, 0x70004C, 0x700050, 0xF00034, 0x1100810]

/-- A progress register over a loss of volatile state, R9, R17: what was abandoned, now or before, keeps its PERCENT and POSITION with VALID
at 0; one that had completed is at its reset literal (log entry 122). -/
def progKeep (w : Word) : Word := if bits w.toNat 24 7 = 100 then 0 else w &&& 0x7FFFFFFF

/-- Entries without the bits that others name, R55. -/
def unnamed (l now : List FieldEntry) : List FieldEntry :=
  let cut := fun (e : FieldEntry) => (now.filter fun x => x.off == e.off).foldl (fun (e : FieldEntry) x => { e with mask := e.mask - (e.mask &&& x.mask) }) e
  (l.map cut).filter fun e => e.mask != 0

/-- A run-time change joins the retained ones, R9: it replaces the bits it names. -/
def retainEntry (l : List FieldEntry) (e : FieldEntry) : List FieldEntry := unnamed l [e] ++ [e]

namespace Flash

/-- A word of a sparse array of cells; blank where nothing is listed. -/
def cell (l : FlashCells) (k : Nat) : BitVec 72 := ((l.find? (·.1 == k)).map (·.2)).getD (BitVec.allOnes 72)

/-- List a word in order, where none is listed for it. -/
def insertCell : FlashCells → Nat → BitVec 72 → FlashCells
  | [], k, w => [(k, w)]
  | c :: r, k, w => if k < c.1 then (k, w) :: c :: r else c :: insertCell r k w

/-- Replace a word; a blank one is not listed. -/
def setCell (l : FlashCells) (k : Nat) (w : BitVec 72) : FlashCells :=
  let r := l.filter (·.1 != k)
  if w = BitVec.allOnes 72 then r else insertCell r k w

end Flash

namespace Strand

/-- The islands that run at half clock under a THROTTLE, R589. -/
def throttled (i : Nat) : Bool := decide (i < 5) || (decide (7 ≤ i) && decide (i ≤ 15)) || i == 18

/-- The running frequency of an island in MHz: its set frequency less 5 % a step, halved under a THROTTLE, R589, R626. -/
def isleMhz (st : Strand) (i : Nat) : Nat :=
  let f := setMhz i * (20 - st.get R.ISL_AGE_STEP i) / 20
  if throttled i && st.flag R.JSP_STATUS_THROTTLED then f / 2 else f

/-- When a job of so many cycles ends at a frequency in MHz, R589: it began at `since`, and by `mark` it had done `done` (MHz times ns). -/
def runEnd (since mark done cycles mhz : Nat) : Nat := max since mark + (1000 * cycles - done) / max 1 mhz

/-- The work that a running job has done by a moment. -/
def runDone (since mark done mhz t : Nat) : Nat := done + (t - max since mark) * mhz

/-- Change the flash. -/
def upFlash (st : Strand) (f : Flash → Flash) : Strand := { st with nv := { st.nv with flash := f st.nv.flash } }

/-- A program cut short, or one that fails its verify, leaves its words uncertain: open values, R567 (log entry 2). -/
def spoil (st : Strand) (p : ProgRun) : Strand :=
  p.words.foldl (fun st w =>
    let (x, st) := st.draw
    st.upFlash fun f => { f with data := Flash.setCell f.data (8192 * p.phys + w.1) (BitVec.ofNat 72 x) }) st

/-- Every operation under way is abandoned, R17. -/
def progDropAll (st : Strand) : Strand := progRegs.foldl progDrop st

/-- A strand with its volatile state lost: what Agate, island V and the fuses hold stays, R56, R119; a probe session, which
belongs to the test access port, stays open, R585. A stop in CEREMONY ends the ceremony, and with it the permit of R240. A page program is cut
short, R565. What PERCENT and POSITION of an abandoned operation read then is a choice (log entry 122). -/
def fresh (st : Strand) : Strand :=
  let st := match st.agt.prog with | some p => st.spoil p | none => st
  let v := st.nv.vault
  let nv := { st.nv with vault := { v with attestDraw := if st.mode = 5 then 0 else v.attestDraw } }
  let x : Strand := { Strand.reset st.id with nv := nv, draws := st.draws, regs := keepRet st.regs, fenced := st.fenced
                                              jnl := { index := st.jnl.index, base := st.jnl.base }, sent := st.sent
                                              quar := st.quar, jsp := { window := st.jsp.window } }
  let x := progRegs.foldl (fun (x : Strand) o => x.wr o (progKeep (st.rd o))) x
  (x.put R.JSP_FUSE_OFF_FUSED (st.get R.JSP_FUSE_OFF_FUSED)).put R.JSP_STATUS_TEST (st.get R.JSP_STATUS_TEST)

/-- The number of islands of a lane kind that are not fenced; a kind whose swap was abandoned counts without its spare, R628. -/
def usable (st : Strand) (kind lo count : Nat) : Nat :=
  ((List.range count).filter fun i => !st.fenced.contains (lo + i)).length - b2n (st.hlt.out.contains kind)

/-- Whether every lane kind stands at its full active count: four cores, four Beryl engines, two Topaz lanes, R26, R29. -/
def fullLanes (st : Strand) : Bool :=
  decide (st.usable 1 0 5 ≥ 4) && decide (st.usable 2 7 5 ≥ 4) && decide (st.usable 3 12 3 ≥ 2)

/-- Every context of a function is gone from the slots and from the persistent store, R378. -/
def dropOwned (st : Strand) (f : Nat) : Strand :=
  let nv := { st.nv.vault with persist := st.nv.vault.persist.filter fun p => p.ctx.attr.owner != f }
  { st with vault := { st.vault with ctxs := st.vault.ctxs.filter fun c => c.attr.owner != f }, nv := { st.nv with vault := nv } }

/-- Whether the pair lease is held, R180. -/
def leaseHeld (st : Strand) : Bool := st.flag R.MIR_STATUS_LEASE

/-- SERVICE or DEGRADED by the conditions of R56. -/
def servingMode (st : Strand) : Nat := if st.fullLanes && st.leaseHeld then 2 else 3

/-- Whether a batch stands past intake and short of its completion, R62, R95: one whose 0x50 is posted has reached it. -/
def batchOpen (st : Strand) : Bool := st.post.batches.any fun b => !b.posted

/-- The posting engine after a halt: batches, approvals, slots and buffers are lost, and every slot is free, R119, R150. -/
def clearPost (p : Post) : Post :=
  { nextOrder := p.nextOrder, cad := p.cad, cadAbsent := p.cadAbsent }

/-- HALTED is set and the mode kept; nothing is delivered any more, R59. -/
def halt (st : Strand) : Strand :=
  let st := (st.put R.CHT_MODE_HALTED 1).put R.GAR_STATUS_ACTIVE 0
  let fab : Fabric := { fmts := st.fab.fmts, decls := st.fab.decls }
  { st with post := clearPost st.post, taken := [], done := [], eng := {}, links := [], fab := fab, hlt := {}
            cores := st.cores.map fun (c : Core) => { c with running := false, tickets := [] } }.emptyWindows.progDropAll

/-- A start-up failure: HALTED with its step and code, R51, R76. -/
def failStart (st : Strand) (step code : Nat) : Strand :=
  ((st.put R.CHT_START_STATUS_FAIL_STEP step).put R.CHT_START_STATUS_FAIL_CODE code).halt

/-- A doubled request meets a mismatch: the mode stays, the sentinel has its event, and Warden repeats once after 1 ms,
R60. -/
def awaitRetry (st : Strand) (t : Nat) (d : Decision) : Strand :=
  { st.mismatch t with retry := some (d, t + 1000000) }

/-- Milliseconds since step 1, saturating, R76. -/
def elapsed (st : Strand) (t : Nat) : Nat := min 65535 ((t - st.startedAt) / 1000000)

/-- Entry to SERVICE or DEGRADED as R56 rows 4, 5, 9, 11 and 13 give it; the cause of a start or a loss that leads to
DEGRADED is 0x5. Applets follow the first entry after a start, R419. -/
def enterServing (st : Strand) (t : Nat) (fromStart : Bool) : Strand :=
  let m := st.servingMode
  let st := { st.setMode m (if fromStart && m == 3 then 5 else 4) with retry := none, freezeOpen := false }
  if fromStart then ((st.put R.CHT_START_STATUS_STEP 10).put R.CHT_START_STATUS_ELAPSED (st.elapsed t)).loadApplets else st

/-- SERVICE becomes DEGRADED when a lane is lost without a spare or the lease is lost, R56. -/
def degrade (st : Strand) : Strand :=
  if st.mode = 2 ∧ st.servingMode = 3 then st.setMode 3 5 else st

end Strand

namespace State

/-- Every job taken for the strand ends without a completion: reservations released, HQ_LOST counted, R354. -/
def loseJobs (s : State) (n : Fin 4) : State :=
  let js := (s.sd n).taken
  let s := js.foldl (fun s j => let c := s.cq j.cq; s.setCq { c with reserved := c.reserved - 1 }) s
  (s.radd R.HQ_LOST js.length n.val).up n fun st => { st with taken := [], done := [] }

/-- Jobs taken on any strand for a function. -/
def jobsOf (s : State) (f : Nat) : List Job :=
  (s.strands.toList.map fun st => st.taken.filter fun j => j.fn == f).flatten

/-- Advance a function's generation, or wait while a job still in flight carries the next value, R374, R375. -/
def advanceGen (s : State) (f : Nat) : State :=
  let g := s.fn f
  if (s.jobsOf f).any fun j => j.gen == nextGen g.gen then s.setFn { g with advance := true }
  else s.setFn { g with gen := nextGen g.gen, advance := false }

/-- The pool takes new weights: what stood before serves the windows already begun, R371. -/
def setPool (s : State) (f : Nat) (p : Pool) : State :=
  let g := s.fn f
  s.setFn { g with pool := p, past := (g.past.filter fun x => decide (s.now < x.1 + 1000000)) ++ [(s.now, g.pool)] }

/-- The pool that serves a function in the window that began at a moment, R371, R373. -/
def poolAt (s : State) (since f : Nat) : Pool :=
  let g := s.fn f
  match g.past.find? fun x => decide (since < x.1) with
  | some x => x.2
  | none => g.pool

/-- Unmap every queue of a range on a strand, R378. -/
def unmapRange (s : State) (home : Fin 4) (p : Pool) : State :=
  (List.range p.qcount).foldl (fun s i =>
    let q := home.val * 1024 + p.qbase + i
    (s.rput R.HQ_SQ_CFG_MAPPED 0 q).rput R.HQ_CQ_CFG_MAPPED 0 q) s

/-- The end of an abandoned restore: the function is ABSENT under its next generation and its queues are unmapped, R378. -/
def restoreGone (s : State) (f : Fn) : State :=
  ((s.unmapRange f.home f.pool).setFn { num := f.num, gen := f.gen, advance := f.advance }).rput R.VF_PROG_VALID 0 f.num
    |> fun s => if f.advance then s else s.advanceGen f.num

/-- The home strand of a function loses its work, R354, R378, R389: a save leaves the function FROZEN, a restore leaves it ABSENT under its
next generation with everything placed freed, and whatever function opcode waited for its end has no completion. -/
def dropImage (s : State) (f : Fn) : State :=
  match f.st with
  | .saving => (s.setFn { f with st := .frozen, job := none, image := [] }).rput R.VF_PROG_VALID 0 f.num
  | .restoring => (s.restoreGone f).up f.home fun st => st.dropOwned f.num
  | _ => s.setFn { f with job := none }

/-- Every job taken for a strand and every image under way is lost, R354, R389. -/
def loseWork (s : State) (n : Fin 4) : State :=
  ((s.loseJobs n).ring.fns.filter fun f => f.home == n && f.num != 0).foldl dropImage (s.loseJobs n)

/-- Halt a strand, R59, R354. -/
def haltStrand (s : State) (n : Fin 4) : State :=
  if (s.sd n).halted then s else (s.loseWork n).up n Strand.halt

/-- A strand restart: volatile state lost, CHARTER, waiting for STRAND_START, R56. Open chains on its queues are dropped. -/
def restartStrand (s : State) (n : Fin 4) (cause : Nat) : State :=
  let s := s.loseWork n
  let drop : Sq → Sq := fun q => if State.homeOf q.id = n then { q with chain := none, next := q.head } else q
  let s := s.upR fun r => { r with sqs := r.sqs.map drop }
  s.up n fun st =>
    let prev := st.mode
    (((st.fresh.put R.CHT_MODE_PREV_MODE prev).put R.CHT_MODE_MODE 1).put R.CHT_MODE_CAUSE cause).tagModeUpdate 1

end State

end Sys2Proof.Machine
end

