-- ==== Sys2Proof/Machine/Vault.lean ====
section
/-! DEFINITION. The Onyx key vault, R208 to R250: attributes, slots and generations, blobs, replacement, attestation,
ceremonies, and the vault opcodes. -/

namespace Sys2Proof.Machine
open Sys2Proof

/-! ### Attributes -/

/-- The fields of an attribute block, R217. -/
def Attr.parse (b : Bytes) : Attr :=
  { alg := le b 0 1, dest := le b 1 1, usage := le b 2 2, flags := le b 4 2, owner := le b 6 1, ownerGen := le b 7 1
    keylen := le b 8 2, usesLeft := le b 0xC 4, expiry := le b 0x10 8, counter := le b 0x18 8 }

/-- An attribute block, R217; STATE and CUR_GEN as a query shows them. -/
def Attr.block (a : Attr) (state curGen : Nat) : Bytes :=
  toLE 1 a.alg ++ toLE 1 a.dest ++ toLE 2 a.usage ++ toLE 2 a.flags ++ toLE 1 a.owner ++ toLE 1 a.ownerGen
    ++ toLE 2 a.keylen ++ toLE 1 state ++ toLE 1 curGen ++ toLE 4 a.usesLeft ++ toLE 8 a.expiry ++ toLE 8 a.counter

/-- The lengths R218 allows for an algorithm. -/
def keylenOk (alg len : Nat) : Bool :=
  match alg with
  | 0x01 => len == 128
  | 0x02 => len == 192
  | 0x03 => len == 256
  | 0x04 => len == 128
  | 0x05 => len == 192
  | 0x08 => decide (128 ≤ len) && decide (len ≤ 256) && len % 8 == 0
  | 0x09 => decide (264 ≤ len) && decide (len ≤ 1024) && len % 8 == 0
  | 0x10 | 0x11 => decide (1024 ≤ len) && decide (len ≤ 16384) && len % 64 == 0
  | 0x20 => len == 256
  | 0x21 => len == 384
  | 0x22 => len == 521
  | 0x23 | 0x24 => len == 255
  | 0x25 => len == 448
  | _ => false

/-- The large-key slots a key takes, R218. -/
def largeNeed (alg len : Nat) : Nat :=
  match alg with
  | 0x09 | 0x11 | 0x21 | 0x22 | 0x25 => 1
  | 0x10 => if len ≤ 6528 then 1 else if len ≤ 13056 then 2 else 3
  | _ => 0

/-- The bytes of key material, R218; the private forms of the curves and of Diffie-Hellman are one field element or
exponent (log entry 7). -/
def keyBytes (alg len : Nat) : Nat :=
  match alg with
  | 0x10 => 5 * len / 16 + 8
  | 0x22 => 66
  | 0x23 | 0x24 => 32
  | 0x25 => 57
  | _ => len / 8

/-- Whether an algorithm is asymmetric. -/
def asym (alg : Nat) : Bool := decide (alg ≥ 0x10)

/-- The bytes of a public key: a curve's two coordinates, an encoded point, a group element, or modulus and 8-byte
exponent (log entry 7). -/
def pubLen (alg len : Nat) : Nat :=
  match alg with
  | 0x10 => len / 8 + 8
  | 0x11 => len / 8
  | 0x20 => 64
  | 0x21 => 96
  | 0x22 => 132
  | 0x23 | 0x24 => 32
  | 0x25 => 57
  | _ => 0

/-- The public key of a private key. -/
def publicKey (alg len : Nat) (key : Bytes) : Bytes := (List.range (pubLen alg len)).map (Config.publicByte alg key)

/-- Reserved bits and the constraints of R219 to R221. -/
def Attr.ok (a : Attr) : Bool :=
  keylenOk a.alg a.keylen && decide (a.dest < 128) && decide (a.usage < 8192) && decide (a.flags < 64)
    && (!bit a.flags 2 || (!bit a.usage 10 && a.usesLeft == 0xFFFFFFFF))
    && (!bit a.flags 3 || bit a.flags 2) && (!bit a.flags 5 || bit a.flags 2)

/-! ### Slots, generations and counts -/

namespace Strand

/-- Context slots taken, hidden successors included, R214, R234. -/
def slotTaken (st : Strand) (i : Nat) : Bool :=
  st.vault.ctxs.any fun c => c.idx == i || (match c.succ with | some x => x.hidden == i | none => false)

/-- Open replacements, R234. -/
def staged' (st : Strand) : Nat := (st.vault.ctxs.filter fun c => c.succ.isSome).length

/-- Large-key slots taken. -/
def largeTaken (st : Strand) : List Nat :=
  (st.vault.ctxs.map fun c => c.large ++ (match c.succ with | some x => x.large | none => [])).flatten

/-- The registers that count slots and spills, R247 to R250. -/
def onxSync (st : Strand) : Strand :=
  let v := st.nv.vault
  let st := st.put R.ONX_CTX_FREE (65536 - st.vault.ctxs.length - st.staged')
  let st := st.put R.ONX_LARGE_FREE (2048 - st.largeTaken.length)
  let st := st.put R.ONX_PERSIST v.persist.length
  let st := st.put R.ONX_STAGED st.staged'
  let st := st.put R.ONX_SPILL_NEXT v.spillNext
  let st := st.put R.ONX_SPILL_LIVE (v.live.length)
  let st := st.put R.ONX_WRAP_GEN v.wrapGen
  let st := st.put R.ONX_STATUS_RENEWING (b2n v.renewing)
  st.put R.ONX_STATUS_SPILL_EXHAUSTED (b2n (v.spillNext == 4194304))

/-- Search upwards for a slot that nothing holds and that no free of this run has put at the tail. -/
def firstFree (st : Strand) : Nat → Nat → Option Nat
  | _, 0 => none
  | i, fuel + 1 =>
    if i ≥ 65536 then none else if st.slotTaken i || st.vault.freed.contains i then st.firstFree (i + 1) fuel else some i

/-- The head of the free list, R214: slots never taken since the start in rising order (log entry 8), then freed slots in
the order they were freed. -/
def freeHead (st : Strand) : Option Nat :=
  match st.firstFree st.vault.fresh (st.vault.ctxs.length + st.staged' + st.vault.freed.length + 1) with
  | some i => some i
  | none => st.vault.freed.head?

/-- Take the slot at the head of the free list. -/
def takeSlot (st : Strand) (i : Nat) : Strand :=
  if st.vault.freed.contains i then { st with vault := { st.vault with freed := st.vault.freed.filter (· != i) } }
  else { st with vault := { st.vault with fresh := i + 1 } }

/-- The first run of `n` free large-key slots, R218. -/
def largeRun (st : Strand) (n : Nat) : Option (List Nat) :=
  let t := st.largeTaken
  ((List.range (2049 - n)).find? fun a => (List.range n).all fun k => !t.contains (a + k)).map
    fun a => (List.range n).map (a + ·)

/-- The jobs that wait for a key: in an engine's queue, or taken with no outcome yet and on no engine. -/
def waitingJobs (st : Strand) : List Job :=
  let runs := st.eng.topRuns.map (·.job.id) ++ st.eng.jadRuns.map (·.job.id) ++ st.eng.berRuns.map (·.job.id)
  st.eng.topQ ++ st.eng.jadQ ++ st.eng.berQ
    ++ st.taken.filter fun j => !(runs.contains j.id || st.done.any fun d => d.job.id == j.id)

/-- Whether a job waits for the release of the key in a slot, R231: the handles in W1 and W7 of the opcodes that name keys there, the MAC,
seal and receipt keys of the batches past intake, and what the batches before it name. -/
def awaited (st : Strand) (idx : Nat) : Bool :=
  let here := fun (h : Nat) => bits h 30 2 == st.id.val && bits h 16 6 == 0 && h % 65536 == idx && bits h 22 8 != 0
  let w7 := fun (op : Nat) => op == 0x200 || op == 0x201 || op == 0x210 || op == 0x120 || op / 256 == 3
  let w1 := fun (op : Nat) => !(op / 256 == 1 && op != 0x120) && op != 0x200 && op != 0x201 && op != 0x209 && op != 0x20C && op != 0x20D
  (st.waitingJobs.any fun j => (w1 j.op && here j.ctx) || (w7 j.op && here (j.w7 % 2 ^ 32)))
    || (st.post.batches.any fun b => !b.posted && (here b.sealCtx || here (le b.header 0x14 4) || here (le b.header 0x18 4)))
    || (st.post.waiting.any fun x => here (le x.1.input 0x14 4) || here (le x.1.input 0x18 4))

/-- The least recently released context that may be evicted, R231. -/
def evictable (st : Strand) : Option Ctx :=
  let ok := st.vault.ctxs.filter fun c =>
    bit c.attr.flags 5 && c.succ.isNone && (match c.spill with | some k => st.nv.vault.live.contains k | none => false)
      && !st.awaited c.idx
  ok.foldl (fun m c => match m with
    | none => some c
    | some d => if c.lastRelease < d.lastRelease then some c else some d) none

/-- The last generation issued for a slot. -/
def lastGen (st : Strand) (i : Nat) : Nat := ((st.vault.gens.find? (·.1 == i)).map (·.2)).getD 0

/-- Set an entry of an association list. -/
def setAssoc (l : List (Nat × Nat)) (k v : Nat) : List (Nat × Nat) := (l.filter (·.1 != k)) ++ [(k, v)]

/-- The generation reservation of a slot, R215. -/
def reservation (st : Strand) (i : Nat) : Nat := ((st.nv.vault.reserve.find? (·.1 == i)).map (·.2)).getD 0

/-- Whether the next issue for a slot programs a new reservation first, R215. -/
def reserveDue (st : Strand) (i : Nat) : Bool := st.lastGen i == st.reservation i

/-- Issue the next generation of a slot, programming a reservation 16 higher first where needed, R215. -/
def issueGen (st : Strand) (i : Nat) : Nat × Strand :=
  let last := st.lastGen i
  let res := st.reservation i
  let g := nextGen last
  let st := if st.reserveDue i then
      { st with nv := { st.nv with vault := { st.nv.vault with
                  reserve := setAssoc st.nv.vault.reserve i ((res + 15) % 255 + 1) } } } else st
  (g, { st with vault := { st.vault with gens := setAssoc st.vault.gens i g } })

/-- Free a context: its keys are zeroised, its slot joins the tail of the free list, R213, R214, R234. -/
def freeCtx (st : Strand) (c : Ctx) : Strand :=
  let hid := match c.succ with | some x => [x.hidden] | none => []
  { st with
      vault := { st.vault with
                  ctxs := st.vault.ctxs.filter (fun d => d.idx != c.idx)
                  freed := st.vault.freed ++ hid ++ [c.idx] }
      nv := { st.nv with vault := { st.nv.vault with persist := st.nv.vault.persist.filter fun p => p.ctx.idx != c.idx } } }

/-- Contexts and large-key slots a function holds, R370. -/
def useOf (st : Strand) (f : Nat) : Nat × Nat :=
  let l := st.vault.ctxs.filter fun c => c.attr.owner == f
  (l.length, (l.map fun c => c.large.length).sum)

/-- A free slot, by eviction where the list is empty and EVICT_EN is 1, R214, R231. -/
def slotOrEvict (st : Strand) : Option (Nat × Strand) :=
  match st.freeHead with
  | some i => some (i, st)
  | none =>
    if !st.flag R.ONX_CTL_EVICT_EN then none
    else match st.evictable with
      | some c =>
        let st := (st.freeCtx c).bump R.ONX_EVICT
        (st.freeHead).map fun i => (i, st)
      | none => none

/-- Place a new context in the slot at the head of the free list; none where no slot, no run, no quota or no persistent
place is left (0x23), R214, R218, R226, R370. -/
def place (st : Strand) (a : Attr) (key : Bytes) (quota : Nat × Nat) : Option (Ctx × Strand) :=
  let use := st.useOf a.owner
  let need := largeNeed a.alg a.keylen
  if a.owner ≠ 0 ∧ a.owner ≠ 0xFF ∧ (use.1 ≥ quota.1 ∨ use.2 + need > quota.2) then none
  else if bit a.flags 0 ∧ st.nv.vault.persist.length ≥ st.get R.ONX_CTL_PERSIST_LIMIT then none
  else match st.slotOrEvict with
    | none => none
    | some (i, st) =>
      match (if need = 0 then some [] else st.largeRun need) with
      | none => none
      | some run =>
        let (g, st) := (st.takeSlot i).issueGen i
        let c : Ctx := { idx := i, attr := a, key := key, baseGen := g, curGen := g, large := run }
        let v := { st.vault with ctxs := st.vault.ctxs ++ [c] }
        let p := if bit a.flags 0 then st.nv.vault.persist ++ [st.record c] else st.nv.vault.persist
        some (c, { st with vault := v, nv := { st.nv with vault := { st.nv.vault with persist := p } } })

/-- Whether placing a context programs Agate first: a new reservation, or the record of a persistent context, R215, R226. -/
def placeLogs (st : Strand) (a : Attr) : Bool :=
  bit a.flags 0 || (match st.slotOrEvict with | some (i, st) => st.reserveDue i | none => false)

/-- The attributes of a strand-owned key without limit, expiry or counter. -/
def strandKey (alg dest usage len : Nat) : Attr :=
  { alg := alg, dest := dest, usage := usage, flags := 0, owner := 0xFF, ownerGen := 0, keylen := len
    usesLeft := 0xFFFFFFFF, expiry := 0, counter := 0 }

/-- The handle of a context under its current generation. -/
def handle (st : Strand) (c : Ctx) : Nat := mkHandle st.id c.curGen c.idx

/-! ### Roots -/

/-- Store a root in island V, and in the mirror for roots 0 to 5, under a fresh mask, R210. -/
def setRoot (st : Strand) (k : Nat) (key : BitVec 256) : Strand :=
  let (x, st) := st.draw
  let m := BitVec.ofNat 256 x
  let r : Root := ⟨k, key ^^^ m, m⟩
  let put := fun (l : List Root) => l.filter (·.num != k) ++ [r]
  { st with nv := { st.nv with roots := put st.nv.roots },
            vault := if k ≤ 5 then { st.vault with mirror := put st.vault.mirror } else st.vault }

/-- The next IV of a wrapping root, or none at its last value, R228. -/
def nextIv (st : Strand) (k : Nat) : Option (Bytes × Strand) :=
  let c := ((st.nv.vault.ivs.find? (·.1 == k)).map (·.2)).getD 0
  if c ≥ 2 ^ 96 - 1 then none
  else some (toLE 12 c, { st with nv := { st.nv with vault := { st.nv.vault with ivs := setAssoc st.nv.vault.ivs k (c + 1) } } })

/-- A session key goes from its context to the receiver that its DEST names, as any other key, R30, R174, R463, R508: 0, or the status. -/
def loadSession (st : Strand) (t : Nat) (env : JobEnv) (c : Ctx) (dest : Nat) : Strand × Nat :=
  if !bit c.attr.dest dest then (st.bump R.ONX_DENIED, 0x21)
  else if !env.agree then ((st.onxErr 3 c.idx (receiverCode dest)).mismatch t, 0x7F)
  else match st.deliver env c.idx (receiverCode dest) c.key with
    | (st, true) => (st, 0)
    | (st, false) => (st, 0x7F)

/-- A session key is placed in a context of the strand's own and goes to its receiver: the context, or the status. -/
def placeSession (st : Strand) (t : Nat) (env : JobEnv) (a : Attr) (key : Bytes) (dest : Nat) : Strand × (Nat ⊕ Ctx) :=
  match st.place a key (0, 0) with
  | none => (st, .inl 0x23)
  | some (c, st) =>
    match st.loadSession t env c dest with
    | (st, 0) => (st, .inr c)
    | (st, e) => (st.freeCtx c, .inl e)

end Strand

/-! ### Authenticated encryption and blobs -/

/-- AES-GCM: ciphertext and tag. -/
def gcmSeal (key iv aad msg : Bytes) : Bytes × Bytes :=
  let ct := xorBytes msg ((List.range msg.length).map (Config.gcmStream key iv))
  (ct, bvBytes (Config.gcmTag key iv aad ct))

/-- AES-GCM: the plaintext where the tag verifies. -/
def gcmOpen (key iv aad ct tag : Bytes) : Option Bytes :=
  if bvBytes (Config.gcmTag key iv aad ct) = tag then some (xorBytes ct ((List.range ct.length).map (Config.gcmStream key iv)))
  else none

/-- The bytes of key material in a blob, R227: a context-slot key fills 32, a large key a multiple of 8. -/
def blobKey (alg len : Nat) : Nat := if largeNeed alg len = 0 then 32 else pad8 (keyBytes alg len)

/-- The body of a blob: attribute block and key material, filled with zeros, R227. -/
def blobBody (c : Ctx) : Bytes :=
  c.attr.block 0 0 ++ fit (blobKey c.attr.alg c.attr.keylen) c.key

/-- The header of a blob, R227. -/
def blobHeader (wrap : Nat) (n : Fin 4) (alg len : Nat) (iv : Bytes) (ref keyGen : Nat) : Bytes :=
  ascii "OB" ++ toLE 1 1 ++ toLE 1 wrap ++ toLE 1 n.val ++ toLE 1 alg ++ toLE 2 len ++ fit 12 iv ++ toLE 8 ref ++ toLE 4 keyGen

/-- A blob under a wrapping key, R227. -/
def makeBlob (wrap : Nat) (n : Fin 4) (c : Ctx) (key iv : Bytes) (ref keyGen : Nat) : Bytes :=
  let body := blobBody c
  let h := blobHeader wrap n c.attr.alg body.length iv ref keyGen
  let (ct, tag) := gcmSeal key iv h body
  h ++ ct ++ tag

/-- The length of a blob for an algorithm and length, R227. -/
def blobLen (alg len : Nat) : Nat := 32 + (32 + blobKey alg len) + 16

/-- The attribute block and key of a blob whose tag verifies under a key and whose block obeys R221. -/
def openBlob (b key : Bytes) : Option (Attr × Bytes) :=
  let h := sub b 0 32
  let len := le b 6 2
  match gcmOpen key (sub b 8 12) h (sub b 32 len) (sub b (32 + len) 16) with
  | none => none
  | some body =>
    let a := Attr.parse body
    if a.ok && body.length == 32 + blobKey a.alg a.keylen && b.length == 48 + len then
      some (a, sub body 32 (keyBytes a.alg a.keylen)) else none

/-! ### Shared steps of the opcodes -/

/-- An engine's end check fails in the vault's own work on it: counted, recorded and reported to the sentinel, R293 (log entry 129: the
engine that serves the vault is not named, and the event names island B0). -/
def Strand.vaultEndFail (st : Strand) (t : Nat) : Strand :=
  ((st.bump R.BER_INV_FAIL).noteErr R.BER_ERR_VALID R.BER_ERR_CODE R.BER_ERR_OVERFLOW 3 fun st =>
    st.put R.BER_ERR_INFO_REQUESTER 3).datapath t 7

namespace State

/-- The generation a job acts under: its stamp while the function still has it, 0 (no context's) afterwards, R376. -/
def jobGen (s : State) (j : Job) : Nat := if (s.fn j.fn).gen = j.gen then j.gen else 0

/-- The context a job's handle names through the vault opcodes: the function's own, or for the manager a strand-owned one,
R216. -/
def vaultCtx (s : State) (n : Fin 4) (j : Job) (h : Nat) : Option Ctx :=
  match (s.sd n).ctxFor j.fn (s.jobGen j) h with
  | some c => some c
  | none => if j.fn = 0 ∧ s.jobGen j ≠ 0 then (s.sd n).ctxFor 0xFF 0 h else none

/-- A program in Agate that a job needs does not verify: ONX_ERR code 6, and the job ends with 0x7F with nothing changed, R249 (log entry
128). -/
def logFails (s : State) (n : Fin 4) (j : Job) (idx : Nat) : State := (s.up n fun st => st.onxErr 6 idx 0).fail n j 0x7F

/-- A root for a job's engine, or the job ends with 0x7F, R30, R32, R33. -/
def withRoot (s : State) (n : Fin 4) (j : Job) (k : Nat) (work : Bytes → State → State) : State :=
  match (s.sd n).rootRelease s.now j.env k with
  | (st, none) => (s.setSd n st).fail n j 0x7F
  | (st, some key) => work key (s.setSd n st)

/-- A vault opcode where the mode serves it, R243. -/
def vaultJob (s : State) (n : Fin 4) (j : Job) (work : State → State) : State :=
  if (s.sd n).zeroised && !(s.sd n).halted then s.fail n j 0x60 else s.runJob n j work

/-- A vault opcode on one context: 0x22 where the handle names none, 0x30 where a QUORUM context needs CEREMONY, R241. -/
def withCtx (s : State) (n : Fin 4) (j : Job) (ceremony : Bool) (work : Ctx → State → State) : State :=
  s.vaultJob n j fun s =>
    match s.vaultCtx n j j.ctx with
    | none => (s.up n (·.bump R.ONX_ABSENT)).fail n j 0x22
    | some c => if ceremony && bit c.attr.flags 1 && (s.sd n).mode != 5 then s.fail n j 0x30 else work c s

/-- The gate on key generation, R319. -/
def gateClosed (s : State) (n : Fin 4) : Bool :=
  let st := s.sd n
  st.get R.QTZ_GATE_LIMIT != 0 && decide (st.get R.QTZ_FAIL_COUNT > st.get R.QTZ_GATE_LIMIT)

/-- The context and large-key quotas of a function, R370. -/
def quota (s : State) (f : Nat) : Nat × Nat := ((s.fn f).pool.ctxQuota, (s.fn f).pool.largeQuota)

/-- The OWNER rule of R675: the generation to record, or none where the OWNER is refused. -/
def ownerGen (s : State) (n : Fin 4) (j : Job) (owner : Nat) : Option Nat :=
  if j.fn ≠ 0 then (if owner = j.fn then some (s.fn owner).gen else none)
  else if owner = 0xFF then some 0
  else if owner = 0 then some (s.fn 0).gen
  else if (s.fn owner).st ≠ .absent ∧ (s.fn owner).home = n then some (s.fn owner).gen
  else none

/-- The key that unwraps an import: a root where W7 is below 64 (no handle is, R212; log entry 9), in CEREMONY only and
then an owner root; else a context with USAGE UNWRAP and DEST TOP. The status on failure. -/
def unwrapKey (s : State) (n : Fin 4) (j : Job) : State × (Nat ⊕ Bytes) :=
  let st := s.sd n
  if j.w7 < 64 then
    if st.mode ≠ 5 then (s, .inl 0x30)
    else if j.w7 < 16 then (s, .inl 0x41)
    else match st.rootRelease s.now j.env j.w7 with
      | (st, none) => (s.setSd n st, .inl 0x7F)
      | (st, some key) => (s.setSd n st, .inr key)
  else
    match st.release s.now j.env j.fn (s.jobGen j) (j.w7 % 2 ^ 32) (2 ^ 7) 0 true with
    | (st, .inl e) => (s.setSd n st, .inl e)
    | (st, .inr c) => (s.setSd n st, .inr c.key)

/-- The handle, and the public key of an asymmetric key, as the result of a creation, R245. -/
def createdOut (st : Strand) (c : Ctx) (pub : Bool) : Bytes :=
  toLE 4 (st.handle c) ++ (if pub && asym c.attr.alg then publicKey c.attr.alg c.attr.keylen c.key else [])

/-- Place a context and go on with it; 0x23 where there is no place for it. -/
def placeThen (s : State) (n : Fin 4) (j : Job) (a : Attr) (key : Bytes) (work : Ctx → State → State) : State :=
  let st := s.sd n
  match st.place a key (s.quota a.owner) with
  | none => s.fail n j 0x23
  | some (c, st') => if st.placeLogs a && !j.env.logOk then s.logFails n j c.idx else work c (s.setSd n st'.onxSync)

/-- Place a created key and answer, or 0x23. -/
def placeAnswer (s : State) (n : Fin 4) (j : Job) (a : Attr) (key : Bytes) (pub : Bool) : State :=
  s.placeThen n j a key fun c s => s.succeed n j (createdOut (s.sd n) c pub)

/-- The checks of a creation by generation or import, R217, R675, R241; the work on the attributes to record. -/
def creation (s : State) (n : Fin 4) (j : Job) (generate pub : Bool) (work : Attr → State → State) : State :=
  s.vaultJob n j fun s =>
    let a := Attr.parse j.input
    match s.ownerGen n j a.owner with
    | none => s.fail n j 0x41
    | some g =>
      if j.input.length < 32 ∨ ¬ a.ok ∨ le j.input 0xA 2 ≠ 0 ∨ (generate ∧ j.input.length ≠ 32) then s.fail n j 0x41
      else if bit a.flags 1 ∧ (s.sd n).mode ≠ 5 then s.fail n j 0x30
      else
        let a := { a with ownerGen := g }
        s.room n j (4 + (if pub then pubLen a.alg a.keylen else 0)) fun s => work a s

/-- A creation by import: the key arrives wrapped under KWP, R245. -/
def importKey (s : State) (n : Fin 4) (j : Job) (pub : Bool) : State :=
  s.creation n j false pub fun a s =>
    match s.unwrapKey n j with
    | (s, .inl e) => s.fail n j e
    | (s, .inr kek) =>
      match Config.kwpOpen kek (j.input.drop 32) with
      | none => s.fail n j 0x10
      | some key =>
        if key.length ≠ keyBytes a.alg a.keylen then s.fail n j 0x41 else s.placeAnswer n j a key pub

/-- A symmetric key is drawn at once, behind the gate of R319. -/
def drawnKey (s : State) (n : Fin 4) (alg len : Nat) : State × Bytes :=
  let (key, st) := (s.sd n).drawBytes (keyBytes alg len)
  (s.setSd n st, key)

end State

/-! ### The commands -/

/-- VLT_IMPORT: VLT_CREATE with import, R245. -/
def execVltImport (n : Fin 4) (j : Job) (s : State) : Host.Outcome State Fault Refusal :=
  .next (s.importKey n j false)

/-- VLT_FREE, R213, R214, R234. -/
def execVltFree (n : Fin 4) (j : Job) (s : State) : Host.Outcome State Fault Refusal :=
  .next (s.withCtx n j true fun c s => (s.up n fun st => (st.freeCtx c).onxSync).succeed n j [])

/-- The STATE byte of a context, R217. -/
def ctxState (c : Ctx) : Nat :=
  match c.succ with
  | none => 1
  | some x => if x.verified then 3 else 2

/-- VLT_QUERY, R217. -/
def execVltQuery (n : Fin 4) (j : Job) (s : State) : Host.Outcome State Fault Refusal :=
  .next (s.withCtx n j false fun c s => s.room n j 32 fun s => s.succeed n j (c.attr.block (ctxState c) c.curGen))

/-- Whether the bits of `a` all stand in `b`. -/
def subset (a b : Nat) : Bool := a &&& b == a

/-- What VLT_SET_ATTR answers to a block against a context, R222: 0 or the status. -/
def setAttrStatus (old new : Attr) : Nat :=
  if new.alg ≠ old.alg ∨ new.keylen ≠ old.keylen ∨ new.owner ≠ old.owner ∨ new.ownerGen ≠ old.ownerGen
      ∨ ¬ new.ok then 0x41
  else if bit new.flags 0 ≠ bit old.flags 0 ∨ bit new.flags 1 ≠ bit old.flags 1 then 0x21
  else if new.usesLeft > old.usesLeft ∨ (old.expiry ≠ 0 ∧ (new.expiry = 0 ∨ new.expiry > old.expiry))
      ∨ ¬ subset new.usage old.usage ∨ ¬ subset new.dest old.dest ∨ ¬ subset new.flags old.flags then 0x21
  else 0

/-- VLT_SET_ATTR, R222. -/
def execVltSetAttr (n : Fin 4) (j : Job) (s : State) : Host.Outcome State Fault Refusal :=
  .next (s.withCtx n j true fun c s =>
    let a := Attr.parse j.input
    if j.input.length ≠ 32 then s.fail n j 0x41
    else match setAttrStatus c.attr a with
      | 0 => (s.up n fun st => st.putCtx { c with attr := { a with counter := c.attr.counter } }).succeed n j []
      | e => s.fail n j e)

/-- VLT_PUBLIC, R245; a symmetric key has none (0x41, log entry 9). -/
def execVltPublic (n : Fin 4) (j : Job) (s : State) : Host.Outcome State Fault Refusal :=
  .next (s.withCtx n j false fun c s =>
    if !asym c.attr.alg then s.fail n j 0x41
    else s.room n j (pubLen c.attr.alg c.attr.keylen) fun s =>
      s.succeed n j (publicKey c.attr.alg c.attr.keylen c.key))

/-- Issue a spill number, or keep the one the context has, R229. -/
def spillNumber (st : Strand) (c : Ctx) : Option (Nat × Strand) :=
  match c.spill with
  | some k => some (k, st)
  | none =>
    let v := st.nv.vault
    if v.spillNext ≥ 4194304 then none
    else
      let v' := { v with spillNext := v.spillNext + 1, live := v.live ++ [v.spillNext] }
      some (v.spillNext, { st with nv := { st.nv with vault := v' } })

/-- VLT_SPILL, R229, R246. -/
def execVltSpill (n : Fin 4) (j : Job) (s : State) : Host.Outcome State Fault Refusal :=
  .next (s.withCtx n j false fun c s =>
    s.room n j (blobLen c.attr.alg c.attr.keylen) fun s =>
      let st := s.sd n
      if !bit c.attr.flags 2 || !st.flag R.ONX_CTL_SPILL_EN then s.fail n j 0x28
      else match spillNumber st c with
        | none => s.fail n j 0x28
        | some (k, st) =>
          if c.spill.isNone && !j.env.logOk then s.logFails n j c.idx
          else match st.nextIv 0 with
          | none => s.fail n j 0x20
          | some (iv, st) =>
            (s.setSd n st).withRoot n j 0 fun root s =>
              let st := s.sd n
              let c := { c with spill := some k }
              let blob := makeBlob 0 n c root iv k st.nv.vault.wrapGen
              let st := st.putCtx c
              let st := if bit j.w6 0 then st.freeCtx c else st
              (s.setSd n st.onxSync).succeed n j blob)

/-- The root under which a strand blob was formed and whether its spill number is live, R230, R232. -/
def strandBlobKey (st : Strand) (b : Bytes) : Option (Nat × Bool) :=
  let v := st.nv.vault
  let k := le b 0x14 8
  if sub b 0 2 ≠ ascii "OB" ∨ le b 2 1 ≠ 1 ∨ le b 3 1 ≠ 0 ∨ le b 4 1 ≠ st.id.val then none
  else if le b 0x1C 4 = v.wrapGen then some (0, v.live.contains k)
  else if v.renewing ∧ le b 0x1C 4 + 1 = v.wrapGen then some (5, v.oldLive.contains k)
  else none

/-- VLT_LOAD, R230. -/
def execVltLoad (n : Fin 4) (j : Job) (s : State) : Host.Outcome State Fault Refusal :=
  .next (s.vaultJob n j fun s => s.room n j 4 fun s =>
    match strandBlobKey (s.sd n) j.input with
    | some (root, true) => s.withRoot n j root fun key s =>
      match openBlob j.input key with
      | none => s.fail n j 0x24
      | some (a, k) => s.placeThen n j a k fun c s =>
        let gen := (s.sd n).nv.vault.wrapGen
        let c := { c with spill := if le j.input 0x1C 4 = gen then some (le j.input 0x14 8) else none }
        (s.up n (·.putCtx c)).succeed n j (State.createdOut (s.sd n) c false)
    | _ => s.fail n j 0x24)

/-- VLT_DISCARD, R229: the number is dead for ever once the log record is programmed. -/
def execVltDiscard (n : Fin 4) (j : Job) (s : State) : Host.Outcome State Fault Refusal :=
  .next (s.vaultJob n j fun s =>
    let k := bits j.w6 0 22
    let kill := fun (st : Strand) =>
      let v := { st.nv.vault with live := st.nv.vault.live.filter (· != k) }
      Strand.onxSync { st with nv := { st.nv with vault := v } }
    if j.env.logOk then (s.up n kill).succeed n j [] else s.logFails n j 0)

/-- VLT_EXPORT_T, R233. -/
def execVltExportT (n : Fin 4) (j : Job) (s : State) : Host.Outcome State Fault Refusal :=
  .next (s.withCtx n j false fun c s =>
    if j.w6 < 1 ∨ j.w6 > 86400 then s.fail n j 0x41
    else s.room n j (blobLen c.attr.alg c.attr.keylen) fun s =>
      if !bit c.attr.flags 3 then s.fail n j 0x21
      else match (s.sd n).nextIv 1 with
        | none => s.fail n j 0x20
        | some (iv, st) =>
          (s.setSd n st).withRoot n j 1 fun root s =>
            s.succeed n j (makeBlob 1 n c root iv (st.deviceTime s.now + 1000000 * j.w6) 0))

/-- VLT_IMPORT_T, R233, R675. -/
def execVltImportT (n : Fin 4) (j : Job) (s : State) : Host.Outcome State Fault Refusal :=
  .next (s.vaultJob n j fun s => s.room n j 4 fun s =>
    let st := s.sd n
    let b := j.input
    if sub b 0 2 ≠ ascii "OB" ∨ le b 2 1 ≠ 1 ∨ le b 3 1 ≠ 1 ∨ st.deviceTime s.now ≥ le b 0x14 8 then s.fail n j 0x24
    else s.withRoot n j 1 fun root s =>
      match openBlob b root with
      | none => s.fail n j 0x24
      | some (a, k) => s.placeAnswer n j { a with owner := j.fn, ownerGen := (s.fn j.fn).gen } k false)

/-- VLT_REWRAP, R232: an old blob becomes a new one under the new key with a new spill number. -/
def execVltRewrap (n : Fin 4) (j : Job) (s : State) : Host.Outcome State Fault Refusal :=
  .next (s.vaultJob n j fun s => s.room n j j.input.length fun s =>
    match strandBlobKey (s.sd n) j.input with
    | some (5, true) => s.withRoot n j 5 fun key s =>
      match openBlob j.input key with
      | none => s.fail n j 0x24
      | some (a, k) =>
        let c : Ctx := { idx := 0, attr := a, key := k, baseGen := 1, curGen := 1 }
        match spillNumber (s.sd n) c with
        | none => s.fail n j 0x28
        | some (num, st) =>
          if !j.env.logOk then s.logFails n j 0
          else match st.nextIv 0 with
            | none => s.fail n j 0x20
            | some (iv, st) => (s.setSd n st).withRoot n j 0 fun root s =>
              (s.up n (·.onxSync)).succeed n j (makeBlob 0 n c root iv num st.nv.vault.wrapGen)
    | _ => s.fail n j 0x24)

/-- What a wrap renewal does to the vault: root 0 moves to root 5, a new root 0 is drawn, the generation rises, a fresh spill
numbering begins, R232. Contexts lose their spill numbers with the numbering they belong to, the persistent ones are wrapped again under the
new root 0, and an IV counter at its last value counts again from zero, R228 (log entry 130). -/
def Strand.renew (st : Strand) : Strand :=
  let st := st.setRoot 5 (st.root 0)
  let (x, st) := st.draw
  let st := st.setRoot 0 (BitVec.ofNat 256 x)
  let v := st.nv.vault
  let lift := fun (x : Nat × Nat) => if x.2 ≥ 2 ^ 96 - 1 then (x.1, 0) else x
  let v := { v with oldLive := v.live, live := [], spillNext := 0, wrapGen := v.wrapGen + 1, renewing := true, ivs := v.ivs.map lift }
  let cs := st.vault.ctxs.map fun c => { c with spill := none }
  let st := { st with nv := { st.nv with vault := v }, vault := { st.vault with ctxs := cs } }
  (cs.foldl Strand.syncPersist st).onxSync

/-- VLT_WRAP_RENEW, R232, R319. -/
def execVltWrapRenew (n : Fin 4) (j : Job) (s : State) : Host.Outcome State Fault Refusal :=
  .next (s.vaultJob n j fun s =>
    if j.fn ≠ 0 then s.fail n j 0x41
    else s.room n j 4 fun s =>
      if s.gateClosed n then s.fail n j 0x30 9
      else if (s.sd n).nv.vault.renewing then s.fail n j 0x25
      else
        let s := s.up n Strand.renew
        s.succeed n j (toLE 4 (s.sd n).nv.vault.wrapGen))

/-- What closing a renewal does: root 5 zeroed, the old live bits gone, R232. -/
def Strand.renewClose (st : Strand) : Strand :=
  let st := st.setRoot 5 0
  let v := { st.nv.vault with oldLive := [], renewing := false }
  Strand.onxSync { st with nv := { st.nv with vault := v } }

/-- VLT_WRAP_CLOSE, R232. -/
def execVltWrapClose (n : Fin 4) (j : Job) (s : State) : Host.Outcome State Fault Refusal :=
  .next (s.vaultJob n j fun s =>
    if j.fn ≠ 0 then s.fail n j 0x41
    else if !(s.sd n).nv.vault.renewing then s.fail n j 0x25
    else (s.up n Strand.renewClose).succeed n j [])

/-- The 3-byte check value of a symmetric key, R236. -/
def kcv (alg : Nat) (key : Bytes) : Bytes :=
  if alg ≤ 3 then (bvBytes (Config.aesEnc key 0)).take 3
  else if alg ≤ 5 then (bvBytes (Config.tdeaEnc key 0)).take 3
  else (bvBytes (Config.hmac256 key (zeros 32))).take 3

/-- What VLT_VERIFY compares and returns for a key, R236. -/
def checkValue (alg len : Nat) (key : Bytes) : Bytes := if asym alg then publicKey alg len key else kcv alg key

/-- The length of a check value, R676. -/
def checkLen (alg len : Nat) : Nat := if asym alg then pubLen alg len else 3

/-- The successor that a REPLACE input brings, or a status, R235, R676. -/
def replaceKey (n : Fin 4) (j : Job) (c : Ctx) (s : State) : State × (Nat ⊕ (Bytes × Bytes)) :=
  let b := j.input
  let cl := le b 24 2
  let kl := le b 26 2
  if cl ≠ checkLen c.attr.alg c.attr.keylen ∨ kl ≠ pad8 (keyBytes c.attr.alg c.attr.keylen) + 8 then (s, .inl 0x41)
  else
    match s.unwrapKey n j with
    | (s, .inl e) => (s, .inl e)
    | (s, .inr kek) =>
      match Config.kwpOpen kek (sub b (32 + cl) kl) with
      | none => (s, .inl 0x10)
      | some key =>
        if key.length ≠ keyBytes c.attr.alg c.attr.keylen then (s, .inl 0x41) else (s, .inr (key, sub b 32 cl))

/-- Generations from BASE_GEN to CUR_GEN, R238. -/
def genSpan (c : Ctx) : Nat := (c.curGen + 255 - c.baseGen) % 255 + 1

/-- A successor is staged beside its context, R234, R235: it takes a hidden slot, and large-key slots as its algorithm needs. -/
def State.stageKey (s : State) (n : Fin 4) (j : Job) (c : Ctx) (key chk : Bytes) : State :=
  let st := s.sd n
  let need := largeNeed c.attr.alg c.attr.keylen
  match st.freeHead, (if need = 0 then some [] else st.largeRun need) with
  | some hid, some run =>
    let x : Succ := { key := key, usesLeft := le j.input 0 4, expiry := le j.input 8 8
                      counter := le j.input 16 8, imported := !bit j.w6 0, check := chk, verified := false
                      hidden := hid, large := run }
    if bit c.attr.flags 0 && !j.env.logOk then s.logFails n j c.idx
    else (s.up n fun st => ((st.takeSlot hid).putCtx { c with succ := some x }).onxSync).succeed n j
      (if asym c.attr.alg then publicKey c.attr.alg c.attr.keylen key else [])
  | _, _ => s.fail n j 0x23

/-- The checks of VLT_REPLACE up to its key, R234, R235, R238, R676. -/
def State.replacement (s : State) (n : Fin 4) (j : Job) (work : Ctx → State → State) : State :=
  s.withCtx n j true fun c s =>
    if c.succ.isSome then s.fail n j 0x25
    else
      let st := s.sd n
      let need := largeNeed c.attr.alg c.attr.keylen
      let b := j.input
      s.room n j (if asym c.attr.alg then pubLen c.attr.alg c.attr.keylen else 0) fun s =>
        if st.freeHead.isNone ∨ (need ≠ 0 ∧ (st.largeRun need).isNone) ∨ st.staged' ≥ 256 then s.fail n j 0x23
        else if genSpan c ≥ 128 then s.fail n j 0x27
        else if b.length ≠ 32 + le b 24 2 + le b 26 2 ∨ le b 4 4 ≠ 0 ∨ le b 28 4 ≠ 0
            ∨ (bit j.w6 0 ∧ (le b 24 2 ≠ 0 ∨ le b 26 2 ≠ 0)) then s.fail n j 0x41
        else work c s

/-- Drop a successor and retire its PENDING record, R234. -/
def Strand.dropSucc (st : Strand) (c : Ctx) : Strand :=
  let hid := match c.succ with | some x => [x.hidden] | none => []
  let st := st.putCtx { c with succ := none }
  Strand.onxSync { st with vault := { st.vault with freed := st.vault.freed ++ hid } }

/-- VLT_VERIFY, R236. -/
def execVltVerify (n : Fin 4) (j : Job) (s : State) : Host.Outcome State Fault Refusal :=
  .next (s.withCtx n j false fun c s =>
    match c.succ with
    | none => s.fail n j 0x25
    | some x =>
      let cv := checkValue c.attr.alg c.attr.keylen x.key
      s.room n j cv.length fun s =>
        if (!x.imported || x.check == cv) && (j.env.endOk || !asym c.attr.alg) then
          (s.up n fun st => st.putCtx { c with succ := some { x with verified := true } }).succeed n j cv
        else
          (s.up n fun st =>
            let st := st.dropSucc c
            if asym c.attr.alg && !j.env.endOk then st.vaultEndFail s.now else st).fail n j 0x26)

/-- The COMMIT marker of a context stands in Agate, R237. -/
def Strand.markCommit (st : Strand) (c : Ctx) : Strand :=
  let mark := fun (p : Persist) => if p.ctx.idx = c.idx then { p with marker := true } else p
  { st with nv := { st.nv with vault := { st.nv.vault with persist := st.nv.vault.persist.map mark } } }

/-- VLT_COMMIT, R234, R237: the COMMIT marker of a persistent context is verified before the swap in the slot. A marker that does not
verify leaves the slot VERIFIED (log entry 128); where main power fails between the two, the marker alone stands. -/
def execVltCommit (n : Fin 4) (j : Job) (s : State) : Host.Outcome State Fault Refusal :=
  .next (s.withCtx n j true fun c s =>
    match c.succ with
    | none => s.fail n j 0x25
    | some x =>
      if !x.verified then s.fail n j 0x25
      else s.room n j 4 fun s =>
        let kept := bit c.attr.flags 0
        if (kept || (s.sd n).reserveDue c.idx) && !j.env.logOk then s.logFails n j c.idx
        else
          let (g, st) := (s.sd n).issueGen c.idx
          if kept && j.env.cut then s.setSd n (st.markCommit c)
          else
            let a := { c.attr with usesLeft := x.usesLeft, expiry := x.expiry, counter := x.counter }
            let c' : Ctx := { c with attr := a, key := x.key, curGen := g, succ := none, large := x.large }
            let st := (st.dropSucc c).putCtx c'
            (s.setSd n st.onxSync).succeed n j (toLE 4 g))

/-- VLT_ABANDON, R234. -/
def execVltAbandon (n : Fin 4) (j : Job) (s : State) : Host.Outcome State Fault Refusal :=
  .next (s.withCtx n j false fun c s =>
    if c.succ.isNone then s.fail n j 0x25 else (s.up n (·.dropSucc c)).succeed n j [])

/-- VLT_ATTEST, R239. -/
def execVltAttest (n : Fin 4) (j : Job) (s : State) : Host.Outcome State Fault Refusal :=
  .next (s.vaultJob n j fun s =>
    let st := s.sd n
    if !st.flag R.ONX_CTL_ATTEST_EN then s.fail n j 0x30
    else if j.input.length ≠ 32 then s.fail n j 0x41
    else s.room n j 112 fun s => s.withRoot n j 3 fun root s =>
      let dev := fit 16 s.ring.ident.deviceId
      let lc := toLE 1 s.life
      let m := fit 48 st.measure
      let mac := Config.hmac256 root (j.input ++ dev ++ lc ++ m)
      s.succeed n j (dev ++ lc ++ toLE 1 n.val ++ zeros 14 ++ m ++ bvBytes mac))

/-- VLT_ROOT_IMPORT, R241, R517: the package is unwrapped under the quorum's key-encryption key, the QUORUM context whose slot the charter
names; with none there the job ends with 0x22. -/
def execVltRootImport (n : Fin 4) (j : Job) (s : State) : Host.Outcome State Fault Refusal :=
  .next (s.vaultJob n j fun s =>
    let st := s.sd n
    let k := bits j.w6 0 6
    if st.mode ≠ 5 then s.fail n j 0x30
    else if ¬ (k = 1 ∨ k = 2 ∨ k ≥ 16) then s.fail n j 0x41
    else match (st.quorum.kek.bind st.slot).filter fun c => bit c.attr.flags 1 with
      | none => (s.up n (·.bump R.ONX_ABSENT)).fail n j 0x22
      | some c =>
        match st.release s.now j.env c.attr.owner c.attr.ownerGen (st.handle c) (2 ^ 7) 0 true with
        | (st, .inl e) => (s.setSd n st).fail n j e
        | (st, .inr c) =>
          let s := s.setSd n st
          match Config.kwpOpen c.key j.input with
          | none => s.fail n j 0x10
          | some key => if key.length ≠ 32 then s.fail n j 0x41
                        else (s.up n (·.setRoot k (BitVec.ofNat 256 (beNat key)))).succeed n j [])

/-- VLT_ROOT_CLEAR, R241. -/
def execVltRootClear (n : Fin 4) (j : Job) (s : State) : Host.Outcome State Fault Refusal :=
  .next (s.vaultJob n j fun s =>
    let k := bits j.w6 0 6
    if (s.sd n).mode ≠ 5 then s.fail n j 0x30
    else if k < 16 then s.fail n j 0x41
    else (s.up n (·.setRoot k 0)).succeed n j [])

/-- VLT_ATTEST_EXPORT, R240: once for each drawing of root 3, in the ceremony R240 names. -/
def execVltAttestExport (n : Fin 4) (j : Job) (s : State) : Host.Outcome State Fault Refusal :=
  .next (s.vaultJob n j fun s =>
    let st := s.sd n
    if st.mode ≠ 5 ∨ st.nv.vault.attestDraw = 0 then s.fail n j 0x30
    else s.room n j 40 fun s => s.withRoot n j 1 fun root s =>
      let out := kwpWrap root (bvBytes (st.root 3))
      (s.up n fun st => { st with nv := { st.nv with vault := { st.nv.vault with attestDraw := 0 } } }).succeed n j out)

/-- VLT_WRAP_OUT, R241. -/
def execVltWrapOut (n : Fin 4) (j : Job) (s : State) : Host.Outcome State Fault Refusal :=
  .next (s.vaultJob n j fun s =>
    if (s.sd n).mode ≠ 5 then s.fail n j 0x30
    else s.withCtx n j false fun c s =>
      let k := bits j.w6 0 6
      if k < 16 then s.fail n j 0x41
      else s.room n j (pad8 (keyBytes c.attr.alg c.attr.keylen) + 8) fun s =>
        if !bit c.attr.flags 4 then s.fail n j 0x21
        else s.withRoot n j k fun root s => s.succeed n j (kwpWrap root c.key))

/-- Re-mask the words of a root that lie from word `lo` up to word `hi` of a pass, R210: each takes v ⊕ m ⊕ m′ and m′; the clear word stays
the same. `at'` is the place of the root's first word in the pass, and the mask of word `lo` is draw number `k`. -/
def remask (sid k lo hi at' : Nat) (r : Root) : Root :=
  let ws := (List.range 4).filter fun w => decide (lo ≤ at' + w) && decide (at' + w < hi)
  let sel := ws.foldl (fun (m : BitVec 256) w => m ||| (BitVec.ofNat 256 (2 ^ 64 - 1) <<< (64 * w))) 0
  let new := ws.foldl (fun (m : BitVec 256) w => m ||| (BitVec.ofNat 256 (Config.free sid (k + (at' + w - lo)) % 2 ^ 64) <<< (64 * w))) 0
  let m := (r.m &&& ~~~sel) ||| new
  { r with v := r.v ^^^ r.m ^^^ m, m := m }

/-- The first `count` root slots, those never written at zero. -/
def rootSlots (l : List Root) (count : Nat) : List Root := (List.range count).map fun i => (l.find? (·.num == i)).getD ⟨i, 0, 0⟩

/-- The words of a pass, R210: four of each of the 64 root slots, then four of each of the six mirror entries. -/
def remaskWords : Nat := 280

/-- The words from `lo` up to `hi` of a pass, R210. -/
def Strand.remaskRange (st : Strand) (lo hi : Nat) : Strand :=
  let one := fun (base : Nat) (r : Root) => remask st.id.val st.draws lo hi (4 * (base + r.num)) r
  { st with nv := { st.nv with roots := (rootSlots st.nv.roots 64).map (one 0) }
            vault := { st.vault with mirror := (rootSlots st.vault.mirror 6).map (one 64) }
            draws := st.draws + (hi - lo) }

/-- A mirror entry that disagrees with island V is recorded as ONX_ERR code 5, R249; the pass compares them (log entry 131). -/
def Strand.mirrorCheck (st : Strand) : Strand :=
  let clear := fun (l : List Root) (k : Nat) => ((l.find? (·.num == k)).map Root.key).getD 0
  (List.range 6).foldl (fun (st : Strand) k => if clear st.nv.roots k = clear st.vault.mirror k then st else st.onxErr 5 k 0) st

/-- ROOT_REMASK_PASS, R210, R211: Quartz supplies a number of masks, and the pass that is due, or waiting, goes on by as many words. One
that does not complete is late and waits at the word it has reached. Re-masking runs from step 7 on. -/
def execRootRemaskPass (n : Fin 4) (masks : Nat) (s : State) : Host.Outcome State Fault Refusal :=
  let st := s.sd n
  if !st.flag R.ONX_STATUS_MIRROR_OPEN then .next s
  else
    let new := st.vault.remaskRun.isNone
    let s := if new then s.upTo (st.vault.remaskAt + 250000000) else s
    let lo := st.vault.remaskRun.getD 0
    let hi := min (lo + masks) remaskWords
    .next (s.up n fun st =>
      let st := st.remaskRange lo hi
      let start := if new then s.now else st.vault.remaskAt
      if hi = remaskWords then
        ({ st with vault := { st.vault with remaskAt := start, remaskRun := none } }.bump R.ONX_REMASK).mirrorCheck
      else { st with vault := { st.vault with remaskAt := start, remaskRun := some hi } }.bumpIf new R.ONX_REMASK_LATE)

/-- KEY_RELEASE, R223, R224, R30, R33: a job's engine takes the job up; a refused release ends the job with its status. -/
def execKeyRelease (n : Fin 4) (j : Job) (usage dest : Nat) (s : State) : Host.Outcome State Fault Refusal :=
  if (s.sd n).halted then .next s
  else if (s.sd n).zeroised then .next (s.fail n j 0x60)
  else
    match (s.sd n).release s.now j.env j.fn (s.jobGen j) j.ctx (2 ^ usage) dest true with
    | (st, .inl e) => .next ((s.setSd n st).fail n j e)
    | (st, .inr _) => .next (s.setSd n st)

/-- Whether a context's recorded owner generation still is its function's, R216. -/
def State.ownerCurrent (s : State) (c : Ctx) : Bool :=
  let g := s.fn c.attr.owner
  c.attr.owner == 0xFF || c.attr.ownerGen == g.gen || (g.st == .restoring && g.advance && c.attr.ownerGen == nextGen g.gen)

/-- CONTEXT_SWEEP_DONE, R216: every context of a past generation is freed, and SWEEPING falls. -/
def execContextSweepDone (n : Fin 4) (s : State) : Host.Outcome State Fault Refusal :=
  match (s.sd n).vault.sweep with
  | none => .next s
  | some _ =>
    .next (s.up n fun st =>
      let st := (st.vault.ctxs.filter fun c => !s.ownerCurrent c).foldl (fun st c => st.freeCtx c) st
      { st.put R.ONX_STATUS_SWEEPING 0 with vault := { st.vault with sweep := none } }.onxSync)

end Sys2Proof.Machine
end

