-- ==== Sys2Proof/Machine/Cipher.lean ====
section
/-! DEFINITION. The modes of operation that Topaz runs over the block ciphers, R254 to R256: ECB, CBC, CTR, CCM's
counter mode, XTS with ciphertext stealing. Blocks are byte strings, first byte most significant. -/

namespace Sys2Proof.Machine
open Sys2Proof

/-- Whether an ALG is AES. -/
def isAes (alg : Nat) : Bool := decide (1 ≤ alg) && decide (alg ≤ 3)

/-- Whether an ALG is TDEA. -/
def isTdea (alg : Nat) : Bool := alg == 4 || alg == 5

/-- The block size of a cipher. -/
def blockSize (alg : Nat) : Nat := if isTdea alg then 8 else 16

/-- One block enciphered. -/
def encBlock (alg : Nat) (key b : Bytes) : Bytes :=
  if isTdea alg then bvBytes (Config.tdeaEnc key (BitVec.ofNat 64 (beNat b)))
  else bvBytes (Config.aesEnc key (BitVec.ofNat 128 (beNat b)))

/-- One block deciphered. -/
def decBlock (alg : Nat) (key b : Bytes) : Bytes :=
  if isTdea alg then bvBytes (Config.tdeaDec key (BitVec.ofNat 64 (beNat b)))
  else bvBytes (Config.aesDec key (BitVec.ofNat 128 (beNat b)))

/-- CBC encryption of `n` blocks. -/
def cbcEnc (alg : Nat) (key : Bytes) : Nat → Bytes → Bytes → Bytes
  | 0, _, _ => []
  | n + 1, iv, m =>
    let k := blockSize alg
    let c := encBlock alg key (xorBytes iv (m.take k))
    c ++ cbcEnc alg key n c (m.drop k)

/-- CBC decryption of `n` blocks. -/
def cbcDec (alg : Nat) (key : Bytes) : Nat → Bytes → Bytes → Bytes
  | 0, _, _ => []
  | n + 1, iv, c =>
    let k := blockSize alg
    xorBytes iv (decBlock alg key (c.take k)) ++ cbcDec alg key n (c.take k) (c.drop k)

/-- The counter-mode stream: the high half and the 64-bit low half of the counter block, R254. -/
def ctrStream (key hi : Bytes) (lo : Nat) : Nat → Bytes
  | 0 => []
  | n + 1 => encBlock 1 key (hi ++ toBE 8 lo) ++ ctrStream key hi ((lo + 1) % 2 ^ 64) n

/-- Counter-mode encryption or decryption. -/
def ctrCrypt (key hi : Bytes) (lo : Nat) (m : Bytes) : Bytes := xorBytes m (ctrStream key hi lo ((m.length + 15) / 16))

/-- CCM's counter stream from block 1: flags L - 1 = 2, the nonce, a 3-byte counter. -/
def ccmStream (key nonce : Bytes) (i : Nat) : Nat → Bytes
  | 0 => []
  | n + 1 => encBlock 1 key (toBE 1 2 ++ nonce ++ toBE 3 i) ++ ccmStream key nonce (i + 1) n

/-- CCM encryption or decryption of the payload. -/
def ccmCrypt (key nonce m : Bytes) : Bytes := xorBytes m (ccmStream key nonce 1 ((m.length + 15) / 16))

/-- A tweak multiplied by the primitive element of IEEE 1619 (little-endian field). -/
def xtsDouble (t : Bytes) : Bytes :=
  let x := 2 * leNat t
  toLE 16 (if x ≥ 2 ^ 128 then Nat.xor (x - 2 ^ 128) 0x87 else x)

/-- One XTS block. -/
def xtsBlock (enc : Bool) (key t b : Bytes) : Bytes :=
  xorBytes t (if enc then encBlock 1 key (xorBytes t b) else decBlock 1 key (xorBytes t b))

/-- The blocks of one data unit, with ciphertext stealing for a final partial block. -/
def xtsUnit (enc : Bool) (key : Bytes) : Nat → Bytes → Bytes → Bytes
  | 0, _, _ => []
  | n + 1, t, m =>
    if m.length < 32 ∧ m.length > 16 then
      let r := m.length - 16
      let t2 := xtsDouble t
      if enc then
        let c := xtsBlock true key t (m.take 16)
        xtsBlock true key t2 (m.drop 16 ++ c.drop r) ++ c.take r
      else
        let p := xtsBlock false key t2 (m.take 16)
        xtsBlock false key t (m.drop 16 ++ p.drop r) ++ p.take r
    else if m.length ≤ 16 then xtsBlock enc key t m
    else xtsBlock enc key t (m.take 16) ++ xtsUnit enc key n (xtsDouble t) (m.drop 16)

/-- XTS over data units of a length from a unit number on. -/
def xtsCrypt (enc : Bool) (k1 k2 : Bytes) (unit num : Nat) : Nat → Bytes → Bytes
  | 0, _ => []
  | n + 1, m =>
    if m.isEmpty then []
    else
      xtsUnit enc k1 (unit / 16) (encBlock 1 k2 (toLE 16 num)) (m.take unit)
        ++ xtsCrypt enc k1 k2 unit (num + 1) n (m.drop unit)

/-- The digest of a hash by its code in R270. -/
def digest (alg : Nat) (m : Bytes) : Bytes :=
  match alg with
  | 1 => bvBytes (Config.sha256 m)
  | 2 => bvBytes (Config.sha384 m)
  | 3 => toBE 64 (Config.hash 3 m)
  | 4 => toBE 32 (Config.hash 4 m)
  | 5 => toBE 32 (Config.hash 5 m)
  | _ => toBE 64 (Config.hash 6 m)

/-- The digest length by its code. -/
def digestLen (alg : Nat) : Nat := if alg = 2 then 48 else if alg = 3 ∨ alg = 6 then 64 else 32

/-- HMAC with a hash by its code. -/
def hmac (alg : Nat) (key m : Bytes) : Bytes :=
  if alg = 1 then bvBytes (Config.hmac256 key m) else toBE (digestLen alg) (Config.hmacOther alg key m)

/-- CMAC of a cipher: a full block. -/
def cmac (alg : Nat) (key m : Bytes) : Bytes :=
  if isTdea alg then bvBytes (Config.tdeaCmac key m) else bvBytes (Config.aesCmac key m)

end Sys2Proof.Machine
end

