-- ==== Sys2Proof/Machine/Topaz.lean ====
section
/-! DEFINITION. Topaz cipher lanes and the Jade hash engine, R251 to R281: the host opcodes, lanes and cores, job ends,
stream poisoning, reseeding. -/

namespace Sys2Proof.Machine
open Sys2Proof

/-- What an opcode needs of its context and its chain, and what the lane computes: the usages, the algorithms that suit,
whether the lengths fit, the result length, the counter values that a counter-bearing job draws, serial or parallel mode, the data blocks,
the least lane cycles of R266 (no dummy rounds), and the work on a key. -/
structure TopSpec where
  usage : Nat
  suits : Nat → Bool
  lenOk : Nat → Bool
  need : Nat → Nat
  draws : Option Nat := none
  serial : Nat → Bool := fun _ => false
  blocks : Nat → Nat := fun _ => 0
  cycles : Nat → Nat := fun _ => 0
  work : Nat → Bytes → Nat → Work

/-- The setup of a cipher job in lane cycles, R266. -/
def topSetup (alg : Nat) : Nat := if isTdea alg then 150 else 120

/-- The rounds of a block, R259, R266. -/
def topRounds : Nat → Nat
  | 1 => 10 | 2 => 12 | 3 => 14 | _ => 48

/-- Blocks of 16 bytes, the last perhaps partial. -/
def blocks16 (n : Nat) : Nat := (n + 15) / 16

/-- A result written at the first entry's output area. -/
def Work.ok (j : Job) (out : Bytes) : Work := { status := 0, outs := [(j.seg0.outAddr, out)], resLen := out.length }

/-- A record-class check failed: the whole output area is zeroed, R260. -/
def Work.authFail (j : Job) : Work := { status := 0x10, outs := [(j.seg0.outAddr, zeros j.seg0.outLen)], resLen := 0 }

/-- The IV carried in W6 and W7, R269: 12 bytes. -/
def ivOf (j : Job) : Bytes := toLE 8 j.w6 ++ toLE 4 (j.w7 % 2 ^ 32)

/-- The IV of CBC: 16 bytes in W6 and W7; 8 bytes in W6 for TDEA. -/
def cbcIv (j : Job) (alg : Nat) : Bytes := if isTdea alg then toLE 8 j.w6 else toLE 8 j.w6 ++ toLE 8 j.w7

/-- The AAD length in W7 [63:32], R269. -/
def aadLen (j : Job) : Nat := bits j.w7 32 32

/-- AES or TDEA. -/
def anyCipher (alg : Nat) : Bool := isAes alg || isTdea alg

/-- TOP_KCV, R236, R269. -/
def topKcv (j : Job) : TopSpec :=
  { usage := 0, suits := anyCipher, lenOk := fun _ => true, need := fun _ => 3, blocks := fun _ => 1
    cycles := fun a => topSetup a + topRounds a, work := fun a k _ => Work.ok j (kcv a k) }

/-- TOP_CBC_ENC. -/
def topCbcEnc (j : Job) : TopSpec :=
  { usage := 1, suits := anyCipher, lenOk := fun a => j.input.length % blockSize a == 0 && !j.input.isEmpty
    need := fun _ => j.input.length, serial := fun _ => true, blocks := fun a => j.input.length / blockSize a
    cycles := fun a => topSetup a + j.input.length / blockSize a * topRounds a
    work := fun a k _ => Work.ok j (cbcEnc a k (j.input.length / blockSize a) (cbcIv j a) j.input) }

/-- TOP_CBC_DEC; serial under TDEA, R251. -/
def topCbcDec (j : Job) : TopSpec :=
  { usage := 2, suits := anyCipher, lenOk := fun a => j.input.length % blockSize a == 0 && !j.input.isEmpty
    need := fun _ => j.input.length, serial := isTdea, blocks := fun a => j.input.length / blockSize a
    cycles := fun a => topSetup a + (j.input.length / blockSize a + 1) / 2 * topRounds a
    work := fun a k _ => Work.ok j (cbcDec a k (j.input.length / blockSize a) (cbcIv j a) j.input) }

/-- TOP_CTR_ENC: one counter value per block; the first is returned before the ciphertext, R256. -/
def topCtrEnc (j : Job) : TopSpec :=
  { usage := 1 + 2 ^ 10, suits := isAes, lenOk := fun _ => true, need := fun _ => 8 + j.input.length
    draws := some (blocks16 j.input.length), blocks := fun _ => blocks16 j.input.length
    cycles := fun a => topSetup a + (blocks16 j.input.length + 1) / 2 * topRounds a
    work := fun _ k v => Work.ok j (toBE 8 v ++ ctrCrypt k (toLE 8 j.w6) v j.input) }

/-- TOP_CTR_DEC: the counter block in W6 and W7, high half in W6. -/
def topCtrDec (j : Job) : TopSpec :=
  { usage := 2, suits := isAes, lenOk := fun _ => true, need := fun _ => j.input.length
    blocks := fun _ => blocks16 j.input.length, cycles := fun a => topSetup a + (blocks16 j.input.length + 1) / 2 * topRounds a
    work := fun _ k _ => Work.ok j (ctrCrypt k (toLE 8 j.w6) (beNat (toLE 8 j.w7)) j.input) }

/-- The IV drawn for a GCM or CCM encryption, R256. -/
def drawnIv (v : Nat) : Bytes := zeros 4 ++ toBE 8 v

/-- The least cycles of a GCM job over some bytes of text, R266. -/
def gcmCycles (j : Job) (n a : Nat) : Nat := topSetup a + topRounds a + (blocks16 n + 1) / 2 * topRounds a + blocks16 (aadLen j) + 8

/-- Whether a GCM job's text has a length that R254 supports: GMAC alone is not, nor 4 GiB and more. -/
def gcmLenOk (n : Nat) : Bool := decide (0 < n) && decide (n < 2 ^ 32)

/-- TOP_GCM_ENC. -/
def topGcmEnc (j : Job) : TopSpec :=
  let n := j.input.length - aadLen j
  { usage := 1 + 2 ^ 10, suits := isAes, lenOk := fun _ => decide (aadLen j ≤ j.input.length) && gcmLenOk n, need := fun _ => 28 + n
    draws := some 1, blocks := fun _ => blocks16 n, cycles := gcmCycles j n
    work := fun _ k v =>
      let (ct, tag) := gcmSeal k (drawnIv v) (j.input.take (aadLen j)) (j.input.drop (aadLen j))
      Work.ok j (drawnIv v ++ ct ++ tag) }

/-- The parts of a decryption's input: AAD, ciphertext, tag. -/
def decParts (j : Job) : Bytes × Bytes × Bytes :=
  let b := j.input
  (b.take (aadLen j), sub b (aadLen j) (b.length - 16 - aadLen j), b.drop (b.length - 16))

/-- TOP_GCM_DEC, record class, R260. -/
def topGcmDec (j : Job) : TopSpec :=
  let (aad, ct, tag) := decParts j
  { usage := 2, suits := isAes, lenOk := fun _ => decide (aadLen j + 16 ≤ j.input.length) && gcmLenOk ct.length, need := fun _ => ct.length
    blocks := fun _ => blocks16 ct.length, cycles := gcmCycles j ct.length
    work := fun _ k _ => match gcmOpen k (ivOf j) aad ct tag with
      | some p => Work.ok j p
      | none => Work.authFail j }

/-- The ciphertext that each entry of a stream carries, R263: the AAD before the first, the tag after the last. -/
def streamParts (j : Job) : List Bytes :=
  let n := j.segs.length
  (List.range n).map fun i =>
    let d := (j.segs.getD i {}).data
    let d := if i + 1 = n then d.take (d.length - 16) else d
    if i = 0 then d.drop (aadLen j) else d

/-- The deliveries of a stream: each entry's plaintext into that entry's area. -/
def streamOuts (j : Job) (key : Bytes) : Nat → Nat → List Bytes → List (Nat × Bytes)
  | _, _, [] => []
  | i, pos, c :: r =>
    ((j.segs.getD i {}).outAddr, xorBytes c ((List.range c.length).map fun k => Config.gcmStream key (ivOf j) (pos + k)))
      :: streamOuts j key (i + 1) (pos + c.length) r

/-- TOP_GCM_DEC_STREAM, R261 to R263: plaintext is delivered entry by entry; a failed tag ends the job with 0x01 and
poisons the stream. -/
def topGcmDecStream (j : Job) : TopSpec :=
  let parts := streamParts j
  let fits := (List.range j.segs.length).all fun i => decide ((parts.getD i []).length ≤ (j.segs.getD i {}).outLen)
  let tag := j.input.drop (j.input.length - 16)
  let l0 := (j.segs.getD 0 {}).data.length
  let ll := (j.segs.getLastD {}).data.length
  { usage := 2 + 2 ^ 12, suits := isAes
    lenOk := fun _ => decide (aadLen j ≤ l0) && decide (16 ≤ ll) && (j.segs.length != 1 || decide (aadLen j + 16 ≤ l0))
      && gcmLenOk parts.flatten.length
    need := fun _ => if fits then 0 else j.seg0.outLen + 1, blocks := fun _ => (parts.map fun p => blocks16 p.length).sum
    cycles := gcmCycles j parts.flatten.length
    work := fun _ k _ =>
      let ok := (gcmOpen k (ivOf j) (j.input.take (aadLen j)) parts.flatten tag).isSome
      { status := if ok then 0 else 1, outs := streamOuts j k 0 0 parts, resLen := parts.flatten.length, poison := !ok } }

/-- The least cycles of a CCM job, R266: the AAD blocks count the length encoding. -/
def ccmCycles (j : Job) (n a : Nat) : Nat :=
  let ad := if aadLen j = 0 then 0 else blocks16 (aadLen j + (if aadLen j < 0xFF00 then 2 else 6))
  topSetup a + (blocks16 n + ad + 2) * topRounds a

/-- TOP_CCM_ENC. -/
def topCcmEnc (j : Job) : TopSpec :=
  let n := j.input.length - aadLen j
  { usage := 1 + 2 ^ 10, suits := isAes, lenOk := fun _ => decide (aadLen j ≤ j.input.length) && decide (n < 2 ^ 24)
    need := fun _ => 28 + n, draws := some 1, blocks := fun _ => blocks16 n, cycles := ccmCycles j n
    work := fun _ k v =>
      let p := j.input.drop (aadLen j)
      Work.ok j (drawnIv v ++ ccmCrypt k (drawnIv v) p
        ++ bvBytes (Config.ccmTag k (drawnIv v) (j.input.take (aadLen j)) p)) }

/-- TOP_CCM_DEC. -/
def topCcmDec (j : Job) : TopSpec :=
  let (aad, ct, tag) := decParts j
  { usage := 2, suits := isAes, lenOk := fun _ => decide (aadLen j + 16 ≤ j.input.length) && decide (ct.length < 2 ^ 24)
    need := fun _ => ct.length, blocks := fun _ => blocks16 ct.length, cycles := ccmCycles j ct.length
    work := fun _ k _ =>
      let p := ccmCrypt k (ivOf j) ct
      if bvBytes (Config.ccmTag k (ivOf j) aad p) = tag then Work.ok j p else Work.authFail j }

/-- The least cycles of a CMAC job, R266. -/
def cmacCycles (n a : Nat) : Nat := topSetup a + topRounds a + (n + blockSize a - 1) / blockSize a * topRounds a

/-- TOP_CMAC_GEN: a full block. -/
def topCmacGen (j : Job) : TopSpec :=
  { usage := 4, suits := anyCipher, lenOk := fun _ => true, need := blockSize, serial := fun _ => true
    blocks := fun a => j.input.length / blockSize a + 1, cycles := cmacCycles j.input.length, work := fun a k _ => Work.ok j (cmac a k j.input) }

/-- TOP_CMAC_VERIFY, R254, R271: the tag length in W6 [4:0]. -/
def topCmacVerify (j : Job) : TopSpec :=
  let n := bits j.w6 0 5
  let m := j.input.take (j.input.length - n)
  { usage := 8, suits := anyCipher, serial := fun _ => true, blocks := fun a => m.length / blockSize a + 1, cycles := cmacCycles m.length
    lenOk := fun a => decide (4 ≤ n) && decide (n ≤ blockSize a) && decide (n ≤ j.input.length), need := fun _ => 0
    work := fun a k _ => if (cmac a k m).take n = j.input.drop (j.input.length - n) then Work.ok j [] else Work.authFail j }

/-- The data-unit length of XTS, R269. -/
def xtsUnitLen (j : Job) : Nat := bits j.w7 32 32

/-- The shape both XTS opcodes share, R254, R255: AES-128 or AES-256, whole data units of 16 bytes to 16 MiB. -/
def topXts (j : Job) (work : Nat → Bytes → Nat → Work) : TopSpec :=
  let u := xtsUnitLen j
  { usage := 2 ^ 11, suits := fun a => a == 1 || a == 3, need := fun _ => j.input.length
    lenOk := fun _ => decide (16 ≤ u) && decide (u ≤ 2 ^ 24) && decide (u > 0) && j.input.length % (max u 1) == 0 && !j.input.isEmpty
    blocks := fun _ => j.input.length / 16
    cycles := fun a =>
      let m := blocks16 u
      let units := j.input.length / max u 1
      topSetup a + units * (topRounds a + (m + 1) / 2 * topRounds a) + (if u % 16 = 0 then 0 else units) * topRounds a
    work }

/-- The XTS work under both keys: the tweak key follows the data key in the lane. -/
def xtsWork (enc : Bool) (j : Job) (k : Bytes) : Work :=
  let half := k.length / 2
  let u := xtsUnitLen j
  if k.take half = k.drop half then { status := 0x2A, outs := [], resLen := 0 }
  else Work.ok j (xtsCrypt enc (k.take half) (k.drop half) u j.w6 (j.input.length / (max u 1)) j.input)

/-- TOP_XTS_ENC. -/
def topXtsEnc (j : Job) : TopSpec := topXts j fun _ k _ => xtsWork true j k

/-- TOP_XTS_DEC. -/
def topXtsDec (j : Job) : TopSpec := topXts j fun _ k _ => xtsWork false j k

/-- TOP_KW_WRAP: KW of whole semiblocks, or KWP. -/
def topKwWrap (j : Job) : TopSpec :=
  let kwp := bit j.w6 0
  let n := j.input.length
  let out := if kwp then pad8 n + 8 else n + 8
  { usage := 1, suits := isAes, lenOk := fun _ => decide (16 ≤ n) && decide (n ≤ 65536) && (kwp || n % 8 == 0)
    need := fun _ => out, serial := fun _ => true, blocks := fun _ => 6 * (pad8 n / 8)
    cycles := fun a => topSetup a + 6 * (pad8 n / 8) * topRounds a
    work := fun _ k _ => Work.ok j (if kwp then kwpWrap k j.input else (List.range out).map (Config.kwByte k j.input)) }

/-- TOP_KW_UNWRAP. -/
def topKwUnwrap (j : Job) : TopSpec :=
  let kwp := bit j.w6 0
  let n := j.input.length
  { usage := 2, suits := isAes, lenOk := fun _ => decide (16 ≤ n) && decide (n ≤ 65536) && n % 8 == 0 && (kwp || decide (24 ≤ n))
    need := fun _ => n - 8, serial := fun _ => true, blocks := fun _ => 6 * (n / 8 - 1)
    cycles := fun a => topSetup a + 6 * (n / 8 - 1) * topRounds a
    work := fun _ k _ => match (if kwp then Config.kwpOpen k j.input else Config.kwOpen k j.input) with
      | some p => Work.ok j (fit (min p.length (n - 8)) p)
      | none => Work.authFail j }

/-- The specification of a cipher opcode, R269; none for an opcode of the range that names nothing. -/
def topSpec (j : Job) : Option TopSpec :=
  match j.op with
  | 0x300 => some (topKcv j) | 0x308 => some (topCbcEnc j) | 0x309 => some (topCbcDec j) | 0x310 => some (topCtrEnc j)
  | 0x311 => some (topCtrDec j) | 0x314 => some (topGcmEnc j) | 0x315 => some (topGcmDec j)
  | 0x318 => some (topGcmDecStream j) | 0x31C => some (topCcmEnc j) | 0x31D => some (topCcmDec j)
  | 0x320 => some (topCmacGen j) | 0x321 => some (topCmacVerify j) | 0x328 => some (topXtsEnc j)
  | 0x329 => some (topXtsDec j) | 0x330 => some (topKwWrap j) | 0x331 => some (topKwUnwrap j)
  | _ => none

namespace Strand

/-- Change the engines. -/
def upEng (st : Strand) (f : Engines → Engines) : Strand := { st with eng := f st.eng }

/-- The active physical lanes, R277. -/
def activeLanes (st : Strand) : List Nat :=
  [st.get R.TOP_STATUS_LANE_A, st.get R.TOP_STATUS_LANE_B].filter (· < 3)

end Strand

namespace Share

/-- The division of the window in which a moment lies; nothing is carried from one window into the next, R373. -/
def roll (x : Share) (t w : Nat) : Share := if x.window = t / w then x else { window := t / w }

/-- Engine time spent, for a function's host job or for internal work. -/
def add (x : Share) (t w dt : Nat) (host : Option Nat) : Share :=
  let x := x.roll t w
  { x with all := x.all + dt, hosts := match host with
      | none => x.hosts
      | some f => x.hosts.filter (·.1 != f) ++ [(f, markOf x.hosts f + dt)] }

/-- Whether host work has had less than its guaranteed per cent of the window's time, R252, R283. -/
def behind (x : Share) (t w least : Nat) : Bool :=
  let x := x.roll t w
  decide (100 * (x.hosts.map (·.2)).sum < least * x.all)

/-- The waiting host job whose function has had least of the window for its weight; of equals the one that came first, R373. -/
def host (x : Share) (t w : Nat) (weight : Nat → Nat) (q : List Job) : Option Job :=
  let used := markOf (x.roll t w).hosts
  q.foldl (fun (best : Option Job) j => match best with
    | none => some j
    | some b => if used j.fn * max 1 (weight b.fn) < used b.fn * max 1 (weight j.fn) then some j else best) none

/-- The waiting job that starts next: internal work first, in order of arrival, but host work while its share is behind (log entry 52). -/
def pick (x : Share) (t w least : Nat) (weight : Nat → Nat) (own : Job → Bool) (q : List Job) : Option Job :=
  let h := x.host t w weight (q.filter fun j => !own j)
  match q.find? own, h with
  | some i, some h => if x.behind t w least then some h else some i
  | some i, none => some i
  | none, h => h

end Share

/-- The function of a host work-queue job; a coprocessor job is none, R373. -/
def hostFn (j : Job) : Option Nat := if j.cop.isSome then none else some j.fn

namespace Strand

/-- A lane that can take a job, R251: an idle lane, or for a serial-mode job one that runs a single serial-mode job. -/
def laneFor (st : Strand) (serial : Bool) : Option Nat :=
  (st.activeLanes.filter fun l => !st.fenced.contains (12 + l)).find? fun l =>
    let r := st.eng.topRuns.filter (·.lane == l)
    r.isEmpty || (serial && r.length == 1 && r.all (·.serial))

/-- The blocks a lane has worked since its seed, R259. -/
def laneBlocks (st : Strand) (l : Nat) : Nat := ((st.eng.lanes.find? (·.num == l)).map (·.blocks)).getD 0

/-- The record of a lane. -/
def lane (st : Strand) (l : Nat) : Lane := (st.eng.lanes.find? (·.num == l)).getD { num := l }

/-- The blocks a lane will have worked since its seed when the jobs on it end. -/
def laneLoad (st : Strand) (l : Nat) : Nat :=
  st.laneBlocks l + ((st.eng.topRuns.filter (·.lane == l)).map (·.left)).sum

/-- Whether a lane stalls for want of a reseed before its jobs end, R259. -/
def laneStalled (st : Strand) (l : Nat) : Bool := decide (st.laneLoad l > 1048576)

/-- Keep a lane's record. -/
def setLane (st : Strand) (x : Lane) : Strand :=
  st.upEng fun e => { e with lanes := e.lanes.filter (fun y => y.num != x.num) ++ [x] }

/-- TOP_STATUS.RESEED_WAIT shows a stalled lane, R277. -/
def reseedSync (st : Strand) : Strand := st.put R.TOP_STATUS_RESEED_WAIT (b2n (st.eng.lanes.any (·.stalled)))

/-- A lane stalls, counted once, R259. -/
def stallLane (st : Strand) (l : Nat) : Strand :=
  if (st.lane l).stalled then st
  else ((st.bump R.TOP_RESEED_LATE).setLane { st.lane l with stalled := true }).reseedSync

/-- A seed arrives: blocks worked under the old one are behind the jobs on the lane, up to the point at which the seed was due, or at which
the lane stalled (log entry 141). -/
def seedLane (st : Strand) (l x : Nat) : Strand :=
  let upTo := if (st.lane l).stalled then 1048576 else 65536
  let done := if st.laneLoad l ≥ upTo then upTo - st.laneBlocks l else 0
  let cut := fun (r : List TopRun × Nat) (y : TopRun) =>
    if y.lane = l then (r.1 ++ [{ y with left := y.left - r.2 }], r.2 - y.left) else (r.1 ++ [y], r.2)
  let st := st.upEng fun e => { e with topRuns := (e.topRuns.foldl cut ([], done)).1 }
  (st.setLane { num := l, seed := x }).reseedSync

/-- Record a Topaz fault, R278; the requesters that the model's lanes run are host jobs. -/
def topErr (st : Strand) (code slot lane : Nat) : Strand :=
  st.noteErr R.TOP_ERR_VALID R.TOP_ERR_CODE R.TOP_ERR_OVERFLOW code fun st =>
    ((st.put R.TOP_ERR_INFO_SLOT slot).put R.TOP_ERR_INFO_LANE lane).put R.TOP_ERR_INFO_REQUESTER 0

/-- Hold a taken job among those whose completion is owed. -/
def hold (st : Strand) (j : Job) : Strand :=
  { st with taken := if st.taken.any (·.id == j.id) || j.cop.isSome then st.taken else st.taken ++ [j] }

end Strand

namespace State

/-- Where host cipher and hash jobs are served, R273: go on, or the status. -/
def hostGate (s : State) (n : Fin 4) (en : Bool) (keyed : Bool) : Nat :=
  let m := (s.sd n).mode
  if m = 6 ∨ m = 7 then (if keyed then 0x60 else 0x30)
  else if m = 4 then 0x32
  else if (m = 2 ∨ m = 3 ∨ m = 5) ∧ en then 0 else 0x30

/-- A host job of an engine where the strand serves it, R273, R352; a coprocessor job is no host job and meets no gate. -/
def hostJob (s : State) (n : Fin 4) (j : Job) (en : Bool) (keyed : Bool) (work : State → State) : State :=
  if (s.sd n).halted then s
  else match (if j.cop.isSome then 0 else s.hostGate n en keyed) with
    | 0 =>
        if s.dupHits n j.op then s.fail n j 0x7F
        else if !j.env.readOk then (s.hqErr 2 j.sq 0 j.fn).fail n j 0x40 (1 * 2 ^ 16) else work s
    | e => s.fail n j e

/-- The keys of a job, R223, R255: the context's, and for XTS the tweak key after it. -/
def topKeys (s : State) (n : Fin 4) (j : Job) (sp : TopSpec) : Strand × (Nat ⊕ (Ctx × Bytes)) :=
  let st := s.sd n
  let xts := j.op = 0x328 ∨ j.op = 0x329
  match st.release s.now j.env j.fn (s.jobGen j) j.ctx sp.usage 0 true with
  | (st, .inl e) => (st, .inl e)
  | (st, .inr c) =>
    if ¬ xts then (st, .inr (c, c.key))
    else match st.release s.now j.env j.fn (s.jobGen j) (j.w7 % 2 ^ 32) sp.usage 0 true with
      | (st, .inl e) => (st, .inl e)
      | (st, .inr d) => (st, .inr (c, c.key ++ d.key))

/-- Whether the tweak key of an XTS job suits: an AES context of equal length, R255, R272. -/
def tweakOk (s : State) (n : Fin 4) (j : Job) (c : Ctx) : Bool :=
  if j.op = 0x328 ∨ j.op = 0x329 then
    match (s.sd n).ctxFor j.fn (s.jobGen j) (j.w7 % 2 ^ 32) with
    | some d => d.attr.alg == c.attr.alg
    | none => true
  else true

/-- A lane takes up a job, R223, R257, R272, R674: the checks in order, the counter values, the work. -/
def topStart (s : State) (n : Fin 4) (lane : Nat) (j : Job) (sp : TopSpec) : State :=
  let st := s.sd n
  match st.ctxFor j.fn (s.jobGen j) j.ctx with
  | none => (s.up n (·.bump R.ONX_ABSENT)).fail n j 0x22
  | some c =>
    if ¬ sp.suits c.attr.alg ∨ ¬ sp.lenOk c.attr.alg ∨ ¬ s.tweakOk n j c then s.fail n j 0x41
    else if j.seg0.outLen < sp.need c.attr.alg then s.fail n j 0x41
    else if isTdea c.attr.alg ∧ ¬ st.flag R.TOP_CTL_TDEA_EN then (s.up n (·.bump R.ONX_DENIED)).fail n j 0x21
    else match s.topKeys n j sp with
      | (st, .inl e) => (s.setSd n st).fail n j e
      | (st, .inr (c, key)) =>
        let last := 0xFFFFFFFFFFFFFFFF
        match (match sp.draws with
          | none => (st, some 0)
          | some k => if c.attr.counter = last then (st, none) else st.drawCounter c k) with
        | (st, none) =>
          s.setSd n (st.finish s.now j 0 0x20 0 0 (if c.attr.counter = last then [] else [(R.TOP_EXHAUST, 1)]))
        | (st, some v) =>
          if sp.draws.isSome && bit c.attr.flags 0 && !j.env.logOk then (s.setSd n (st.topErr 3 c.idx lane)).fail n j 0x7F
          else
            let k := sp.draws.getD 0
            let w := { sp.work c.attr.alg key v with
              blocks := sp.blocks c.attr.alg, cycles := sp.cycles c.attr.alg, exhaust := decide (0 < k) && v + k == last }
            let r : TopRun := { job := j, lane, serial := sp.serial c.attr.alg, slot := c.idx, work := w, base := c.baseGen
                                since := s.now, drawn := (v, k), left := w.blocks }
            s.setSd n ((st.hold j).upEng fun e => { e with topRuns := e.topRuns ++ [r] })

/-- Whether a job is of a serial mode under the algorithm of its context, R251. -/
def topSerial (s : State) (n : Fin 4) (j : Job) (sp : TopSpec) : Bool :=
  sp.serial ((((s.sd n).ctxFor j.fn (s.jobGen j) j.ctx).map (·.attr.alg)).getD 1)

/-- A cipher job goes to a lane, or waits for one, R251. -/
def topSubmit (s : State) (n : Fin 4) (j : Job) : State :=
  s.hostJob n j ((s.sd n).flag R.TOP_CTL_HOST_EN) true fun s =>
    match topSpec j with
    | none => s.fail n j 0x41
    | some sp =>
      match (s.sd n).laneFor (s.topSerial n j sp) with
      | some l => s.topStart n l j sp
      | none => s.up n fun st => (st.hold j).upEng fun e => { e with topQ := e.topQ ++ [j] }

/-- The lane that a waiting cipher job can take now. -/
def topLane (s : State) (n : Fin 4) (j : Job) : Option (TopSpec × Nat) :=
  (topSpec j).bind fun sp => ((s.sd n).laneFor (s.topSerial n j sp)).map fun l => (sp, l)

/-- A waiting cipher job that a lane can take starts, R252, R373. -/
def topStep (s : State) (n : Fin 4) : State :=
  let e := (s.sd n).eng
  let can := e.topQ.filter fun j => (s.topLane n j).isSome
  match e.topShare.pick s.now 100000 ((s.sd n).get R.TOP_CTL_HOST_MIN) (fun f => (s.poolAt (s.now / 100000 * 100000) f).wTop) (fun j => j.cop.isSome) can with
  | none => s
  | some j => match s.topLane n j with
    | some (sp, l) => (s.up n fun st => st.upEng fun e => { e with topQ := e.topQ.filter (·.id != j.id) }).topStart n l j sp
    | none => s

/-- Waiting cipher jobs start while a lane can take one. -/
def topNext (s : State) (n : Fin 4) : State := (s.sd n).eng.topQ.foldl (fun s _ => s.topStep n) s

/-- Write the outputs of a job. -/
def writeOuts (s : State) (n : Fin 4) (j : Job) : List (Nat × Bytes) → State
  | [] => s
  | (a, b) :: r => (s.writeJob n j a b).writeOuts n j r

/-- Poison a stream: USAGE bit 12 of the context is cleared, and every stream chain that holds its key ends at its next entry
boundary, R262. -/
def poison (st : Strand) (t slot base : Nat) : Strand :=
  let st := st.upEng fun e => { e with topRuns := e.topRuns.map fun (r : TopRun) =>
    if r.job.op = 0x318 ∧ r.slot = slot ∧ r.base = base ∧ r.poisonAt.isNone then { r with poisonAt := some t } else r }
  match st.slot slot with
  | some c =>
    if c.baseGen = base then st.putCtx { c with attr := { c.attr with usage := c.attr.usage &&& (65535 - 4096) }, poisoned := true } else st
  | none => st

/-- A lane is free of a job that has worked some blocks, R253, R259; its round-unit time is counted, R252. -/
def topRelease (st : Strand) (t : Nat) (r : TopRun) (blocks : Nat) : Strand :=
  let units := if r.serial then 1 else 2
  let st := st.upEng fun e => { e with
    topRuns := e.topRuns.filter fun x => x.job.id != r.job.id
    topShare := e.topShare.add t 100000 (units * (t - r.since)) (hostFn r.job) }
  st.setLane { st.lane r.lane with blocks := st.laneBlocks r.lane + blocks }

/-- The end of a cipher job, R253, R260, R261, R275, R278. -/
def topEnd (s : State) (n : Fin 4) (r : TopRun) : State :=
  let j := r.job
  let s := s.up n fun st => topRelease st s.now r r.left
  let w := r.work
  let base := [(R.TOP_JOBS, 1)] ++ (if w.exhaust then [(R.TOP_EXHAUST, 1)] else [])
  if !j.env.endOk then
    s.up n fun st =>
      let st := st.topErr (if j.env.fault = 1 then 1 else 2) r.slot r.lane
      (st.datapath s.now (12 + r.lane)).finish s.now j 0 0x7F 0 0 base
  else if !(j.env.writeOk || w.outs.all (·.2.isEmpty)) then
    (s.hqErr 3 j.sq 0 j.fn).up n fun st => st.finish s.now j 0 0x40 0 (2 * 2 ^ 16) base
  else
    let counts := if w.poison then base ++ [(R.TOP_AUTH_STREAM, 1)]
      else if w.status = 0x10 then base ++ [(R.TOP_AUTH_REC, 1)] else base
    (s.writeOuts n j w.outs).up n fun st =>
      (if w.poison then State.poison st s.now r.slot r.base else st).finish s.now j 0 w.status w.resLen 0 counts

/-- A chain that another poisoned ends with 0x29 after its first `entries` entries; its decision is the moment of poisoning, R262. -/
def topCut (s : State) (n : Fin 4) (r : TopRun) (at' entries : Nat) : State :=
  let parts := (streamParts r.job).take entries
  (s.writeOuts n r.job (r.work.outs.take entries)).up n fun st =>
    (topRelease st s.now r (min r.left (parts.map fun p => blocks16 p.length).sum)).finish at' r.job 0 0x29 0 0 [(R.TOP_JOBS, 1)]

/-! ### Jade -/

/-- The core that runs a hash algorithm: an idle SHA-2 core, or the Keccak core, R264. -/
def jadCore (st : Strand) (alg : Nat) : Option Nat :=
  (if alg ≤ 4 then [0, 1] else [2]).find? fun c => !(st.eng.jadRuns.any (·.core == c))

/-- The busy bits of JAD_STATUS, R280. -/
def jadSync (st : Strand) : Strand :=
  let busy := fun c => b2n (st.eng.jadRuns.any (·.core == c))
  ((st.put R.JAD_STATUS_S0_BUSY (busy 0)).put R.JAD_STATUS_S1_BUSY (busy 1)).put R.JAD_STATUS_K_BUSY (busy 2)

/-- The cycles of one block, its bytes and the padding of a hash algorithm, R267. -/
def jadShape (a : Nat) : Nat × Nat × Nat :=
  if a = 1 then (64, 64, 9) else if a ≤ 4 then (80, 128, 17) else if a = 5 then (48, 136, 1) else (48, 72, 1)

/-- The cycles of a hash job over a message under a key, R267: the setup, and for an HMAC the key blocks and three more. -/
def jadCycles (a len : Nat) (key : Option Nat) : Nat :=
  let (t, b, p) := jadShape a
  let up := fun n => (n + b - 1) / b
  40 + match key with
    | none => t * up (len + p)
    | some k => t * ((if k > b then up (k + p) else 0) + 3 + up (len + p))

/-- What a hash job computes under its key, R270, R271. -/
def jadResult (j : Job) (key : Bytes) : Work :=
  let a := bits j.w6 0 4
  let n := bits j.w6 8 8
  match j.op with
  | 0x500 => Work.ok j (digest a j.input)
  | 0x501 => Work.ok j (hmac a key j.input)
  | _ =>
    if (hmac a key (j.input.take (j.input.length - n))).take n = j.input.drop (j.input.length - n) then Work.ok j []
    else Work.authFail j

/-- A hash job's work with its cycles. -/
def jadWork (j : Job) (key : Bytes) : Work :=
  let len := if j.op = 0x502 then j.input.length - bits j.w6 8 8 else j.input.length
  { jadResult j key with cycles := jadCycles (bits j.w6 0 4) len (if j.op = 0x500 then none else some key.length) }

/-- A hash core takes up a job. -/
def jadStart (s : State) (n : Fin 4) (core : Nat) (j : Job) : State :=
  let run := fun (s : State) (slot : Option Nat) (key : Bytes) => s.up n fun st =>
    jadSync ((st.hold j).upEng fun e =>
      { e with jadRuns := e.jadRuns ++ [{ job := j, core := core, slot := slot, work := jadWork j key, since := s.now }] })
  let out := if j.op = 0x502 then 0 else digestLen (bits j.w6 0 4)
  if j.op = 0x500 then s.room n j out fun s => run s none []
  else
    let st := s.sd n
    match st.ctxFor j.fn (s.jobGen j) j.ctx with
    | none => (s.up n (·.bump R.ONX_ABSENT)).fail n j 0x22
    | some c =>
      if ¬ (c.attr.alg = 8 ∨ c.attr.alg = 9) then s.fail n j 0x41
      else s.room n j out fun s =>
        match st.release s.now j.env j.fn (s.jobGen j) j.ctx (if j.op = 0x501 then 4 else 8) 3 true with
        | (st, .inl e) => (s.setSd n st).fail n j e
        | (st, .inr c) => run (s.setSd n st) (some c.idx) c.key

/-- A hash job goes to a core, or waits for one; a selector or tag length outside R254 and R270 is malformed. -/
def jadSubmit (s : State) (n : Fin 4) (j : Job) : State :=
  let a := bits j.w6 0 4
  let t := bits j.w6 8 8
  s.hostJob n j ((s.sd n).flag R.JAD_CTL_HOST_EN) (j.op != 0x500) fun s =>
    if a = 0 ∨ a > 6 ∨ j.input.length ≥ 2 ^ 40 ∨ (j.op = 0x502 ∧ (t < 16 ∨ t > digestLen a ∨ t > j.input.length)) then s.fail n j 0x41
    else match State.jadCore (s.sd n) a with
      | some c => s.jadStart n c j
      | none => s.up n fun st => (st.hold j).upEng fun e => { e with jadQ := e.jadQ ++ [j] }

/-- A waiting hash job that a core can take starts, R252, R373. -/
def jadStep (s : State) (n : Fin 4) : State :=
  let e := (s.sd n).eng
  let can := e.jadQ.filter fun j => (State.jadCore (s.sd n) (bits j.w6 0 4)).isSome
  match e.jadShare.pick s.now 100000 ((s.sd n).get R.JAD_CTL_HOST_MIN) (fun f => (s.poolAt (s.now / 100000 * 100000) f).wJad) (fun j => j.cop.isSome) can with
  | none => s
  | some j => match State.jadCore (s.sd n) (bits j.w6 0 4) with
    | some c => (s.up n fun st => st.upEng fun e => { e with jadQ := e.jadQ.filter (·.id != j.id) }).jadStart n c j
    | none => s

/-- Waiting hash jobs start while a core can take one. -/
def jadNext (s : State) (n : Fin 4) : State := (s.sd n).eng.jadQ.foldl (fun s _ => s.jadStep n) s

/-- The end of a hash job, R253, R271, R275, R281. -/
def jadEnd (s : State) (n : Fin 4) (r : JadRun) : State :=
  let j := r.job
  let w := r.work
  let base := [(R.JAD_JOBS, 1)]
  let s := s.up n fun st =>
    jadSync (st.upEng fun e => { e with
      jadRuns := e.jadRuns.filter fun x => x.job.id != j.id, jadShare := e.jadShare.add s.now 100000 (s.now - r.since) (hostFn j) })
  if !j.env.endOk then
    s.up n fun st =>
      let st := st.noteErr R.JAD_ERR_VALID R.JAD_ERR_CODE R.JAD_ERR_OVERFLOW (if j.env.fault = 1 then 1 else 2) fun st =>
        ((st.put R.JAD_ERR_INFO_SLOT (r.slot.getD 0)).put R.JAD_ERR_INFO_CORE r.core).put R.JAD_ERR_INFO_REQUESTER 0
      (st.datapath s.now 15).finish s.now j 0 0x7F 0 0 base
  else if !(j.env.writeOk || w.outs.all (·.2.isEmpty)) then
    (s.hqErr 3 j.sq 0 j.fn).up n fun st => st.finish s.now j 0 0x40 0 (2 * 2 ^ 16) base
  else
    (s.writeOuts n j w.outs).up n fun st =>
      st.finish s.now j 0 w.status w.resLen 0 (if w.status = 0x10 then base ++ [(R.JAD_VERIFY_FAIL, 1)] else base)

end State

/-! ### The commands -/

/-- TOP_KCV, R269. -/
def execTopKcv (n : Fin 4) (j : Job) (s : State) : Host.Outcome State Fault Refusal := .next (s.topSubmit n { j with op := 0x300 })

/-- TOP_CBC_ENC, R269. -/
def execTopCbcEnc (n : Fin 4) (j : Job) (s : State) : Host.Outcome State Fault Refusal := .next (s.topSubmit n { j with op := 0x308 })

/-- TOP_CBC_DEC, R269. -/
def execTopCbcDec (n : Fin 4) (j : Job) (s : State) : Host.Outcome State Fault Refusal := .next (s.topSubmit n { j with op := 0x309 })

/-- TOP_CTR_ENC, R256, R269. -/
def execTopCtrEnc (n : Fin 4) (j : Job) (s : State) : Host.Outcome State Fault Refusal := .next (s.topSubmit n { j with op := 0x310 })

/-- TOP_CTR_DEC, R269. -/
def execTopCtrDec (n : Fin 4) (j : Job) (s : State) : Host.Outcome State Fault Refusal := .next (s.topSubmit n { j with op := 0x311 })

/-- TOP_GCM_ENC, R256, R269. -/
def execTopGcmEnc (n : Fin 4) (j : Job) (s : State) : Host.Outcome State Fault Refusal := .next (s.topSubmit n { j with op := 0x314 })

/-- TOP_GCM_DEC, R260, R269. -/
def execTopGcmDec (n : Fin 4) (j : Job) (s : State) : Host.Outcome State Fault Refusal := .next (s.topSubmit n { j with op := 0x315 })

/-- TOP_GCM_DEC_STREAM, R261 to R263. -/
def execTopGcmDecStream (n : Fin 4) (j : Job) (s : State) : Host.Outcome State Fault Refusal := .next (s.topSubmit n { j with op := 0x318 })

/-- STREAM_CHAIN_ABORT, R262: a running stream chain whose key another poisoned has delivered its first `entries` entries
and ends with 0x29 at this entry boundary. -/
def execStreamChainAbort (n : Fin 4) (id entries : Nat) (s : State) : Host.Outcome State Fault Refusal :=
  match (s.sd n).eng.topRuns.find? fun r => r.job.id == id && r.job.op == 0x318 with
  | none => .next s
  | some r =>
    match r.poisonAt with
    | some t => .next (if (s.sd n).halted then s else (s.topCut n r t entries).topNext n)
    | none => .next s

/-- TOP_CCM_ENC, R256, R269. -/
def execTopCcmEnc (n : Fin 4) (j : Job) (s : State) : Host.Outcome State Fault Refusal := .next (s.topSubmit n { j with op := 0x31C })

/-- TOP_CCM_DEC, R260, R269. -/
def execTopCcmDec (n : Fin 4) (j : Job) (s : State) : Host.Outcome State Fault Refusal := .next (s.topSubmit n { j with op := 0x31D })

/-- TOP_CMAC_GEN, R269. -/
def execTopCmacGen (n : Fin 4) (j : Job) (s : State) : Host.Outcome State Fault Refusal := .next (s.topSubmit n { j with op := 0x320 })

/-- TOP_CMAC_VERIFY, R269, R271. -/
def execTopCmacVerify (n : Fin 4) (j : Job) (s : State) : Host.Outcome State Fault Refusal := .next (s.topSubmit n { j with op := 0x321 })

/-- TOP_XTS_ENC, R255, R269. -/
def execTopXtsEnc (n : Fin 4) (j : Job) (s : State) : Host.Outcome State Fault Refusal := .next (s.topSubmit n { j with op := 0x328 })

/-- TOP_XTS_DEC, R255, R269. -/
def execTopXtsDec (n : Fin 4) (j : Job) (s : State) : Host.Outcome State Fault Refusal := .next (s.topSubmit n { j with op := 0x329 })

/-- TOP_KW_WRAP, R269. -/
def execTopKwWrap (n : Fin 4) (j : Job) (s : State) : Host.Outcome State Fault Refusal := .next (s.topSubmit n { j with op := 0x330 })

/-- TOP_KW_UNWRAP, R260, R269. -/
def execTopKwUnwrap (n : Fin 4) (j : Job) (s : State) : Host.Outcome State Fault Refusal := .next (s.topSubmit n { j with op := 0x331 })

/-- JAD_HASH, R270. -/
def execJadHash (n : Fin 4) (j : Job) (s : State) : Host.Outcome State Fault Refusal := .next (s.jadSubmit n { j with op := 0x500 })

/-- JAD_HMAC_GEN, R270. -/
def execJadHmacGen (n : Fin 4) (j : Job) (s : State) : Host.Outcome State Fault Refusal := .next (s.jadSubmit n { j with op := 0x501 })

/-- JAD_HMAC_VERIFY, R270, R271. -/
def execJadHmacVerify (n : Fin 4) (j : Job) (s : State) : Host.Outcome State Fault Refusal := .next (s.jadSubmit n { j with op := 0x502 })

/-- The jobs on a lane end with 0x7F, their lane's reseed having failed, R278. -/
def State.dropReseed (s : State) (n : Fin 4) (lane : Nat) : State :=
  let rs := (s.sd n).eng.topRuns.filter (·.lane == lane)
  let s := s.up n fun st => st.topErr 4 ((rs.head?.map (·.slot)).getD 0) lane
  (rs.foldl (fun (s : State) r => s.up n fun st => (State.topRelease st s.now r 0).finish s.now r.job 0 0x7F 0 0 [(R.TOP_JOBS, 1)]) s).topNext n

/-- TOPAZ_RESEED, R259, R278: with a seed supplied the lane's count starts afresh; without one a lane that passes 1,048,576 blocks
stalls and the stall is counted. A reseed that failed is a fault of the lane's jobs. -/
def execTopazReseed (n : Fin 4) (lane : Nat) (supplied : Bool) (s : State) (failed : Bool := false) : Host.Outcome State Fault Refusal :=
  let st := s.sd n
  if st.halted ∨ ¬ st.activeLanes.contains lane then .next s
  else if failed then .next (s.dropReseed n lane)
  else if supplied then
    let (x, st) := st.draw
    .next (s.setSd n (st.seedLane lane x))
  else .next (if st.laneStalled lane then s.setSd n (st.stallLane lane) else s)

/-- TOPAZ_JOB_END, R253, R266: the job of an id ends on its lane, not before its least time at 900 MHz, and a waiting job starts. A stalled
lane ends nothing, R259; a poisoned chain ends without its last entry, R262. -/
def execTopazJobEnd (n : Fin 4) (id : Nat) (s : State) : Host.Outcome State Fault Refusal :=
  match (s.sd n).eng.topRuns.find? (·.job.id == id) with
  | none => .next s
  | some r =>
    if (s.sd n).halted then .next s
    else if (s.sd n).laneStalled r.lane then .next (s.up n fun st => st.stallLane r.lane)
    else match r.poisonAt with
      | some t => .next ((s.topCut n r t (r.job.segs.length - 1)).topNext n)
      | none => .next (((s.upTo (Strand.runEnd r.since r.mark r.done r.work.cycles ((s.sd n).isleMhz (12 + r.lane)))).topEnd n r).topNext n)

/-- JADE_JOB_END, R253, R267: the job of an id ends on its core, not before its cycles at 1.0 GHz, and a waiting job starts. -/
def execJadeJobEnd (n : Fin 4) (id : Nat) (s : State) : Host.Outcome State Fault Refusal :=
  match (s.sd n).eng.jadRuns.find? (·.job.id == id) with
  | none => .next s
  | some r => if (s.sd n).halted then .next s else .next (((s.upTo (Strand.runEnd r.since r.mark r.done r.work.cycles ((s.sd n).isleMhz 15))).jadEnd n r).jadNext n)

end Sys2Proof.Machine
end

