-- ==== Sys2Proof/Machine/BerylOps.lean ====
section
/-! DEFINITION. The Beryl engines as the posting engine and the host jobs share them, R282, R283, R295, R305. -/

namespace Sys2Proof.Machine
open Sys2Proof

namespace Strand

/-- The Beryl engines that take work: neither fenced nor held as spare, R282. -/
def berActive (st : Strand) : List Nat :=
  (List.range 5).filter fun e => !st.fenced.contains (7 + e) && e != st.get R.BER_STATUS_SPARE

/-- The record of an engine. -/
def berEng (st : Strand) (e : Nat) : BerEng := (st.eng.berEngs.find? (·.num == e)).getD { num := e }

/-- Keep the record of an engine. -/
def setBerEng (st : Strand) (x : BerEng) : Strand :=
  st.upEng fun g => { g with berEngs := g.berEngs.filter (fun y => y.num != x.num) ++ [x] }

/-- The job on an engine. -/
def berRun (st : Strand) (e : Nat) : Option BerRun := st.eng.berRuns.find? (·.eng == e)

/-- Keep the job on an engine. -/
def setBerRun (st : Strand) (r : BerRun) : Strand :=
  st.upEng fun g => { g with berRuns := g.berRuns.filter (fun x => x.eng != r.eng) ++ [r] }

/-- BER_STATUS.BUSY and ACTIVE, R309. -/
def berSync (st : Strand) : Strand :=
  let busy := ((List.range 5).map fun e => if (st.berRun e).isSome then 2 ^ e else 0).sum
  (st.put R.BER_STATUS_BUSY busy).put R.BER_STATUS_ACTIVE st.berActive.length

/-- An engine falls idle: its key register is cleared with the job, R225. -/
def dropBerRun (st : Strand) (e : Nat) : Strand :=
  (st.upEng fun g => { g with berRuns := g.berRuns.filter fun x => x.eng != e }).berSync

/-- Whether posting work waits for an engine, R283: a completion in commit order, or a preparation. -/
def sealWaits (st : Strand) : Bool :=
  st.post.batches.any fun b =>
    !b.check && (b.phase == .committed || (b.phase == .checking && b.spec && b.prep.isNone && b.slot.isSome && b.fails.isEmpty))

/-- A job goes to an engine, R295, R305: a wipe first where its owner differs from the previous job's or a wipe is owed; an owed wipe is
counted with its batch, R307. -/
def berAssign (st : Strand) (t e : Nat) (j : Job) : Strand :=
  let x := st.berEng e
  let own := (j.fn, j.gen)
  let wipe := x.owe || (match x.owner with | some o => o != own | none => false)
  let st := st.setBerEng { num := e, owner := some own, owe := false }
  let st := if wipe && !x.owe then st.bump R.BER_WIPES else st
  (st.setBerRun { job := j, eng := e, st := if wipe then .wiping else .loading, since := t }).berSync

/-- Engine time spent, R283: for a function's host job, or for the strand's own work. -/
def berTime (st : Strand) (t dt : Nat) (host : Option Nat) : Strand :=
  st.upEng fun e => { e with berShare := e.berShare.add t 1000000 dt host }

/-- Cycles of a seal preparation and of a seal completion by PST_CTL.SEAL_ALG, R290. -/
def sealCycles (alg : Nat) (completion : Bool) : Nat :=
  match alg, completion with
  | 1, false => 68000 | 1, true => 12000 | 2, false => 136000 | 2, true => 24000 | _, false => 48000 | _, true => 16000

/-- The strand's own work takes a free engine for some cycles, R284, R295: the strand with the wipes that precede it; none where the engine
is not active or runs a job, for a job is never pre-empted, R282. -/
def berSeal (st : Strand) (t e cycles : Nat) : Option (Strand × Nat) :=
  if ¬ st.berActive.contains e ∨ (st.berRun e).isSome then none
  else
    let x := st.berEng e
    let wipe := !x.owe && (match x.owner with | some o => o != (0xFF, 0) | none => false)
    some ((st.setBerEng { num := e, owner := some (0xFF, 0), owe := false }).berTime t cycles none, b2n wipe)

end Strand

/-- Whether a waiting Beryl job is internal work: key generation for the vault, or a core's own job; every other is a host job, R283. -/
def berOwn (j : Job) : Bool := j.cop.isSome || j.op / 256 == 2

namespace State

/-- The waiting job that a free engine takes, R283, R373: while posting work waits a host job alone, and that only where the host share is
behind; else vault work before host jobs. -/
def berPick (s : State) (n : Fin 4) : Option Job :=
  let st := s.sd n
  let x := st.eng.berShare
  let least := st.get R.BER_CTL_HOST_MIN
  let weight := fun f => (s.poolAt (s.now / 1000000 * 1000000) f).wBer
  if st.sealWaits then
    (if x.behind s.now 1000000 least then x.host s.now 1000000 weight (st.eng.berQ.filter fun j => !berOwn j) else none)
  else x.pick s.now 1000000 least weight berOwn st.eng.berQ

/-- A waiting job goes to a free engine. -/
def berStep (s : State) (n : Fin 4) : State :=
  match (s.sd n).berActive.find? (fun e => ((s.sd n).berRun e).isNone), s.berPick n with
  | some e, some j => s.up n fun st => (st.upEng fun g => { g with berQ := g.berQ.filter (·.id != j.id) }).berAssign s.now e j
  | _, _ => s

/-- Waiting jobs go to free engines. -/
def berNext (s : State) (n : Fin 4) : State := (s.sd n).eng.berQ.foldl (fun s _ => s.berStep n) s

/-- A job waits for an engine, or takes one. -/
def berQueue (s : State) (n : Fin 4) (j : Job) : State :=
  (s.up n fun st => (st.hold j).upEng fun g => { g with berQ := g.berQ ++ [j] }).berNext n

end State

end Sys2Proof.Machine
end

