-- ==== Sys2Proof/Machine/HostPort.lean ====
section
/-! DEFINITION. The host port, R328 to R366: queues in host memory, taking entries, chains, completions, interrupts. -/

namespace Sys2Proof.Machine
open Sys2Proof

namespace State

/-- Entries of a submission queue, R334. -/
def sqSize (s : State) (q : Nat) : Nat := 2 ^ s.rget R.HQ_SQ_CFG_SIZE_LOG2 q

/-- Entries of a completion queue, R334. -/
def cqSize (s : State) (q : Nat) : Nat := 2 ^ s.rget R.HQ_CQ_CFG_SIZE_LOG2 q

/-- The owner function of a submission queue, R333. -/
def sqOwner (s : State) (q : Nat) : Nat := s.rget R.HQ_SQ_CFG_OWNER q

/-- The base address of a submission queue. -/
def sqBase (s : State) (q : Nat) : Nat :=
  s.rget R.HQ_SQ_BASE_LO_BASE_LO q * 2 ^ 12 + s.rget R.HQ_SQ_BASE_HI_BASE_HI q * 2 ^ 32

/-- The base address of a completion queue. -/
def cqBase (s : State) (q : Nat) : Nat :=
  s.rget R.HQ_CQ_BASE_LO_BASE_LO q * 2 ^ 12 + s.rget R.HQ_CQ_BASE_HI_BASE_HI q * 2 ^ 32

/-- The head-publish address. -/
def hpub (s : State) (q : Nat) : Nat :=
  s.rget R.HQ_SQ_HPUB_LO_HPUB_LO q * 2 ^ 3 + s.rget R.HQ_SQ_HPUB_HI_HPUB_HI q * 2 ^ 32

/-- The global id of the default completion queue, R338. -/
def cqDef (s : State) (q : Nat) : Nat := (State.homeOf q).val * 1024 + s.rget R.HQ_SQ_CFG_CQ_DEF q

/-- The completion queue an entry names: CQ_HIGH × 256 + CQ_LOW on the queue's strand, R336. -/
def cqNamed (s : State) (q : Nat) (w0 : Nat) : Nat :=
  (State.homeOf q).val * 1024 + s.rget R.HQ_SQ_CFG_CQ_HIGH q * 256 + bits w0 32 8

/-- Whether a completion queue is mapped, enabled and owned by a function, R338 reason 1, R344. -/
def cqUsable (s : State) (c owner : Nat) : Bool :=
  s.rflag R.HQ_CQ_CFG_MAPPED c && (s.cq c).enabled && s.rget R.HQ_CQ_CFG_OWNER c == owner

/-- The completion queue that will take an entry's completion, R338. -/
def cqFor (s : State) (q w0 : Nat) : Nat :=
  if s.cqUsable (s.cqNamed q w0) (s.sqOwner q) then s.cqNamed q w0 else s.cqDef q

/-- Publish HEAD in host memory, R345. -/
def publish (s : State) (q : Sq) (writeOk : Bool) : State :=
  let q := { q with pubNo := q.pubNo + 1, pubDue := none }
  let w := toLE 4 (q.head % 2 ^ 16 + (if q.state = .disabled then 2 ^ 16 else 0)) ++ toLE 4 q.pubNo
  let s := s.setSq q
  if writeOk then { s with mem := Mem.writeBytes s.mem (s.hpub q.id) w }
  else
    let c := s.cq (s.cqDef q.id)
    (s.setCq { c with writeErr := true }).hqErr 4 q.id 0 (s.sqOwner q.id)

/-- Send a function's MSI-X vector: masked ones set their pending bit; numbers beyond the table count as none, R353. -/
def sendVector (s : State) (f vec : Nat) : State :=
  if vec ≥ (if f = 0 then 64 else 16) then s
  else
    let g := s.fn f
    let m := (g.msix.find? (·.vec == vec)).getD { vec := vec, masked := false, pend := false, sent := 0 }
    let m := if m.masked then { m with pend := true } else { m with sent := m.sent + 1 }
    s.setFn { g with msix := g.msix.filter (·.vec != vec) ++ [m] }

/-- A completion queue signals: count and timer start afresh, R353. -/
def signal (s : State) (c : Nat) : State :=
  let s := s.setCq { s.cq c with unsignalled := 0, timer := none }
  s.sendVector (s.rget R.HQ_CQ_CFG_OWNER c) (s.rget R.HQ_CQ_CFG_VECTOR c)

/-- After a completion entry is written: the three triggers of R353. -/
def afterPost (s : State) (c : Nat) (irq : Bool) : State :=
  let q := s.cq c
  if !q.ien then s
  else
    let k := q.unsignalled + 1
    if irq || decide (k ≥ max 1 (s.rget R.HQ_CQ_INTR_COUNT c)) then s.signal c
    else
      let t := s.rget R.HQ_CQ_INTR_TIME c
      let timer := if q.timer.isSome then q.timer else if t = 0 then none else some (s.now + 1000 * t)
      s.setCq { q with unsignalled := k, timer := timer }

/-- Release a completion reservation, R349. -/
def unreserve (s : State) (c : Nat) : State := s.setCq { s.cq c with reserved := (s.cq c).reserved - 1 }

/-- A completion entry, R347. -/
def cqEntry (s : State) (d : Done) (phase : Bool) : Bytes :=
  toLE 4 d.job.tag ++ toLE 1 d.status ++ toLE 1 d.job.gen ++ toLE 1 (b2n phase) ++ zeros 1 ++ toLE 4 d.resLen
    ++ toLE 4 d.detail ++ toLE 2 d.job.sq ++ toLE 2 (s.sq d.job.sq).head ++ zeros 12

/-- Post one completion, or discard it where its function's generation has moved on, R347 to R352. -/
def postDone (s : State) (n : Fin 4) (d : Done) (writeOk : Bool) : State :=
  let c := d.job.cq
  if (s.fn d.job.fn).gen ≠ d.job.gen ∨ (s.fn d.job.fn).st = .absent then
    (s.unreserve c).rbump R.HQ_LATE n.val
  else if !writeOk then
    let s := s.unreserve c
    (s.setCq { s.cq c with writeErr := true }).hqErr 4 c 1 d.job.fn
  else
    let q := s.cq c
    let e := s.cqEntry d q.phase
    let s := { s with mem := Mem.writeBytes s.mem (s.cqBase c + 32 * q.tail) e }
    let t := (q.tail + 1) % s.cqSize c
    let s := s.setCq { q with reserved := q.reserved - 1, posted := q.posted + 1, tail := t,
                              phase := if t = 0 then !q.phase else q.phase }
    s.afterPost c d.job.irq

/-! ### Taking entries -/

/-- The 64 bytes of the entry at a ring index: from the cache, or read afresh at the take, R342. -/
def entryAt (s : State) (q : Sq) (i : Nat) : Bytes :=
  match q.cache.find? (·.1 == i) with
  | some (_, b) => b
  | none => Mem.readBytes s.mem (s.sqBase q.id + 64 * i) 64

/-- Word W0 of an entry. -/
def w0 (e : Bytes) : Nat := le e 0 8

/-- Whether an entry would complete a job, or fail a chain, when taken, R337, R340. -/
def completes (q : Sq) (e : Bytes) : Bool :=
  let w := w0 e
  bit w 46 || match q.chain with
    | none => !bit w 47
    | some c => bit w 47 || bits w 48 16 != bits (w0 (c.entries.headD [])) 48 16 || decide (c.entries.length ≥ 4097)

/-- Whether the host port writes to host memory, R24, R330: the link up, the port working. -/
def portUp (s : State) : Bool := s.ring.power && s.rflag R.HQ_STATUS_LINK_UP && !s.ring.hpFailed

/-- Whether the host port reads for a strand, R23, R24, R330: neither in CHARTER nor HALTED, the link up, the port working. -/
def portServes (s : State) (n : Fin 4) : Bool :=
  s.ring.power && decide ((s.sd n).mode ≥ 2) && !(s.sd n).halted && s.rflag R.HQ_STATUS_LINK_UP && !s.ring.hpFailed

/-- Whether a submission queue has an entry that its owner, its strand and the port let be taken, R340. -/
def ready (s : State) (q : Sq) : Bool :=
  let n := State.homeOf q.id
  s.rflag R.HQ_CTL_FETCH_EN && q.state == .enabled && q.next != q.tail && (s.fn (s.sqOwner q.id)).st == .active
    && s.portServes n && decide (((s.sd n).taken.filter fun j => j.lastInput == 0).length < 256)

/-- Whether the next entry of a queue is held by FENCE behind an earlier job of the queue, R340. -/
def fenceHolds (s : State) (q : Sq) : Bool :=
  let e := s.entryAt q q.next
  bit (w0 e) 47 && bit (w0 e) 45 && (s.sd (State.homeOf q.id)).taken.any fun j => j.sq == q.id

/-- The completion queues in which an entry needs a slot when taken, R337, R340, R346: its own where it completes a job or fails a chain, and
that of the open chain which a FIRST entry fails. -/
def slotsNeeded (s : State) (q : Sq) (e : Bytes) : List Nat :=
  let own := s.cqFor q.id (w0 e)
  match q.chain with
  | some c =>
    if bit (w0 e) 47 then s.cqFor q.id (w0 (c.entries.getLastD [])) :: (if bit (w0 e) 46 then [own] else [])
    else if completes q e then [own] else []
  | none => if completes q e then [own] else []

/-- Whether the completion queues that an entry needs have room for it, R340, R349 (log entry 10: a queue of N entries holds N). -/
def slotsFree (s : State) (q : Sq) (e : Bytes) : Bool :=
  let l := s.slotsNeeded q e
  l.all fun c => decide ((s.cq c).posted + (s.cq c).reserved + (l.filter (· == c)).length ≤ s.cqSize c)

/-- Whether a submission queue is eligible, R340. -/
def eligible (s : State) (q : Sq) : Bool := s.ready q && !s.fenceHolds q && s.slotsFree q (s.entryAt q q.next)

/-- One segment of a job: the entry's fields and its input read from host memory, R336. -/
def segOf (s : State) (e : Bytes) : Seg :=
  { inAddr := le e 16 8, inLen := le e 24 4, data := Mem.readBytes s.mem (le e 16 8) (le e 24 4), outAddr := le e 32 8, outLen := le e 40 4 }

/-- The job of a run of entries, R336, R374, with its stamp and origin. -/
def jobOf (s : State) (q : Nat) (es : List Bytes) (gen : Nat) : Job :=
  let f := es.headD []
  let l := es.getLastD []
  { id := s.ring.jobSeq, op := bits (w0 f) 48 16, fn := s.sqOwner q, gen := gen, sq := q, cq := s.cqFor q (w0 l)
    tag := bits (w0 l) 0 32, irq := bit (w0 l) 43, specOk := bit (w0 f) 44, ctx := le f 8 4, segs := es.map s.segOf
    w6 := le f 48 8, w7 := le f 56 8, origin := s.now
    lastInput := if (es.map fun e => le e 24 4).sum = 0 then s.now else 0 }

/-- Whether a reserved bit of W0, W1, W3 or W5 is set, R338 reason 6. -/
def reservedSet (e : Bytes) : Bool :=
  bits (w0 e) 40 3 != 0 || le e 12 4 != 0 || le e 28 4 != 0 || le e 44 4 != 0

/-- Enter a job among those taken, with its completion slot reserved, R349. -/
def enterJob (s : State) (n : Fin 4) (j : Job) : State :=
  let s := s.upR fun r => { r with jobSeq := r.jobSeq + 1 }
  let s := s.setCq { s.cq j.cq with reserved := (s.cq j.cq).reserved + 1 }
  s.up n fun st => { st with taken := st.taken ++ [j] }

/-- The host port itself completes a job with 0x41 and a reason, R338. -/
def portFail (s : State) (n : Fin 4) (j : Job) (reason : Nat) : State :=
  (s.enterJob n j).up n fun st =>
    if Strand.isBatch j then st.finishEarly s.now { j with lastInput := s.now } 0 0x41 reason
    else st.finish s.now { j with lastInput := s.now } 0 0x41 0 reason

/-- The opcodes that a block defines, R115, R193, R245, R269, R270, R307, R322, R339, R387, R487, R522. -/
def opcodes : List Nat :=
  [0x000, 0x040, 0x041, 0x042, 0x043, 0x044, 0x048, 0x049, 0x04A, 0x04B]
  ++ [0x100, 0x101, 0x110, 0x111, 0x112, 0x114, 0x120, 0x130]
  ++ [0x200, 0x201, 0x202, 0x203, 0x204, 0x205, 0x208, 0x209, 0x20A, 0x20B, 0x20C, 0x20D, 0x20E, 0x20F]
  ++ [0x210, 0x211, 0x212, 0x213, 0x220, 0x230, 0x231, 0x232, 0x233]
  ++ [0x300, 0x308, 0x309, 0x310, 0x311, 0x314, 0x315, 0x318, 0x31C, 0x31D, 0x320, 0x321, 0x328, 0x329, 0x330, 0x331]
  ++ [0x400, 0x401, 0x402, 0x408, 0x409, 0x40A, 0x40B, 0x410, 0x411, 0x418, 0x419, 0x420, 0x421, 0x428, 0x430]
  ++ [0x500, 0x501, 0x502]
  ++ [0x600, 0x601, 0x602, 0x610, 0x611, 0x612, 0x620, 0x621, 0x622, 0x630, 0x631, 0x632]
  ++ [0x700, 0x701, 0x702, 0x703]
  ++ [0x800, 0x801, 0x802, 0x803, 0x810, 0x811, 0x812, 0x813, 0x814, 0x900]

/-- A whole job: refused by the port with the lowest reason of R338 that holds, or handed to the strand, whose block refuses an opcode
that it does not define with 0x41, R339, before any input is read (log entry 136). -/
def wholeJob (s : State) (n : Fin 4) (q : Nat) (es : List Bytes) (gen : Nat) : State :=
  let j := s.jobOf q es gen
  let l := es.getLastD []
  if !s.cqUsable (s.cqNamed q (w0 l)) (s.sqOwner q) then s.portFail n j 1
  else if es.any reservedSet then s.portFail n j 6
  else if j.op ≥ 0xA00 then s.portFail n j 7
  else if opcodes.contains j.op then s.enterJob n j
  else (s.enterJob n j).fail n { j with lastInput := s.now } 0x41

/-- An entry met with no chain open, R337. -/
def resolveFresh (s : State) (n : Fin 4) (q : Sq) (e : Bytes) (gen : Nat) : State × Option Chain :=
  if bit (w0 e) 47 then
    if bit (w0 e) 46 then (s.wholeJob n q.id [e] gen, none) else (s, some ⟨[e], s.now, gen⟩)
  else (s.portFail n (s.jobOf q.id [e] gen) 2, none)

/-- An entry resolved under R337: the state with the jobs it ends or completes, and the chain left open. -/
def resolve (s : State) (n : Fin 4) (q : Sq) (e : Bytes) : State × Option Chain :=
  let gen := (s.fn (s.sqOwner q.id)).gen
  match q.chain with
  | none => s.resolveFresh n q e gen
  | some c =>
    if bit (w0 e) 47 then (s.portFail n (s.jobOf q.id c.entries c.gen) 2).resolveFresh n q e gen
    else if bits (w0 e) 48 16 ≠ bits (w0 (c.entries.headD [])) 48 16 then
      (s.portFail n (s.jobOf q.id (c.entries ++ [e]) c.gen) 4, none)
    else if c.entries.length ≥ 4097 then (s.portFail n (s.jobOf q.id (c.entries ++ [e]) c.gen) 5, none)
    else if bit (w0 e) 46 then (s.wholeJob n q.id (c.entries ++ [e]) c.gen, none)
    else (s, some ⟨c.entries ++ [e], s.now, c.gen⟩)

/-- Take the next entry of a queue, R337, R341, R345. -/
def takeFrom (s : State) (n : Fin 4) (q : Sq) : State :=
  let e := s.entryAt q q.next
  let (s, ch) := s.resolve n q e
  let nx := (q.next + 1) % s.sqSize q.id
  let open' := ch.isSome
  let hd := match ch, q.chain with
    | none, _ => nx
    | some c, _ => if c.entries.length ≤ 1 then q.next else q.head
  let pub := if hd ≠ q.head then some (s.now + 10000) else q.pubDue
  let s := s.setSq { q with next := nx, chain := ch, head := if open' then hd else nx, pubDue := pub,
                            cache := q.cache.filter (·.1 != q.next) }
  s.rbump R.HQ_TAKEN n.val

/-- A queue put in its place by rising id. -/
def insertSq (q : Sq) : List Sq → List Sq
  | [] => [q]
  | a :: r => if q.id ≤ a.id then q :: a :: r else a :: insertSq q r

/-- The queues of a strand in rising id. -/
def strandSqs (s : State) (n : Fin 4) : List Sq :=
  (s.ring.sqs.filter fun q => State.homeOf q.id == n).foldr insertSq []

/-- The grant a queue has left in the round; a queue that joins the round later has its weight, R341. -/
def grantOf (s : State) (d : Sched) (q : Nat) : Nat := ((d.grants.find? (·.1 == q)).map (·.2)).getD (s.rget R.HQ_SQ_SCHED_WEIGHT q)

/-- The first queue with an id above `lo` that is eligible and has a grant left. -/
def nextVisit (s : State) (d : Sched) (qs : List Sq) (lo : Option Nat) : Option Sq :=
  qs.find? fun q => (match lo with | none => true | some a => decide (a < q.id))
    && decide (s.grantOf d q.id > 0) && s.eligible q

/-- Visit a queue: `take` one entry with the visit's allowance, R341, 20 ns after the last at the earliest, R340. -/
def visit (s : State) (n : Fin 4) (d : Sched) (q : Sq) (left : Nat) : State :=
  let g := s.grantOf d q.id - 1
  let s := match d.lastAt with | some t => s.upTo (t + 20) | none => s
  let d := { d with grants := d.grants.filter (·.1 != q.id) ++ [(q.id, g)], cur := some q.id, left := left - 1, took := true
                    lastAt := some s.now }
  (s.takeFrom n q).upR fun r => { r with scheds := r.scheds.set n d }

/-- The allowance of a new visit: min(burst, grant). -/
def allowance (s : State) (d : Sched) (q : Nat) : Nat := min (s.rget R.HQ_SQ_SCHED_BURST q) (s.grantOf d q)

end State

/-! ### The commands -/

/-- MGT_NOP, R339. -/
def execMgtNop (n : Fin 4) (j : Job) (s : State) : Host.Outcome State Fault Refusal :=
  .next (s.runJob n j fun s => s.succeed n j [])

/-- ENTRY_TAKE, R340, R341: the visit in progress goes on; else the pass; else a new pass where the last took something; else a
new round. Where no queue is eligible nothing is taken, and the round has ended. -/
def execEntryTake (n : Fin 4) (s : State) : Host.Outcome State Fault Refusal :=
  let d := s.ring.scheds[n]
  let qs := s.strandSqs n
  let goOn := qs.find? fun q => d.cur == some q.id && decide (d.left > 0) && decide (s.grantOf d q.id > 0) && s.eligible q
  let fresh : Sched := { grants := qs.map fun q => (q.id, s.rget R.HQ_SQ_SCHED_WEIGHT q.id), lastAt := d.lastAt }
  let newRound :=
    match s.nextVisit fresh qs none with
    | some q => s.visit n fresh q (s.allowance fresh q.id)
    | none => s.upR fun r => { r with scheds := r.scheds.set n fresh }
  match goOn with
  | some q => .next (s.visit n d q d.left)
  | none =>
    match s.nextVisit d qs d.cur with
    | some q => .next (s.visit n d q (s.allowance d q.id))
    | none =>
      if d.took then
        match s.nextVisit d qs none with
        | some q => .next (s.visit n { d with took := false } q (s.allowance d q.id))
        | none => .next newRound
      else .next newRound

/-- CHAIN_WAIT_EXPIRED, R337: the open chain fails with reason 3 under the last entry taken. -/
def execChainWaitExpired (q : Nat) (s : State) : Host.Outcome State Fault Refusal :=
  match (s.sq q).chain with
  | none => .next s
  | some c =>
    let s := s.upTo (c.lastAt + 10000000 * s.rget R.HQ_CTL_CHAIN_WAIT)
    let s := s.portFail (State.homeOf q) (s.jobOf q c.entries c.gen) 3
    let k := s.sq q
    .next (s.setSq { k with chain := none, head := k.next, pubDue := some (s.now + 10000) })

/-- ENTRY_CACHE_FETCH, R23, R342, R344: the next entry the tail covers is read into the cache of 16, or the queue goes to ERROR. -/
def execEntryCacheFetch (q : Nat) (readOk : Bool) (s : State) : Host.Outcome State Fault Refusal :=
  let k := s.sq q
  let i := (k.next + k.cache.length) % s.sqSize q
  if k.state ≠ .enabled ∨ ¬ s.portServes (State.homeOf q) ∨ i = k.tail ∨ k.cache.length ≥ 16 ∨ k.cache.any (·.1 == i) then .next s
  else if !readOk then
    .next ((s.setSq { k with state := .error }).hqErr 1 q 0 (s.sqOwner q))
  else .next (s.setSq { k with cache := k.cache ++ [(i, Mem.readBytes s.mem (s.sqBase q + 64 * i) 64)] })

/-- JOB_INPUT_READ, R352: the last byte of a job's input is in strand SRAM, or a read error ends the job with 0x40. -/
def execJobInputRead (n : Fin 4) (id : Nat) (readOk : Bool) (s : State) : Host.Outcome State Fault Refusal :=
  match (s.sd n).taken.find? (·.id == id) with
  | none => .next s
  | some j =>
    let j' := { j with lastInput := s.now }
    let s := s.up n fun st => { st with taken := st.taken.map fun k => if k.id = id then j' else k }
    if (s.sd n).done.any fun d => d.job.id == id then .next s
    else if readOk then .next s else .next ((s.hqErr 2 j.sq 0 j.fn).fail n j' 0x40 (1 * 2 ^ 16))

/-- Whether a requester's page reaches a queue: the manager its own queues, a virtual function those of its pool that it
owns while it exists, R332, R368 (log entry 10). -/
def State.pageReaches (s : State) (who : Requester) (q owner : Nat) : Bool :=
  match who with
  | .manager => owner == 0
  | .vf f =>
    let g := s.fn f
    g.st != .absent && owner == f && g.home == State.homeOf q && decide (g.pool.qbase ≤ q % 1024)
      && decide (q % 1024 < g.pool.qbase + g.pool.qcount)
  | .core .. => false

/-- SQ_DB_WRITE, R335. -/
def execSqDbWrite (who : Requester) (q tail : Nat) (s : State) : Host.Outcome State Fault Refusal :=
  if !(s.rflag R.HQ_SQ_CFG_MAPPED q && s.pageReaches who q (s.sqOwner q)) then .next s
  else
    let k := s.sq q
    let N := s.sqSize q
    if tail < N ∧ (tail + N - k.tail) % N ≤ (k.head + N - 1 + N - k.tail) % N then .next (s.setSq { k with tail := tail })
    else .next (s.setSq { k with dbErr := true })

/-- CQ_DB_WRITE, R335, R349. -/
def execCqDbWrite (who : Requester) (q head : Nat) (s : State) : Host.Outcome State Fault Refusal :=
  if !(s.rflag R.HQ_CQ_CFG_MAPPED q && s.pageReaches who q (s.rget R.HQ_CQ_CFG_OWNER q)) then .next s
  else
    let k := s.cq q
    let N := s.cqSize q
    let d := (head + N - k.head) % N
    if head < N ∧ d ≤ k.posted then .next (s.setCq { k with head := head, posted := k.posted - d })
    else .next (s.setCq { k with dbErr := true })

/-- Whether a requester may enable and disable a queue: its owner and the manager, R333. -/
def mayControl (who : Requester) (owner : Nat) : Bool :=
  match who with
  | .manager => true
  | .vf f => f == owner
  | .core .. => true

/-- Whether a submission queue's configuration lets it be enabled, R333, R344. -/
def State.sqConfigOk (s : State) (q : Nat) : Bool :=
  let own := s.sqOwner q
  let sz := s.rget R.HQ_SQ_CFG_SIZE_LOG2 q
  let g := s.fn own
  s.rflag R.HQ_SQ_CFG_MAPPED q && decide (1 ≤ sz) && decide (sz ≤ 16) && s.sqBase q != 0 && s.hpub q != 0
    && s.cqUsable (s.cqDef q) own
    && (own == 0 || (g.home == State.homeOf q && decide (g.pool.qbase ≤ q % 1024)
                      && decide (q % 1024 < g.pool.qbase + g.pool.qcount)))

/-- SQ_ENABLE_WRITE, R344. -/
def execSqEnableWrite (who : Requester) (q : Nat) (s : State) : Host.Outcome State Fault Refusal :=
  let k := s.sq q
  if !mayControl who (s.sqOwner q) || k.state != .disabled then .next s
  else if s.sqConfigOk q then .next (s.setSq { k with state := .enabled, next := k.head, chain := none, cache := [] })
  else .next (s.hqErr 5 q 0 (s.sqOwner q))

/-- A queue stops taking entries: cache dropped, open chain discarded and counted, R344, R346. -/
def State.stopQueue (s : State) (k : Sq) (st : SqState) : State :=
  let c := match k.chain with | some c => c.entries.length | none => 0
  (s.setSq { k with state := st, cache := [], chain := none, next := k.head }).radd R.HQ_DISCARD c (State.homeOf k.id).val

/-- SQ_DISABLE_WRITE, R344. -/
def execSqDisableWrite (who : Requester) (q : Nat) (s : State) : Host.Outcome State Fault Refusal :=
  let k := s.sq q
  if !mayControl who (s.sqOwner q) then .next s
  else match k.state with
    | .enabled => .next (s.stopQueue k .disabling)
    | .error =>
      let s := s.stopQueue k .disabled
      .next (s.publish (s.sq q) true)
    | _ => .next s

/-- SQ_INVAL_WRITE, R343: only while ENABLED; the cache is dropped at this entry boundary and INVAL reads 0 again. -/
def execSqInvalWrite (who : Requester) (q : Nat) (s : State) : Host.Outcome State Fault Refusal :=
  let k := s.sq q
  if !mayControl who (s.sqOwner q) || k.state != .enabled then .next s
  else .next (s.setSq { k with cache := [], inval := false })

/-- CQ_ENABLE_WRITE, R350, R363: enabling starts the ring at slot 0 with PHASE 1 (log entry 10); disabling is refused while a
reservation is held. -/
def execCqEnableWrite (who : Requester) (q : Nat) (enable ien : Bool) (s : State) : Host.Outcome State Fault Refusal :=
  let k := s.cq q
  if !(s.rflag R.HQ_CQ_CFG_MAPPED q && mayControl who (s.rget R.HQ_CQ_CFG_OWNER q)) then .next s
  else if enable then
    if k.enabled then .next (s.setCq { k with ien := ien })
    else .next (s.setCq { k with enabled := true, ien := ien, head := 0, tail := 0, phase := true, posted := 0,
                                 unsignalled := 0, timer := none })
  else if k.enabled && decide (k.reserved > 0) then .next (s.hqErr 6 q 1 (s.rget R.HQ_CQ_CFG_OWNER q))
  else .next (s.setCq { k with enabled := false, ien := ien })

/-- QUEUE_DISCARD_DONE, R344: DISABLING becomes DISABLED and HEAD is published. -/
def execQueueDiscardDone (q : Nat) (s : State) : Host.Outcome State Fault Refusal :=
  let k := s.sq q
  if k.state = .disabling ∧ s.portUp then .next (s.publish { k with state := .disabled } true) else .next s

/-- HEAD_PUBLISH, R24, R330, R345, R352: where a HEAD change waits to be published. -/
def execHeadPublish (q : Nat) (writeOk : Bool) (s : State) : Host.Outcome State Fault Refusal :=
  let k := s.sq q
  match k.pubDue with
  | some _ => .next (if s.portUp then s.publish k writeOk else s)
  | none => .next s

/-- CQ_INTERRUPT_TIMER, R353: while IEN is 1. -/
def execCqInterruptTimer (q : Nat) (s : State) : Host.Outcome State Fault Refusal :=
  match (s.cq q).timer with
  | some t => .next (if s.portUp ∧ (s.cq q).ien then (s.upTo t).signal q else s)
  | none => .next s

/-- MSIX_VECTOR_UNMASK, R353. -/
def execMsixVectorUnmask (f vec : Nat) (s : State) : Host.Outcome State Fault Refusal :=
  let g := s.fn f
  let m := (g.msix.find? (·.vec == vec)).getD { vec := vec, masked := false, pend := false, sent := 0 }
  let m := { m with masked := false, pend := false, sent := m.sent + b2n m.pend }
  if vec ≥ (if f = 0 then 64 else 16) then .next s
  else .next (s.setFn { g with msix := g.msix.filter (·.vec != vec) ++ [m] })

/-- PCIE_LINK_DOWN, R330: no entries are taken and completions are held. -/
def execPcieLinkDown (s : State) : Host.Outcome State Fault Refusal :=
  .next (s.rput R.HQ_STATUS_LINK_UP 0)

end Sys2Proof.Machine
end

