-- ==== Sys2Proof/Machine/JournalOps.lean ====
section
/-! DEFINITION. The journal's data, R156 to R170: entries and the chain, the buffer, checkpoints, the registers that show
them, and the Merkle tree of R111. -/

namespace Sys2Proof.Machine
open Sys2Proof

namespace Entry

/-- ENTRY_NO. -/
def no (e : Entry) : Nat := le e.head 8 8
/-- FIRST_SEQ. -/
def firstSeq (e : Entry) : Nat := le e.head 0x10 8
/-- LAST_SEQ. -/
def lastSeq (e : Entry) : Nat := le e.head 0x18 8
/-- DEVICE_TIME with its SOLO mark. -/
def time (e : Entry) : Nat := le e.head 0x20 8
/-- BATCH_ID. -/
def batchId (e : Entry) : Nat := le e.head 0x28 8
/-- HIGH_SEQ. -/
def highSeq (e : Entry) : Nat := le e.head 0x30 8
/-- SUBMITTER. -/
def submitter (e : Entry) : Nat := le e.head 0x38 2
/-- RECORD_COUNT. -/
def count (e : Entry) : Nat := le e.head 0x3A 2
/-- CURRENCY_COUNT. -/
def currencies (e : Entry) : Nat := le e.head 0x3C 2
/-- Whether the entry was formed while SOLO. -/
def solo (e : Entry) : Bool := bit (le e.head 0x3E 2) 0
/-- ROLE_EPOCH. -/
def epoch (e : Entry) : Nat := le e.head 0x44 4
/-- ENTRY_LEN. -/
def len (e : Entry) : Nat := le e.head 0x48 4
/-- Merkle root. -/
def root (e : Entry) : Bytes := sub e.head 0x60 32
/-- J[n-1]. -/
def prev (e : Entry) : Bytes := sub e.head 0x80 32
/-- J[n]. -/
def j (e : Entry) : Bytes := sub e.head 0xA0 32
/-- The whole entry. -/
def bytes (e : Entry) : Bytes := e.head ++ e.body.getD []
/-- The entry's head alone. -/
def bare (e : Entry) : Entry := { e with body := none }

end Entry

/-- Up to a multiple of 512. -/
def up512 (n : Nat) : Nat := (n + 511) / 512 * 512

/-- The length of an entry with `count` records and `ccy` currencies, R163. -/
def entryLen (count ccy : Nat) : Nat := 512 + up512 (24 * ccy) + up512 (256 * count)

/-- The entry in its stored or sent bytes, R163. -/
def Entry.parse (b : Bytes) : Entry := { head := sub b 0 512, body := some (sub b 512 (le b 0x48 4 - 512)) }

/-- J[0] of a journal, R161. -/
def j0 (id : Bytes) : Bytes := bvBytes (Config.sha256 (ascii "LJNL" ++ id))

/-- J[n], R162. -/
def jNext (prev root : Bytes) (first last time : Nat) : Bytes :=
  bvBytes (Config.sha256 (prev ++ root ++ toLE 8 first ++ toLE 8 last ++ toLE 8 time))

/-- Whether an entry's JOURNAL is the chain value over its own fields, R162. -/
def Entry.chained (e : Entry) : Bool := e.j == jNext e.prev e.root e.firstSeq e.lastSeq e.time

/-! ### Merkle, R111 -/

/-- A leaf. -/
def merkleLeaf (r : Bytes) : Bytes := bvBytes (Config.sha256 (0 :: r))

/-- One level up: pairs are hashed, a last single node is carried. -/
def merkleUp : List Bytes → List Bytes
  | a :: b :: r => bvBytes (Config.sha256 (1 :: (a ++ b))) :: merkleUp r
  | l => l

/-- The levels above a level, at most `fuel` of them. -/
def merkleRoot : Nat → List Bytes → Bytes
  | _, [a] => a
  | 0, _ => []
  | n + 1, l => merkleRoot n (merkleUp l)

/-- The Merkle root of a batch's records; 4,096 leaves have 12 levels. -/
def rootOf (recs : List Bytes) : Bytes := merkleRoot 13 (recs.map merkleLeaf)

/-- The siblings of a node from its level upwards. -/
def merklePath : Nat → List Bytes → Nat → List Bytes
  | 0, _, _ => []
  | n + 1, l, i =>
    if l.length ≤ 1 then []
    else
      let sib := if i % 2 = 0 then i + 1 else i - 1
      let rest := merklePath n (merkleUp l) (i / 2)
      match l[sib]? with
      | some h => h :: rest
      | none => rest

/-- A path block, R113. -/
def pathBlock (recs : List Bytes) (i : Nat) : Bytes :=
  let p := merklePath 13 (recs.map merkleLeaf) i
  toLE 4 i ++ toLE 1 p.length ++ zeros 3 ++ p.flatten

/-- The path blocks of a path mode, R113. -/
def pathBlocks (recs : List Bytes) (mode idx : Nat) : Bytes :=
  match mode with
  | 1 => ((List.range recs.length).map (pathBlock recs)).flatten
  | 2 => pathBlock recs idx
  | _ => []

/-- The depth of record `i` in a tree of `n` leaves. -/
def depthOf : Nat → Nat → Nat → Nat
  | 0, _, _ => 0
  | f + 1, n, i =>
    if n ≤ 1 then 0
    else depthOf f ((n + 1) / 2) (i / 2) + (if i % 2 = 1 ∨ i + 1 < n then 1 else 0)

/-- The length of the path blocks. -/
def pathsLen (n mode idx : Nat) : Nat :=
  match mode with
  | 1 => ((List.range n).map fun i => 8 + 32 * depthOf 13 n i).sum
  | 2 => 8 + 32 * depthOf 13 n idx
  | _ => 0

/-- The signature length of a seal algorithm, R112. -/
def sigLen (alg : Nat) : Nat := if alg = 2 then 96 else 64

/-- The receipt length, R112. -/
def receiptLen (n ccy mode idx alg : Nat) : Nat := 0x80 + 24 * ccy + sigLen alg + pathsLen n mode idx

/-! ### Buffer, checkpoint and registers -/

/-- Whether a batch's decision point still lies ahead: CHECKING, or ABORTED at a check that failed before it, R140, R141. -/
def Batch.deciding (b : Batch) : Bool := b.phase == .checking || (b.phase == .aborted && b.decision.isNone)

namespace Strand

/-- Whether the strand is writer, R156. -/
def writer (st : Strand) : Bool := st.flag R.MIR_ROLE_ROLE

/-- Whether the strand is SOLO, R182. -/
def solo (st : Strand) : Bool := st.flag R.MIR_STATUS_SOLO

/-- Whether a fork is held, R188. -/
def fork (st : Strand) : Bool := st.flag R.MIR_STATUS_FORK

/-- Records of all batches past intake whose entries are not yet formed, R165. -/
def recordsAhead (st : Strand) : Nat :=
  ((st.post.batches.filter fun b => !b.check && (b.deciding || (b.phase == .committed && !b.dead))).map fun b => b.recs.length).sum

/-- The bytes a batch past intake reserves in the journal buffer, R166: the largest entry it could form. -/
def batchRoom (b : Batch) : Nat :=
  if !b.check && (b.deciding || b.phase == .committed) then entryLen b.recs.length (min 64 b.recs.length) else 0

/-- Bytes held or reserved in the journal buffer. -/
def bufUsed (st : Strand) : Nat :=
  (st.jnl.buf.map Entry.len).sum + (st.jnl.old.map fun x => x.e.len).sum + (st.post.batches.map batchRoom).sum

/-- Entries leave the buffer once acknowledged, stored and headed, R166; those of an ended journal once stored and headed. -/
def trimBuf (st : Strand) : Strand :=
  let storeEn := st.flag R.JNL_CTL_STORE_EN
  let card := st.flag R.JC_STATUS_PAIRED
  let stay := fun (e : Entry) =>
    (st.writer && !st.solo && decide (e.no > st.jnl.acked)) || (storeEn && st.jnl.storeQ.contains e.no)
      || (card && decide (e.no > st.jnl.headNo))
  let stayOld := fun (x : OldEnt) => (storeEn && x.store) || (card && x.card)
  { st with jnl := { st.jnl with buf := st.jnl.buf.filter stay, old := st.jnl.old.filter stayOld } }

/-- The registers that show the journal, R198 to R206. -/
def jnlSync (st : Strand) : Strand :=
  let j := st.jnl
  let st := st.put64 R.JNL_ENTRY_LO j.s.cur.no
  let st := st.put64 R.JNL_SEQ_LO j.s.seq
  let st := st.put64 R.JNL_ANCHOR_LO j.anchorNo
  let st := st.put64 R.MIR_ACKED_LO j.acked
  let st := (st.put R.MIR_EPOCH j.s.epoch).put R.JNL_STATUS_OPEN (b2n j.s.isOpen)
  let st := st.put R.JNL_STATUS_STORE_SET (b2n j.store.isSome)
  let st := st.put R.JNL_STATUS_SUPERSEDED (b2n (j.sup.any fun x => !x.returned))
  let st := st.put R.JNL_STATUS_HEAD_ONLY (b2n (!j.headOnly.isEmpty))
  (st.putBytes R.JNL_HEAD j.s.cur.j 0 8).putBytes R.JNL_ID j.s.cur.id 0 4

/-- The checkpoint of R170 in Agate. -/
def checkpoint (st : Strand) (t : Nat) : Strand :=
  { st with nv := { st.nv with jnl := st.jnl.s }, jnl := { st.jnl with ckptAt := t } }

/-- A checkpoint before a mode change that a running strand makes, R170: it holds a journal state from step 5 of its start until an
erase or a return. -/
def modeCheckpoint (st : Strand) (t : Nat) : Strand :=
  let none' := st.mode == 0 || (st.mode == 1 && decide (st.get R.CHT_START_STATUS_STEP ≤ 5)) || decide (st.mode ≥ 6)
  if st.halted || none' then st else st.checkpoint t

/-- The heads of the live chain that the receipt index covers, R677. -/
def indexEntry (l : List Entry) (e : Entry) : List Entry := (l ++ [e.bare]).drop (l.length + 1 - 65536)

/-- An entry joins the chain as its new head: formed by the writer, accepted by the keeper, or rebuilt. -/
def joinChain (st : Strand) (e : Entry) : Strand :=
  let j := st.jnl
  let s := { j.s with cur := { j.s.cur with no := e.no, j := e.j }, seq := e.lastSeq, time := e.time % 2 ^ 63
                      marks := raiseMark j.s.marks e.submitter e.highSeq }
  let buf := if e.body.isSome then j.buf ++ [e] else j.buf
  { st with jnl := { j with s := s, index := indexEntry j.index e, buf := buf, storeQ := j.storeQ ++ [e.no] } }

/-- J at an entry number of the live chain, where it is known: J[0], the head adopted from the twin, the index, the head, R185. -/
def jAt (st : Strand) (n : Nat) : Option Bytes :=
  if n = 0 then some (j0 st.jnl.s.cur.id)
  else if n = st.jnl.s.cur.no then some st.jnl.s.cur.j
  else if n = st.jnl.base.no then some st.jnl.base.j
  else match st.jnl.index.find? (·.no == n) with
    | some e => some e.j
    | none => (st.jnl.index.find? (·.no == n + 1)).map Entry.prev

/-- An entry of the live chain as the host store holds it, R167. -/
def storeEntry (st : Strand) (mem : List Host.Cell) (n : Nat) : Option Entry :=
  st.jnl.store.bind fun s => (s.ents.find? fun e => e.no == n && !e.sup && !e.old).map fun x =>
    Entry.parse (Mem.readBytes mem (s.base + x.off) x.len)

/-- An entry with its body from the buffer or, failing that, from the host store, R186. -/
def entryBody (st : Strand) (mem : List Host.Cell) (n : Nat) : Option Entry :=
  (st.jnl.buf.find? (·.no == n)).or (st.storeEntry mem n)

/-- The mirror records a fault, R207. -/
def mirErr (st : Strand) (code : Nat) : Strand :=
  st.noteErr R.MIR_ERR_VALID R.MIR_ERR_CODE R.MIR_ERR_OVERFLOW code fun x => x

/-- Change the mirror. -/
def upMir (st : Strand) (f : Mir → Mir) : Strand := { st with mir := f st.mir }

/-- The session contexts go, R174. -/
def dropSession (st : Strand) : Strand :=
  let free := fun (st : Strand) (k : Option Nat) => match k.bind st.slot with
    | some c => st.freeCtx c
    | none => st
  (free (free st st.mir.keyTx) st.mir.keyRx).upMir fun m => { m with keyTx := none, keyRx := none, txCtr := 1, rxCtr := 0 }

/-- Marks not yet acknowledged wait again for the next pairing, R192. -/
def recallMarks (st : Strand) : Strand :=
  let recs := fun (p : Bytes) => (List.range (le p 0 2)).map fun i => (le p (8 + 16 * i) 2, le p (16 + 16 * i) 8)
  let back := (st.mir.marks.map fun m => recs m.payload).flatten
  { st with jnl := { st.jnl with s := { st.jnl.s with raised := st.jnl.s.raised ++ back } }, mir := { st.mir with marks := [] } }

/-- The pair is no longer formed: what a pairing settles starts anew, and a copy under way is abandoned, R17. -/
def unpair (st : Strand) (step : MirStep) : Strand :=
  ((((st.recallMarks.put R.MIR_STATUS_PAIRED 0).put R.MIR_STATUS_RECONCILING 0)).upMir fun m =>
    { m with step, twin := none, agree := none, copyTo := none, resend := none, nakAt := none, roll := none
             swapSent := false, helloRx := [] }).dropSession.progDrop 0x300038

/-! ### The line, R171 to R173 -/

/-- The self-synchronising scrambler x^58 + x^39 + 1 over one block's payload, its bits from the lowest of each byte up. -/
def scramble (s : BitVec 58) (data : Bytes) : BitVec 58 × Bytes :=
  let one := fun (x : BitVec 58 × Nat) (d : Bool) =>
    let o := (d ^^ x.1.getLsbD 38) ^^ x.1.getLsbD 57
    (x.1 <<< 1 ||| BitVec.ofNat 58 (b2n o), 2 * x.2 + b2n o)
  let byte := fun (x : BitVec 58 × Bytes) (b : Byte) =>
    let (s, v) := (List.range 8).foldl (fun y k => one y (b.getLsbD k)) (x.1, 0)
    (s, x.2 ++ [(BitVec.ofNat 8 v).reverse])
  data.foldl byte (s, [])

/-- One block goes out on a lane: lane number, sync header, the scrambled payload. -/
def laneBlock (c : Coder) (lane sync : Nat) (data : Bytes) : Coder × Bytes :=
  let (s, b) := scramble (if lane = 0 then c.scr0 else c.scr1) data
  let c := if lane = 0 then { c with scr0 := s, since0 := c.since0 + 1 } else { c with scr1 := s, since1 := c.since1 + 1 }
  (c, toLE 1 lane ++ toLE 1 sync ++ b)

/-- A block is dealt to its lane, R171: the lanes in turn, or lane 0 alone (log entry 138); an ALIGN block where one is due there. -/
def dealBlock (lanes : Nat) (c : Coder) (sync : Nat) (data : Bytes) : Coder × Bytes :=
  let lane := if lanes = 2 then c.lane else 0
  let due := decide ((if lane = 0 then c.since0 else c.since1) ≥ 16383)
  let (c, a) := if due then laneBlock c lane 2 ([0x4B] ++ toLE 1 lane ++ zeros 6) else (c, [])
  let c := if due then (if lane = 0 then { c with since0 := 0 } else { c with since1 := 0 }) else c
  let (c, b) := laneBlock c lane sync data
  ({ c with lane := 1 - lane }, a ++ b)

/-- The 8-byte blocks of a string. -/
def blocks8 (b : Bytes) : List Bytes := (List.range ((b.length + 7) / 8)).map fun i => fit 8 (sub b (8 * i) 8)

/-- A frame as blocks, R172, R173: START, COUNTER, the payload padded to a multiple of 8 bytes, the tag, END. -/
def frameBlocks (ftype flags ctr : Nat) (payload tag : Bytes) : List (Nat × Bytes) :=
  let start := [0x78] ++ toLE 1 ftype ++ toLE 1 flags ++ toLE 4 payload.length ++ [0]
  (2, start) :: ((blocks8 (toLE 8 ctr ++ payload)).map fun b => (1, b)) ++ ((blocks8 (fit 16 tag)).map fun b => (1, b)) ++ [(2, [0x87] ++ zeros 7)]

/-- A frame goes out on the link's lanes. -/
def lineSend (st : Strand) (ftype flags ctr : Nat) (data payload tag : Bytes) : Strand :=
  let step := fun (x : Coder × Bytes) (b : Nat × Bytes) =>
    let (c, w) := dealBlock (st.get R.MIR_STATUS_LANES) x.1 b.1 b.2
    (c, x.2 ++ w)
  let (c, wire) := (frameBlocks ftype flags ctr payload tag).foldl step (st.mir.coder, [])
  (st.upMir fun m => { m with coder := c }).emit .gulsis ftype data wire

/-- A clear frame, HELLO or ATTEST: FFLAGS.CLEAR, COUNTER and tag zero, R173. -/
def clearSend (st : Strand) (ftype : Nat) (payload : Bytes) : Strand := st.lineSend ftype 1 0 payload payload []

/-- The DIRECTION byte of this strand's frames, R173: 0 from the home writer, 1 from the home keeper. -/
def direction (st : Strand) : Nat := if st.flag R.MIR_ROLE_HOME_ROLE then 0 else 1

/-- The DIRECTION byte of the twin's frames, by the HOME_ROLE of its HELLO, R173, R175. -/
def twinDirection (st : Strand) : Nat := if le st.mir.helloRx 25 1 = 1 then 0 else 1

/-- The associated data of a frame: START bytes 1 to 7 and COUNTER, R173. -/
def frameAad (ftype len ctr : Nat) : Bytes := toLE 1 ftype ++ [0] ++ toLE 4 len ++ [0] ++ toLE 8 ctr

/-- The IV of a frame, R173. -/
def frameIv (n dir ctr : Nat) : Bytes := [0x47, 0x4C] ++ toLE 1 n ++ toLE 1 dir ++ toLE 8 ctr

/-- Send a protected frame on the Gulsis link while session keys stand, R173, R174; a HALTED strand's link is silent, R197. At 2^64 - 1 the
sender stops and the pair re-pairs, from HELLO at once. -/
def mirSend (st : Strand) (t ftype : Nat) (payload : Bytes) : Strand :=
  let m := st.mir
  match st.sessionKey m.keyTx 4 with
  | none => st
  | some key =>
    if st.halted ∨ ¬ st.flag R.MIR_STATUS_LINKED then st
    else if m.txCtr ≥ 2 ^ 64 - 1 then ((st.mirErr 3).unpair .trained).upMir fun m => { m with retryAt := some t }
    else
      let (ct, tag) := gcmSeal key (frameIv st.id.val st.direction m.txCtr) (frameAad ftype payload.length m.txCtr) payload
      (st.upMir fun m => { m with txCtr := m.txCtr + 1, lastTx := t }).lineSend ftype 0 m.txCtr (toLE 8 m.txCtr ++ payload) ct tag

/-- The entries of a journal that ends are still kept until they are stored and headed, R166; what the store holds of it is no longer live. -/
def endJournal (st : Strand) : Strand :=
  let j := st.jnl
  let mk : Entry → OldEnt := fun e =>
    { e := e, store := j.storeQ.contains e.no, card := decide (e.no > j.headNo) || st.jc.missed.contains e.no }
  let aged : Store → Store := fun x => { x with ents := x.ents.map fun e => { e with old := true } }
  { st with jnl := { j with old := j.old ++ j.buf.map mk, buf := [], storeQ := [], headOnly := [], index := [], base := {}
                            store := j.store.map aged }
            jc := { st.jc with missed := [] } }.trimBuf

/-- Open a journal with a new JOURNAL_ID, R161, R678. -/
def openJournal (st : Strand) (id : Bytes) (pred : JHead) : Strand :=
  let st := st.endJournal
  let s := { st.jnl.s with isOpen := true, cur := { id := id, no := 0, j := j0 id }, seq := 0, pred := pred }
  { st with jnl := { st.jnl with s := s, acked := 0, headNo := 0, anchorNo := 0 } }

/-- The payload of a MARKS frame, R175. -/
def marksPayload (l : List (Nat × Nat)) : Bytes :=
  toLE 2 l.length ++ zeros 6 ++ (l.map fun m => toLE 2 m.1 ++ zeros 6 ++ toLE 8 m.2).flatten

/-- Send raised marks to the twin, at most 63 to a frame, R192. -/
def sendMarks (st : Strand) (t fn : Nat) : Nat → List (Nat × Nat) → Strand
  | 0, _ => st
  | _, [] => st
  | k + 1, l =>
    let p := marksPayload (l.take 63)
    let st := st.mirSend t 0x32 p
    let f : MarksFrame := ⟨p, t, fn⟩
    sendMarks { st with mir := { st.mir with marks := st.mir.marks ++ [f] } } t fn k (l.drop 63)

/-- Marks raised outside an entry go to the twin, or wait with the checkpoint of an unpaired writer, R192. -/
def tellMarks (st : Strand) (t fn : Nat) (l : List (Nat × Nat)) : Strand :=
  if st.flag R.MIR_STATUS_PAIRED then st.sendMarks t fn l.length l
  else { st with jnl := { st.jnl with s := { st.jnl.s with raised := st.jnl.s.raised ++ l } } }

end Strand

namespace State

/-- A role swap goes out once every batch has completed and every entry is acknowledged, R184: the ROLE request. -/
def trySwap (s : State) (n : Fin 4) : State :=
  let st := s.sd n
  if st.mir.swap.isSome ∧ ¬ st.mir.swapSent ∧ ¬ st.batchOpen ∧ st.jnl.acked ≥ st.jnl.s.cur.no then
    let st := st.mirSend s.now 0x31 (toLE 1 1 ++ zeros 3 ++ toLE 4 st.jnl.s.epoch)
    s.setSd n { st with mir := { st.mir with swapSent := true } }
  else s

end State

namespace State

/-- The ceremony of a strand closes with the owner key unchanged: back to service, by a doubled decision, R56; the export of
R240 is no longer open. In TRANSIT the conditions of R56 for SERVICE and DEGRADED do not hold, and the strand stays in CEREMONY. -/
def closeCeremony (s : State) (n : Fin 4) (agree : Bool) : State :=
  if (s.sd n).mode ≠ 5 ∨ ¬ (s.life = 1 ∨ s.life = 3) then s
  else if agree then s.up n fun st =>
    let st := ((st.modeCheckpoint s.now).enterServing s.now false).put R.CC_STATUS_QUORUM 0
    { st with newOwner := none, cc := { st.cc with openers := [], pairPermit := false }
              nv := { st.nv with vault := { st.nv.vault with attestDraw := 0 } } }
  else s.up n fun st => st.awaitRetry s.now .ceremonyClose

end State

end Sys2Proof.Machine
end

