-- ==== Sys2Proof/Machine/Posting.lean ====
section
/-! DEFINITION. The posting pipeline, R82 to R127, and speculation with the confirmation rule, R128 to R155: record and
header checks, intake, the check pass, decision, commit, seal, release, completion, and approvals. -/

namespace Sys2Proof.Machine
open Sys2Proof

/-! ### The Ledger Record Format, R82 to R89 -/

namespace Lrf

/-- The nibbles of a field, high nibble of the first byte first. -/
def nibbles (b : Bytes) : List Nat := (b.map fun x => [x.toNat / 16, x.toNat % 16]).flatten

/-- The number that decimal digits spell. -/
def digits (l : List Nat) : Nat := l.foldl (fun n d => 10 * n + d) 0

/-- Days in a month of the Gregorian calendar. -/
def monthDays (y m : Nat) : Nat :=
  if m = 2 then (if y % 4 = 0 ∧ (y % 100 ≠ 0 ∨ y % 400 = 0) then 29 else 28)
  else if m = 4 ∨ m = 6 ∨ m = 9 ∨ m = 11 then 30 else 31

/-- A valid date from 1900-01-01 to 2099-12-31, R84. -/
def dateOk (d : List Nat) : Bool :=
  let y := digits (d.take 4)
  let m := digits ((d.drop 4).take 2)
  let k := digits ((d.drop 6).take 2)
  decide (1900 ≤ y ∧ y ≤ 2099 ∧ 1 ≤ m ∧ m ≤ 12 ∧ 1 ≤ k ∧ k ≤ monthDays y m)

/-- CCY. -/
def ccy (r : Bytes) : Bytes := sub r 0x28 3
/-- EXP. -/
def exp (r : Bytes) : Nat := le r 0x2B 1
/-- The 32 nibbles of AMOUNT, R86. -/
def amount (r : Bytes) : List Nat := nibbles (sub r 0x30 16)
/-- The magnitude of AMOUNT. -/
def magnitude (r : Bytes) : Nat := digits ((amount r).take 31)
/-- Whether AMOUNT is a credit. -/
def credit (r : Bytes) : Bool := (amount r).getLastD 0 == 0xC
/-- STATION. -/
def station (r : Bytes) : Nat := le r 0x40 2
/-- SUBMITTER_SEQ. -/
def seq (r : Bytes) : Nat := le r 0x48 8
/-- AUTH_REF. -/
def authRef (r : Bytes) : Bytes := sub r 0x50 16
/-- TAG. -/
def tag (r : Bytes) : Bytes := sub r 0xF0 16

/-- Capital letters, R84. -/
def ccyOk (c : Bytes) : Bool := c.all fun x => decide (0x41 ≤ x.toNat ∧ x.toNat ≤ 0x5A)

/-- The record is refused with 0x41, R84. -/
def malformed (r : Bytes) (i : Nat) : Bool :=
  let d := nibbles (sub r 0x2C 4)
  !(le r 0 1 == 1 || le r 0 1 == 2) || le r 1 1 != 1 || le r 2 2 != 0 || le r 4 4 != i || !allZero r 0x42 6
    || !ccyOk (ccy r) || decide (exp r > 4) || (d.all (· ≤ 9) && !dateOk d)

/-- The record is refused with 0x14, R87. -/
def badDecimal (r : Bytes) : Bool :=
  (nibbles (sub r 0x2C 4)).any (· > 9) || ((amount r).take 31).any (· > 9)
    || !((amount r).getLastD 0 == 0xC || (amount r).getLastD 0 == 0xD)

end Lrf

/-! ### The batch header, R90 -/

namespace Hdr

/-- RECORD_COUNT. -/
def count (h : Bytes) : Nat := le h 4 2
/-- HFLAGS.AUTHZ. -/
def authz (h : Bytes) : Bool := bit (le h 7 1) 0
/-- BATCH_ID. -/
def batchId (h : Bytes) : Nat := le h 8 8
/-- SUBMITTER. -/
def submitter (h : Bytes) : Nat := le h 0x10 2
/-- MAC_CTX. -/
def macCtx (h : Bytes) : Nat := le h 0x14 4
/-- RECEIPT_CTX. -/
def receiptCtx (h : Bytes) : Nat := le h 0x18 4
/-- PATH_MODE. -/
def pathMode (h : Bytes) : Nat := le h 0x1C 1
/-- PATH_INDEX. -/
def pathIndex (h : Bytes) : Nat := le h 0x1E 2

/-- Magic, ranges and zero fields, R90, R91. -/
def ok (h : Bytes) : Bool :=
  decide (h.length = 64) && sub h 0 4 == ascii "LBAT" && decide (1 ≤ count h) && decide (count h ≤ 4096)
    && decide (le h 7 1 ≤ 1) && batchId h != 0 && allZero h 0x12 2 && decide (pathMode h ≤ 2) && allZero h 0x1D 1
    && allZero h 0x20 16 && (pathMode h != 2 || decide (pathIndex h < count h))

end Hdr

/-- The detail word of a posting job, R98. -/
def postDetail (stage rec slot : Nat) (batch : Bool) : Nat :=
  stage * 2 ^ 28 + (if batch then 0 else rec) * 2 ^ 16 + slot * 2 ^ 8 + b2n batch * 2 ^ 7

/-- Whether one failure is reported before another, R97. -/
def Fail.before (a b : Fail) : Bool :=
  decide (a.stage < b.stage) || (a.stage == b.stage && (decide (a.place < b.place)
    || (a.place == b.place && decide (a.rank < b.rank))))

/-- The failure that is reported, R97. -/
def reported : List Fail → Option Fail
  | [] => none
  | f :: r =>
    match reported r with
    | some g => if f.before g then some f else some g
    | none => some f

/-- The ALG of the seal context for a SEAL_ALG, R137. -/
def sealCtxAlg (alg : Nat) : Nat := if alg = 2 then 0x21 else if alg = 3 then 0x24 else 0x20

namespace Strand

/-! ### Approvals -/

/-- The approval that a reference and station name, R679: a removed one names none. -/
def approval (st : Strand) (ref : Bytes) (station : Nat) : Option Approval :=
  st.post.approvals.find? fun a => a.ref == ref && a.station == station && !a.removed

/-- Uses of an approval that batches in CHECKING hold, R96, R107. -/
def reservedUses (st : Strand) (a : Approval) : Nat :=
  (st.post.batches.map fun b => ((b.reserved.filter fun r => r.app == a.num).map Reserved.uses).sum).sum

/-- Change the posting engine. -/
def upPost (st : Strand) (f : Post → Post) : Strand := { st with post := f st.post }

/-- Replace a batch. -/
def setBatch (st : Strand) (b : Batch) : Strand :=
  st.upPost fun p => { p with batches := p.batches.map fun c => if c.order = b.order then b else c }

/-- The batch of an intake order number. -/
def batch (st : Strand) (order : Nat) : Option Batch := st.post.batches.find? (·.order == order)

/-- Replace an approval. -/
def setApproval (st : Strand) (a : Approval) : Strand :=
  st.upPost fun p => { p with approvals := p.approvals.map fun c => if c.num = a.num then a else c }

/-- Drop an approval, with any notice that waits for it; one that batches reserve stays as removed until they end, R106, still LIVE
where only its EXPIRY removed it (log entry 134). -/
def dropApproval (st : Strand) (a : Approval) (expired : Bool := false) : Strand :=
  let keep : Wait → Bool := fun w => match w with
    | .notice r k => !(r == a.ref && k == a.station)
    | .relay _ => true
  let st := st.upPost fun p => { p with waits := p.waits.filter keep }
  if st.reservedUses a > 0 then st.setApproval { a with removed := true, live := a.live && expired, notice := none }
  else st.upPost fun p => { p with approvals := p.approvals.filter fun c => c.num != a.num }

/-- Removed approvals go when no batch reserves them, R106. -/
def sweepApprovals (st : Strand) : Strand :=
  let keep : Approval → Bool := fun a => !a.removed || decide (st.reservedUses a > 0)
  st.upPost fun p => { p with approvals := p.approvals.filter keep }

/-- A NOTICE KIND 1 for a station: it waits at its link, R471. -/
def noticeKind1 (st : Strand) (station outcome : Nat) (ref : Bytes) : Strand :=
  let add : Link → Link := fun l =>
    if l.num = station % 64 ∧ station / 64 = st.id.val then
      { l with notices := l.notices ++ [toLE 1 1 ++ toLE 1 outcome ++ zeros 6 ++ ref] } else l
  { st with links := st.links.map add }

/-- Links work in SERVICE, DEGRADED and FROZEN, R489. -/
def linkRuns (st : Strand) : Bool := !st.halted && (st.mode == 2 || st.mode == 3 || st.mode == 4)

/-- The mode a link works in now: 0 OFF, 1 PLAIN, 2 SEALED, R451, R489; a disabled link behaves as OFF. -/
def linkMode (st : Strand) (k : Nat) : Nat :=
  if st.linkRuns && st.flag R.SL_LINK_CTL_ENABLE k && decide (k < 64) then st.get R.SL_LINK_CFG_MODE k else 0

/-- The LIVE approval a record names, R105, R107: one in the table, or failing that one that reservations keep past its EXPIRY. -/
def liveApproval (st : Strand) (r : Bytes) : Option Approval :=
  let live := st.post.approvals.filter fun a => a.live && a.ref == Lrf.authRef r && a.station == Lrf.station r
  (live.find? fun a => !a.removed).or live.head?

/-- What a record's Authorise finds, R105, R107: 0, or the status (corners: log entry 134). -/
def authorise (st : Strand) (t : Nat) (b : Batch) (r : Bytes) : Nat :=
  if allZero (Lrf.authRef r) 0 16 then (if b.authz then 0x13 else 0)
  else match st.liveApproval r with
    | none => 0x13
    | some a =>
      let sealed' := decide (a.station / 64 = st.id.val) && st.linkMode (a.station % 64) == 2
      if a.ccy ≠ Lrf.ccy r ∨ Lrf.magnitude r > a.limit ∨ st.reservedUses a ≥ a.uses ∨ ¬ sealed' then 0x13
      else if st.deviceTime t ≥ a.expiry then 0x18
      else 0

/-! ### Intake -/

/-- Whether the strand's posting intake is open, R118, R126. -/
def admitting (st : Strand) : Bool :=
  (st.mode == 2 || st.mode == 3) && st.flag R.PST_CTL_ENABLE && !st.halted && st.mir.swap.isNone

/-- Whether the checks of R114 and R137 on the seal and receipt contexts pass: 0 or the status, in the order 0x22, 0x20,
0x21 of R94. -/
def keyStatus (st : Strand) (t fn gen sctx alg rctx : Nat) : Nat :=
  let cs := st.ctxFor 0xFF 0 sctx
  let cr := if rctx = 0 then none else st.ctxFor fn gen rctx
  let usable := fun (c : Ctx) => !st.expired t c && decide (c.attr.usesLeft ≥ 1)
  if cs.isNone ∨ (rctx ≠ 0 ∧ cr.isNone) then 0x22
  else if cr.any fun c => decide (c.attr.counter ≥ 0xFFFFFFFFFFFFFFFF) then 0x20
  else if cs.any fun c => !(usable c && c.attr.alg == sealCtxAlg alg && bit c.attr.usage 4 && bit c.attr.dest 1) then 0x21
  else if cr.any fun c => !(usable c && c.attr.alg == 3 && bit c.attr.usage 0 && bit c.attr.usage 10 && bit c.attr.dest 0) then 0x21
  else 0

/-- A release on behalf of a batch: what the vault counts of a refusal is given back, to show at the batch's completion, R136. -/
def releaseLate (st : Strand) (t : Nat) (env : JobEnv) (fn gen h usage dest : Nat) (limits : Bool) :
    Strand × List (Fld × Nat) × (Nat ⊕ Ctx) :=
  match st.release t env fn gen h usage dest limits with
  | (_, .inl 0x22) => (st, [(R.ONX_ABSENT, 1)], .inl 0x22)
  | (_, .inl 0x21) => (st, [(R.ONX_DENIED, 1)], .inl 0x21)
  | (st', r) => (st', [], r)

/-- Charge the seal and receipt uses and draw the receipt IV, R137, R256. -/
def chargeKeys (st : Strand) (fn gen sctx rctx : Nat) : Strand × Bytes :=
  let st := match st.ctxFor 0xFF 0 sctx with
    | some c => st.putCtx (chargeUse c)
    | none => st
  match (if rctx = 0 then none else st.ctxFor fn gen rctx) with
  | none => (st, [])
  | some c =>
    match st.drawCounter (chargeUse c) 1 with
    | (st, some v) => (st, zeros 4 ++ toBE 8 v)
    | (st, none) => (st, [])

end Strand

namespace State

/-- Whether a function may post as a submitter, R91, R367, R369. -/
def submitterOk (s : State) (n : Fin 4) (f sub : Nat) : Bool :=
  if f = 0 then
    decide (sub < 4094) && !(s.ring.fns.any fun g => g.num != 0 && g.st != .absent && g.home == n
      && decide (g.pool.subBase ≤ sub) && decide (sub < g.pool.subBase + g.pool.subCount))
  else
    let g := s.fn f
    g.st != .absent && decide (g.pool.subBase ≤ sub) && decide (sub < g.pool.subBase + g.pool.subCount)

/-- Whether a chain has the form of R91 and R93. -/
def chainOk (s : State) (n : Fin 4) (j : Job) (relay : Option Relay) (alg : Nat) : Bool :=
  let b := j.input
  let h := sub b 0 64
  let need := receiptLen (Hdr.count h) (min 64 (Hdr.count h)) (Hdr.pathMode h) (Hdr.pathIndex h) alg
    + (if Hdr.receiptCtx h = 0 then 0 else 28)
  Hdr.ok h && decide ((b.length - 64) / 256 = Hdr.count h) && decide (b.length % 256 = 64)
    && (relay.isSome
      || (decide (j.seg0.inLen ≥ 64) && j.seg0.inLen % 256 == 64
          && (j.segs.drop 1).all (fun g => decide (g.inLen ≥ 256) && g.inLen % 256 == 0 && g.outAddr == 0 && g.outLen == 0)
          && le h 6 1 == 0 && s.submitterOk n j.fn (Hdr.submitter h)))
    && decide (j.seg0.outLen ≥ need)

/-- What stage 1 answers: 0, or the first status of its row that holds, R94, R97, with the rejected record of R480. -/
def intakeStatus (s : State) (n : Fin 4) (j : Job) (relay : Option Relay) : Nat × Option Nat :=
  let st := s.sd n
  let alg := st.get R.PST_CTL_SEAL_ALG
  let h := sub j.input 0 64
  let k := Hdr.count h
  if ¬ st.jnl.s.isOpen ∨ st.mir.conflict then (0x30, none)
  else if st.mode = 4 then (0x32, none)
  else if ¬ st.admitting then (0x30, none)
  else if ¬ st.writer then (0x51, none)
  else if st.fork then (0x56, none)
  else if !(match relay with | some r => r.cause.isSome || s.chainOk n j relay alg | none => s.chainOk n j relay alg) then
    (0x41, none)
  else match relay.bind (·.cause) with
    | some (i, e) => (e, some i)
    | none =>
      if st.jnl.s.seq + st.recordsAhead + k > 2 ^ 64 - 1 then (0x52, none)
      else if st.bufUsed + entryLen k (min 64 k) > 2097152
          ∨ (st.flag R.JNL_CTL_CARD_REQUIRED ∧ ¬ st.flag R.JC_STATUS_PAIRED) then (0x53, none)
      else (st.keyStatus s.now j.fn (s.jobGen j) (st.get R.PST_SEAL_CTX_CTX) alg (Hdr.receiptCtx h), none)

/-- A failed posting job that never passed intake, R142, R143. -/
def failIntake (s : State) (n : Fin 4) (j : Job) (records status detail : Nat) : State :=
  s.up n fun st => st.finishEarly s.now j records status detail

/-- The header checks of stage 3, R94, with the release of the record MAC key, R223: the strand after it, what the vault counts of it when
the batch completes (R136), and the key, or the failure with status 0x7F for a fault of the release. A CHECK_BATCH charges no use. -/
def headerMac (s : State) (n : Fin 4) (j : Job) (relay : Option Relay) (check : Bool) :
    Strand × List (Fld × Nat) × (Fail ⊕ Bytes) :=
  let st := s.sd n
  let h := sub j.input 0 64
  let (fn, gen) := if relay.isSome then (0xFF, 0) else (j.fn, s.jobGen j)
  match st.releaseLate s.now j.env fn gen (Hdr.macCtx h) (2 ^ 3) 0 true with
  | (st', counts, .inl e) => (st', counts, .inl ⟨3, 0, if e = 0x22 then 0 else 1, e, 0, true⟩)
  | (st', counts, .inr c) =>
    let st' := if check then { st' with vault := st.vault, nv := st.nv } else st'
    if ¬ (1 ≤ c.attr.alg ∧ c.attr.alg ≤ 3) ∨ (relay.isSome ∧ ¬ bit c.attr.usage 2) then
      (st', counts, .inl ⟨3, 0, 1, 0x21, 0, true⟩)
    else if relay.isNone ∧ bvBytes (Config.aesCmac c.key (sub h 0 0x30)) ≠ sub h 0x30 16 then
      (st', counts, .inl ⟨3, 0, 2, 0x10, 0, true⟩)
    else (st', counts, .inr c.key)

/-- The records of a batch's input. -/
def recordsOf (b : Bytes) : Nat → List Bytes
  | 0 => []
  | k + 1 => sub b 64 256 :: recordsOf (b.take 64 ++ b.drop 320) k

end State

namespace Strand

/-- Bytes of a slot's words from an offset, as stored: exclusive-ored with the word that its mask and each word's address give, R132. -/
def slotMask (mask : BitVec 128) (a : Nat) (data : Bytes) : Bytes :=
  (List.range data.length).zipWith (fun i (x : Byte) => x ^^^ BitVec.ofNat 8 ((Config.slotWord mask ((a + i) / 8)).toNat / 256 ^ ((a + i) % 8))) data

/-- Content goes into the slot a batch holds, while its mask stands, R130, R132 (log entry 137: its places in the slot). -/
def slotPut (st : Strand) (order off : Nat) (data : Bytes) : Strand :=
  match st.post.slots.find? (·.order == order) with
  | some q =>
    match q.mask with
    | some m => { st with quar := Mem.writeBytes st.quar (524288 * q.num + off) (slotMask m (524288 * q.num + off) data) }
    | none => st
  | none => st

/-- The Merkle nodes that record `i` of a batch completes, R111, R128: its leaf, and at each level the node whose last record it is. -/
def slotNodes (st : Strand) (b : Batch) (i : Nat) : Strand :=
  (List.range 13).foldl (fun (st : Strand) l =>
    let j := i / 2 ^ l
    let whole := (i + 1) % 2 ^ l == 0 || i + 1 == b.recs.length
    if whole then
      st.slotPut b.order (32 * (8192 - 8192 / 2 ^ l + j)) (merkleRoot 13 (((b.recs.take (i + 1)).drop (j * 2 ^ l)).map merkleLeaf))
    else st) st

/-- The receipt keystream of a batch, R128, R131: the encrypted initial counter block, and at most 4,096 counter blocks of its receipt. -/
def slotStream (st : Strand) (b : Batch) (key : Bytes) : Strand :=
  let len := receiptLen b.recs.length b.cur.length (Hdr.pathMode b.header) (Hdr.pathIndex b.header) b.sealAlg
  let blocks := min 4096 ((len + 15) / 16)
  (st.slotPut b.order 0x40800 ((List.range (16 * blocks)).map (Config.gcmStream key b.iv))).slotPut b.order 0x50800
    ((List.range 16).map (Config.gcmInit key b.iv))

/-- A slot is cleared, R132: its mask in one cycle, its content by zeros in 32 µs. -/
def clearSlot (st : Strand) (t : Nat) (order : Nat) : Strand :=
  st.upPost fun p => { p with slots := p.slots.map fun q =>
    if q.order = order then { q with mask := none, zeroAt := some (t + 32000) } else q }

/-- Speculative work is abandoned: the slot is cleared, the drawn values are burned, R138, R140. -/
def abandon (st : Strand) (t : Nat) (b : Batch) : Strand :=
  let wipe := b.prep.isSome
  let st := st.setBatch { b with abandoned := b.abandoned || (b.spec && b.slot.isSome), prep := none
                                 berWipes := b.berWipes + b2n wipe }
  (if wipe then st.setBerEng { st.berEng b.prepEng with owe := true } else st).clearSlot t b.order

/-- A failed check: the first takes the batch to ABORTED and abandons its speculative work, R100, R140. -/
def failCheck (st : Strand) (t : Nat) (b : Batch) (f : Fail) : Strand :=
  let first := b.phase == .checking
  let b := { b with fails := b.fails ++ [f], phase := .aborted }
  if first then st.abandon t b else st.setBatch b

/-- A fault of the posting engine, R127. -/
def pstErr (st : Strand) (stage order : Nat) : Strand :=
  st.noteErr R.PST_ERR_VALID R.PST_ERR_STAGE R.PST_ERR_OVERFLOW stage fun st => st.put R.PST_ERR_INFO_INFO (order % 65536)

/-- A machine fault of the posting engine after commit, R99: recorded, and reported to the sentinel as a datapath fault of island L. -/
def pstFault (st : Strand) (t stage order : Nat) : Strand := (st.pstErr stage order).datapath t 18

/-- An internal fault before commit, R127, R150: the batch is aborted with 0x7F. -/
def faultCheck (st : Strand) (t : Nat) (b : Batch) (stage : Nat) : Strand :=
  let first := b.phase == .checking
  let b := { b with phase := .aborted, fault := b.fault.or (some stage) }
  (if first then st.abandon t b else st.setBatch b).pstErr stage b.order

/-- What the vault counts of a release on a batch's behalf shows when its completion is posted, R136. -/
def countLate (st : Strand) (order : Nat) (counts : List (Fld × Nat)) : Strand :=
  match st.batch order with
  | none => st
  | some b =>
    if b.posted then counts.foldl (fun st c => st.add c.1 c.2) st
    else if b.ended then
      { st with done := st.done.map fun d => if d.job.id = b.job.id then { d with counts := d.counts ++ counts } else d }
    else st.setBatch { b with counts := b.counts ++ counts }

/-- The first slot number that no batch holds. -/
def freeSlot (st : Strand) : Option Nat := (List.range 8).find? fun k => !(st.post.slots.any (·.num == k))

/-- The first failing status of stage 2 for a record, with its currency slot, R84, R87, R89, R94, R101. -/
def parseStatus (st : Strand) (b : Batch) (r : Bytes) (i : Nat) : Nat × Nat × Nat :=
  let k := b.cur.findIdx fun c => c.ccy == Lrf.ccy r
  if Lrf.malformed r i then (0x41, 0, 0)
  else if Lrf.badDecimal r then (0x14, 1, 0)
  else if b.cur.any fun c => c.ccy == Lrf.ccy r && c.exp != Lrf.exp r then (0x19, 2, 0)
  else if k ≥ 64 then (0x15, 3, 64)
  else if Lrf.seq r ≤ b.lastSeq ∨ Lrf.seq r ≤ markOf st.jnl.s.marks (Hdr.submitter b.header) then (0x16, 4, 0)
  else (0, 0, k)

/-- Add an amount to its currency's accumulator, R102. -/
def accumulate (cur : List CurSlot) (r : Bytes) : List CurSlot :=
  let add := fun (c : CurSlot) =>
    if c.ccy ≠ Lrf.ccy r then c
    else if Lrf.credit r then { c with credit := c.credit + Lrf.magnitude r }
    else { c with debit := c.debit + Lrf.magnitude r }
  cur.map add

/-- Whether an accumulator is past 34 digits, R103. -/
def overflowed (cur : List CurSlot) : Option Nat :=
  let k := cur.findIdx fun c => decide (c.debit ≥ 10 ^ 34) || decide (c.credit ≥ 10 ^ 34)
  if k < cur.length then some k else none

/-- Reserve one use of the approval a record names, R107. -/
def reserveUse (l : List Reserved) (a : Option Approval) : List Reserved :=
  match a with
  | none => l
  | some a =>
    if l.any fun r => r.app == a.num then l.map fun r => if r.app = a.num then { r with uses := r.uses + 1 } else r
    else l ++ [⟨a.num, 1⟩]

/-- Stages 2 to 5 for the next record of a batch, R94, R139: failures, the currency slot, the reservation and the sums; `fault` is the stage
of an internal fault met on the way, R127, where it is one of them. -/
def checkRecord (st : Strand) (t : Nat) (b : Batch) (fault : Nat) : Strand :=
  let i := b.parsed
  let r0 := b.recs.getD i []
  let r := match b.relay, b.mac with
    | some _, some k => sub r0 0 0xF0 ++ bvBytes (Config.aesCmac k (sub r0 0 0xF0))
    | _, _ => r0
  let (e2, k2, slot) := st.parseStatus b r i
  let clean := b.phase == .checking
  let b := { b with parsed := i + 1, recs := b.recs.set i r, lastSeq := max b.lastSeq (Lrf.seq r) }
  let b := if e2 = 0 ∧ slot = b.cur.length then { b with cur := b.cur ++ [⟨Lrf.ccy r, Lrf.exp r, 0, 0⟩] } else b
  let st := st.setBatch b
  let fail := fun (st : Strand) (f : Fail) => match st.batch b.order with
    | some c => st.failCheck t c f
    | none => st
  let st := if b.spec ∧ clean ∧ e2 = 0 then st.slotNodes b i else st
  let broken := decide (2 ≤ fault) && decide (fault ≤ 5)
  let st := match st.batch b.order with
    | some c => if broken then st.faultCheck t c fault else st
    | none => st
  let st := if e2 ≠ 0 then fail st ⟨2, i + 1, k2, e2, if e2 = 0x15 then slot else 0, false⟩ else st
  let badTag : Bool := match b.mac with
    | some k => bvBytes (Config.aesCmac k (sub r 0 0xF0)) != Lrf.tag r
    | none => false
  let st := if badTag then fail st ⟨3, i + 1, 2, 0x10, 0, false⟩ else st
  let e4 := st.authorise t b r
  let st := if e4 ≠ 0 then fail st ⟨4, i + 1, if e4 = 0x18 then 0 else 1, e4, 0, false⟩ else st
  if ¬ clean ∨ broken ∨ e2 ≠ 0 ∨ badTag ∨ e4 ≠ 0 then st
  else
    let b := if allZero (Lrf.authRef r) 0 16 then b else
      { b with reserved := reserveUse b.reserved (st.liveApproval r) }
    let cur := accumulate b.cur r
    match overflowed cur with
    | some k => (st.setBatch b).failCheck t b ⟨5, i + 1, 0, 0x17, k, false⟩
    | none => st.setBatch { b with cur := cur }

/-- Whether a record's checks must wait for an earlier batch, R96: one still in CHECKING that names the same submitter or
approval, or one that Parse has not finished. -/
def mustWait (st : Strand) (b : Batch) : Bool :=
  let ref := Lrf.authRef (b.recs.getD b.parsed [])
  st.post.batches.any fun c => decide (c.order < b.order) &&
    (decide (c.parsed < c.recs.length)
      || (c.deciding && (Hdr.submitter c.header == Hdr.submitter b.header
          || (!allZero ref 0 16 && c.recs.any fun r => Lrf.authRef r == ref))))

/-- The lowest currency slot whose sums differ, R104. -/
def unbalanced (cur : List CurSlot) : Option Nat :=
  let k := cur.findIdx fun c => c.debit != c.credit
  if k < cur.length then some k else none

/-- What counts at a batch's completion, R136, R275 (log entry 16): the vault's refusals, and its Topaz and Jade jobs, a MAC for the header and each record;
for a committed batch the tree and the journal value. -/
def batchCounts (b : Batch) : List (Fld × Nat) :=
  [(R.TOP_JOBS, 1 + (if b.mac.isSome then b.parsed else 0)), (R.JAD_JOBS, if b.phase = .checking ∨ b.phase = .aborted then 0 else 2)] ++ b.counts

/-- The batch's outcome is known: its completion waits for its time. -/
def endBatch (st : Strand) (t : Nat) (b : Batch) (status resLen detail : Nat) : Strand :=
  (st.setBatch { b with ended := true }).finish t b.job b.recs.length status resLen detail (batchCounts b)

/-- Reservations of approvals end, and removed entries go with the last, R106. -/
def unreserveAll (st : Strand) (b : Batch) : Strand := (st.setBatch { b with reserved := [] }).sweepApprovals

/-- Approval uses are consumed at commit, R106, R108. -/
def consume (st : Strand) (b : Batch) : Strand :=
  let st := b.reserved.foldl (fun st r =>
    match st.post.approvals.find? fun a => a.num == r.app with
    | some a =>
      let u := a.uses - r.uses
      st.setApproval { a with uses := u, removed := a.removed || u == 0 }
    | none => st) st
  st.unreserveAll b

/-- The receipt's bytes that the seal covers, R112. -/
def receiptHead (st : Strand) (ident : Bytes) (b : Batch) (gen time : Nat) (root j : Bytes) : Bytes :=
  let n := b.recs.length
  let total := fun (c : CurSlot) =>
    let digit := fun k => c.credit / 10 ^ (33 - k) % 10
    let nib := 0 :: ((List.range 34).map digit ++ [0xC])
    c.ccy ++ toLE 1 c.exp ++ zeros 2 ++ (List.range 18).map fun k => BitVec.ofNat 8 (16 * nib.getD (2 * k) 0 + nib.getD (2 * k + 1) 0)
  ascii "LRCT" ++ toLE 1 1 ++ toLE 1 b.sealAlg ++ toLE 1 (Hdr.pathMode b.header) ++ toLE 1 st.id.val
    ++ toLE 8 (Hdr.batchId b.header) ++ toLE 8 b.firstSeq ++ toLE 8 (b.firstSeq + n - 1) ++ toLE 8 time ++ fit 16 ident
    ++ toLE 2 n ++ toLE 2 b.cur.length ++ toLE 4 gen ++ root ++ j ++ (b.cur.map total).flatten

/-- The journal entry of a sealed batch, R163. -/
def makeEntry (st : Strand) (ident : Bytes) (b : Batch) (gen time : Nat) (root j sig : Bytes) : Entry :=
  let n := b.recs.length
  let totals := b.head.drop 0x80
  let pad := fun (x : Bytes) => x ++ zeros (up512 x.length - x.length)
  let body := pad totals ++ pad b.recs.flatten
  let flags := b2n st.solo + 2 * b2n st.jnl.takeover
  let head := ascii "LJNL" ++ toLE 1 1 ++ toLE 1 st.id.val ++ toLE 1 b.sealAlg ++ toLE 1 (Hdr.pathMode b.header)
    ++ toLE 8 b.entryNo ++ toLE 8 b.firstSeq ++ toLE 8 (b.firstSeq + n - 1) ++ toLE 8 time ++ toLE 8 (Hdr.batchId b.header)
    ++ toLE 8 b.lastSeq ++ toLE 2 (Hdr.submitter b.header) ++ toLE 2 n ++ toLE 2 b.cur.length ++ toLE 2 flags
    ++ toLE 4 gen ++ toLE 4 st.jnl.s.epoch ++ toLE 4 (512 + body.length) ++ zeros 4 ++ fit 16 ident ++ root
    ++ st.jnl.s.cur.j ++ j ++ fit 96 sig
  { head := fit 512 head, body := some body }

/-- Whether the batch's entry may be released: acknowledged while the lease is held, or SOLO, R100, R182; never once its strand has lost
the chain it stands in (R187), nor while a fork is held (R188). -/
def mayRelease (st : Strand) (b : Batch) : Bool :=
  b.phase == .sealed && !b.ended && !b.dead && !st.fork && (st.solo || (st.leaseHeld && decide (b.entryNo ≤ st.jnl.acked)))

/-- The batch's receipt with its paths, R112, R113. -/
def receiptOf (b : Batch) : Bytes :=
  b.head ++ b.sig ++ pathBlocks b.recs (Hdr.pathMode b.header) (Hdr.pathIndex b.header)

end Strand

namespace State

/-- Release one sealed batch: the receipt is written where the function's generation is still the stamped one, R114, R151.
A receipt key that is refused now is a stage 8 fault, and the batch stays sealed, R99 (log entry 14); after a failed transfer its job ends with
0x7F, R33. While the host port has failed the
receipt waits in strand SRAM, R24. -/
def releaseBatch (s : State) (n : Fin 4) (b : Batch) : State :=
  let st := s.sd n
  let j := b.job
  if ¬ st.mayRelease b ∨ s.ring.hpFailed then s
  else if (s.fn j.fn).gen ≠ j.gen then s.up n fun st => st.endBatch s.now { b with phase := .released } 0 0 0
  else
    let plain := Strand.receiptOf b
    let rctx := Hdr.receiptCtx b.header
    let write := fun (s : State) (out : Bytes) =>
      if j.env.writeOk then
        { s with mem := Mem.writeBytes s.mem j.seg0.outAddr out }.up n fun st =>
          st.endBatch s.now { b with phase := .released } 0 out.length 0
      else (s.hqErr 3 j.sq 0 j.fn).up n fun st => st.endBatch s.now { b with phase := .released } 0x40 0 (2 * 2 ^ 16)
    if rctx = 0 then write s plain
    else match st.releaseLate s.now j.env j.fn (s.jobGen j) rctx 1 0 false with
      | (st, _, .inl 0x7F) => s.setSd n ((st.pstFault s.now 8 b.order).endBatch s.now b 0x7F 0 (postDetail 8 0 0 true))
      | (st, counts, .inl _) => s.setSd n ((st.pstFault s.now 8 b.order).countLate b.order counts)
      | (st, _, .inr c) =>
        let (ct, tag) := gcmSeal c.key b.iv [] plain
        write (s.setSd n st) (b.iv ++ ct ++ tag)

/-- Release every batch that may be released, in commit order. -/
def releaseAll (s : State) (n : Fin 4) : State :=
  ((s.sd n).post.batches.filter fun b => b.phase == .sealed).foldl (fun s b =>
    match (s.sd n).batch b.order with
    | some b => s.releaseBatch n b
    | none => s) s

/-- What a relay buffer carries is posted on PST_RELAY_CQ.QUEUE, R92, R110, R125: the buffer's job, and the completion slot reserved for it,
move to that queue (log entry 133). -/
def ontoRelay (s : State) (n : Fin 4) (j : Job) : State × Job :=
  let q := (s.sd n).get R.PST_RELAY_CQ_QUEUE
  if q = j.cq then (s, j)
  else
    let s := s.unreserve j.cq
    let s := s.setCq { s.cq q with reserved := (s.cq q).reserved + 1 }
    let j' := { j with cq := q }
    (s.up n fun st => { st with taken := st.taken.map fun (x : Job) => if x.id = j.id then j' else x }, j')

/-- Waiting notices take buffers as buffers are given, R110; relayed batches take theirs at RELAY_BATCH_PRESENT, and one
that waits to be presented holds back the notices behind it while the strand is serving. -/
def serveNotices (n : Fin 4) : Nat → State → State
  | 0, s => s
  | k + 1, s =>
    let st := s.sd n
    let next := st.post.waits.find? fun w => match w with
      | .notice .. => true
      | .relay _ => st.admitting
    match next, st.post.buffers with
    | some (.notice ref sta), j :: rest =>
      match (st.approval ref sta).bind fun a => a.notice.map fun m => (a, m) with
      | some (a, m) =>
        let s := s.up n fun st => st.upPost fun p => { p with buffers := rest }
        if j.seg0.outLen < m.length then serveNotices n k (s.fail n j 0x41)
        else
          let keep := fun (w : Wait) => match w with
            | .notice r x => !(r == ref && x == sta)
            | .relay _ => true
          let s := s.up n fun st => (st.setApproval { a with notice := none }).upPost fun p =>
            { p with waits := p.waits.filter keep }
          let (s, j) := s.ontoRelay n j
          serveNotices n k (s.succeed n j m)
      | none => s
    | _, _ => s

/-- Serve as many notices as there are buffers. -/
def notify (s : State) (n : Fin 4) : State := serveNotices n (s.sd n).post.buffers.length s

/-- Queue a chain for intake. -/
def offer (s : State) (n : Fin 4) (j : Job) : State :=
  if (s.sd n).halted then s else s.up n fun st => st.upPost fun p => { p with waiting := p.waiting ++ [(j, none)] }

/-- A verifier's opcode: only the function that owns the queue of PST_RELAY_CQ.QUEUE, whether or not VALID is 1 (log entry 134), with AUTH_REF
and STATION as its input, R110, R679. -/
def verifierJob (s : State) (n : Fin 4) (j : Job) (work : Option Approval → State → State) : State :=
  s.runJob n j fun s =>
    let q := (s.sd n).get R.PST_RELAY_CQ_QUEUE
    if j.cop.isNone ∧ s.rget R.HQ_CQ_CFG_OWNER q ≠ j.fn then s.fail n j 0x1A
    else if j.input.length ≠ 18 then s.fail n j 0x41
    else work ((s.sd n).approval (sub j.input 0 16) (le j.input 16 2)) s

end State

/-! ### The commands -/

/-- POST_BATCH, R91, R115: the chain waits for intake. -/
def execPostBatch (n : Fin 4) (j : Job) (s : State) : Host.Outcome State Fault Refusal := .next (s.offer n { j with op := 0x100 })

/-- CHECK_BATCH, R91, R115. -/
def execCheckBatch (n : Fin 4) (j : Job) (s : State) : Host.Outcome State Fault Refusal := .next (s.offer n { j with op := 0x101 })

/-- BATCH_INTAKE, R94, R95, R137: the next chain passes intake or fails it, once fewer than 16 batches are past intake. -/
def execBatchIntake (n : Fin 4) (s : State) : Host.Outcome State Fault Refusal :=
  let st := s.sd n
  match st.post.waiting with
  | [] => .next s
  | (j, relay) :: rest =>
    if st.halted ∨ (st.post.batches.filter fun b => !b.posted).length ≥ 16 then .next s
    else
      let s := s.up n fun st => st.upPost fun p => { p with waiting := rest }
      let check := j.op == 0x101
      let h := sub j.input 0 64
      if !j.env.readOk then .next ((s.hqErr 2 j.sq 0 j.fn).failIntake n j 0 0x40 (1 * 2 ^ 16))
      else match s.intakeStatus n j relay with
        | (0, _) =>
          let (fn, gen) := (j.fn, s.jobGen j)
          let sctx := st.get R.PST_SEAL_CTX_CTX
          let (s, iv) :=
            if check then (s, [])
            else
              let (st, iv) := (s.sd n).chargeKeys fn gen sctx (Hdr.receiptCtx h)
              (s.setSd n st, iv)
          let (st', counts, mac) := s.headerMac n j relay check
          let (fails, fault) : List Fail × Option Nat := match mac with
            | .inl f => if f.status = 0x7F then ([], some 3) else ([f], none)
            | .inr _ => ([], none)
          let b : Batch :=
            { order := st.post.nextOrder, job := { j with origin := max j.origin st.post.parseDone }, relay, check
              header := h, recs := State.recordsOf j.input (Hdr.count h)
              authz := Hdr.authz h || st.flag R.PST_CTL_AUTHZ_FORCE, sealAlg := st.get R.PST_CTL_SEAL_ALG, sealCtx := sctx
              spec := !check && st.flag R.PST_CTL_SPEC_EN && j.specOk, iv := iv
              mac := match mac with | .inr k => some k | .inl _ => none
              phase := if fails.isEmpty && fault.isNone then .checking else .aborted
              fails := fails, fault := fault, counts := counts }
          let st' := if fault.isSome then st'.pstErr 3 b.order else st'
          .next (s.setSd n (st'.upPost fun p => { p with batches := p.batches ++ [b], nextOrder := p.nextOrder + 1 }))
        | (e, place) =>
          .next (s.failIntake n j (Hdr.count h) e (postDetail 1 (place.getD 0) 0 place.isNone))

/-- The receipt keystream of a batch goes into its slot where its key is released for it; else Topaz forms it after commit, R128, R131
(log entry 137: the moment). -/
def State.speculate (s : State) (n : Fin 4) (b : Batch) : State :=
  let rctx := Hdr.receiptCtx b.header
  if rctx = 0 then s
  else match (s.sd n).releaseLate s.now b.job.env b.job.fn (s.jobGen b.job) rctx 1 0 false with
    | (st, _, .inr c) => s.setSd n (st.slotStream b c.key)
    | _ => s

/-- QUARANTINE_SLOT_TAKE, R130, R132, R134: the first batch without a slot takes a free one under a fresh mask. A speculating batch's
Merkle nodes so far and its keystream go into it. -/
def execQuarantineSlotTake (n : Fin 4) (s : State) : Host.Outcome State Fault Refusal :=
  let st := s.sd n
  match st.post.batches.find? (fun b => b.slot.isNone && !b.posted), st.freeSlot with
  | some b, some k =>
    let (m, st) := st.draw
    let mask := if b.phase == .aborted then none else some (BitVec.ofNat 128 m)
    let b := { b with slot := some k }
    let st := (st.setBatch b).upPost fun p => { p with slots := p.slots ++ [{ num := k, order := b.order, mask }] }
    if b.spec ∧ b.phase = .checking then
      .next ((s.setSd n ((List.range b.parsed).foldl (fun (st : Strand) i => st.slotNodes b i) st)).speculate n b)
    else .next (s.setSd n st)
  | _, _ => .next s

/-- RECORD_CHECK, R127, R139: the next record of a batch runs through stages 2 to 5, with the internal fault met there, if any; the last one
ends its Parse and gives the batches behind it their origin, R142. -/
def execRecordCheck (n : Fin 4) (order : Nat) (s : State) (fault : Nat := 0) : Host.Outcome State Fault Refusal :=
  let st := s.sd n
  match st.batch order with
  | none => .next s
  | some b =>
    if st.halted ∨ ¬ b.deciding ∨ b.parsed ≥ b.recs.length ∨ st.mustWait b then .next s
    else
      let st := st.checkRecord s.now b fault
      if b.parsed + 1 < b.recs.length then .next (s.setSd n st)
      else
        let late := fun (j : Job) => { j with origin := max j.origin s.now }
        let fix := fun (d : Done) =>
          if d.after = some order then
            let j := late d.job
            { d with job := j, after := none, due := st.dueTime j d.records false d.ended }
          else d
        let nextB := fun (c : Batch) => if c.order = order + 1 then { c with job := late c.job } else c
        .next (s.setSd n { st.upPost fun p => { p with parseDone := s.now, batches := p.batches.map nextB } with
                            done := st.done.map fix })

/-- BATCH_DECISION, R100, R104, R141: at the end of its check pass a batch is judged; a failed one, and every CHECK_BATCH,
takes the path of ABORTED; one that met an internal fault ends with 0x7F (R127, R150). -/
def execBatchDecision (n : Fin 4) (order : Nat) (s : State) : Host.Outcome State Fault Refusal :=
  let st := s.sd n
  match st.batch order with
  | none => .next s
  | some b =>
    if st.halted ∨ ¬ b.deciding ∨ b.decision.isSome ∨ b.parsed < b.recs.length then .next s
    else
      let st := match b.phase, Strand.unbalanced b.cur with
        | .checking, some k => st.failCheck s.now b ⟨5, 0, 1, 0x11, k, true⟩
        | _, _ => st
      let b := { (st.batch order).getD b with decision := some s.now }
      let finish := fun (st : Strand) (status detail : Nat) =>
        s.setSd n ((st.unreserveAll b).endBatch s.now { b with phase := .aborted, reserved := [] } status 0 detail)
      match b.fault, reported b.fails with
      | some k, _ => .next (finish st 0x7F (postDetail k 0 0 true))
      | none, some f => .next (finish st f.status (postDetail f.stage (f.place - 1) f.slot f.batch))
      | none, none =>
        if b.check then .next (finish (st.clearSlot s.now order) 0 0)
        else .next (s.setSd n (st.setBatch b))

/-- BATCH_COMMIT, R94, R95, R108, R156, R164: in intake order, by the writer alone. The hashing and the keystream of a batch that
did not speculate begin now, R134. -/
def execBatchCommit (n : Fin 4) (order : Nat) (s : State) : Host.Outcome State Fault Refusal :=
  let st := s.sd n
  match st.batch order with
  | none => .next s
  | some b =>
    if st.halted ∨ ¬ st.writer ∨ b.phase ≠ .checking ∨ b.decision.isNone
        ∨ (st.post.batches.any fun c => decide (c.order < order) && c.deciding) then .next s
    else
      let ahead := st.post.batches.filter fun c => c.phase == .committed && !c.dead
      let b := { b with phase := .committed, commitAt := s.now
                        firstSeq := st.jnl.s.seq + (ahead.map fun c => c.recs.length).sum + 1
                        entryNo := st.jnl.s.cur.no + ahead.length + 1 }
      let st := (st.setBatch b).consume b
      let js := { st.jnl.s with marks := raiseMark st.jnl.s.marks (Hdr.submitter b.header) b.lastSeq }
      let st := { st with jnl := { st.jnl with s := js } }
      let st := st.put64 R.PST_BATCH_LO (st.get64 R.PST_BATCH_LO + 1)
      let s := s.setSd n (st.put64 R.PST_REC_LO (st.get64 R.PST_REC_LO + b.recs.length))
      if b.spec then .next s
      else .next ((s.up n fun st => (List.range b.recs.length).foldl (fun (st : Strand) i => st.slotNodes b i) st).speculate n b)

/-- SEAL_PREPARATION, R128, R129, R134, R296: a Beryl engine draws the nonce and prepares the point and inverse into the
batch's slot; before commit only for speculative work. -/
def execSealPreparation (n : Fin 4) (order eng : Nat) (s : State) : Host.Outcome State Fault Refusal :=
  let st := s.sd n
  match st.batch order with
  | none => .next s
  | some b =>
    if st.halted ∨ b.check ∨ b.prep.isSome ∨ b.slot.isNone
        ∨ ¬ ((b.phase = .checking ∧ b.spec) ∨ b.phase = .committed) then .next s
    else match st.berSeal s.now eng (Strand.sealCycles b.sealAlg false) with
      | none => .next s
      | some (st, w) =>
        let (k, st) := st.draw
        let b := { b with prep := some k, prepEng := eng, berJobs := b.berJobs + 1, berWipes := b.berWipes + w }
        .next ((s.setSd n ((st.setBatch b).slotPut order 0x40000 (toLE 2048 k))).berNext n)

/-- SEAL_COMPLETION, R99, R112, R162, R164, R284, R293: the first free engine receives the seal key and signs; the entry is
formed in commit order, at the head of the chain as it stands. A refused key, a failed transfer or a failed end check is a stage 7 fault: the
batch stays committed (log entry 14); after the transfer fault its job ends with 0x7F, R33. -/
def execSealCompletion (n : Fin 4) (order eng : Nat) (endOk : Bool) (s : State) : Host.Outcome State Fault Refusal :=
  let st := s.sd n
  match st.batch order with
  | none => .next s
  | some b =>
    if st.halted ∨ ¬ st.writer ∨ b.phase ≠ .committed ∨ b.dead
        ∨ (st.post.batches.any fun c => decide (c.order < order) && c.phase == .committed && !c.dead) then .next s
    else match b.prep, st.berSeal s.now eng (Strand.sealCycles b.sealAlg true) with
      | none, _ => .next s
      | _, none => .next s
      | some nonce, some (st, w) =>
        let b := { b with berWipes := b.berWipes + w, firstSeq := st.jnl.s.seq + 1, entryNo := st.jnl.s.cur.no + 1 }
        match st.releaseLate s.now b.job.env 0xFF 0 b.sealCtx (2 ^ 4) 1 false with
        | (st, _, .inl 0x7F) =>
          let st := st.pstFault s.now 7 order
          .next (s.setSd n (if b.ended then st else st.endBatch s.now b 0x7F 0 (postDetail 7 0 0 true)))
        | (st, counts, .inl _) => .next (s.setSd n ((st.pstFault s.now 7 order).countLate order counts))
        | (st, _, .inr c) =>
          if !endOk then
            let st := (st.setBatch { b with prep := none, berJobs := b.berJobs + 1 }).bump R.BER_INV_FAIL
            let st := st.noteErr R.BER_ERR_VALID R.BER_ERR_CODE R.BER_ERR_OVERFLOW 3 fun st =>
              ((st.put R.BER_ERR_INFO_SLOT c.idx).put R.BER_ERR_INFO_ENGINE eng).put R.BER_ERR_INFO_REQUESTER 1
            .next (s.setSd n ((st.pstErr 7 order).datapath s.now (7 + eng)))
          else
            let ident := s.ring.ident.deviceId
            let clock := max (st.deviceTime b.commitAt) (st.jnl.s.time % 2 ^ 63)
            let time := clock + (if st.solo then 2 ^ 63 else 0)
            let root := rootOf b.recs
            let last := b.firstSeq + b.recs.length - 1
            let j := jNext st.jnl.s.cur.j root b.firstSeq last time
            let head := st.receiptHead ident b c.curGen time root j
            let sig := (List.range (sigLen b.sealAlg)).map (Config.signByte c.attr.alg c.key (signedText c.attr.alg head) nonce)
            let b := { b with phase := .sealed, head := head, sig := sig, berJobs := b.berJobs + 1 }
            let st := (st.setBatch b).joinChain (st.makeEntry ident b c.curGen time root j sig)
            let st := { st with jnl := { st.jnl with takeover := false } }
            let st := (if st.jnl.acked + 1 = b.entryNo then { st with mir := { st.mir with sentAt := s.now } } else st).mirSend
              s.now 0x10 ((st.jnl.buf.getLast?.map Entry.bytes).getD [])
            let st := st.upPost fun p => { p with batches := p.batches.filter fun c => !(c.posted && c.order == order) }
            .next (((s.setSd n st.trimBuf.jnlSync).berNext n).releaseAll n)

/-- HOLD_LIMIT_EXPIRED, R100, R181: the batch completes with 0x50 and no receipt; it stays committed. -/
def execHoldLimitExpired (n : Fin 4) (order : Nat) (s : State) : Host.Outcome State Fault Refusal :=
  let st := s.sd n
  match st.batch order with
  | none => .next s
  | some b =>
    if st.halted ∨ b.ended ∨ ¬ (b.phase = .committed ∨ b.phase = .sealed) then .next s
    else
      let s := s.upTo (b.commitAt + 1000000000 * st.get R.MIR_CTL_HOLD_LIMIT)
      .next (s.up n fun st => st.endBatch s.now b 0x50 0 (postDetail 8 0 0 true))

/-- The earliest completion that may be posted, ties by take order, R148; a coprocessor job has none. -/
def earliest : List Done → Option Done
  | [] => none
  | d :: r =>
    match earliest r with
    | some e =>
      if d.after.isNone ∧ d.job.cop.isNone ∧ (d.due < e.due ∨ (d.due = e.due ∧ d.job.id ≤ e.job.id)) then some d else some e
    | none => if d.after.isNone ∧ d.job.cop.isNone then some d else none

namespace Strand

/-- The posting counters that change at a completion, R121, R136. -/
def countFailure (st : Strand) (status : Nat) : Strand :=
  if status = 0 then st
  else if status = 0x10 then st.bump R.PST_FAIL_AUTH
  else if status = 0x11 ∨ status = 0x17 then st.bump R.PST_FAIL_BAL
  else if status = 0x13 ∨ status = 0x18 then st.bump R.PST_FAIL_AUTHZ
  else st.bump R.PST_FAIL_OTHER

/-- The station or the old host learns a relayed batch's fate when its completion is posted, R455, R471, R482. -/
def relayOutcome (st : Strand) (r : Relay) (status first last : Nat) : Strand :=
  if r.source = 1 then
    let st := if status = 0 then st.bump R.RP_ACKS_ACK else st.bump R.RP_ACKS_ERR
    st.emit .recordPort (b2n (status != 0)) []
  else if st.get R.SL_LINK_CFG_MODE r.link = 1 then
    if st.flag R.SL_LINK_CFG_ACKNAK r.link && st.linkMode r.link == 1 && !(st.links.any fun l => l.num == r.link && l.st == .failed) then
      (st.emit (.station r.link) 0 [if status = 0 then 0x06 else 0x15]).bump R.SL_LINK_TX_OK r.link
    else st
  else
    let ok := status = 0
    let m := toLE 1 2 ++ toLE 1 status ++ zeros 2 ++ toLE 4 r.batchNo ++ toLE 8 (if ok then first else 0)
      ++ toLE 8 (if ok then last else 0)
    { st with links := st.links.map fun l => if l.num = r.link then { l with notices := l.notices ++ [m] } else l }

/-- What a posted completion changes on its strand, R121, R130, R136, R149. -/
def posted (st : Strand) (d : Done) : Strand :=
  let posting := decide (0x100 ≤ d.job.op) && decide (d.job.op ≤ 0x1FF)
  let e := st.cadEntry d.job.op
  let late := !e.exempt && decide (d.due > tick10 (st.cadencePoint d.job d.records)) && decide (d.due > tick10 d.job.lastInput)
  let st := st.bumpIf late R.PST_CAD_OVERRUN
  let st := if posting then st.countFailure d.status else st
  let st := d.counts.foldl (fun st c => st.add c.1 c.2) st
  let st := { st with done := st.done.filter (fun x => x.job.id != d.job.id)
                      taken := st.taken.filter (fun x => x.id != d.job.id) }
  match st.post.batches.find? fun b => b.job.id == d.job.id && b.ended with
  | none => st
  | some b =>
    let st := st.bumpIf b.abandoned R.PST_SPEC_ABANDON
    let st := (st.add R.BER_JOBS b.berJobs).add R.BER_WIPES b.berWipes
    let st := match b.relay with
      | some r => st.relayOutcome r d.status b.firstSeq (b.firstSeq + b.recs.length - 1)
      | none => st
    let keep := b.phase == .committed && !b.dead
    st.upPost fun p =>
      { p with
          batches := if keep then p.batches.map (fun c => if c.order = b.order then { c with posted := true } else c)
            else p.batches.filter fun c => c.order != b.order
          slots := p.slots.map fun q =>
            if q.order = b.order then { q with mask := none, zeroAt := some (d.due + 32000), free := true } else q }

end Strand

/-- COMPLETION_POST, R148: the earliest completion of the strand is posted at its time; while the link or the host port is
down completions are held, R330. -/
def execCompletionPost (n : Fin 4) (writeOk : Bool) (s : State) : Host.Outcome State Fault Refusal :=
  let st := s.sd n
  match earliest st.done with
  | none => .next s
  | some d =>
    if st.halted ∨ ¬ s.rflag R.HQ_STATUS_LINK_UP ∨ s.ring.hpFailed then .next s
    else
      let s := s.upTo d.due
      let s := s.up n fun st => st.posted d
      .next ((s.postDone n d writeOk).trySwap n)

/-- JOB_OUTPUT_WRITE_ERROR, R352: the job completes with 0x40; a committed batch stays committed. -/
def execJobOutputWriteError (n : Fin 4) (id : Nat) (s : State) : Host.Outcome State Fault Refusal :=
  match (s.sd n).taken.find? (·.id == id) with
  | none => .next s
  | some j =>
    let s := s.hqErr 3 j.sq 0 j.fn
    match (s.sd n).post.batches.find? fun b => b.job.id == id && !b.posted with
    | some b => .next (s.up n fun st => st.endBatch s.now b 0x40 0 (2 * 2 ^ 16))
    | none => .next (s.fail n j 0x40 (2 * 2 ^ 16))

/-- SLOT_CLEAR_DONE, R130, R132: the zeros are written; after its batch's completion the slot returns to the free pool. -/
def execSlotClearDone (n : Fin 4) (slot : Nat) (s : State) : Host.Outcome State Fault Refusal :=
  match (s.sd n).post.slots.find? (·.num == slot) with
  | some q =>
    match q.zeroAt with
    | some t =>
      let back := fun (l : List QSlot) =>
        if q.free then l.filter (·.num != slot) else l.map fun x => if x.num = slot then { x with zeroAt := none } else x
      let clear := fun (l : List Host.Cell) => l.filter fun (c : Host.Cell) => decide (c.1 / 524288 ≠ slot)
      .next ((s.upTo t).up n fun st => { st.upPost fun p => { p with slots := back p.slots } with quar := clear st.quar })
    | none => .next s
  | none => .next s

/-- APPROVAL_CONFIRM, R106, R679; at or after EXPIRY as log entry 134 says. -/
def execApprovalConfirm (n : Fin 4) (j : Job) (s : State) : Host.Outcome State Fault Refusal :=
  .next (s.verifierJob n j fun a s =>
    match a with
    | some a =>
      if a.live then s.fail n j 0x41
      else if bit j.w6 0 && decide ((s.sd n).deviceTime s.now < a.expiry) then
        (s.up n fun st => (st.setApproval { a with live := true }).noticeKind1 a.station 5 a.ref).succeed n j []
      else (s.up n fun st => (st.dropApproval a).noticeKind1 a.station 6 a.ref).succeed n j []
    | none => s.fail n j 0x41)

/-- APPROVAL_REVOKE, R106, R679. -/
def execApprovalRevoke (n : Fin 4) (j : Job) (s : State) : Host.Outcome State Fault Refusal :=
  .next (s.verifierJob n j fun a s =>
    match a with
    | some a => (s.up n fun st => (st.dropApproval a).noticeKind1 a.station 6 a.ref).succeed n j []
    | none => s.fail n j 0x41)

/-- APPROVAL_QUERY, R679. -/
def execApprovalQuery (n : Fin 4) (j : Job) (s : State) : Host.Outcome State Fault Refusal :=
  .next (s.verifierJob n j fun a s => s.room n j 16 fun s =>
    s.succeed n j (match a with
      | some a => toLE 1 (if a.live then 2 else 1) ++ toLE 1 a.uses ++ zeros 6 ++ toLE 8 a.expiry
      | none => zeros 16))

/-- RELAY_BUFFER, R110: the buffer is held until a notice or a relayed result takes it. -/
def execRelayBuffer (n : Fin 4) (j : Job) (s : State) : Host.Outcome State Fault Refusal :=
  .next (s.runJob n j fun s =>
    (s.up n fun st => { st.upPost fun p => { p with buffers := p.buffers ++ [j] } with
                        taken := if st.taken.any (·.id == j.id) then st.taken else st.taken ++ [j] }).notify n)

/-- Whether a PIN translation is permitted, R109. -/
def pinAllowed (st : Strand) (src dst : Nat) : Bool :=
  (src == 4 && dst == 4) || (src == 0 && (dst == 0 || dst == 4) && st.flag R.PST_CTL_PIN_FMT0)

/-- Whether a key of an algorithm serves a PIN block format: TDEA for format 0, AES for format 4. -/
def pinKeyOk (fmt alg : Nat) : Bool := if fmt = 0 then alg == 4 || alg == 5 else decide (1 ≤ alg) && decide (alg ≤ 3)

/-- The bytes of a PIN block. -/
def pinLen (fmt : Nat) : Nat := if fmt = 0 then 8 else 16

/-- The translated block: deciphered and checked under one key, formed again under the other, R109. -/
def pinTranslate (src dst : Nat) (k1 k2 block acct : Bytes) : Option Bytes :=
  match Config.pinOpen src k1 block acct with
  | some d => if 4 ≤ d.length ∧ d.length ≤ 12 then some ((List.range (pinLen dst)).map (Config.pinByte dst k2 d acct)) else none
  | none => none

/-- PIN_TRANSLATE, R109, R115: a translation that the table never permits, and a block that fails its check, are invalid
operands (0x41); a key of the wrong type is refused with 0x21 (log entry 15). -/
def execPinTranslate (n : Fin 4) (j : Job) (s : State) : Host.Outcome State Fault Refusal :=
  .next (s.runJob n j fun s =>
    let src := bits j.w6 0 8
    let dst := bits j.w6 8 8
    if !pinAllowed (s.sd n) src dst then s.fail n j 0x41
    else s.room n j (pinLen dst) fun s =>
      match (s.sd n).release s.now j.env j.fn (s.jobGen j) j.ctx (2 ^ 9) 0 true with
      | (st, .inl e) => (s.setSd n st).fail n j e
      | (st, .inr c1) =>
        match st.release s.now j.env j.fn (s.jobGen j) (j.w7 % 2 ^ 32) (2 ^ 9) 0 true with
        | (st, .inl e) => (s.setSd n st).fail n j e
        | (st, .inr c2) =>
          let s := s.setSd n st
          if ¬ pinKeyOk src c1.attr.alg ∨ ¬ pinKeyOk dst c2.attr.alg then s.fail n j 0x21
          else match pinTranslate src dst c1.key c2.key (sub j.input 0 (pinLen src)) (j.input.drop (pinLen src)) with
            | some b => s.succeed n j b
            | none => s.fail n j 0x41)

/-- SUBMITTER_QUERY, R115. -/
def execSubmitterQuery (n : Fin 4) (j : Job) (s : State) : Host.Outcome State Fault Refusal :=
  .next (s.runJob n j fun s =>
    let sub := bits j.w6 0 12
    if j.fn ≠ 0 ∧ j.cop.isNone ∧ ¬ s.submitterOk n j.fn sub then s.fail n j 0x41
    else s.room n j 8 fun s => s.succeed n j (toLE 8 (markOf (s.sd n).jnl.s.marks sub)))

/-- APPROVAL_EXPIRY, R106, R110: at EXPIRY the entry goes, with any notice still waiting for it. -/
def execApprovalExpiry (n : Fin 4) (ref : Bytes) (station : Nat) (s : State) : Host.Outcome State Fault Refusal :=
  match (s.sd n).approval ref station with
  | some a =>
    if (s.sd n).deviceTime s.now < a.expiry then .next s
    else .next (s.up n fun st => (st.dropApproval a true).noticeKind1 a.station 6 a.ref)
  | none => .next s

/-- PCIE_LINK_UP, R24, R330, R359: delivery resumes; SPEED and WIDTH show the link. A host port that had failed serves again once its link
trains, and the receipts that waited in strand SRAM are delivered (log entry 126). -/
def execPcieLinkUp (speed width : Nat) (s : State) : Host.Outcome State Fault Refusal :=
  let up := ((s.rput R.HQ_STATUS_LINK_UP 1).rput R.HQ_STATUS_SPEED speed).rput R.HQ_STATUS_WIDTH width
  if s.ring.hpFailed then .next ([0, 1, 2, 3].foldl (fun s n => s.releaseAll n) (up.upR fun r => { r with hpFailed := false }))
  else .next up

end Sys2Proof.Machine
end

