-- ==== Sys2Proof/Machine/Beryl.lean ====
section
/-! DEFINITION. The Beryl big-number engine, R282 to R310: operand checks, the constant-time cycle counts, what each opcode
computes, the engine states, prime search. Engine cycles are 1 ns at 1.0 GHz; a throttled or slowed engine takes longer
(R589), and the end commands then carry the later moment. -/

namespace Sys2Proof.Machine
open Sys2Proof

/-! ### Arithmetic -/

/-- Square and multiply over the bits of an exponent, most significant first. -/
def powModBits (b n : Nat) : List Bool → Nat → Nat
  | [], acc => acc
  | x :: r, acc => powModBits b n r (if x then acc * acc % n * b % n else acc * acc % n)

/-- Modular exponentiation. -/
def powMod (b e n width : Nat) : Nat :=
  powModBits b n ((List.range width).reverse.map e.testBit) (1 % n)

/-- Euclid's steps for the inverse: remainders and coefficients; `fuel` bounds the steps. -/
def invSteps (n : Nat) : Nat → Int → Int → Int → Int → Option Nat
  | 0, _, _, _, _ => none
  | f + 1, r0, r1, t0, t1 =>
    if r1 = 0 then (if r0 = 1 then some (t0 % n).toNat else none)
    else invSteps n f r1 (r0 % r1) t1 (t0 - r0 / r1 * t1)

/-- The inverse of `a` modulo `n`, where one exists; `w` words bound the steps. -/
def modInverse (w a n : Nat) : Option Nat := invSteps n (128 * w + 2) n a 0 1

/-- One Montgomery multiplication, R289; an odd word count rounds the half down. -/
def montCycles (w : Nat) : Nat := w * w / 2 + 8

/-! ### Curves, R285, R290 -/

/-- The ALG code of a curve by its W6 code, R303: 1 P-256, 2 P-384, 3 P-521, 4 Ed25519, 5 Ed448, 6 X25519. -/
def curveAlg : Nat → Option Nat
  | 1 => some 0x20 | 2 => some 0x21 | 3 => some 0x22 | 4 => some 0x24 | 5 => some 0x25 | 6 => some 0x23 | _ => none

/-- The bytes of one coordinate, scalar or encoded point. -/
def fieldLen : Nat → Nat
  | 0x20 => 32 | 0x21 => 48 | 0x22 => 66 | 0x25 => 57 | _ => 32

/-- The bytes of a public point: two coordinates, or one encoded point. -/
def pointLen (alg : Nat) : Nat := if alg = 0x20 ∨ alg = 0x21 ∨ alg = 0x22 then 2 * fieldLen alg else fieldLen alg

/-- The order of the base point of a FIPS curve (FIPS 186-5). -/
def curveOrder : Nat → Nat
  | 0x20 => 0xFFFFFFFF00000000FFFFFFFFFFFFFFFFBCE6FAADA7179E84F3B9CAC2FC632551
  | 0x21 => 0xFFFFFFFFFFFFFFFFFFFFFFFFFFFFFFFFFFFFFFFFFFFFFFFFC7634D81F4372DDF581A0DB248B0A77AECEC196ACCC52973
  | _ => 0x01FFFFFFFFFFFFFFFFFFFFFFFFFFFFFFFFFFFFFFFFFFFFFFFFFFFFFFFFFFFFFFFFFFFA51868783BF2F966B7FCC0148F709A5D03BB5C9B8899C47AEBB6FB71E91386409

/-- Cycles of a signature, R290. -/
def signCycles : Nat → Nat
  | 0x20 => 80000 | 0x21 => 160000 | 0x22 => 320000 | 0x24 => 64000 | _ => 200000

/-- Cycles of a verification, R290. -/
def verifyCycles : Nat → Nat
  | 0x20 => 128000 | 0x21 => 256000 | 0x22 => 512000 | 0x24 => 120000 | _ => 320000

/-- Cycles of an agreement, R290. -/
def agreeCycles : Nat → Nat
  | 0x20 => 72000 | 0x21 => 144000 | 0x22 => 288000 | _ => 56000

/-- Cycles of a point check, R290. -/
def pointCycles : Nat → Nat
  | 0x20 => 2000 | 0x21 => 3000 | 0x22 => 5000 | 0x25 => 4000 | _ => 2000

/-- The hashing that an EdDSA message adds past 256 bytes, R290. -/
def edExtra (alg len : Nat) : Nat :=
  if alg = 0x24 then 80 * ((len - 256 + 127) / 128) else 48 * ((len - 256 + 135) / 136)

/-! ### What an opcode asks -/

/-- What a Beryl job ends with if its end check passes: the status, the output, and a shared secret to be placed in a new
context under its attribute block, R287. -/
structure BerWork where
  status : Nat := 0
  out : Bytes := []
  secret : Option (Attr × Bytes) := none
  deriving DecidableEq, Repr

/-- A job that passed its checks: the usage its context must allow (none without a context), the cycles of R289 and R290, the
result length, and the work under key, public key and random value. -/
structure BerSpec where
  usage : Option Nat := none
  cycles : Nat
  need : Nat
  search : Bool := false
  work : Bytes → Nat → BerWork

/-- A refusal with its status, or a specification. -/
abbrev BerAnswer := Nat ⊕ BerSpec

/-- Whether a modulus of `w` words is odd with its top word not zero, R286. -/
def modulusOk (n w : Nat) : Bool := decide (1 ≤ w) && decide (w ≤ 256) && n % 2 == 1 && decide (2 ^ (64 * (w - 1)) ≤ n)

/-- The modulus of an RSA private key in CRT form: p and q first, R218. -/
def rsaModulus (len : Nat) (key : Bytes) : Nat := beNat (sub key 0 (len / 16)) * beNat (sub key (len / 16) (len / 16))

/-- The digest length of a hash selector of R303, or none. -/
def rsaHashLen : Nat → Option Nat
  | 1 => some 32 | 2 => some 48 | 3 => some 64 | _ => none

/-- Cycles of a public RSA operation, R289. -/
def rsaPublicCycles (w : Nat) : Nat := 98 * montCycles w + 400

/-- Cycles of a private RSA operation, R289. -/
def rsaPrivateCycles (w : Nat) : Nat := 12 * w * w * w + 98 * w * w + 48 * w + 4896

/-- BER_MODMUL, R303. -/
def berModmul (j : Job) : BerAnswer :=
  let w := bits j.w6 0 16
  let k := 8 * w
  let (a, b, n) := (beNat (sub j.input 0 k), beNat (sub j.input k k), beNat (sub j.input (2 * k) k))
  if j.input.length ≠ 3 * k ∨ ¬ modulusOk n w ∨ a ≥ n ∨ b ≥ n then .inl 0x2D
  else .inr { cycles := montCycles w + 200, need := k, work := fun _ _ => { out := toBE k (a * b % n) } }

/-- BER_MODEXP. -/
def berModexp (j : Job) : BerAnswer :=
  let w := bits j.w6 0 16
  let x := bits j.w6 16 16
  let k := 8 * w
  let (b, e, n) := (beNat (sub j.input 0 k), beNat (sub j.input k (8 * x)), beNat (sub j.input (k + 8 * x) k))
  if j.input.length ≠ 2 * k + 8 * x ∨ x = 0 ∨ x > 256 ∨ ¬ modulusOk n w ∨ b ≥ n then .inl 0x2D
  else .inr { cycles := (80 * x + 18) * montCycles w + 400, need := k
              work := fun _ _ => { out := toBE k (powMod b e n (64 * x)) } }

/-- BER_MODINV: no inverse is 0x2D, after the full time (R288). -/
def berModinv (j : Job) : BerAnswer :=
  let w := bits j.w6 0 16
  let k := 8 * w
  let (a, n) := (beNat (sub j.input 0 k), beNat (sub j.input k k))
  if j.input.length ≠ 2 * k ∨ ¬ modulusOk n w ∨ a ≥ n then .inl 0x2D
  else .inr { cycles := 128 * w * ((w + 3) / 4 + 2) + 200, need := k
              work := fun _ _ => match modInverse w a n with
                | some i => { out := toBE k i }
                | none => { status := 0x2D } }

/-- The public key of an RSA job and the rest of its input: from the context, or with W1 zero from the input, n and e first;
none where it breaks R285 or R286. -/
def rsaPublic (j : Job) (c : Option Ctx) : Option (Nat × Bytes × Bytes) :=
  match c with
  | some c => some (c.attr.keylen / 64, publicKey 0x10 c.attr.keylen c.key, j.input)
  | none =>
    let w := bits j.w6 16 16
    let n := beNat (sub j.input 0 (8 * w))
    let e := beNat (sub j.input (8 * w) 8)
    if w < 16 ∨ ¬ modulusOk n w ∨ j.input.length < 8 * w + 8 ∨ e % 2 = 0 ∨ e < 3 then none
    else some (w, j.input.take (8 * w + 8), j.input.drop (8 * w + 8))

/-- The algorithm code under which scheme and hash of W6 reach the signature functions of Config. -/
def rsaScheme (j : Job) : Nat := 0x10 + 2 ^ 8 * bits j.w6 0 8

/-- BER_RSA_SIGN. -/
def berRsaSign (j : Job) (c : Ctx) : BerAnswer :=
  let w := c.attr.keylen / 64
  match rsaHashLen (bits j.w6 4 4) with
  | none => .inl 0x41
  | some h =>
    if bits j.w6 0 4 ≠ 1 ∧ bits j.w6 0 4 ≠ 2 then .inl 0x41
    else if j.input.length ≠ h then .inl 0x2D
    else .inr { usage := some (2 ^ 4), cycles := rsaPrivateCycles w, need := 8 * w
                work := fun key x => { out := (List.range (8 * w)).map (Config.signByte (rsaScheme j) key j.input x) } }

/-- BER_RSA_VERIFY. -/
def berRsaVerify (j : Job) (c : Option Ctx) : BerAnswer :=
  match rsaHashLen (bits j.w6 4 4) with
  | none => .inl 0x41
  | some h =>
    if bits j.w6 0 4 ≠ 1 ∧ bits j.w6 0 4 ≠ 2 then .inl 0x41
    else match rsaPublic j c with
      | none => .inl 0x2D
      | some (w, pub, r) =>
        if r.length ≠ h + 8 * w ∨ beNat (r.drop h) ≥ beNat (pub.take (8 * w)) then .inl 0x2D
        else .inr { usage := c.map fun _ => 2 ^ 5, cycles := rsaPublicCycles w, need := 0
                    work := fun _ _ =>
                      if Config.verify (rsaScheme j) pub (r.take h) (r.drop h) then {} else { status := 0x10 } }

/-- BER_RSA_ENCRYPT: OAEP, whose longest message is k − 2 hLen − 2 bytes (RFC 8017). -/
def berRsaEncrypt (j : Job) (c : Option Ctx) : BerAnswer :=
  match rsaHashLen (bits j.w6 4 4) with
  | none => .inl 0x41
  | some h =>
    if bits j.w6 0 4 ≠ 3 then .inl 0x41
    else match rsaPublic j c with
      | none => .inl 0x2D
      | some (w, pub, m) =>
        if m.length + 2 * h + 2 > 8 * w then .inl 0x2D
        else .inr { usage := c.map fun _ => 2 ^ 0, cycles := rsaPublicCycles w, need := 8 * w
                    work := fun _ x =>
                      { out := (List.range (8 * w)).map (Config.rsaByte (rsaScheme j) pub (toBE h x ++ m)) } }

/-- BER_RSA_DECRYPT. -/
def berRsaDecrypt (j : Job) (c : Ctx) : BerAnswer :=
  let w := c.attr.keylen / 64
  match rsaHashLen (bits j.w6 4 4) with
  | none => .inl 0x41
  | some h =>
    if bits j.w6 0 4 ≠ 3 then .inl 0x41
    else if j.input.length ≠ 8 * w ∨ beNat j.input ≥ rsaModulus c.attr.keylen c.key ∨ 8 * w < 2 * h + 2 then .inl 0x2D
    else .inr { usage := some (2 ^ 1), cycles := rsaPrivateCycles w, need := 8 * w - 2 * h - 2
                work := fun key _ => match Config.oaepOpen (rsaScheme j) key j.input with
                  | some m => { out := m.take (8 * w - 2 * h - 2) }
                  | none => { status := 0x10 } }

/-- BER_ECDSA_SIGN. -/
def berEcdsaSign (j : Job) (c : Ctx) : BerAnswer :=
  let a := c.attr.alg
  if j.input.length < 20 ∨ j.input.length > 64 then .inl 0x2D
  else .inr { usage := some (2 ^ 4), cycles := signCycles a, need := 2 * fieldLen a
              work := fun key x => { out := (List.range (2 * fieldLen a)).map (Config.signByte a key j.input x) } }

/-- The algorithm, the public key and the rest of a curve verification's input. -/
def curvePublic (j : Job) (c : Option Ctx) : Option (Nat × Bytes × Bytes) :=
  match c with
  | some c => some (c.attr.alg, publicKey c.attr.alg c.attr.keylen c.key, j.input)
  | none => (curveAlg (bits j.w6 0 4)).map fun a => (a, j.input.take (pointLen a), j.input.drop (pointLen a))

/-- BER_ECDSA_VERIFY: an invalid public point runs the full time on the base point and then gives 0x2C, R294. -/
def berEcdsaVerify (j : Job) (c : Option Ctx) : BerAnswer :=
  match curvePublic j c with
  | none => .inl 0x41
  | some (a, pub, r) =>
    let f := fieldLen a
    let d := r.length - 2 * f
    let sig := r.drop d
    let (x, y) := (beNat (sig.take f), beNat (sig.drop f))
    if ¬ (a = 0x20 ∨ a = 0x21 ∨ a = 0x22) then .inl 0x41
    else if r.length < 2 * f + 20 ∨ d > 64 ∨ pub.length < pointLen a ∨ x = 0 ∨ y = 0 ∨ x ≥ curveOrder a ∨ y ≥ curveOrder a then .inl 0x2D
    else .inr { usage := c.map fun _ => 2 ^ 5, cycles := verifyCycles a, need := 0
                work := fun _ _ =>
                  if ¬ Config.pointOk a pub then { status := 0x2C }
                  else if Config.verify a pub (r.take d) sig then {} else { status := 0x10 } }

/-- The bytes of an EdDSA signature. -/
def edSigLen (a : Nat) : Nat := if a = 0x24 then 64 else 114

/-- BER_EDDSA_SIGN, R297: the nonce is drawn. -/
def berEddsaSign (j : Job) (c : Ctx) : BerAnswer :=
  let a := c.attr.alg
  if j.input.length > 4096 then .inl 0x2D
  else .inr { usage := some (2 ^ 4), cycles := signCycles a + edExtra a j.input.length, need := edSigLen a
              work := fun key x => { out := (List.range (edSigLen a)).map (Config.signByte a key j.input x) } }

/-- BER_EDDSA_VERIFY. -/
def berEddsaVerify (j : Job) (c : Option Ctx) : BerAnswer :=
  match curvePublic j c with
  | none => .inl 0x41
  | some (a, pub, r) =>
    let d := r.length - edSigLen a
    if ¬ (a = 0x24 ∨ a = 0x25) then .inl 0x41
    else if r.length < edSigLen a ∨ d > 4096 ∨ pub.length < pointLen a then .inl 0x2D
    else .inr { usage := c.map fun _ => 2 ^ 5, cycles := verifyCycles a + edExtra a d, need := 0
                work := fun _ _ =>
                  if ¬ Config.pointOk a pub then { status := 0x2C }
                  else if Config.verify a pub (r.take d) (r.drop d) then {} else { status := 0x10 } }

/-- Whether the attribute block suits a shared secret of some bits, R287; a longer secret is held as its SHA-512 digest. -/
def secretBlockOk (a : Attr) (len : Nat) : Bool :=
  a.ok && a.keylen == (if len > 1024 then 512 else len) && a.alg == (if len ≤ 256 then 8 else 9)

/-- The key placed for a shared secret, R287. -/
def secretKey (x : Bytes) : Bytes := if 8 * x.length > 1024 then toBE 64 (Config.hash 3 x) else x

/-- BER_ECDH. -/
def berEcdh (j : Job) (c : Ctx) : BerAnswer :=
  let a := c.attr.alg
  let p := pointLen a
  let block := Attr.parse (j.input.drop p)
  if j.input.length ≠ p + 32 then .inl 0x2D
  else if ¬ secretBlockOk block (8 * fieldLen a) then .inl 0x41
  else .inr { usage := some (2 ^ 8), cycles := agreeCycles a, need := 4
              work := fun key _ =>
                let peer := j.input.take p
                if ¬ Config.pointOk a peer then { status := 0x2C }
                else { secret := some (block, secretKey ((List.range (fieldLen a)).map (Config.agreeByte a key peer))) } }

/-- BER_FFDH: the peer value is checked against the key's prime, R286. -/
def berFfdh (j : Job) (c : Ctx) : BerAnswer :=
  let k := c.attr.keylen / 8
  let w := c.attr.keylen / 64
  let y := beNat (j.input.take k)
  let block := Attr.parse (j.input.drop k)
  if j.input.length ≠ k + 32 ∨ y ≤ 1 ∨ y + 1 ≥ Config.ffdhPrime c.key then .inl 0x2D
  else if ¬ secretBlockOk block c.attr.keylen then .inl 0x41
  else .inr { usage := some (2 ^ 8), cycles := (80 * (w + 1) + 18) * montCycles w + 600, need := 4
              work := fun key _ =>
                { secret := some (block, secretKey ((List.range k).map (Config.agreeByte 0x11 key (j.input.take k)))) } }

/-- BER_POINT_CHECK. -/
def berPointCheck (j : Job) : BerAnswer :=
  match curveAlg (bits j.w6 0 4) with
  | none => .inl 0x41
  | some a =>
    if j.input.length ≠ pointLen a then .inl 0x2D
    else .inr { cycles := pointCycles a, need := 0
                work := fun _ _ => if Config.pointOk a j.input then {} else { status := 0x2C } }

/-- BER_PRIME_GEN: the prime found by the search is the random value. -/
def berPrimeGen (j : Job) : BerAnswer :=
  let n := bits j.w6 0 16
  if n < 256 ∨ n > 8192 ∨ n % 64 ≠ 0 then .inl 0x2D
  else .inr { cycles := 0, need := n / 8, search := true, work := fun _ x => { out := toBE (n / 8) x } }

/-- Whether an opcode works on a context: always, never, or with W1 not zero, R303. -/
def berKeyed (j : Job) : Bool :=
  match j.op with
  | 0x408 | 0x40B | 0x410 | 0x418 | 0x420 | 0x421 => true
  | 0x409 | 0x40A | 0x411 | 0x419 => j.ctx != 0
  | _ => false

/-- Whether a context's algorithm suits an opcode, R272. -/
def berSuits (op alg : Nat) : Bool :=
  match op with
  | 0x408 | 0x409 | 0x40A | 0x40B => alg == 0x10
  | 0x410 | 0x411 => alg == 0x20 || alg == 0x21 || alg == 0x22
  | 0x418 | 0x419 => alg == 0x24 || alg == 0x25
  | 0x420 => alg == 0x20 || alg == 0x21 || alg == 0x22 || alg == 0x23
  | _ => alg == 0x11

/-- The answer to a job on the context it names, R303; an opcode that names nothing is 0x41. -/
def berAnswer (j : Job) (c : Option Ctx) : BerAnswer :=
  match j.op, c with
  | 0x400, _ => berModmul j
  | 0x401, _ => berModexp j
  | 0x402, _ => berModinv j
  | 0x408, some c => berRsaSign j c
  | 0x409, c => berRsaVerify j c
  | 0x40A, c => berRsaEncrypt j c
  | 0x40B, some c => berRsaDecrypt j c
  | 0x410, some c => berEcdsaSign j c
  | 0x411, c => berEcdsaVerify j c
  | 0x418, some c => berEddsaSign j c
  | 0x419, c => berEddsaVerify j c
  | 0x420, some c => berEcdh j c
  | 0x421, some c => berFfdh j c
  | 0x428, _ => berPointCheck j
  | 0x430, _ => berPrimeGen j
  | _, _ => .inl 0x41

namespace Strand

/-- Whether a job's context, named for an owner, is a key the opcode may use: 0, or the refusal. -/
def berCtxStatus (st : Strand) (j : Job) (c : Option Ctx) : Nat :=
  if !berKeyed j then 0
  else match c with
    | none => 0x22
    | some c =>
      if ¬ berSuits j.op c.attr.alg then 0x41
      else if c.attr.alg = 0x10 ∧ c.attr.keylen < 512 * st.get R.BER_CTL_RSA_MIN then 0x21
      else 0

/-- Record a Beryl fault, R310. -/
def berErr (st : Strand) (code slot e req : Nat) : Strand :=
  st.noteErr R.BER_ERR_VALID R.BER_ERR_CODE R.BER_ERR_OVERFLOW code fun st =>
    ((st.put R.BER_ERR_INFO_SLOT slot).put R.BER_ERR_INFO_ENGINE e).put R.BER_ERR_INFO_REQUESTER req

end Strand

/-! ### Key generation for the vault, R289, R290, R299 to R301 -/

/-- Cycles of a key generation, R289, R290; an RSA key's lie in its searches alone (log entry 142). -/
def keygenCycles (alg len : Nat) : Nat :=
  match alg with
  | 0x20 => 76000 | 0x21 => 152000 | 0x22 => 304000 | 0x24 => 60000 | 0x23 => 56000 | 0x25 => 170000
  | 0x11 => (80 * (len / 64 + 1) + 18) * montCycles (len / 64) + 600
  | _ => 0

/-- Whether two primes make an RSA key, R299: they differ in their top 100 bits, both are coprime to e minus one, and the exponents of the
CRT form exist; e is 65,537 (log entry 7). -/
def rsaPairOk (len p q : Nat) : Bool :=
  p / 2 ^ (len / 2 - 100) != q / 2 ^ (len / 2 - 100) && Nat.gcd p 65536 == 1 && Nat.gcd q 65536 == 1
    && (modInverse (len / 64) 65537 (p - 1)).isSome && (modInverse (len / 64) 65537 (q - 1)).isSome && (modInverse (len / 64) q p).isSome

/-- An RSA private key in CRT form, R218: p, q, dP, dQ, qInv and the public exponent. -/
def rsaKey (len p q : Nat) : Bytes :=
  let k := len / 16
  let w := len / 64
  let inv := fun a n => toBE k ((modInverse w a n).getD 0)
  toBE k p ++ toBE k q ++ inv 65537 (p - 1) ++ inv 65537 (q - 1) ++ inv q p ++ toBE 8 65537

namespace State

/-- Algorithm and length of the key that a vault job generates: its attribute block's, or its context's. -/
def keygenOf (s : State) (n : Fin 4) (j : Job) : Option (Nat × Nat) :=
  if j.op = 0x200 then some ((Attr.parse j.input).alg, (Attr.parse j.input).keylen)
  else if j.op = 0x210 then (s.vaultCtx n j j.ctx).map fun c => (c.attr.alg, c.attr.keylen)
  else none

/-- A generated key goes to its context: a new one, or the successor of the one that the job still names, R234, R245. -/
def keygenPlace (s : State) (n : Fin 4) (j : Job) (key : Bytes) : State :=
  if j.op = 0x200 then s.creation n j true true fun a s => s.placeAnswer n j a key true
  else s.replacement n j fun c s => s.stageKey n j c key []

/-- Key generation for a vault job: a symmetric key is drawn at once, an asymmetric one made on an engine, R283, R319. -/
def keygen (s : State) (n : Fin 4) (j : Job) (alg len : Nat) : State :=
  if s.gateClosed n then s.fail n j 0x30 9
  else if asym alg then s.berQueue n j
  else let (s, key) := s.drawnKey n alg len; s.keygenPlace n j key

/-- The owner block of a shared secret's context, R675, R287: the attribute block with its owner's generation. -/
def secretAttr (s : State) (n : Fin 4) (j : Job) (a : Attr) : Option Attr :=
  (s.ownerGen n j a.owner).map fun g => { a with ownerGen := g }

/-- The checks a host job meets before an engine takes it, R286, R303, R674; a refused job takes no engine time. A shared secret for a
QUORUM context is made in CEREMONY alone, R221, R241. -/
def berChecked (s : State) (n : Fin 4) (j : Job) : Nat :=
  let st := s.sd n
  let quorum := (j.op == 0x420 || j.op == 0x421) && bit (Attr.parse (j.input.drop (j.input.length - 32))).flags 1
  let c := if berKeyed j then st.ctxFor j.fn (s.jobGen j) j.ctx else none
  match st.berCtxStatus j c with
  | 0 =>
    match berAnswer j c with
    | .inl e => e
    | .inr sp => if quorum ∧ st.mode ≠ 5 then 0x30 else if j.seg0.outLen < sp.need then 0x41 else 0
  | e => e

/-- A host big-number job: gate, checks, then an engine or the queue, R283, R307. A prime search passes the entropy gate of
R319 first. -/
def berSubmit (s : State) (n : Fin 4) (j : Job) : State :=
  s.hostJob n j ((s.sd n).flag R.BER_CTL_HOST_EN) (berKeyed j) fun s =>
    if j.op = 0x430 ∧ s.gateClosed n then s.fail n j 0x30 9
    else match s.berChecked n j with
      | 0 => s.berQueue n j
      | e => (s.up n fun st => (st.bumpIf (e == 0x22) R.ONX_ABSENT).bumpIf (e == 0x21) R.ONX_DENIED).fail n j e

/-- An engine is left by its job: the job is counted, R307, and its time, R283. -/
def berLeave (s : State) (n : Fin 4) (r : BerRun) : State :=
  s.up n fun st => ((st.dropBerRun r.eng).bump R.BER_JOBS).berTime s.now (s.now - r.since) (if berOwn r.job then none else some r.job.fn)

/-- The end of a host job on its engine: counted, recorded, and the next one starts, R303, R307. -/
def berEnd (s : State) (n : Fin 4) (r : BerRun) (w : BerWork) : State :=
  let j := r.job
  let s := s.berLeave n r
  let s := match w.secret with
    | none =>
      if w.status = 0 then
        if j.env.writeOk || w.out.isEmpty then s.succeed n j w.out
        else (s.hqErr 3 j.sq 0 j.fn).fail n j 0x40 (2 * 2 ^ 16)
      else s.up n fun st =>
        st.finish s.now j 0 w.status 0 0 (if w.status = 0x2C then [(R.BER_POINT_BAD, 1)] else [])
    | some (a, key) =>
      match s.secretAttr n j a with
      | none => s.fail n j 0x41
      | some a => s.placeAnswer n j a key false
  s.berNext n

/-- BER_ERR_INFO's requester of a job: 0 host, 3 vault, R310. -/
def berRequester (j : Job) : Nat := if j.op / 256 = 2 then 3 else 0

/-- A failed end check, R293: no output, the operand memory cleared, the failure recorded and reported; a search that led to it is
abandoned, R17. -/
def berInvFail (s : State) (n : Fin 4) (r : BerRun) : State :=
  let s := (s.berLeave n r).up n fun st =>
    let st := if r.len = 0 then st else st.progDrop (0x700040 + 4 * r.eng)
    let st := ((st.bump R.BER_INV_FAIL).berErr 3 r.slot r.eng (berRequester r.job)).finish s.now r.job 0 0x2B 0 0
    st.datapath s.now (7 + r.eng)
  s.berNext n

/-- The end of a vault job on its engine: the key made goes to its context. -/
def keygenEnd (s : State) (n : Fin 4) (r : BerRun) : State :=
  let s := s.berLeave n r
  let s := match s.keygenOf n r.job with
    | none => (s.up n (·.bump R.ONX_ABSENT)).fail n r.job 0x22
    | some (alg, len) =>
      let (s, key) := if r.two then (s, rsaKey len (r.first.getD 0) (r.prime.getD 0)) else s.drawnKey n alg len
      s.keygenPlace n r.job key
  s.berNext n

end State

/-! ### The commands -/

/-- BER_MODMUL, R286, R303. -/
def execBerModmul (n : Fin 4) (j : Job) (s : State) : Host.Outcome State Fault Refusal := .next (s.berSubmit n { j with op := 0x400 })

/-- BER_MODEXP, R286, R303. -/
def execBerModexp (n : Fin 4) (j : Job) (s : State) : Host.Outcome State Fault Refusal := .next (s.berSubmit n { j with op := 0x401 })

/-- BER_MODINV, R303. -/
def execBerModinv (n : Fin 4) (j : Job) (s : State) : Host.Outcome State Fault Refusal := .next (s.berSubmit n { j with op := 0x402 })

/-- BER_RSA_SIGN, R303. -/
def execBerRsaSign (n : Fin 4) (j : Job) (s : State) : Host.Outcome State Fault Refusal := .next (s.berSubmit n { j with op := 0x408 })

/-- BER_RSA_VERIFY, R286, R303. -/
def execBerRsaVerify (n : Fin 4) (j : Job) (s : State) : Host.Outcome State Fault Refusal := .next (s.berSubmit n { j with op := 0x409 })

/-- BER_RSA_ENCRYPT, R303. -/
def execBerRsaEncrypt (n : Fin 4) (j : Job) (s : State) : Host.Outcome State Fault Refusal := .next (s.berSubmit n { j with op := 0x40A })

/-- BER_RSA_DECRYPT, R303. -/
def execBerRsaDecrypt (n : Fin 4) (j : Job) (s : State) : Host.Outcome State Fault Refusal := .next (s.berSubmit n { j with op := 0x40B })

/-- BER_ECDSA_SIGN, R303. -/
def execBerEcdsaSign (n : Fin 4) (j : Job) (s : State) : Host.Outcome State Fault Refusal := .next (s.berSubmit n { j with op := 0x410 })

/-- BER_ECDSA_VERIFY, R286, R294, R303. -/
def execBerEcdsaVerify (n : Fin 4) (j : Job) (s : State) : Host.Outcome State Fault Refusal := .next (s.berSubmit n { j with op := 0x411 })

/-- BER_EDDSA_SIGN, R297, R303. -/
def execBerEddsaSign (n : Fin 4) (j : Job) (s : State) : Host.Outcome State Fault Refusal := .next (s.berSubmit n { j with op := 0x418 })

/-- BER_EDDSA_VERIFY, R303. -/
def execBerEddsaVerify (n : Fin 4) (j : Job) (s : State) : Host.Outcome State Fault Refusal := .next (s.berSubmit n { j with op := 0x419 })

/-- BER_ECDH, R287, R294, R303. -/
def execBerEcdh (n : Fin 4) (j : Job) (s : State) : Host.Outcome State Fault Refusal := .next (s.berSubmit n { j with op := 0x420 })

/-- BER_FFDH, R286, R287, R303. -/
def execBerFfdh (n : Fin 4) (j : Job) (s : State) : Host.Outcome State Fault Refusal := .next (s.berSubmit n { j with op := 0x421 })

/-- BER_POINT_CHECK, R294, R303. -/
def execBerPointCheck (n : Fin 4) (j : Job) (s : State) : Host.Outcome State Fault Refusal := .next (s.berSubmit n { j with op := 0x428 })

/-- BER_PRIME_GEN, R299, R303, R319. -/
def execBerPrimeGen (n : Fin 4) (j : Job) (s : State) : Host.Outcome State Fault Refusal := .next (s.berSubmit n { j with op := 0x430 })

/-- BERYL_WIPE_DONE, R295, R305: after 2,000 cycles the wipe ends. -/
def execBerylWipeDone (n : Fin 4) (e : Nat) (s : State) : Host.Outcome State Fault Refusal :=
  match (s.sd n).berRun e with
  | none => .next s
  | some r =>
    if r.st ≠ .wiping then .next s
    else
      let s := s.upTo (r.since + 2000)
      .next (s.up n fun st => st.setBerRun { r with st := .loading, since := s.now })

/-- BERYL_JOB_START, R223, R291, R305: with entropy held, the key is released and the random values are drawn; without it
the delay is counted once. -/
def execBerylJobStart (n : Fin 4) (e : Nat) (entropy : Bool) (s : State) : Host.Outcome State Fault Refusal :=
  match (s.sd n).berRun e with
  | none => .next s
  | some r =>
    let j := r.job
    let st := s.sd n
    if r.st ≠ .loading then .next s
    else if !entropy then
      .next (if r.waited then s else s.setSd n ((st.setBerRun { r with waited := true }).bump R.BER_ENT_WAIT))
    else if !j.env.endOk ∧ j.env.fault = 4 then
      .next (((s.setSd n ((st.dropBerRun e).berErr 4 0 e (State.berRequester j))).fail n j 0x7F).berNext n)
    else if j.op / 256 = 2 then
      match s.keygenOf n j with
      | none => .next (s.keygenEnd n r)
      | some (alg, len) =>
        let rsa : Bool := alg == 0x10
        let r := { r with st := .running, since := s.now, done := 0, cycles := keygenCycles alg len, len := if rsa then len / 2 else 0, two := rsa }
        let st := st.setBerRun r
        .next (s.setSd n (if rsa then
          ((st.put R.BER_PROG_VALID 1 e).put R.BER_PROG_PERCENT 0 e).put R.BER_PROG_POSITION 0 e else st))
    else
      let c := if berKeyed j then st.ctxFor j.fn (s.jobGen j) j.ctx else none
      match berAnswer j c with
      | .inl x => .next (((s.up n (·.dropBerRun e)).fail n j x).berNext n)
      | .inr sp =>
        match (match sp.usage with
          | none => (st, Sum.inr none)
          | some u => match st.release s.now j.env j.fn (s.jobGen j) j.ctx u 1 true with
            | (st, .inl x) => (st, .inl x)
            | (st, .inr c) => (st, .inr (some c))) with
        | (st, .inl x) => .next (((s.setSd n (st.dropBerRun e)).fail n j x).berNext n)
        | (st, .inr c) =>
          let (x, st) := st.draw
          let r := { r with st := .running, since := s.now, done := 0, cycles := sp.cycles, nonce := x
                            slot := (c.map (·.idx)).getD 0, key := (c.map (·.key)).getD []
                            len := if sp.search then bits j.w6 0 16 else 0 }
          let st := st.setBerRun r
          .next (s.setSd n (if sp.search then
            ((st.put R.BER_PROG_VALID 1 e).put R.BER_PROG_PERCENT 0 e).put R.BER_PROG_POSITION 0 e else st))

/-- BERYL_COUNT_REACHED, R288, R292 to R294, R305: at its fixed count the engine checks its result; then the output is
written, or nothing. A prime search reaches it when a candidate is accepted. -/
def execBerylCountReached (n : Fin 4) (e : Nat) (s : State) : Host.Outcome State Fault Refusal :=
  match (s.sd n).berRun e with
  | none => .next s
  | some r =>
    let j := r.job
    if r.st ≠ .running ∨ (r.len ≠ 0 ∧ r.prime.isNone) then .next s
    else
      let s := s.upTo (Strand.runEnd r.since r.mark r.done r.cycles ((s.sd n).isleMhz (7 + e)))
      if !j.env.endOk then .next (s.berInvFail n r)
      else if j.op / 256 = 2 then
        .next ((if r.len = 0 then s else s.up n (·.put R.BER_PROG_PERCENT 100 e)).keygenEnd n r)
      else
        let c := if berKeyed j then (s.sd n).slot r.slot else none
        match berAnswer j c with
        | .inl x => .next (s.berEnd n r { status := x })
        | .inr sp =>
          let s := if sp.search then s.up n (·.put R.BER_PROG_PERCENT 100 e) else s
          .next (s.berEnd n r (sp.work r.key (r.prime.getD r.nonce)))

/-- The percentage shown after `c` candidates for a prime of some bits: the first half for a first prime, the second for a second, R301. -/
def primePercent (c bits : Nat) (second : Bool) : Nat := (if second then 50 else 0) + min 49 (49 * c / ((35 * bits + 99) / 100))

/-- PRIME_CANDIDATE, R291, R299 to R301: a fresh candidate with its top two bits and its lowest bit set is tested; each
search ends with 0x2E at 65,535 candidates. The second prime of an RSA key must fit the first, or its search goes on (log entry 142).
Without entropy the delay is counted. -/
def execPrimeCandidate (n : Fin 4) (e : Nat) (entropy : Bool) (s : State) : Host.Outcome State Fault Refusal :=
  match (s.sd n).berRun e with
  | none => .next s
  | some r =>
    let b := r.len
    if r.st ≠ .running ∨ b = 0 ∨ r.prime.isSome then .next s
    else if !entropy then .next (s.up n (·.bump R.BER_ENT_WAIT))
    else
      let (x, st) := (s.sd n).draw
      let p := x % 2 ^ (b - 2) / 2 * 2 + 1 + 3 * 2 ^ (b - 2)
      let k := r.cands + 1
      let fits : Bool := match r.first with
        | some q => rsaPairOk (2 * b) q p
        | none => true
      let good := Config.primeOk p && fits
      let turn := good && r.two && r.first.isNone
      let next : BerRun :=
        if turn then { r with first := some p, cands := 0, total := r.total + 1 }
        else { r with cands := k, total := r.total + 1, prime := if good then some p else none }
      let st := (st.setBerRun next).put R.BER_PROG_POSITION next.total e
      let s := s.setSd n (st.put R.BER_PROG_PERCENT (primePercent k b r.first.isSome) e)
      .next (if !good ∧ k ≥ 65535 then
        (s.up n fun st => st.progDrop (0x700040 + 4 * e)).berEnd n r { status := 0x2E } else s)

/-- VLT_CREATE, R217, R245: by generation or import. -/
def execVltCreate (n : Fin 4) (j : Job) (s : State) : Host.Outcome State Fault Refusal :=
  .next (if bit j.w6 0 then
    let j := { j with op := 0x200 }
    s.creation n j true true fun a s => s.keygen n j a.alg a.keylen
  else s.importKey n j true)

/-- VLT_REPLACE, R234 to R238, R676: by generation or import. -/
def execVltReplace (n : Fin 4) (j : Job) (s : State) : Host.Outcome State Fault Refusal :=
  let j := { j with op := 0x210 }
  .next (s.replacement n j fun c s =>
    if bit j.w6 0 then s.keygen n j c.attr.alg c.attr.keylen
    else match replaceKey n j c s with
      | (s, .inl e) => s.fail n j e
      | (s, .inr (key, chk)) => s.stageKey n j c key chk)

end Sys2Proof.Machine
end

