-- ==== Sys2Proof/Machine/Station.lean ====
section
/-! DEFINITION. Station links, R450 to R473, R487 to R498: PLAIN records, SEALED sessions and frames, and the SL opcodes. -/

namespace Sys2Proof.Machine
open Sys2Proof

namespace Strand

/-- A local link. -/
def lk (st : Strand) (k : Nat) : Link := (st.links.find? (·.num == k)).getD { num := k }

/-- Replace a link. -/
def setLk (st : Strand) (l : Link) : Strand :=
  if (st.links.any fun x => x.num == l.num) = true then
    { st with links := st.links.map fun x => if x.num = l.num then l else x }
  else { st with links := st.links ++ [l] }

/-- Change a link. -/
def upLk (st : Strand) (k : Nat) (f : Link → Link) : Strand := st.setLk (f (st.lk k))

/-- The STATE a link shows, R469, R497. -/
def linkState (st : Strand) (k : Nat) : Nat :=
  match st.linkMode k, (st.lk k).st with
  | 0, _ => 0
  | _, .failed => 6
  | 1, _ => 1
  | _, .off => 2
  | _, .handshake => 3
  | _, .live => 4
  | _, .backoff => 5

/-- The binding of a link, R460. -/
def binding (st : Strand) (k : Nat) : Option Bind := st.stations.binds.find? (·.link == k)

/-- The link number of a local link, R450. -/
def linkNo (st : Strand) (k : Nat) : Nat := st.id.val * 64 + k

/-- The link block records a fault, R498. -/
def slErr (st : Strand) (code k : Nat) : Strand :=
  st.noteErr R.SL_ERR_VALID R.SL_ERR_CODE R.SL_ERR_OVERFLOW code fun st => st.put R.SL_ERR_INFO k

/-- The session contexts of a link are freed, R463. -/
def dropLinkKeys (st : Strand) (k : Nat) : Strand :=
  let l := st.lk k
  let free := fun (st : Strand) (o : Option Nat) => match o.bind st.slot with
    | some c => st.freeCtx c
    | none => st
  (free (free (free st l.d2s) l.s2d) l.poll).upLk k fun l => { l with d2s := none, s2d := none, poll := none, eph := [] }

/-- The ten header bytes of a frame, R457. -/
def slHeader (ftype flags len ctr : Nat) : Bytes := toLE 1 ftype ++ toLE 1 flags ++ toLE 2 len ++ toLE 6 ctr

/-- The IV of a protected frame, R464. -/
def slIv (st : Strand) (k dir ctr : Nat) : Bytes := ascii "SL" ++ toLE 2 (st.linkNo k) ++ toLE 1 dir ++ [0] ++ toLE 6 ctr

/-- A frame on the wire, R457: header, payload and authenticator under the CRC. -/
def slFrame (body : Bytes) : Bytes := body ++ toLE 4 (crc32 body).toNat

/-- Send a frame without protection, R457, R458. -/
def slClear (st : Strand) (k ftype : Nat) (p : Bytes) : Strand :=
  (st.emit (.station k) ftype p (slFrame (slHeader ftype 2 p.length 0 ++ p))).bump R.SL_LINK_TX_OK k

/-- The protected frame for a payload, R464, with its authenticator: CMAC of the header for POLL, else GCM; none where the vault refuses the
session key. -/
def slProtect (st : Strand) (k ftype ctr : Nat) (payload : Bytes) (more : Bool) : Option Bytes :=
  let l := st.lk k
  let h := slHeader ftype (b2n more) payload.length ctr
  if ftype = 0x30 then (st.sessionKey l.poll 6).map fun key => slFrame (h ++ sub (bvBytes (Config.aesCmac key h)) 0 8)
  else (st.sessionKey l.d2s 0).map fun key =>
    let (ct, tag) := gcmSeal key (st.slIv k 0 ctr) h payload
    slFrame (h ++ ct ++ tag)

/-- Send a protected frame, R457, R464, R465; `more` says that a further frame is held. A sender whose counter stands at 2^48 - 1 sends
nothing further; a session key that the vault refuses is recorded, R498. -/
def slSend (st : Strand) (k ftype : Nat) (payload : Bytes) (more : Bool := false) : Strand :=
  let ctr := (st.lk k).txCtr + 1
  if ctr > 2 ^ 48 - 1 then st
  else match st.slProtect k ftype ctr payload more with
    | none => st.slErr 2 k
    | some w => ((st.emit (.station k) ftype (toLE 6 ctr ++ payload) w).upLk k fun l => { l with txCtr := ctr }).bump R.SL_LINK_TX_OK k

/-- Send frames one after another, each but the last with MORE, R457. -/
def slSendAll (st : Strand) (k : Nat) : List (Nat × Bytes) → Strand
  | [] => st
  | x :: r => (st.slSend k x.1 x.2 (!r.isEmpty)).slSendAll k r

/-- POLL, R464, R468. -/
def slPoll (st : Strand) (t k : Nat) : Strand :=
  (st.slSend k 0x30 []).upLk k fun l =>
    { l with polled := some (t + 10000 * st.get R.SL_LINK_TIME_REPLY_WAIT k), nextPoll := t + 100000 * st.get R.SL_LINK_TIME_POLL_PERIOD k }

/-- The link waits its back-off, R469: B doubles after the wait up to 10 s, unless the session had been LIVE for 1 s. -/
def backOff (st : Strand) (t k : Nat) (long : Bool) : Strand :=
  ((st.dropLinkKeys k).put R.SL_LINK_STAT_MISSES 0 k).upLk k fun l =>
    let b := if long then 10000000 else l.b
    { l with st := .backoff, b := b, bNext := if long then b else min (2 * b) 10000000000, backAt := t + b
             polled := none, misses := 0, finishSent := false }

/-- A handshake fails, R462, R469. -/
def hsFail (st : Strand) (t k cause : Nat) : Strand :=
  (((st.put R.SL_LINK_STAT_HS_CAUSE cause k).bump R.SL_HS_FAIL).backOff t k false)

/-- Steps 1 and 2 of R461: HELLO with a fresh nonce and ephemeral key; FAILED where the link has no binding. -/
def startHandshake (st : Strand) (t k : Nat) (dev : Bytes) : Strand :=
  match st.binding k with
  | none => (st.put R.SL_LINK_STAT_HS_CAUSE 5 k).upLk k fun l => { l with st := .failed }
  | some _ =>
    let (nonce, st) := st.drawBytes 16
    let (eph, st) := st.drawBytes 32
    let p := toLE 1 1 ++ toLE 1 st.id.val ++ toLE 2 (st.linkNo k) ++ fit 16 dev ++ nonce ++ publicKey 0x20 256 eph
    (st.slClear k 0x01 p).upLk k fun l =>
      { l with st := .handshake, hello := p, eph := eph, finishSent := false, hsAt := t, bad := false, txCtr := 0, rxCtr := 0 }

/-- Why a CERT is refused, R462, as HS_CAUSE of R497; 0 where it is accepted. -/
def certRefusal (st : Strand) (t k : Nat) (p : Bytes) : Nat :=
  let c := sub p 0 160
  let now := st.deviceTime t
  let sid := le c 8 8
  match st.binding k with
  | none => 5
  | some b =>
    if sub c 0 2 ≠ ascii "SC" ∨ le c 2 1 ≠ 1 ∨ le c 3 1 ≥ st.stations.roots.length ∨ ¬ bit b.roots (le c 3 1)
        ∨ ¬ (le c 4 2 = st.linkNo k ∨ le c 4 2 = 0xFFFF) ∨ sid = 0 ∨ (b.station ≠ 0 ∧ sid ≠ b.station) then 3
    else if st.stations.deny.contains sid then 6
    else if now < le c 0x10 8 ∨ now > le c 0x18 8 then 3
    else if ¬ Config.verify 0x20 (st.stations.roots.getD (le c 3 1) []) (signedText 0x20 (sub c 0 0x60)) (sub c 0x60 64) then 3
    else if ¬ Config.verify 0x20 (sub c 0x20 64) (bvBytes (Config.sha256 ((st.lk k).hello ++ sub p 0 240))) (sub p 240 64) then 4
    else if ¬ Config.pointOk 0x20 (sub p 160 64) then 3
    else 0

/-- The three session contexts of R463, each sent to its receiver: whether the vault placed and released them all. -/
def linkKeys (st : Strand) (t : Nat) (env : JobEnv) (k : Nat) (secret t2 : Bytes) : Strand × Bool :=
  let key := fun (i : Nat) => bvBytes (Config.sha256 (secret ++ t2 ++ toLE 1 i))
  match st.placeSession t env (strandKey 3 1 1 256) (key 1) 0 with
  | (st, .inl _) => (st, false)
  | (st, .inr a) =>
    match st.placeSession t env (strandKey 3 1 (2 + 4096) 256) (key 2) 0 with
    | (st, .inl _) => (st.freeCtx a, false)
    | (st, .inr b) =>
      match st.placeSession t env (strandKey 1 64 (4 + 8) 128) (sub (key 3) 0 16) 6 with
      | (st, .inl _) => ((st.freeCtx a).freeCtx b, false)
      | (st, .inr c) => ((st.upLk k fun l => { l with d2s := some a.idx, s2d := some b.idx, poll := some c.idx, eph := [] }).onxSync, true)

/-- Whether Spinel holds its 16 closed batches, R486. -/
def relayFull (st : Strand) : Bool :=
  decide ((st.post.waits.filter fun w => match w with | .relay _ => true | .notice .. => false).length ≥ 16)

end Strand

namespace State

/-- The session of a link closes, R465, R467, R469, R487: jobs that wait on it end with 0x63. -/
def closeLink (s : State) (n : Fin 4) (k : Nat) (sendClose : Bool) : State :=
  let st := s.sd n
  let l := st.lk k
  let jobs := l.sends ++ l.receives
  let s := if l.st = .live then
      s.up n fun st =>
        let st := if sendClose then st.slSend k 0x3F [] else st
        ((st.upLk k fun l => { l with sends := [], receives := [] }).backOff s.now k (decide (s.now ≥ l.liveAt + 1000000000)))
    else s
  if l.st = .live then jobs.foldl (fun s j => s.fail n j 0x63) s else s

/-- After any answer waiting NOTICE and HOST_DATA frames go out while the counter lasts, and POLL again where MORE was set, R465, R468. -/
def afterAnswer (s : State) (n : Fin 4) (k : Nat) (more : Bool) : State :=
  let l := (s.sd n).lk k
  let frames : List (Nat × Bytes) := (l.notices.map fun m => (0x22, fit 24 m)) ++ l.sends.map fun j => (0x23, j.input)
  let poll := fun (st : Strand) => if more then st.slPoll s.now k else st
  if l.txCtr + frames.length > 2 ^ 48 - 1 then s.up n poll
  else
    let s := s.up n fun st => poll ((st.slSendAll k frames).upLk k fun l => { l with notices := [], sends := [] })
    l.sends.foldl (fun s j => s.succeed n j []) s

/-- Every job that waits on a link ends with a status. -/
def dropLinkJobs (s : State) (n : Fin 4) (k status : Nat) : State :=
  let l := (s.sd n).lk k
  let s := s.up n fun st => st.upLk k fun l => { l with receives := [], sends := [] }
  (l.receives ++ l.sends).foldl (fun s j => s.fail n j status) s

/-- A link behaves as OFF from now on, R451, R489: a session is closed with a CLOSE frame, and the jobs that wait on a PLAIN link end with
0x64. -/
def linkOff (s : State) (n : Fin 4) (k : Nat) : State :=
  let s := (s.closeLink n k true).dropLinkJobs n k 0x64
  s.up n fun st => (st.dropLinkKeys k).upLk k fun l => { l with st := .off, polled := none }

/-- A frame is discarded, counted, and treated as no reply, R466. -/
def badFrame (s : State) (n : Fin 4) (k : Nat) : State := s.up n fun st => st.bump R.SL_LINK_RX_BAD k

/-- A GCM frame is checked in the order of R466; an accepted one goes on to its work, and a failed tag has the effects of R467. A Topaz fault
on it is recorded, R498, and the frame is treated as no reply (log entry 147). -/
def onGcm (s : State) (n : Fin 4) (k ftype : Nat) (f : SFrame) (work : Bytes → State → State) : State :=
  let st := s.sd n
  let l := st.lk k
  match l.s2d.bind st.slot with
  | none => s
  | some c =>
    if st.linkMode k ≠ 2 then s
    else if !f.crcOk ∨ f.flags > 1 ∨ f.cipher.length > 1024 ∨ f.ctr ≤ l.rxCtr then s.badFrame n k
    else if !f.engineOk ∨ !bit c.attr.dest 0 then s.up n fun st => st.slErr (if f.engineOk then 2 else 1) k
    else
      let iv := st.slIv k 1 f.ctr
      match gcmOpen c.key iv (Strand.slHeader ftype f.flags f.cipher.length f.ctr) f.cipher f.auth with
      | some p =>
        let s := s.up n fun st => ((st.upLk k fun l => { l with rxCtr := f.ctr, polled := none, misses := 0 }).bump R.SL_LINK_RX_OK k).put
          R.SL_LINK_STAT_MISSES 0 k
        work p s
      | none =>
        let plain := xorBytes f.cipher ((List.range f.cipher.length).map (Config.gcmStream c.key iv))
        let s := s.up n fun st => (State.poison st s.now c.idx c.baseGen).put
          R.SL_LINK_STAT_DISTRUST 1 k
        let s := match (if ftype = 0x23 then l.receives else []) with
          | j :: rest => (s.up n fun st => st.upLk k fun l => { l with receives := rest }).succeed n j plain 0 1
          | [] => s
        if l.st = .live then s.closeLink n k false else s.up n fun st => (st.bump R.SL_HS_FAIL).backOff s.now k false

/-- A link job of the manager, R487. -/
def slJob (s : State) (n : Fin 4) (j : Job) (work : Nat → State → State) : State :=
  s.runJob n j fun s => if j.fn ≠ 0 then s.fail n j 0x41 else work (bits j.w6 0 6) s

/-- The checks of SL_SEND and SL_RECEIVE on their link, R487; a PLAIN link in FAILED is down (log entry 147). -/
def linkGate (s : State) (n : Fin 4) (j : Job) (k : Nat) (work : State → State) : State :=
  let st := s.sd n
  match st.linkMode k with
  | 0 => s.fail n j 0x64
  | 2 => if (st.lk k).st ≠ .live then s.fail n j 0x63 else work s
  | _ => if (st.lk k).st = .failed then s.fail n j 0x63 else work s

/-- A payload for the host goes to the waiting SL_RECEIVE, or waits for one (log entry 20). -/
def hostData (s : State) (n : Fin 4) (k : Nat) (p : Bytes) : State :=
  match ((s.sd n).lk k).receives with
  | j :: rest =>
    if j.seg0.outLen < p.length then
      ((s.up n fun st => st.upLk k fun l => { l with receives := rest, plain := l.plain ++ [p] }).fail n j 0x41)
    else (s.up n fun st => st.upLk k fun l => { l with receives := rest }).succeed n j p
  | [] => s.up n fun st => st.upLk k fun l => { l with plain := l.plain ++ [p] }

end State

/-! ### PLAIN links -/

/-- The record in the characters received, by the delimiter rule, R453. -/
def plainRecord (st : Strand) (k : Nat) (chars : Bytes) : Option Bytes :=
  let b := if st.flag R.SL_LINK_CFG_DATA8 k then chars else chars.map (· &&& 0x7F)
  match st.get R.SL_LINK_FMT_DELIM k with
  | 0 => if b.length = st.get R.SL_LINK_FMT_FIX_LEN k then some b else none
  | 1 =>
    let stop := BitVec.ofNat 8 (st.get R.SL_LINK_FMT_END_BYTE k)
    if b.getLast? = some stop ∧ ¬ b.dropLast.contains stop then some b.dropLast else none
  | 2 =>
    let n := beNat (sub b 0 2)
    if b.length ≥ 2 ∧ 1 ≤ n ∧ n ≤ 4095 ∧ b.length = 2 + n then some (b.drop 2) else none
  | _ => some b

/-- PLAIN_RECORD_RECEIVED, R453, R455, R486. -/
def execPlainRecordReceived (n : Fin 4) (k : Nat) (chars : Bytes) (s : State) : Host.Outcome State Fault Refusal :=
  let st := s.sd n
  if st.linkMode k ≠ 1 ∨ (st.lk k).st = .failed then .next s
  else match plainRecord st k chars with
    | none => .next s
    | some r =>
      let fmt := st.get R.SL_LINK_CFG_FORMAT k
      if fmt = 0 then .next ((s.up n fun st => st.bump R.SL_LINK_RX_OK k).hostData n k r)
      else if st.relayFull then
        let st := st.bump R.SL_LINK_RX_BAD k
        .next (s.setSd n (if st.flag R.SL_LINK_CFG_ACKNAK k then (st.emit (.station k) 0 [0x18]).bump R.SL_LINK_TX_OK k else st))
      else
        let rec' : RawRec := { link := some k, fmt, batchNo := 0, data := r, fault := 0, last := false }
        .next (s.up n fun st => { st.bump R.SL_LINK_RX_OK k with fab := { st.fab with raw := st.fab.raw ++ [rec'] } })

/-- PLAIN_LINE_ERROR, R454: the record in progress is discarded and counted. -/
def execPlainLineError (n : Fin 4) (k : Nat) (s : State) : Host.Outcome State Fault Refusal :=
  .next (if (s.sd n).linkMode k ≠ 1 ∨ ((s.sd n).lk k).st = .failed then s else s.badFrame n k)

/-! ### The handshake -/

/-- Whether the 50 ms for the answer to HELLO or FINISH have passed, R461. -/
def Strand.hsLate (st : Strand) (t k : Nat) : Bool := decide (t > (st.lk k).hsAt + 50000000)

/-- The handshake fails for want of an answer: cause 2 where what came could not be read, else 1, R461, R497. -/
def Strand.hsTimeout (st : Strand) (k : Nat) : Strand :=
  let l := st.lk k
  st.hsFail (l.hsAt + 50000000) k (if l.bad then 2 else 1)

/-- LINK_HANDSHAKE_START, R461, R469: a DOWN link, or one whose back-off has elapsed. -/
def execLinkHandshakeStart (n : Fin 4) (k : Nat) (s : State) : Host.Outcome State Fault Refusal :=
  let st := s.sd n
  let l := st.lk k
  if st.linkMode k ≠ 2 then .next s
  else if l.st = .off then
    .next (s.up n fun st => (st.upLk k fun l => { l with b := 10000000 }).startHandshake s.now k s.ring.ident.deviceId)
  else if l.st = .backoff ∧ s.now ≥ l.backAt then
    .next (s.up n fun st => (st.upLk k fun l => { l with b := l.bNext }).startHandshake s.now k s.ring.ident.deviceId)
  else .next s

/-- SL_CERT_FRAME, R461 to R463: checked, the keys derived, FINISH sent. `env` is what befalls the signing key's release. -/
def execSlCertFrame (n : Fin 4) (k : Nat) (crcOk : Bool) (p : Bytes) (env : JobEnv) (s : State) : Host.Outcome State Fault Refusal :=
  let st := s.sd n
  let l := st.lk k
  if st.linkMode k ≠ 2 ∨ l.st ≠ .handshake ∨ l.finishSent then .next s
  else if st.hsLate s.now k then .next (s.setSd n (st.hsTimeout k))
  else if !crcOk ∨ p.length ≠ 304 then .next (s.up n fun st => (st.bump R.SL_LINK_RX_BAD k).upLk k fun l => { l with bad := true })
  else match st.certRefusal s.now k p with
    | 0 =>
      let t1 := bvBytes (Config.sha256 (l.hello ++ sub p 0 240))
      let t2 := bvBytes (Config.sha256 (t1 ++ sub p 240 64))
      match st.release s.now env 0xFF 0 (st.get R.SL_IDENT_CTX_CTX) (2 ^ 4) 1 true with
      | (st, .inl _) => .next (s.setSd n (st.hsFail s.now k 7))
      | (st, .inr c) =>
        if c.attr.alg ≠ 0x20 ∨ ¬ env.endOk then .next (s.setSd n (st.hsFail s.now k 7))
        else
          let (nonce, st) := st.draw
          let sig := (List.range 64).map (Config.signByte 0x20 c.key t2 nonce)
          let secret := (List.range 32).map (Config.agreeByte 0x20 l.eph (sub p 160 64))
          match st.linkKeys s.now env k secret t2 with
          | (st, false) => .next (s.setSd n ((st.slErr 2 k).hsFail s.now k 7))
          | (st, true) =>
            let st := (st.slClear k 0x03 sig).bump R.SL_LINK_RX_OK k
            .next (s.setSd n (st.upLk k fun l =>
              { l with finishSent := true, hsAt := s.now, stationId := le p 8 8, notAfter := le p 0x18 8 }))
    | r => .next (s.setSd n (st.hsFail s.now k r))

/-- SL_READY_FRAME, R461, R469: the session is LIVE. -/
def execSlReadyFrame (n : Fin 4) (k : Nat) (f : SFrame) (s : State) : Host.Outcome State Fault Refusal :=
  let l := (s.sd n).lk k
  if l.st ≠ .handshake ∨ ¬ l.finishSent then .next s
  else if (s.sd n).hsLate s.now k then .next (s.up n fun st => st.hsTimeout k)
  else .next (s.onGcm n k 0x10 f fun _ s => s.up n fun st =>
    ((st.upLk k fun l => { l with st := .live, liveAt := s.now, nextPoll := s.now + 100000 * st.get R.SL_LINK_TIME_POLL_PERIOD k }).bump
      R.SL_HS_COUNT))

/-! ### Station frames -/

/-- A frame of a LIVE session. -/
def State.onLive (s : State) (n : Fin 4) (k ftype : Nat) (f : SFrame) (work : Bytes → State → State) : State :=
  if ((s.sd n).lk k).st ≠ .live then s else s.onGcm n k ftype f work

/-- Whether an APPROVAL payload keeps the table of R470 and the currency rule of R84. -/
def approvalOk (p : Bytes) : Bool :=
  let lim := Lrf.nibbles (sub p 0x18 16)
  let fmt := le p 0x13 1
  let pl := le p 0x38 1
  let pan := Lrf.nibbles (sub p 0x39 10)
  decide (p.length = 104) && Lrf.ccyOk (sub p 0x10 3) && (fmt == 0 || fmt == 4) && decide (le p 0x14 1 ≥ 1) && allZero p 0x15 1
    && decide (le p 0x16 2 ≥ 1) && (lim.take 31).all (· ≤ 9) && lim.getLastD 0 == 0xC && (fmt != 0 || allZero p 0x30 8)
    && decide (12 ≤ pl) && decide (pl ≤ 19) && (pan.take pl).all (· ≤ 9) && (pan.drop pl).all (· == 0xF) && allZero p 0x43 5

/-- Whether PIN translation between two formats is permitted, and the key type a format needs, R109. -/
def pinPair (st : Strand) (src dst alg1 alg2 : Nat) : Bool := pinAllowed st src dst && pinKeyOk src alg1 && pinKeyOk dst alg2

/-- The PIN block of an approval under the verification key, R109, with the SL_ERR code of a failure. -/
def approvalPin (st : Strand) (t k : Nat) (p : Bytes) (env : JobEnv) : Strand × (Nat ⊕ Bytes) :=
  let fmt := le p 0x13 1
  match st.binding k with
  | none => (st, .inl 4)
  | some b =>
    if (st.ctxFor 0xFF 0 b.pinCtx).isNone ∨ (st.ctxFor 0xFF 0 b.verifyCtx).isNone then (st, .inl 4)
    else match st.release t env 0xFF 0 b.pinCtx (2 ^ 9) 0 true with
      | (st, .inl e) => (st, .inl (if e = 0x7F then 1 else 0))
      | (st, .inr c1) =>
        match st.release t env 0xFF 0 b.verifyCtx (2 ^ 9) 0 true with
        | (st, .inl e) => (st, .inl (if e = 0x7F then 1 else 0))
        | (st, .inr c2) =>
          let dst := if isTdea c2.attr.alg then 0 else 4
          if !pinPair st fmt dst c1.attr.alg c2.attr.alg then (st, .inl 0)
          else match pinTranslate fmt dst c1.key c2.key (sub p 0x28 (pinLen fmt)) (sub p 0x38 11) with
            | some m => (st, .inr (fit 16 m))
            | none => (st, .inl 0)

/-- The verifier's notice, R110: AUTH_REF, STATION, CARD_DATA and the translated PIN block (log entry 21). -/
def noticeBytes (ref : Bytes) (station : Nat) (card pin : Bytes) : Bytes := ref ++ toLE 2 station ++ zeros 6 ++ card ++ pin

/-- An approval is refused: the outcome goes to the station, and PST_STATUS shows a full table or a refused PIN block. -/
def refuseApproval (st : Strand) (k outcome : Nat) (ref : Bytes) : Strand :=
  let st := if outcome = 1 then st.put R.PST_STATUS_APPROVAL_FULL 1 else if outcome = 3 then st.put R.PST_STATUS_APPROVAL_PIN 1 else st
  st.noticeKind1 (st.linkNo k) outcome ref

/-- SL_APPROVAL_FRAME, R106, R109, R110, R470, R471. -/
def execSlApprovalFrame (n : Fin 4) (k : Nat) (f : SFrame) (env : JobEnv) (s : State) : Host.Outcome State Fault Refusal :=
  .next (s.onLive n k 0x20 f fun p s =>
    let st := s.sd n
    let ref := sub p 0 16
    let done := fun (s : State) => s.afterAnswer n k (bit f.flags 0)
    if ¬ st.flag R.PST_RELAY_CQ_VALID ∨ !approvalOk p then done (s.setSd n (refuseApproval st k 4 ref))
    else if st.post.approvals.length ≥ 16384 then done (s.setSd n (refuseApproval st k 1 ref))
    else if st.post.approvals.any fun a => a.ref == ref && !a.removed then done (s.setSd n (refuseApproval st k 2 ref))
    else match approvalPin st s.now k p env with
      | (st, .inl e) =>
        let st := if e = 0 then st else st.slErr e k
        done (s.setSd n (refuseApproval st k 3 ref))
      | (st, .inr pin) =>
        let life := min (le p 0x16 2) (st.get R.PST_CFG_APPROVAL_LIFE)
        let sta := st.linkNo k
        let a : Approval := { num := st.post.nextApproval, ref := ref, station := sta, ccy := sub p 0x10 3, limit := Lrf.digits ((Lrf.nibbles (sub p 0x18 16)).take 31)
                              uses := le p 0x14 1, expiry := st.deviceTime s.now + 1000000 * life
                              notice := some (noticeBytes ref sta (sub p 0x48 32) pin) }
        let st := st.upPost fun q => { q with approvals := q.approvals ++ [a], nextApproval := q.nextApproval + 1, waits := q.waits ++ [.notice ref sta] }
        done ((s.setSd n (st.noticeKind1 sta 0 ref)).notify n))

/-- The records of a RECORD payload, R472: each an equal part of what follows the head; a head outside the limits of R472 makes one record
that cannot be converted (log entry 22). -/
def stationRecords (k : Nat) (p : Bytes) : List RawRec :=
  let no := le p 0 4
  let cnt := le p 4 2
  let last := bit (le p 6 1) 0
  if p.length < 8 ∨ cnt = 0 ∨ cnt > 255 then [{ link := some k, fmt := le p 7 1, batchNo := no, data := p, fault := 0x62, last }]
  else
    let each := (p.length - 8) / cnt
    (List.range cnt).map fun i =>
      { link := some k, fmt := le p 7 1, batchNo := no, data := sub p (8 + each * i) each, fault := 0, last := last && i + 1 == cnt }

/-- SL_RECORD_FRAME, R472, R486: the records go to Spinel, or KIND 3 answers for want of room. -/
def execSlRecordFrame (n : Fin 4) (k : Nat) (f : SFrame) (s : State) : Host.Outcome State Fault Refusal :=
  .next (s.onLive n k 0x21 f fun p s =>
    let s :=
      if (s.sd n).relayFull then
        s.up n fun st => st.upLk k fun l => { l with notices := l.notices ++ [[3] ++ zeros 6 ++ toLE 4 (le p 0 4) ++ zeros 13] }
      else s.up n fun st => { st with fab := { st.fab with raw := st.fab.raw ++ stationRecords k p } }
    s.afterAnswer n k (bit f.flags 0))

/-- SL_HOST_DATA_FRAME, R458, R467, R487. -/
def execSlHostDataFrame (n : Fin 4) (k : Nat) (f : SFrame) (s : State) : Host.Outcome State Fault Refusal :=
  .next (s.onLive n k 0x23 f fun p s => (s.hostData n k p).afterAnswer n k (bit f.flags 0))

/-- SL_EMPTY_FRAME, R464, R466: the truncated CMAC under the poll key. -/
def execSlEmptyFrame (n : Fin 4) (k : Nat) (f : SFrame) (s : State) : Host.Outcome State Fault Refusal :=
  let st := s.sd n
  let l := st.lk k
  match l.poll.bind st.slot with
  | none => .next s
  | some c =>
    if st.linkMode k ≠ 2 ∨ l.st ≠ .live then .next s
    else if !f.crcOk ∨ f.flags > 1 ∨ f.cipher ≠ [] ∨ f.ctr ≤ l.rxCtr
        ∨ sub (bvBytes (Config.aesCmac c.key (Strand.slHeader 0x31 f.flags 0 f.ctr))) 0 8 ≠ f.auth then .next (s.badFrame n k)
    else
      let st := (st.upLk k fun l => { l with rxCtr := f.ctr, polled := none, misses := 0 }).bump R.SL_LINK_RX_OK k
      .next ((s.setSd n (st.put R.SL_LINK_STAT_MISSES 0 k)).afterAnswer n k (bit f.flags 0))

/-- SL_CLOSE_FRAME, R469. -/
def execSlCloseFrame (n : Fin 4) (k : Nat) (f : SFrame) (s : State) : Host.Outcome State Fault Refusal :=
  .next (s.onLive n k 0x3F f fun _ s => s.closeLink n k false)

/-! ### Timers and faults -/

/-- SL_POLL_DUE, R468. -/
def execSlPollDue (n : Fin 4) (k : Nat) (s : State) : Host.Outcome State Fault Refusal :=
  let st := s.sd n
  let l := st.lk k
  if st.linkMode k ≠ 2 ∨ l.st ≠ .live ∨ l.polled.isSome then .next s
  else
    let s := s.upTo l.nextPoll
    .next (s.up n fun st => st.slPoll s.now k)

/-- SL_POLL_MISS, R468: MISS_LIMIT consecutive misses close the session, without a CLOSE frame (log entry 147). -/
def execSlPollMiss (n : Fin 4) (k : Nat) (s : State) : Host.Outcome State Fault Refusal :=
  let st := s.sd n
  let l := st.lk k
  match l.polled with
  | none => .next s
  | some t =>
    if st.linkMode k ≠ 2 ∨ l.st ≠ .live then .next s
    else
      let s := s.upTo t
      let m := l.misses + 1
      let s := s.up n fun st => (st.upLk k fun l => { l with polled := none, misses := m }).put R.SL_LINK_STAT_MISSES (min m 255) k
      .next (if m ≥ st.get R.SL_LINK_TIME_MISS_LIMIT k then s.closeLink n k false else s)

/-- SL_HANDSHAKE_TIMEOUT, R461: 50 ms without an answer to HELLO or FINISH. -/
def execSlHandshakeTimeout (n : Fin 4) (k : Nat) (s : State) : Host.Outcome State Fault Refusal :=
  let st := s.sd n
  let l := st.lk k
  if st.linkMode k ≠ 2 ∨ l.st ≠ .handshake then .next s
  else
    let s := s.upTo (l.hsAt + 50000000)
    .next (s.up n fun st => st.hsTimeout k)

/-- SL_BACKOFF_ELAPSED, R469. -/
def execSlBackoffElapsed (n : Fin 4) (k : Nat) (s : State) : Host.Outcome State Fault Refusal :=
  let st := s.sd n
  let l := st.lk k
  if st.linkMode k ≠ 2 ∨ l.st ≠ .backoff then .next s
  else
    let s := s.upTo l.backAt
    .next (s.up n fun st => (st.upLk k fun l => { l with b := l.bNext }).startHandshake s.now k s.ring.ident.deviceId)

/-- SL_SESSION_LIFE_EXPIRED, R465: SESSION_LIFE, or a counter at its limit. -/
def execSlSessionLifeExpired (n : Fin 4) (k : Nat) (s : State) : Host.Outcome State Fault Refusal :=
  let st := s.sd n
  let l := st.lk k
  if st.linkMode k ≠ 2 ∨ l.st ≠ .live then .next s
  else if l.txCtr ≥ 2 ^ 48 - 65536 ∨ l.rxCtr ≥ 2 ^ 48 - 65536 then .next (s.closeLink n k true)
  else .next ((s.upTo (l.liveAt + 60000000000 * st.get R.SL_CTL_SESSION_LIFE)).closeLink n k true)

/-- SL_TRANSCEIVER_FAULT, R469. -/
def execSlTransceiverFault (n : Fin 4) (k : Nat) (s : State) : Host.Outcome State Fault Refusal :=
  let st := s.sd n
  let l := st.lk k
  let faulty := st.linkMode k = 1 ∨ (st.linkMode k = 2 ∧ (l.st = .live ∨ l.st = .backoff))
  if ¬ faulty ∨ l.st = .failed then .next s
  else .next (((s.closeLink n k false).dropLinkJobs n k 0x63).up n fun st =>
    ((st.slErr 3 k).dropLinkKeys k).upLk k fun l => { l with st := .failed, polled := none })

/-! ### The opcodes and the link registers -/

/-- SL_SEND, R487: on a SEALED link the data go out after an answer; the job ends when the last bit is sent. -/
def execSlSend (n : Fin 4) (j : Job) (s : State) : Host.Outcome State Fault Refusal :=
  .next (s.slJob n j fun k s => s.linkGate n j k fun s =>
    let st := s.sd n
    let len := j.input.length
    if st.linkMode k = 2 then
      if len < 1 ∨ len > 1024 then s.fail n j 0x41
      else s.up n fun st => (st.upLk k fun l => { l with sends := l.sends ++ [j] }).hold j
    else if len < 1 ∨ len > 4095 then s.fail n j 0x41
    else (s.up n fun st => (st.emit (.station k) 0 j.input).add R.SL_LINK_TX_OK len k).succeed n j [])

/-- SL_RECEIVE, R487. -/
def execSlReceive (n : Fin 4) (j : Job) (s : State) : Host.Outcome State Fault Refusal :=
  .next (s.slJob n j fun k s => s.room n j 1024 fun s => s.linkGate n j k fun s =>
    match ((s.sd n).lk k).plain with
    | p :: rest =>
      if j.seg0.outLen < p.length then s.fail n j 0x41
      else (s.up n fun st => st.upLk k fun l => { l with plain := rest }).succeed n j p
    | [] => s.up n fun st => (st.upLk k fun l => { l with receives := l.receives ++ [j] }).hold j)

/-- SL_CLOSE, R487. -/
def execSlClose (n : Fin 4) (j : Job) (s : State) : Host.Outcome State Fault Refusal :=
  .next (s.slJob n j fun k s => (s.closeLink n k true).succeed n j [])

/-- SL_QUERY, R487. -/
def execSlQuery (n : Fin 4) (j : Job) (s : State) : Host.Outcome State Fault Refusal :=
  .next (s.slJob n j fun k s => s.room n j 32 fun s =>
    let st := s.sd n
    let l := st.lk k
    s.succeed n j (toLE 1 (st.linkState k) ++ toLE 1 (st.get R.SL_LINK_STAT_HS_CAUSE k) ++ zeros 6 ++ toLE 8 l.stationId
      ++ toLE 8 l.notAfter ++ toLE 6 l.txCtr ++ zeros 2))

/-- SL_LINK_ENABLE_WRITE, R451, R469, R496: 0 takes the link OFF and clears FAILED; 1 takes it to PLAIN or DOWN. -/
def execSlLinkEnableWrite (n : Fin 4) (k v : Nat) (s : State) : Host.Outcome State Fault Refusal :=
  if k ≥ 64 then .next s
  else if bit v 0 then
    if (s.sd n).flag R.SL_LINK_CTL_ENABLE k then .next s
    else .next (s.up n fun st => (st.put R.SL_LINK_CTL_ENABLE 1 k).upLk k fun l => { l with st := .off, b := 10000000 })
  else .next ((s.linkOff n k).up n fun st => st.put R.SL_LINK_CTL_ENABLE 0 k)

/-- SL_LINK_CLOSE_WRITE, R496. -/
def execSlLinkCloseWrite (n : Fin 4) (k : Nat) (s : State) : Host.Outcome State Fault Refusal :=
  .next (if k ≥ 64 then s else s.closeLink n k true)

end Sys2Proof.Machine
end

