-- ==== Sys2Proof/Machine/Fabric.lean ====
section
/-! DEFINITION. The record port, the Opal queue and Spinel, R474 to R486: transfers, records, conversion and relayed batches. -/

namespace Sys2Proof.Machine
open Sys2Proof

namespace Strand

/-- Change the fabric. -/
def upFab (st : Strand) (f : Fabric → Fabric) : Strand := { st with fab := f st.fab }

/-- The watermarks as they act, R502. -/
def marks (st : Strand) : Nat × Nat :=
  let hi := st.get R.OPL_WM_HIGH
  let lo := st.get R.OPL_WM_LOW
  if lo ≥ hi ∨ hi > 8191 then (6144, 2048) else (hi, lo)

/-- Whether RPn_HOLD is held high whatever the level, R477, R486, R499. -/
def holdForced (st : Strand) : Bool :=
  !st.flag R.RP_CTL_ENABLE || !(st.mode == 2 || st.mode == 3) || st.halted || st.get R.RP_CFG_FORMAT == 0 || st.relayFull

/-- The level, HOLD and the status bits follow the queue, R477, R501. -/
def oplSync (st : Strand) : Strand :=
  let (hi, lo) := st.marks
  let level := st.fab.queue.length
  let h := if level ≥ hi then true else if level ≤ lo then false else st.fab.hold
  let st := st.upFab fun f => { f with hold := h }
  let st := (st.put R.OPL_LEVEL level).put R.RP_STATUS_HOLD (b2n (h || st.holdForced))
  let st := (st.put R.RP_STATUS_RECORD_OPEN (b2n st.fab.recOpen)).put R.RP_STATUS_GAP_OPEN (b2n (decide (level = 8192)))
  st.put R.RP_STATUS_HELD_FULL (b2n st.relayFull)

/-- A slot goes into the queue, or its transfers are lost to the GAP marker in the reserve slot, R476, R478. -/
def storeSlot (st : Strand) (x : OSlot) : Strand :=
  let q := st.fab.queue
  let lost := if x.half then 1 else 2
  if q.length < 8191 then st.upFab fun f => { f with queue := q ++ [x] }
  else if q.length = 8191 then
    let m : OSlot := { data := lost, sor := false, half := false, perr := false, gap := true }
    ((st.upFab fun f => { f with queue := q ++ [m] }).bump R.OPL_GAPS).add R.OPL_LOST lost
  else
    let more : OSlot → OSlot := fun m => { m with data := min (m.data + lost) 0xFFFFFFFF }
    (st.upFab fun f => { f with queue := q.dropLast ++ (q.getLast?.map more).toList }).add R.OPL_LOST lost

/-- A low half left waiting is stored with HALF set, R476. -/
def flushHalf (st : Strand) : Strand :=
  match st.fab.lowHalf with
  | some x => (st.upFab fun f => { f with lowHalf := none }).storeSlot { x with half := true }
  | none => st

/-- The format of an identifier, R484. -/
def fmtOf (st : Strand) (i : Nat) : Option Fmt := st.fab.fmts.find? (·.id == i)

/-- The SUBMITTER of a source, R485. -/
def relaySub (link : Option Nat) : Nat := if link.isNone then 4094 else 4095

/-- The next SUBMITTER_SEQ of a relay submitter, above the high-water mark, R485. -/
def relaySeq (st : Strand) (sub : Nat) : Nat × Strand :=
  let k := max (markOf st.fab.seqs sub) (markOf st.jnl.s.marks sub) + 1
  (k, st.upFab fun f => { f with seqs := raiseMark f.seqs sub k })

/-- The record as Spinel completes it, R485. -/
def relayRecord (st : Strand) (link : Option Nat) (isSealed : Bool) (idx seq : Nat) (r : Bytes) : Bytes :=
  let sta := match link with | some k => st.linkNo k | none => 0xFFFF
  let ref := if isSealed then sub r 0x50 16 else zeros 16
  fit 256 (sub r 0 4 ++ toLE 4 idx ++ sub r 8 0x38 ++ toLE 2 sta ++ sub r 0x42 6 ++ toLE 8 seq ++ ref ++ r.drop 0x60)

/-- The batch that a source is forming. -/
def formingOf (st : Strand) (link : Option Nat) (no : Nat) : Option Forming :=
  st.fab.forming.find? fun f => f.link == link && f.batchNo == no

/-- Replace the batch that a source is forming. -/
def setForming (st : Strand) (x : Forming) : Strand :=
  st.upFab fun f => { f with forming := f.forming.filter (fun y => !(y.link == x.link && y.batchNo == x.batchNo)) ++ [x] }

/-- Spinel takes one record of a source, R479, R480, R484: `lrf` is what the configuration's conversion gives, `fault` the
status of a record spoilt before it, `trailer` whether it is the format's own trailer record. -/
def takeRecord (st : Strand) (t : Nat) (link : Option Nat) (fmt no : Nat) (lrf : Option Bytes) (fault : Nat) (trailer last : Bool) : Strand :=
  let fm := st.fmtOf fmt
  let mode := match link with | some k => st.get R.SL_LINK_CFG_MODE k | none => 0
  let srcBit := if link.isNone then 0 else if mode = 1 then 1 else 2
  let named := fm.any fun f => bit f.sources srcBit
  let status := if fault ≠ 0 then fault else if !named ∨ lrf.isNone then 0x62 else 0
  let x := (st.formingOf link no).getD { link, fmt, batchNo := no, recs := [], count := 0, cause := none, lastAt := t }
  let close := (fm.map Fmt.close).getD 0
  let (x, st) :=
    if trailer ∧ status = 0 then (x, st)
    else if status ≠ 0 then ({ x with count := x.count + 1, cause := x.cause.orElse fun _ => some (x.count, status) }, st)
    else
      let (seq, st) := st.relaySeq (relaySub link)
      let r := st.relayRecord link (srcBit == 2) x.count seq (lrf.getD [])
      ({ x with recs := x.recs ++ [r], count := x.count + 1 }, st)
  let full := bit close 0 && decide (x.count ≥ max 1 ((fm.map Fmt.count).getD 1))
  let due := full || decide (x.count ≥ 4096) || (bit close 2 && trailer) || (bit close 3 && last && link.isSome)
  st.setForming { x with lastAt := t, closing := x.closing || (due && decide (x.count > 0)) }

/-- BATCH_ID of a relayed batch, R485. -/
def relayId (st : Strand) (link : Option Nat) (plain : Bool) (no : Nat) : Nat × Strand :=
  match link with
  | none =>
    let k := st.fab.running + 1
    (2 ^ 56 + st.id.val * 2 ^ 40 + k % 2 ^ 40, st.upFab fun f => { f with running := k })
  | some l =>
    if plain then
      let k := ((st.fab.plainRun.find? (·.1 == l)).map (·.2)).getD 0 + 1
      (2 * 2 ^ 56 + st.linkNo l * 2 ^ 40 + k % 2 ^ 40,
        st.upFab fun f => { f with plainRun := f.plainRun.filter (·.1 != l) ++ [(l, k)] })
    else (2 * 2 ^ 56 + st.linkNo l * 2 ^ 40 + no, st)

/-- Spinel closes a batch and forms its header, R92, R485; without a relay queue it is refused and counted, R125. -/
def closeForming (st : Strand) (t : Nat) (x : Forming) : Strand :=
  let st := st.upFab fun f => { f with forming := f.forming.filter fun y => !(y.link == x.link && y.batchNo == x.batchNo) }
  if ¬ st.flag R.PST_RELAY_CQ_VALID then st.bump R.PST_FAIL_OTHER
  else
    let plain := match x.link with | some k => st.get R.SL_LINK_CFG_MODE k == 1 | none => false
    let fm := st.fmtOf x.fmt
    let (bid, st) := st.relayId x.link plain x.batchNo
    let src := if x.link.isNone then 1 else 2
    let h := ascii "LBAT" ++ toLE 2 x.count ++ toLE 1 src ++ toLE 1 ((fm.map Fmt.authz).getD 0) ++ toLE 8 bid ++ toLE 2 (relaySub x.link)
      ++ zeros 2 ++ toLE 4 (st.get R.PST_RELAY_MAC_CTX) ++ zeros 4 ++ toLE 1 ((fm.map Fmt.pathMode).getD 0) ++ zeros 35
    let r : Relay := { source := src, link := x.link.getD 0, batchNo := x.batchNo, header := fit 64 h, recs := x.recs
                       cause := x.cause, closedAt := t, held := !(st.mode == 2 || st.mode == 3) }
    st.upPost fun p => { p with waits := p.waits ++ [.relay r] }

/-- Relayed batches that wait while the strand freezes or opens a ceremony are presented later, R489. -/
def holdRelays (st : Strand) : Strand :=
  let mark : Wait → Wait := fun w => match w with
    | .relay r => .relay { r with held := true }
    | w => w
  st.upPost fun p => { p with waits := p.waits.map mark }

/-- The slots of the next record at the head of the queue, R479: from its SOR slot up to the declared length, the next SOR,
a GAP marker or the end by EOR_IDLE; with the queue behind it and whether it met a GAP marker. -/
def nextRecord (len : Nat) : List OSlot → List OSlot × List OSlot × Bool
  | [] => ([], [], false)
  | x :: r =>
    let rec go : Nat → List OSlot → List OSlot × List OSlot × Bool
      | 0, q => ([], q, false)
      | _, [] => ([], [], false)
      | k + 1, y :: q =>
        if y.sor then ([], y :: q, false)
        else if y.gap then ([], q, true)
        else if y.eor then ([y], q, false)
        else let (a, b, g) := go k q; (y :: a, b, g)
    if x.eor then ([x], r, false)
    else let (a, b, g) := go (len - 1) r; (x :: a, b, g)

/-- Slots before the next SOR belong to no record, R479, those after a whole record too. -/
def dropOrphans : List OSlot → List OSlot × Nat
  | [] => ([], 0)
  | x :: r => if x.sor then (x :: r, 0) else let (q, n) := dropOrphans r; (q, n + (if x.gap then 0 else 1))

end Strand

/-! ### The commands -/

/-- RECORD_PORT_TRANSFER, R474, R476 to R478. -/
def execRecordPortTransfer (n : Fin 4) (data : Nat) (sor perr : Bool) (s : State) : Host.Outcome State Fault Refusal :=
  let st := s.sd n
  if st.halted ∨ ¬ (2 ≤ st.mode ∧ st.mode ≤ 5) ∨ ¬ st.flag R.RP_CTL_ENABLE ∨ st.get R.RP_CFG_FORMAT = 0 then .next s
  else
    let st := (st.bump R.RP_TRANSFERS).upFab fun f => { f with lastStb := s.now }
    let st := if perr then st.put R.RP_STATUS_PERR_SEEN 1 else st
    let d := data % 65536
    let st := if sor then (st.flushHalf).upFab fun f => { f with recOpen := true } else st
    let st := match st.fab.lowHalf with
      | none =>
        let x : OSlot := { data := d, sor, half := false, perr, gap := false }
        st.upFab fun f => { f with lowHalf := some x }
      | some x =>
        (st.upFab fun f => { f with lowHalf := none }).storeSlot { x with data := x.data + d * 65536, perr := x.perr || perr }
    .next (s.setSd n st.oplSync)

/-- EOR_IDLE_EXPIRED, R476, R479. -/
def execEorIdleExpired (n : Fin 4) (s : State) : Host.Outcome State Fault Refusal :=
  let st := s.sd n
  if ¬ st.fab.recOpen ∨ st.halted then .next s
  else
    let s := s.upTo (st.fab.lastStb + 100 * st.get R.RP_CFG_EOR_IDLE)
    let st := (s.sd n).flushHalf
    let last : OSlot → OSlot := fun x => { x with eor := !x.gap }
    let st := st.upFab fun f => { f with queue := f.queue.dropLast ++ (f.queue.getLast?.map last).toList, recOpen := false }
    .next (s.setSd n st.oplSync)

/-- SPINEL_RECORD_CONVERT, R479 to R481, R484 to R486. The operands are what the configuration and the memory give: for the
record port the declared length in slots, corrected slots, and 1 plus the place of an uncorrectable slot (0 none); the
conversion's result; whether the record is the format's trailer. -/
def execSpinelRecordConvert (n : Fin 4) (port : Bool) (len ce ue : Nat) (lrf : Option Bytes) (trailer : Bool) (s : State) :
    Host.Outcome State Fault Refusal :=
  let st := s.sd n
  if ¬ st.linkRuns ∨ st.fab.forming.any (fun f => f.closing) then .next s
  else if port then
    match Strand.dropOrphans st.fab.queue with
    | ([], k) =>
      let gap := st.fab.queue.any (·.gap)
      let st := (st.upFab fun f => { f with queue := [] }).add R.RP_ORPHAN k
      let st := if gap ∧ (st.formingOf none 0).isSome then st.takeRecord s.now none (st.get R.RP_CFG_FORMAT) 0 none 0x12 false false else st
      .next (s.setSd n st.oplSync)
    | (q, k) =>
      let (rec', rest, gap) := Strand.nextRecord (max 1 len) q
      let whole := decide (rec'.length ≥ max 1 len) || !rest.isEmpty || gap || rec'.any (·.eor)
      if ¬ whole then .next s
      else
        let bad := decide (ue > 0) && decide (ue ≤ rec'.length)
        let perr := rec'.any (·.perr)
        let fault := if bad then 0x65 else if perr then 0x61 else if gap then 0x12 else 0
        let st := ((st.upFab fun f => { f with queue := rest }).add R.RP_ORPHAN k).add R.OPL_CE (min ce rec'.length)
        let st := st.add R.RP_ORPHAN (if bad then rec'.length - ue else 0)
        let st := st.bumpIf bad R.OPL_UE
        let st := st.takeRecord s.now none (st.get R.RP_CFG_FORMAT) 0 lrf fault trailer false
        .next (s.setSd n st.oplSync)
  else match st.fab.raw with
    | [] => .next s
    | r :: rest =>
      let st := (st.upFab fun f => { f with raw := rest }).takeRecord s.now r.link r.fmt r.batchNo lrf r.fault trailer r.last
      .next (s.setSd n st)

/-- SPINEL_BATCH_CLOSE, R484, R485, R486: a batch whose closing condition is met, while fewer than 16 closed ones are held. -/
def execSpinelBatchClose (n : Fin 4) (s : State) : Host.Outcome State Fault Refusal :=
  let st := s.sd n
  match st.fab.forming.find? (·.closing) with
  | none => .next s
  | some x => if ¬ st.linkRuns ∨ st.relayFull then .next s else .next (s.setSd n (st.closeForming s.now x).oplSync)

/-- BATCH_IDLE_EXPIRED, R484: BATCH_IDLE without a further record of the source. -/
def execBatchIdleExpired (n : Fin 4) (link : Option Nat) (batchNo : Nat) (s : State) : Host.Outcome State Fault Refusal :=
  let st := s.sd n
  match st.formingOf link batchNo with
  | none => .next s
  | some x =>
    match st.fmtOf x.fmt with
    | none => .next s
    | some f =>
      if ¬ bit f.close 1 ∨ x.count = 0 ∨ ¬ st.linkRuns ∨ st.relayFull then .next s
      else
        let s := s.upTo (x.lastAt + 100000 * f.idle)
        .next (s.up n fun st => (st.closeForming s.now x).oplSync)

/-- The first relayed batch that waits. -/
def firstRelay : List Wait → Option (Relay × List Wait)
  | [] => none
  | .relay r :: l => some (r, l)
  | w :: l => (firstRelay l).map fun (r, k) => (r, w :: k)

/-- RELAY_BATCH_PRESENT, R110, R486, R489: a closed batch takes a buffer and goes to intake while the strand is serving; a
buffer too short for its result ends with 0x41, and the batch keeps its place. -/
def execRelayBatchPresent (n : Fin 4) (s : State) : Host.Outcome State Fault Refusal :=
  let st := s.sd n
  match firstRelay st.post.waits, st.post.buffers with
  | some (r, rest), b :: bufs =>
    if st.halted ∨ ¬ (st.mode = 2 ∨ st.mode = 3) then .next s
    else
      let alg := st.get R.PST_CTL_SEAL_ALG
      let k := Hdr.count r.header
      let need := if r.cause.isSome then 0 else receiptLen k (min 64 k) (Hdr.pathMode r.header) (Hdr.pathIndex r.header) alg
      if b.seg0.outLen < need then
        .next ((s.up n fun st => st.upPost fun p => { p with buffers := bufs }).fail n b 0x41)
      else
        let (s, b) := s.ontoRelay n b
        let at' := if r.held then s.now else r.closedAt
        let seg : Seg := { b.seg0 with data := r.header ++ r.recs.flatten }
        let j := { b with segs := [seg], specOk := true, origin := at', lastInput := at' }
        let item : Job × Option Relay := (j, some r)
        .next ((s.up n fun st => (st.upPost fun p =>
          { p with waits := rest, buffers := bufs, waiting := p.waiting ++ [item] }).oplSync).notify n)
  | _, _ => .next s

end Sys2Proof.Machine
end

