-- ==== Sys2Proof/Machine/GarnetCore.lean ====
section
/-! DEFINITION. The state of the Garnet cores, R395 to R399: registers, STATUS, work SRAM, cycle count; taking an exception,
an interrupt or the NMI, R409 to R411; ERET; checkstop, R412; the start of a core through vector 0, R420. -/

namespace Sys2Proof.Machine
open Sys2Proof

namespace Core

/-- A general register of a bank; g0 reads zero, R395. -/
def reg (c : Core) (k : Fin 4) (r : Fin 32) : Word := if r = 0 then 0 else c.banks[k][r]

/-- Write a general register of a bank; writes to g0 are discarded. The write leaves its parity right. -/
def setReg (c : Core) (k : Fin 4) (r : Fin 32) (w : Word) : Core :=
  if r = 0 then c else { c with banks := c.banks.set k (c.banks[k].set r w), upsets := c.upsets.filter (· != .reg k r) }

/-- A register of the current bank. -/
def g (c : Core) (r : Fin 32) : Word := c.reg c.bank r

/-- Write a register of the current bank. -/
def setG (c : Core) (r : Fin 32) (w : Word) : Core := c.setReg c.bank r w

/-- The STATUS word, R398. -/
def status (c : Core) : Word :=
  BitVec.ofNat 32 (c.bank.val + 4 * (c.priv % 4) + 16 * b2n c.ie + 32 * b2n c.nmiPend)

/-- STATUS taken from a saved word by ERET: bank, privilege and IE; a pending NMI stays due. -/
def setStatus (c : Core) (w : Word) : Core :=
  { c with bank := ⟨w.toNat % 4, Nat.mod_lt _ (by decide)⟩, priv := w.toNat / 4 % 4, ie := bit w.toNat 4 }

/-- Whether a register's parity is wrong, R413. -/
def parityBad (c : Core) (k : Fin 4) (r : Fin 32) : Bool := r != 0 && c.upsets.contains (.reg k r)

/-- The error in a line that a cache holds. -/
def lineError (c : Core) (data : Bool) (l : Nat) : Option Bool :=
  if !(if data then c.dlines else c.ilines).contains l then none
  else if c.upsets.contains (.line data l true) then some true
  else if c.upsets.contains (.line data l false) then some false
  else none

/-- A cache line without error. -/
def cleanLine (c : Core) (data : Bool) (l : Nat) : Core :=
  { c with upsets := c.upsets.filter fun u => u != .line data l true && u != .line data l false }

/-- A line leaves a cache. -/
def dropLine (c : Core) (data : Bool) (l : Nat) : Core :=
  if data then { c with dlines := c.dlines.filter (· != l) } else { c with ilines := c.ilines.filter (· != l) }

/-- A line enters a cache, whole. -/
def fillLine (c : Core) (data : Bool) (l : Nat) : Core :=
  let c := c.cleanLine data l
  if data then { c with dlines := if c.dlines.contains l then c.dlines else c.dlines ++ [l] }
  else { c with ilines := if c.ilines.contains l then c.ilines else c.ilines ++ [l] }

/-- What strikes a core joins the errors that wait in it (log entry 145). -/
def struck (c : Core) (u : Option (Nat × Nat × Bool)) : List Upset :=
  match u with
  | none => c.upsets
  | some (0, l, hard) => c.upsets ++ [.line false l hard]
  | some (1, l, hard) => c.upsets ++ [.line true l hard]
  | some (_, r, _) =>
    c.upsets ++ [.reg ⟨r / 32 % 4, Nat.mod_lt _ (by decide)⟩ ⟨r % 32, Nat.mod_lt _ (by decide)⟩]

/-- The pc past the present instruction. -/
def next (c : Core) : Core := { c with pc := c.pc + 4 }

end Core

namespace Strand

/-- A logical core. -/
def core (st : Strand) (c : Fin 4) : Core := st.cores[c]

/-- Replace a logical core. -/
def setCore (st : Strand) (c : Fin 4) (x : Core) : Strand := { st with cores := st.cores.set c x }

/-- The physical core that serves a logical number, 7 for none. -/
def phys (st : Strand) (c : Nat) : Nat := st.get R.GAR_MAP_MAP / 2 ^ (4 * c) % 8

/-- Map a logical number to a physical core. -/
def setPhys (st : Strand) (c p : Nat) : Strand :=
  let m := st.get R.GAR_MAP_MAP
  st.put R.GAR_MAP_MAP (m - m / 2 ^ (4 * c) % 16 * 2 ^ (4 * c) + p * 2 ^ (4 * c))

/-- Whether an address lies in work SRAM, R431. -/
def inSram (a : Nat) : Bool := decide (a < 0x80000) || (decide (0x400000 ≤ a) && decide (a < 0x480000))

/-- Bytes of work SRAM; none where the range leaves it or holds a word that cannot be corrected, R437. -/
def sramRead (st : Strand) (a len : Nat) : Option Bytes :=
  if (List.range len).all fun k => inSram (a + k) && !st.sramBad.contains ((a + k) / 8) then some (Mem.readBytes st.sram a len)
  else none

/-- A read of work SRAM through a core's cache, R414 to R416: 0 with the strand after it, or the detail of vector 3. A line held without
error answers; an error that can be corrected is counted, and the line is whole again; one that cannot drops the line, and the access is
repeated from memory. `keep` says whether the line may be held. -/
def cacheRead (st : Strand) (c : Fin 4) (data keep : Bool) (a size : Nat) : Strand × Nat :=
  let x := st.core c
  let l := a / 32
  let whole := (st.sramRead a size).isSome
  let ce := if data then R.GAR_CE_DC else R.GAR_CE_IC
  let fill := if keep then x.fillLine data l else x
  match x.lineError data l with
  | some false => ((st.setCore c (x.cleanLine data l)).bump ce (st.phys c.val), 0)
  | some true => if whole then (st.setCore c fill, 0) else (st.setCore c (x.dropLine data l), 1)
  | none =>
    if (if data then x.dlines else x.ilines).contains l then (st, 0)
    else if whole then (st.setCore c fill, 0)
    else (st, 2)

/-- Store bytes into work SRAM; a bad word is whole again once it is rewritten, R628; other cores' data lines fall, R415. -/
def sramWrite (st : Strand) (a : Nat) (b : Bytes) : Strand :=
  let hit := fun (w : Nat) => decide (a / 8 ≤ w) && decide (w ≤ (a + b.length - 1) / 8)
  { st with sram := Mem.writeBytes st.sram a b, sramBad := st.sramBad.filter fun w => !hit w
            cores := st.cores.map fun (c : Core) => { c with dlines := c.dlines.filter fun l =>
              !(decide (a / 32 ≤ l) && decide (l ≤ (a + b.length - 1) / 32)) } }

/-- The running frequency of the core clock in MHz, R589, R611, R626: 1,200 less 5 % a step, halved while throttled. -/
def coreMhz (st : Strand) (c : Nat) : Nat :=
  let p := st.phys c
  let f := 1200 - 60 * (if p < 5 then st.get R.ISL_AGE_STEP p else 0)
  if st.flag R.JSP_STATUS_THROTTLED then f / 2 else f

/-- The cycles of a core at a moment, R397. -/
def cycles (st : Strand) (t : Nat) (c : Fin 4) : Nat :=
  let x := st.core c
  (x.cycBase + (t - x.cycAt) * st.coreMhz c.val / 1000) % 2 ^ 64

/-- Fix every core's count, and the work done of every running job, at a moment, before clocks change, R589. -/
def rebaseCycles (st : Strand) (t : Nat) : Strand :=
  let top : TopRun → TopRun := fun r => { r with mark := max r.since t, done := runDone r.since r.mark r.done (st.isleMhz (12 + r.lane)) t }
  let jad : JadRun → JadRun := fun r => { r with mark := max r.since t, done := runDone r.since r.mark r.done (st.isleMhz 15) t }
  let ber : BerRun → BerRun := fun r => { r with mark := max r.since t, done := runDone r.since r.mark r.done (st.isleMhz (7 + r.eng)) t }
  let eng := { st.eng with topRuns := st.eng.topRuns.map top, jadRuns := st.eng.jadRuns.map jad, berRuns := st.eng.berRuns.map ber }
  { st with cores := Vector.ofFn fun c => { st.core c with cycBase := st.cycles t c, cycAt := t }, eng := eng }

/-- Record a machine check, R425. -/
def machineCheck (st : Strand) (c : Fin 4) (detail : Nat) : Strand :=
  st.noteErr R.GAR_ERR_VALID R.GAR_ERR_DETAIL R.GAR_ERR_OVERFLOW detail fun st =>
    (st.put R.GAR_ERR_PHYS (st.phys c.val)).put R.GAR_ERR_INFO (st.core c).pc.toNat

end Strand

/-- A vector descriptor, R408. -/
structure Desc where
  handler : Nat
  sp : Nat
  priv : Nat
  bank : Nat
  flags : Nat
  pad : Nat
  deriving DecidableEq, Repr

/-- The descriptor of a vector: 16 bytes at VDT_BASE + 16 × vector. -/
def Strand.descriptor (st : Strand) (c : Fin 4) (v : Nat) : Option Desc :=
  (st.sramRead ((st.core c).vdt.toNat + 16 * v) 16).map fun b =>
    { handler := le b 0 4, sp := le b 4 4, priv := le b 8 1, bank := le b 9 1, flags := le b 10 2, pad := le b 12 4 }

/-- Whether a descriptor is valid for a vector that enters a bank, R408. -/
def Desc.ok (d : Desc) (v k : Nat) : Bool :=
  bit d.flags 0 && d.flags < 4 && d.handler % 4 == 0 && decide (d.priv ≤ 1) && (decide (v > 3) || d.priv == 0)
    && d.bank == k && d.pad == 0

namespace State

/-- A checkstop, R412: the first is recorded, and the strand halts. -/
def checkstop (s : State) (n : Fin 4) (c : Fin 4) (v : Nat) : State :=
  let st := s.sd n
  let x := st.core c
  let st := if st.flag R.GAR_CHK_VALID then st.bump R.GAR_CHK_OVERFLOW
    else
      let st := ((st.put R.GAR_CHK_VALID 1).put R.GAR_CHK_CORE c.val).put R.GAR_CHK_PHYS (st.phys c.val)
      ((st.put R.GAR_CHK_VECTOR v).put R.GAR_CHK_BANK x.bank.val).put R.GAR_CHK_PC x.pc.toNat
  let st := st.put R.GAR_STATUS_CHECKSTOP 1
  (s.setSd n { st with chkAt := some s.now }).haltStrand n

/-- The state after entry through a valid descriptor, R410 steps 4 to 7. -/
def entered (s : State) (n : Fin 4) (c k : Fin 4) (v orig detail : Nat) (eaddr epc : Word) (d : Desc) : State :=
  s.up n fun st =>
    let x := st.core c
    let x := { x with
      epc := x.epc.set k epc, esr := x.esr.set k x.status
      ecause := x.ecause.set k (BitVec.ofNat 32 (v + 2 ^ 8 * orig + 2 ^ 16 * detail)), eaddr := x.eaddr.set k eaddr
      bank := k, priv := d.priv, ie := false, waiting := false }
    let x := if bit d.flags 1 then x.setReg k 30 (BitVec.ofNat 32 d.sp) else x
    st.setCore c { x with pc := BitVec.ofNat 32 d.handler }

/-- Entry into bank 2 or 3: an invalid descriptor is a checkstop, R410 step 3. -/
def enterHigh (s : State) (n : Fin 4) (c k : Fin 4) (v orig detail : Nat) (eaddr epc : Word) : State :=
  match (s.sd n).descriptor c v with
  | some d => if d.ok v k.val then s.entered n c k v orig detail eaddr epc d else s.checkstop n c v
  | none => (s.up n fun st => st.machineCheck c 4).checkstop n c v

/-- Entry into bank 1: with an invalid descriptor it restarts as vector 2 into bank 2, R410 step 3. -/
def enterLow (s : State) (n : Fin 4) (c : Fin 4) (v detail : Nat) (eaddr epc : Word) : State :=
  match (s.sd n).descriptor c v with
  | some d => if d.ok v 1 then s.entered n c 1 v v detail eaddr epc d else s.enterHigh n c 2 2 v 4 eaddr epc
  | none => (s.up n fun st => st.machineCheck c 4).enterHigh n c 2 2 v 4 eaddr epc

/-- TAKING AN EXCEPTION: a synchronous exception or machine check on a core, R409, R410, with EADDR and EPC as given. -/
def raise (s : State) (n : Fin 4) (c : Fin 4) (v detail : Nat) (eaddr epc : Word) : State :=
  let s := if v = 3 then s.up n fun st => st.machineCheck c detail else s
  match ((s.sd n).core c).bank with
  | 0 => s.enterLow n c v detail eaddr epc
  | 1 => s.enterHigh n c 2 2 v detail eaddr epc
  | _ => s.checkstop n c v

/-- An exception at the present instruction, which does not retire. -/
def fault (s : State) (n : Fin 4) (c : Fin 4) (v detail : Nat) (eaddr : Word) : State :=
  s.raise n c v detail eaddr ((s.sd n).core c).pc

/-- An exception whose EADDR the spec does not give: the value is open (log entry 2). -/
def faultOpen (s : State) (n : Fin 4) (c : Fin 4) (v detail : Nat) : State :=
  let (x, st) := (s.sd n).draw
  (s.setSd n st).fault n c v detail (BitVec.ofNat 32 x)

/-- An interrupt in bank B0: its pending bit falls as it is taken, R409. -/
def takeInterrupt (s : State) (n : Fin 4) (c : Fin 4) (v : Nat) : State :=
  let (x, st) := (s.sd n).draw
  let st := { st with ipend := st.ipend.set c (st.ipend[c] &&& (2 ^ 64 - 1 - 2 ^ v)) }
  (s.setSd n st).enterLow n c v 0 (BitVec.ofNat 32 x) (st.core c).pc

/-- The NMI outside bank B3, R409, R411. -/
def takeNmi (s : State) (n : Fin 4) (c : Fin 4) : State :=
  let (x, st) := (s.sd n).draw
  (s.setSd n st).enterHigh n c 3 1 1 0 (BitVec.ofNat 32 x) (st.core c).pc

/-- RETURNING FROM AN EXCEPTION: ERET from bank k at P0 or P1, R410; a refused one raises vector 4 with detail 4. -/
def eret (s : State) (n : Fin 4) (c : Fin 4) : State :=
  let x := (s.sd n).core c
  let k := x.bank
  let sr := x.esr[k].toNat
  let toBank := sr % 4
  if k = 0 ∨ toBank ≥ k.val ∨ ((toBank = 2 ∨ toBank = 3) ∧ sr / 4 % 4 ≠ 0) ∨ (toBank = 1 ∧ sr / 4 % 4 > 1) then s.faultOpen n c 4 4
  else
    let y := { x.setStatus x.esr[k] with pc := x.epc[k] }
    let nmi := k = 3 ∧ x.nmiPend
    let s := s.up n fun st => st.setCore c { y with nmiPend := if k = 3 then false else x.nmiPend }
    if nmi then s.takeNmi n c else s

/-- A core starts through vector 0 in bank B0 at P0 with every register cleared, R420. An invalid descriptor 0 stops the strand
as a checkstop would (log entry 153). -/
def startCore (s : State) (n : Fin 4) (c : Fin 4) (vdt : Word) : State :=
  let s := s.up n fun st =>
    { st with done := st.done.filter fun d => d.job.cop != some c }.setCore c { num := c.val, vdt := vdt, running := true, cycAt := s.now }
  match (s.sd n).descriptor c 0 with
  | some d =>
    if d.ok 0 0 then s.up n fun st =>
      let x := { st.core c with pc := BitVec.ofNat 32 d.handler }
      st.setCore c (if bit d.flags 1 then x.setReg 0 30 (BitVec.ofNat 32 d.sp) else x)
    else s.checkstop n c 0
  | none => s.checkstop n c 0

/-- Every active core starts, R420. -/
def startCores (s : State) (n : Fin 4) (vdt : Word) : State :=
  [0, 1, 2, 3].foldl (fun s (c : Fin 4) => if (s.sd n).coreActive c.val then s.startCore n c vdt else s) s

end State

end Sys2Proof.Machine
end

