-- ==== Sys2Proof/Machine/Islands.lean ====
section
/-! DEFINITION. Islands, gradients and spares, R611 to R621, R626 to R637: fencing, spare swaps, aging, gradient checks. -/

namespace Sys2Proof.Machine
open Sys2Proof

/-! ### Spares and swaps, R626 to R631 -/

namespace Strand

/-- The island of a kind with a spare, R627: 1 core, 2 Beryl engine, 3 Topaz lane; 0 for every other island. -/
def kindOf (i : Nat) : Nat := if i < 5 then 1 else if 7 ≤ i ∧ i < 12 then 2 else if 12 ≤ i ∧ i < 15 then 3 else 0

/-- The spare Topaz lane, R29: the lane neither fenced nor active. -/
def topSpare (st : Strand) : Option Nat :=
  (List.range 3).find? fun l => !st.fenced.contains (12 + l) && !(st.activeLanes.contains l)

/-- Whether a spare of a kind is available, R627, R628. -/
def spareOf (st : Strand) (kind : Nat) : Bool :=
  !st.hlt.out.contains kind && (match kind with
    | 1 => st.get R.GAR_STATUS_SPARE != 7
    | 2 => st.get R.BER_STATUS_SPARE != 7
    | 3 => st.topSpare.isSome
    | 4 => decide (st.nv.rowsUsed < 164)
    | 5 => decide (st.nv.pairsUsed < 8)
    | _ => false)

/-- The registers that show spares and the swap, R637. -/
def hltSync (st : Strand) : Strand :=
  let st := (st.put R.HLT_SPARE_CORE (b2n (st.spareOf 1))).put R.HLT_SPARE_BERYL (b2n (st.spareOf 2))
  let st := (st.put R.HLT_SPARE_TOPAZ (b2n (st.spareOf 3))).put R.HLT_SPARE_DET (8 - st.nv.pairsUsed)
  let st := (st.put R.HLT_SPARE_ROWS (164 - st.nv.rowsUsed)).put R.HLT_SPARE_FLASH (st.get R.AGT_SPARE_FREE)
  let st := (st.put R.HLT_STATUS_STATE st.hlt.st).put R.HLT_STATUS_QUEUED st.hlt.queue.length
  let has := fun k => b2n (match st.hlt.cur with | some r => r.kind == k | none => false)
  let st := st.put R.HLT_STATUS_KIND ((st.hlt.cur.map (·.kind)).getD 0)
  ((st.put R.GAR_STATUS_SWAPPING (has 1)).put R.BER_STATUS_SWAPPING (has 2)).put R.TOP_STATUS_SWAPPING (has 3)

/-- Record an island fault, R635. -/
def islErr (st : Strand) (code island chan : Nat) : Strand :=
  st.noteErr R.ISL_ERR_VALID R.ISL_ERR_CODE R.ISL_ERR_OVERFLOW code fun st =>
    (st.put R.ISL_ERR_INFO_ISLAND island).put R.ISL_ERR_INFO_CHANNEL chan

/-- Record a health-block fault, R635. -/
def hltErr (st : Strand) (code : Nat) : Strand :=
  st.noteErr R.HLT_ERR_VALID R.HLT_ERR_CODE R.HLT_ERR_OVERFLOW code fun st => st

/-- What follows when no spare of a kind remains, R631, R590. -/
def noSpare (st : Strand) (kind : Nat) : Strand :=
  let st := st.hltErr 3
  (if kind = 4 then st.put R.HLT_STATUS_ROW_OUT 1 else if kind = 5 then st.put R.JSP_STATUS_DET_SPARE_OUT 1 else st).degrade

/-- A swap is requested, R628, R629. -/
def reqSwap (st : Strand) (r : SwapReq) : Strand :=
  if !st.spareOf r.kind then st.noSpare r.kind
  else if st.hlt.cur.isNone then { st with hlt := { st.hlt with cur := some r, st := 1 } }.hltSync
  else if st.hlt.queue.length ≥ 16 then st.hltErr 4
  else { st with hlt := { st.hlt with queue := st.hlt.queue ++ [r] } }.hltSync

/-- The logical core that a physical core serves. -/
def logicalOf (st : Strand) (p : Nat) : Option (Fin 4) := ([0, 1, 2, 3] : List (Fin 4)).find? fun c => st.phys c.val == p

/-- The swap in progress ends, and the first queued request follows; one whose spare is gone is answered as at its request. -/
def nextSwap (st : Strand) : Strand :=
  let st := { st with hlt := { st.hlt with cur := none, st := 0 } }
  match st.hlt.queue with
  | [] => st.hltSync
  | r :: rest => ({ st with hlt := { st.hlt with queue := rest } }.reqSwap r).hltSync

/-- Whether the part to be replaced stands at its unit boundary, R394, R307, R275, R628: a fenced part always does. -/
def swapBoundary (st : Strand) (r : SwapReq) : Bool :=
  st.fenced.contains r.island || (match r.kind with
    | 1 => match st.logicalOf r.island with
      | some c => (st.core c).bank == 0
      | none => true
    | 2 => (st.berRun (r.island - 7)).isNone
    | 3 => !(st.eng.topRuns.any fun x => x.lane == r.island - 12)
    | _ => true)

/-- The extent of a swap in units of 64 bytes, R627. -/
def swapExtent : Nat → Nat
  | 1 => 9 | 4 => 16 | _ => 1

/-- A core stops: it no longer runs, R394, R589; a pending NMI edge goes to the core that now takes the NMI, R411. -/
def stopCore (st : Strand) (c : Fin 4) : Strand :=
  let a := st.get R.GAR_STATUS_ACTIVE
  let st := (st.setCore c { st.core c with running := false }).put R.GAR_STATUS_ACTIVE (a - (if bit a c.val then 2 ^ c.val else 0))
  if st.nmi[c] then
    let st : Strand := { st with nmi := st.nmi.set c false }
    let d : Nat := st.nmiCore
    if h : d < 4 then { st with nmi := st.nmi.set d true } else st
  else st

end Strand

namespace State

/-- The jobs of a fenced lane or engine end with 0x7F, R305, R589, R615; a search that ran there is abandoned, R17. -/
def dropLaneJobs (s : State) (n : Fin 4) (i : Nat) : State :=
  let st := s.sd n
  let ber := st.eng.berRuns.filter fun r => r.eng + 7 == i
  let top := st.eng.topRuns.filter fun r => r.lane + 12 == i
  let jad := if i = 15 then st.eng.jadRuns else []
  let s := s.up n fun st =>
    let st := State.jadSync (st.upEng fun e => { e with
      berRuns := e.berRuns.filter fun r => r.eng + 7 != i, topRuns := e.topRuns.filter fun r => r.lane + 12 != i
      jadRuns := if i = 15 then [] else e.jadRuns }).berSync
    if ber.any fun r => r.len != 0 then st.progDrop (0x700040 + 4 * (i - 7)) else st
  (ber.map (·.job) ++ top.map (·.job) ++ jad.map (·.job)).foldl (fun s j => s.fail n j 0x7F) s

/-- An island is fenced: it stops at once, its jobs end with 0x7F, and a spare of its kind is asked for, R589, R628; without a
spare the strand continues short, R29. -/
def fence (s : State) (n : Fin 4) (i : Nat) : State :=
  let st := s.sd n
  if i > 20 ∨ st.fenced.contains i then s
  else
    let s := s.dropLaneJobs n i
    let s := s.up n fun st =>
      let st := { st with fenced := st.fenced ++ [i] }
      let st := (st.put R.ISL_FENCED (st.get R.ISL_FENCED ||| 2 ^ i)).put R.ISL_AGE_FENCED 1 i
      let k := Strand.kindOf i
      let wasSpare := (k = 1 ∧ st.get R.GAR_STATUS_SPARE = i) ∨ (k = 2 ∧ st.get R.BER_STATUS_SPARE + 7 = i)
        ∨ (k = 3 ∧ ¬ st.activeLanes.contains (i - 12))
      if k = 0 then st
      else if wasSpare then
        (if k = 1 then st.put R.GAR_STATUS_SPARE 7 else if k = 2 then st.put R.BER_STATUS_SPARE 7 else st).hltSync
      else
        let st := if k = 1 then (match st.logicalOf i with | some c => st.stopCore c | none => st) else st
        let st := if st.spareOf k then st else
          (match k with
            | 1 => match st.logicalOf i with | some c => st.setPhys c.val 7 | none => st
            | 3 => if st.get R.TOP_STATUS_LANE_A = i - 12 then st.put R.TOP_STATUS_LANE_A 3 else st.put R.TOP_STATUS_LANE_B 3
            | _ => st)
        let st := if k = 3 then st.put R.TOP_STATUS_ACTIVE (st.activeLanes.filter fun l => !st.fenced.contains (12 + l)).length else st
        ((st.reqSwap { kind := k, island := i, row := 0 }).berSync).degrade
    (s.berNext n).topNext n

/-- The doubled decision of a swap, R592, R628: agreement starts the move; a second mismatch abandons the swap. -/
def decideSwap (s : State) (n : Fin 4) (agree : Bool) : State :=
  s.up n fun st =>
    match st.hlt.cur with
    | none => st
    | some r =>
      if st.hlt.st ≠ 1 ∨ ¬ st.swapBoundary r then st
      else if agree then
        let st := match r.kind, st.logicalOf r.island with
          | 1, some c => st.stopCore c
          | _, _ => st
        let st := ((st.put R.HLT_PROG_VALID 1).put R.HLT_PROG_PERCENT 0).put R.HLT_PROG_POSITION 0
        { st with hlt := { st.hlt with st := 3 } }.hltSync
      else
        let st := st.mismatch s.now
        if r.misses = 0 then { st with hlt := { st.hlt with cur := some { r with misses := 1 } } }
        else
          let st := (st.hltErr 1).put R.HLT_STATUS_ABANDONED 1
          let st := { st with hlt := { st.hlt with out := st.hlt.out ++ [r.kind] } }
          let st := if r.kind = 1 ∧ st.fenced.contains r.island then
              (match st.logicalOf r.island with | some c => st.setPhys c.val 7 | none => st) else st
          (st.nextSwap.degrade).vector 39 (st.get R.ISL_CTL_ROUTE)

/-- A core's state goes to the spare, R394, R630: it resumes at the next instruction with empty caches; one fenced in a higher
bank takes vector 3 with detail 2 there. -/
def moveCore (s : State) (n : Fin 4) (i : Nat) : State :=
  let st := s.sd n
  match st.logicalOf i with
  | none => s
  | some c =>
    let p := st.get R.GAR_STATUS_SPARE
    let high := st.fenced.contains i && (st.core c).bank != 0
    let st := (st.setPhys c.val p).put R.GAR_STATUS_SPARE 7
    let st := st.put R.GAR_STATUS_ACTIVE (st.get R.GAR_STATUS_ACTIVE ||| 2 ^ c.val)
    let s := s.setSd n (st.setCore c { st.core c with running := true, ilines := [], dlines := [], upsets := [] })
    if high then s.faultOpen n c 3 2 else s

/-- The state is moved, R628: the spare takes over and the old part is fenced for ever. -/
def moveDone (s : State) (n : Fin 4) : State :=
  let st := s.sd n
  match st.hlt.cur with
  | none => s
  | some r =>
    if st.hlt.st ≠ 3 then s
    else
      let s := match r.kind with
        | 1 => s.moveCore n r.island
        | 2 => s.up n fun st => st.put R.BER_STATUS_SPARE 7
        | 3 => s.up n fun st =>
            let p := st.topSpare.getD 3
            if st.get R.TOP_STATUS_LANE_A = r.island - 12 then st.put R.TOP_STATUS_LANE_A p else st.put R.TOP_STATUS_LANE_B p
        | 4 => s.up n fun st => { st with nv := { st.nv with rowsUsed := st.nv.rowsUsed + 1 } }
        | _ => s.up n fun st => { st with nv := { st.nv with pairsUsed := st.nv.pairsUsed + 1 } }
      let s := s.up n fun st =>
        let st := if r.kind ≤ 3 ∧ ¬ st.fenced.contains r.island then
            let st := { st with fenced := st.fenced ++ [r.island] }
            (st.put R.ISL_FENCED (st.get R.ISL_FENCED ||| 2 ^ r.island)).put R.ISL_AGE_FENCED 1 r.island else st
        let st := if r.kind = 3 then st.put R.TOP_STATUS_ACTIVE st.activeLanes.length else st
        let st := (st.put R.HLT_PROG_PERCENT 100).put R.HLT_PROG_POSITION (Strand.swapExtent r.kind)
        (st.nextSwap.berSync).vector 39 (st.get R.ISL_CTL_ROUTE)
      (s.berNext n).topNext n

end State

/-- HLT_SWAP_WRITE, R628: a write with key 0x5C asks for a swap of the kind named; a request that names no part of its kind is
refused with HLT_ERR code 4. -/
def execHltSwapWrite (n : Fin 4) (v : Nat) (s : State) : Host.Outcome State Fault Refusal :=
  let st := s.sd n
  let r : SwapReq := { kind := bits v 0 4, island := bits v 4 5, row := bits v 9 13 }
  if bits v 24 8 ≠ 0x5C ∨ st.halted ∨ st.mode = 0 then .next s
  else if r.kind = 0 ∨ r.kind > 5 ∨ (r.kind ≤ 3 ∧ Strand.kindOf r.island ≠ r.kind) ∨ (r.kind = 4 ∧ r.row ≥ 8192) ∨ (r.kind = 5 ∧ r.island > 20) then
    .next (s.setSd n (st.hltErr 4))
  else .next (s.setSd n (st.reqSwap r))

/-- SWAP_DECISION, R592, R628. -/
def execSwapDecision (n : Fin 4) (agree : Bool) (s : State) : Host.Outcome State Fault Refusal :=
  .next (if (s.sd n).halted then s else s.decideSwap n agree)

/-- A copy that fails, R635: the swap is abandoned, and a fenced core keeps no successor (log entry 117). -/
def Strand.moveFails (st : Strand) (r : SwapReq) : Strand :=
  let st := ((st.hltErr 2).put R.HLT_STATUS_ABANDONED 1).progDrop 0x1100810
  let st := if r.kind = 1 ∧ st.fenced.contains r.island then
      (match st.logicalOf r.island with | some c => st.setPhys c.val 7 | none => st) else st
  (st.nextSwap.degrade).vector 39 (st.get R.ISL_CTL_ROUTE)

/-- SWAP_MOVE_DONE, R394, R628, R630: `ok` says whether the copy succeeded. -/
def execSwapMoveDone (n : Fin 4) (s : State) (ok : Bool := true) : Host.Outcome State Fault Refusal :=
  let st := s.sd n
  .next (if st.halted then s
    else match ok, st.hlt.cur with
      | false, some r => if st.hlt.st = 3 then s.setSd n (st.moveFails r) else s
      | _, _ => s.moveDone n)

/-! ### Aging and gradients -/

/-- A NOTE of a source in the event log: no firing, R588, R626. -/
def Strand.note (st : Strand) (t src island : Nat) : Strand :=
  { st with jsp := { st.jsp with logQ := st.jsp.logQ ++
      [{ f := { st.firingOf t src 1 island 0 with rank := 0, note := true }, applied := 0, first := true }] } }

/-- An island that still is worn has its running frequency lowered by a step, R626. -/
def Strand.slowStep (st : Strand) (t i : Nat) : Strand :=
  let st := (st.rebaseCycles t).put R.ISL_AGE_STEP (st.get R.ISL_AGE_STEP i + 1) i
  ((st.put R.ISL_STATUS_STEPPED 1).put R.ISL_CLK_MHZ (st.isleMhz i) i).note t 14 i

/-- AGING_WORN, R626: a margin below AGE_MIN at 0.90 V; a kind with a spare is swapped while AUTO_AGE is 1, any other island
slows by 5 % a step, and at the fourth step fires DATAPATH at rank 2. Monitors that disagree give no margin, R635. -/
def execAgingWorn (n : Fin 4) (i margin : Nat) (s : State) (monitorsOk : Bool := true) : Host.Outcome State Fault Refusal :=
  let st := s.sd n
  if st.mode = 0 ∨ i > 20 ∨ st.fenced.contains i then .next s
  else if !monitorsOk then .next (s.setSd n (st.islErr 3 i 0))
  else if margin ≥ st.get R.HLT_CTL_AGE_MIN then .next s
  else
    let st := ((st.put R.ISL_AGE_MARGIN margin i).put R.ISL_AGE_WORN 1 i).put R.ISL_STATUS_WORN 1
    let st := st.vector 39 (st.get R.ISL_CTL_ROUTE)
    if Strand.kindOf i ≠ 0 then
      .next (s.setSd n (if st.flag R.HLT_CTL_AUTO_AGE then st.reqSwap { kind := Strand.kindOf i, island := i, row := 0 } else st))
    else if st.get R.ISL_AGE_STEP i < 4 then .next (s.setSd n (st.slowStep s.now i))
    else .next (s.setSd n (st.fire s.now { st.firingOf s.now 14 1 i 0 with rank := 2 }))

/-- The median of the temperatures of the strand's islands, by ISL_TEMP. -/
def Strand.medianTemp (st : Strand) : Nat :=
  let ts := (List.range 21).map fun i => st.get R.ISL_TEMP_TEMP i
  (ts.find? fun x => decide ((ts.filter (· < x)).length ≤ 10) && decide ((ts.filter (· ≤ x)).length > 10)).getD 0

/-- The distance of two numbers. -/
def dist (a b : Nat) : Nat := (a - b) + (b - a)

/-- A regulator's setpoint, R612: 0.65 to 0.90 V in steps of 5 mV. -/
def setpoint (mv : Nat) : Nat := max 650 (min 900 (mv / 5 * 5))

/-- GRADIENT_CHECK, R612, R616, R617, R634: the units measure one pair of islands. Kinds are coded as in ISL_GRAD: 1 supply in mV, with the
setpoints that the two regulators have reached, 2 temperature in 0.1 °C, 3 running frequency in MHz; for kinds 1 and 3 the pair is one that a
channel joins, and for kind 2 it may be of the ring, which has no registers here. `det` names the units that found the value beyond its limit. -/
def execGradientCheck (n : Fin 4) (kind a b va vb det : Nat) (s : State) (set : Nat × Nat := (650, 650)) : Host.Outcome State Fault Refusal :=
  let st := s.sd n
  let own := decide (a ≤ 20) && decide (b ≤ 20) && !st.fenced.contains a && !st.fenced.contains b
  let ring := kind == 2 && decide (24 ≤ a) && decide (a ≤ 26) && decide (24 ≤ b) && decide (b ≤ 26)
  if st.mode = 0 ∨ kind = 0 ∨ kind > 3 ∨ ¬ (own ∨ ring) then .next s
  else
    let st := if ring then st else match kind with
      | 1 => (((st.put R.ISL_SUP_MV va a).put R.ISL_SUP_MV vb b).put R.ISL_SUP_SETPOINT (setpoint set.1) a).put R.ISL_SUP_SETPOINT (setpoint set.2) b
      | 2 => (st.put R.ISL_TEMP_TEMP va a).put R.ISL_TEMP_TEMP vb b
      | _ => (st.put R.ISL_CLK_MHZ va a).put R.ISL_CLK_MHZ vb b
    let past : Bool := match kind with
      | 1 => decide (dist va vb > 180)
      | 2 => decide (dist va vb > 300)
      | _ => a != 17 && b != 17 && (decide (10 * va < vb) || decide (10 * vb < va))
    if !past ∨ det % 4 = 0 then .next (s.setSd n st)
    else
      let (da, db) := match kind with
        | 1 => (dist va (st.get R.ISL_SUP_SETPOINT a), dist vb (st.get R.ISL_SUP_SETPOINT b))
        | 2 => (dist va st.medianTemp, dist vb st.medianTemp)
        | _ => (dist va (st.get R.ISL_CLK_SET_MHZ a), dist vb (st.get R.ISL_CLK_SET_MHZ b))
      let nb : Bool := decide (db > da) || (da == db && decide (b < a))
      let st := ((st.put R.ISL_STATUS_GRAD_SEEN 1).put R.ISL_GRAD_ISLAND_A a).put R.ISL_GRAD_ISLAND_B b
      let st := ((st.put R.ISL_GRAD_KIND kind).put R.ISL_GRAD_NAMED_B (b2n nb)).bump R.ISL_GRAD_COUNT
      .next (s.setSd n (st.event s.now 11 (det % 4) (if nb then b else a)))

/-- Whether a requester is Warden on a strand: fixed P0 space, R434. -/
def wardenOf (n : Fin 4) : Requester → Bool
  | .core m _ p => m == n && p == 0
  | _ => false

/-- BERYL_FENCE, R305, R310: a check-code fault in the key register (`key`) or the operand memory fences the engine. -/
def execBerylFence (n : Fin 4) (e : Nat) (key : Bool) (s : State) : Host.Outcome State Fault Refusal :=
  let st := s.sd n
  if e ≥ 5 ∨ st.fenced.contains (7 + e) ∨ st.mode = 0 then .next s
  else
    let slot := ((st.berRun e).map (·.slot)).getD 0
    let st := st.noteErr R.BER_ERR_VALID R.BER_ERR_CODE R.BER_ERR_OVERFLOW (if key then 1 else 2) fun st =>
      ((st.put R.BER_ERR_INFO_SLOT slot).put R.BER_ERR_INFO_ENGINE e).put R.BER_ERR_INFO_REQUESTER
        (if (st.berRun e).any fun r => r.job.op / 256 == 2 then 3 else 0)
    .next (((s.setSd n st).fence n (7 + e)).up n fun st => st.datapath s.now (7 + e))

end Sys2Proof.Machine
end

