-- ==== Sys2Proof/Machine/Journal.lean ====
section
/-! DEFINITION. The journal opcodes and its writes to the host store, the journal card and Agate, R156 to R170, R193 to
R201. -/

namespace Sys2Proof.Machine
open Sys2Proof

/-! ### The host journal store, R167 -/

namespace Store

/-- Where the next entry of a length goes, and the bytes it takes in all: at the end of what is in use, or at the base where
it would pass the end of the ring; none while the space is not free. -/
def placeFor (st : Store) (n : Nat) : Option (Nat × Nat) :=
  let next := (st.free + st.used) % max 1 st.len
  let skip := if next + n > st.len then st.len - next else 0
  if st.used + skip + n ≤ st.len then some ((if skip = 0 then next else 0), skip + n) else none

/-- NEXT_OFFSET. -/
def next (st : Store) : Nat := (st.free + st.used) % max 1 st.len

/-- The distance of an offset from the start of the space in use. -/
def dist (st : Store) (off : Nat) : Nat := (off + st.len - st.free) % max 1 st.len

/-- FREE_LIMIT as a distance: the first stored entry that may not be freed, R167. -/
def limit (st : Store) (blocked : StoreEnt → Bool) : Nat :=
  match st.ents.find? blocked with
  | some e => st.dist e.off
  | none => st.used

end Store

namespace Strand

/-- Whether a stored entry may not be freed yet: live and not acknowledged by the keeper, or a superseded copy not returned. -/
def blocked (st : Strand) (e : StoreEnt) : Bool :=
  if e.sup then st.jnl.sup.any fun x => x.e.no == e.no && !x.returned
  else !e.old && st.writer && decide (e.no > st.jnl.acked)

/-- Drop superseded entries that are both stored and returned. -/
def trimSup (st : Strand) : Strand :=
  { st with jnl := { st.jnl with sup := st.jnl.sup.filter fun x => !(x.stored && x.returned) } }

end Strand

namespace State

/-- Write one entry's bytes into the store with its pointer block, R167, a superseded copy or one of an ended journal as such; where it does
not fit STORE_FULL is set. -/
def storeWrite (s : State) (n : Fin 4) (e : Entry) (sup old : Bool) : State × Bool :=
  let st := s.sd n
  match st.jnl.store with
  | none => (s, false)
  | some x =>
    let b := e.bytes
    match x.placeFor b.length with
    | none => (s.up n (·.put R.JNL_STATUS_STORE_FULL 1), false)
    | some (off, take) =>
      let b := if sup then b.take 0x3E ++ toLE 2 (le b 0x3E 2 ||| 4) ++ b.drop 0x40 else b
      let x := { x with used := x.used + take, ents := x.ents ++ [{ no := e.no, off, len := b.length, sup, old }] }
      let st := { st with jnl := { st.jnl with store := some x } }
      let st := if sup then st else st.put64 R.JNL_STORED_LO e.no
      let lim := (x.free + x.limit st.blocked) % max 1 x.len
      let ptr := toLE 8 x.next ++ toLE 8 e.no ++ toLE 8 lim ++ zeros 8
      let mem := Mem.writeBytes (Mem.writeBytes s.mem (x.base + off) b) x.ptr ptr
      ({ s with mem := mem }.setSd n st, true)

/-- A journal opcode of the manager alone, R193. -/
def mgrJob (s : State) (n : Fin 4) (j : Job) (work : State → State) : State :=
  s.runJob n j fun s => if j.fn ≠ 0 then s.fail n j 0x41 else work s

/-- A journal opcode of CEREMONY, R193. -/
def ceremonyJob (s : State) (n : Fin 4) (j : Job) (work : State → State) : State :=
  s.runJob n j fun s => if (s.sd n).mode ≠ 5 then s.fail n j 0x30 else work s

/-- The records of an entry's body. -/
def entryRecs (e : Entry) : List Bytes :=
  let r := (e.body.getD []).drop (up512 (24 * e.currencies))
  (List.range e.count).map fun i => sub r (256 * i) 256

/-- The receipt bytes that the seal covers, rebuilt from an entry, R112, R163. -/
def entryReceiptHead (e : Entry) : Bytes :=
  let h := e.head
  ascii "LRCT" ++ toLE 1 1 ++ sub h 6 2 ++ sub h 5 1 ++ sub h 0x28 8 ++ sub h 0x10 24 ++ sub h 0x50 16 ++ sub h 0x3A 4
    ++ sub h 0x40 4 ++ e.root ++ e.j ++ sub (e.body.getD []) 0 (24 * e.currencies)

/-- The seal signature in an entry. -/
def entrySig (e : Entry) : Bytes := sub e.head 0xC0 (sigLen (le e.head 6 1))

/-- Whether a seal signature verifies under the public key of the seal context. -/
def sealVerifies (st : Strand) (head sig : Bytes) : Bool :=
  match st.ctxFor 0xFF 0 (st.get R.PST_SEAL_CTX_CTX) with
  | some c => Config.verify c.attr.alg (publicKey c.attr.alg c.attr.keylen c.key) (signedText c.attr.alg head) sig
  | none => false

/-- The reason a replayed entry fails, R195: 0, 1 root, 2 chain, 3 signature. -/
def replayReason (st : Strand) (prev : Option Bytes) (e : Entry) : Nat :=
  if rootOf (entryRecs e) ≠ e.root then 1
  else if ¬ e.chained ∨ (prev.any fun p => p != e.prev) then 2
  else if ¬ sealVerifies st (entryReceiptHead e) (entrySig e) then 3
  else 0

/-- Replay a span: entries checked, first failing number, reason. -/
def replay (st : Strand) (src : Nat → Option Entry) : Option Bytes → Nat → Nat → Nat → Nat × Nat × Nat
  | _, _, 0, k => (k, 0, 0)
  | prev, no, m + 1, k =>
    match src no with
    | none => (k, no, 4)
    | some e =>
      match replayReason st prev e with
      | 0 => replay st src (some e.j) (no + 1) m (k + 1)
      | r => (k + 1, no, r)

/-- Whether the J of an entry leads, through the entries that follow it in a source, to a J that the live chain is known to hold, R195. -/
def chainReaches (st : Strand) (src : Nat → Option Entry) : Nat → Nat → Bytes → Bool
  | 0, _, _ => false
  | k + 1, no, j =>
    match st.jAt no with
    | some x => x == j
    | none =>
      match src (no + 1) with
      | some e => e.prev == j && e.chained && chainReaches st src k (no + 1) e.j
      | none => false

/-- The lowest entry number from which on the live chain's J is known without a source. -/
def knownFrom (st : Strand) : Nat := min st.jnl.s.cur.no (((st.jnl.index.head?.map Entry.no).getD st.jnl.s.cur.no))

/-- The rollover takes effect once every entry formed is acknowledged or, while SOLO, in the store, R678: a new JOURNAL_ID, a
checkpoint, a ROLLOVER frame where the pair is linked. -/
def tryRollover (s : State) (n : Fin 4) : State :=
  let st := s.sd n
  match st.jnl.rolling with
  | none => s
  | some j =>
    let settled :=
      if st.solo then st.jnl.storeQ.all fun k => decide (k ≤ st.jnl.acked) else decide (st.jnl.acked ≥ st.jnl.s.cur.no)
    if st.jnl.s.isOpen ∧ ¬ settled then s
    else
      let pred : JHead := if st.jnl.s.isOpen then st.jnl.s.cur else {}
      let (id, st) := st.drawBytes 16
      let st := (st.openJournal id pred).checkpoint s.now
      let st := { st with jnl := { st.jnl with rolling := none } }
      let frame := id ++ fit 16 pred.id ++ toLE 8 pred.no ++ fit 32 pred.j
      let st := if st.flag R.MIR_STATUS_PAIRED then
          { st.mirSend s.now 0x34 frame with mir := { (st.mirSend s.now 0x34 frame).mir with roll := some (frame, s.now) } }
        else st
      (s.setSd n st.jnlSync).succeed n j id

/-- The waiting 20 ms of R182 have passed or the strand takes over: SOLO, every waiting receipt released. -/
def becomeSolo (s : State) (n : Fin 4) : State :=
  (s.up n fun st => (st.put R.MIR_STATUS_SOLO 1).trimBuf.jnlSync).releaseAll n

/-- A keeper takes the writer role, R183. -/
def takeover (s : State) (n : Fin 4) : State :=
  let s := s.up n fun st =>
    let st := { st with jnl := { st.jnl with s := { st.jnl.s with epoch := st.jnl.s.epoch + 1, role := some true }
                                             takeover := true, acked := st.jnl.s.cur.no } }
    ((st.put R.MIR_ROLE_ROLE 1).put R.MIR_STATUS_LEASE 0).jnlSync
  if (s.sd n).flag R.MIR_SOLO_POLICY_POLICY then s.becomeSolo n else s

/-- The XTS keys of the paired card, as Topaz holds them. -/
def cardKeys (st : Strand) : Option (Bytes × Bytes) :=
  match st.sessionKey st.jc.kX1 0, st.sessionKey st.jc.kX2 0 with
  | some a, some b => some (a, b)
  | _, _ => none

/-- The MAC key of the paired card, as the journal-card slot holds it. -/
def cardMac (st : Strand) : Option Bytes := st.sessionKey st.jc.kMac 5

/-- Whether the journal card writes and anchors, R524. -/
def cardRuns (st : Strand) : Bool :=
  st.flag R.JC_STATUS_PAIRED && (st.mode == 2 || st.mode == 3 || st.mode == 4 || st.mode == 5) && !st.halted

/-- The sector of an entry's head, R511. -/
def headSector (st : Strand) (no : Nat) : Nat := 2048 + (no - 1) % max 1 st.jc.ringLen

/-- A head as it stands on the card: XTS under the card's keys with the sector number as tweak, R511. -/
def cardSector (st : Strand) (sector : Nat) (data : Bytes) : Bytes :=
  match cardKeys st with
  | some (a, b) => xtsCrypt true a b 512 sector 1 (fit 512 data)
  | none => []

/-- The anchor's 72 bytes for an entry, R168. -/
def anchorData (st : Strand) (no : Nat) : Bytes :=
  match st.jnl.index.find? (·.no == no) with
  | some e => fit 16 st.jnl.s.cur.id ++ toLE 8 no ++ toLE 8 e.lastSeq ++ toLE 8 e.time ++ e.j
  | none => fit 16 st.jnl.s.cur.id ++ toLE 8 no ++ toLE 8 st.jnl.s.seq ++ toLE 8 st.jnl.s.time ++ st.jnl.s.cur.j

/-- A replay-protected-area request frame of 512 bytes, R509. -/
def rpaFrame (kind wcount addr : Nat) (nonce data : Bytes) (key : Option Bytes) : Bytes :=
  let body := toLE 2 kind ++ zeros 2 ++ toLE 4 wcount ++ toLE 2 addr ++ toLE 2 1 ++ zeros 4 ++ fit 16 nonce ++ fit 256 data
    ++ zeros 192
  body ++ (match key with | some k => bvBytes (Config.hmac256 k body) | none => zeros 32)

/-- The journal records a fault, R201. -/
def jnlErr (st : Strand) (code no : Nat) : Strand :=
  st.noteErr R.JNL_ERR_VALID R.JNL_ERR_CODE R.JNL_ERR_OVERFLOW code fun st => st.put R.JNL_ERR_INFO (no % 2 ^ 32)

/-- The card slot records a fault, R527. -/
def jcErr (st : Strand) (code info : Nat) : Strand :=
  st.noteErr R.JC_ERR_VALID R.JC_ERR_CODE R.JC_ERR_OVERFLOW code fun st => st.put R.JC_ERR_INFO (info % 2 ^ 32)

/-- An answer that the controller does not act on, or a refusal: a card fault, and an anchor refused, R510. -/
def cardRefused (st : Strand) (code no : Nat) : Strand := jnlErr (jcErr st code 0) 4 no

/-- The counter that a verified answer gives, R510. -/
def setCounter (st : Strand) (wcount : Nat) : Strand :=
  (st.put R.JC_WCOUNT wcount).put R.JC_STATUS_COUNTER_LOW (b2n (decide (wcount > 0xFFFFFFFF - 2 ^ 28)))

/-- An AUTH_WRITE of an entry's anchor, and the card's answer: its RESULT and counter, and whether its MAC and NONCE hold, R168, R510. -/
def writeAnchor (st : Strand) (no result wcount : Nat) (macOk : Bool) : Strand :=
  let st := st.emit .journalCard 56 (rpaFrame 3 (st.get R.JC_WCOUNT) 0 [] (anchorData st no) (cardMac st))
  if !macOk then cardRefused st 5 no
  else
    let st := setCounter st wcount
    if result = 0 then { st.bump R.JC_ANCHORS with jnl := { st.jnl with anchorNo := no } }.jnlSync
    else
      let st := cardRefused st 6 no
      if result = 7 then st.put R.JC_STATUS_COUNTER_EXPIRED 1 else st

end State

/-! ### The opcodes -/

/-- JNL_RECEIPT, R193, R677; once the strand has become SOLO, an entry formed before that gives its receipt too, R181. -/
def execJnlReceipt (n : Fin 4) (j : Job) (s : State) : Host.Outcome State Fault Refusal :=
  .next (s.runJob n j fun s =>
    let st := s.sd n
    let b := j.input
    let sub' := le b 0 2
    if b.length ≠ 12 ∨ ¬ s.submitterOk n j.fn sub' then s.fail n j 0x41
    else match (st.jnl.index.filter fun e => e.submitter == sub' && e.batchId == le b 2 8).getLast? with
      | none => s.fail n j 0x55
      | some e =>
        if st.writer ∧ e.no > st.jnl.acked ∧ ¬ e.solo ∧ ¬ st.solo then s.fail n j 0x50
        else match st.entryBody s.mem e.no with
          | none => s.fail n j 0x55
          | some e =>
            let mode := le e.head 7 1
            let idx := le b 10 2
            if mode = 2 ∧ idx ≥ e.count then s.fail n j 0x41
            else
              let plain := State.entryReceiptHead e ++ State.entrySig e ++ pathBlocks (State.entryRecs e) mode idx
              if j.ctx = 0 then s.room n j plain.length fun s => s.succeed n j plain
              else s.room n j (plain.length + 28) fun s =>
                match st.ctxFor j.fn (s.jobGen j) j.ctx with
                | none => (s.up n (·.bump R.ONX_ABSENT)).fail n j 0x22
                | some c =>
                  if c.attr.counter ≥ 0xFFFFFFFFFFFFFFFF then s.fail n j 0x20
                  else if c.attr.alg ≠ 3 then s.fail n j 0x21
                  else match st.release s.now j.env j.fn (s.jobGen j) j.ctx (1 + 2 ^ 10) 0 true with
                    | (st, .inl e) => (s.setSd n st).fail n j e
                    | (st, .inr c) =>
                      match st.drawCounter c 1 with
                      | (st, none) => (s.setSd n st).fail n j 0x20
                      | (st, some v) =>
                        let (ct, tag) := gcmSeal c.key (drawnIv v) [] plain
                        (s.setSd n st).succeed n j (drawnIv v ++ ct ++ tag))

/-- JNL_STORE_SET, R167: a multiple of 1 MiB, at least 64 MiB; what was never stored, the SOLO entries not acknowledged and the
superseded copies not returned are written into the new store. -/
def execJnlStoreSet (n : Fin 4) (j : Job) (s : State) : Host.Outcome State Fault Refusal :=
  .next (s.mgrJob n j fun s =>
    let st := s.sd n
    let len := j.seg0.inLen
    if len % 1048576 ≠ 0 ∨ len < 67108864 then s.fail n j 0x41
    else
      let again := st.jnl.index.filter fun e => st.jnl.storeQ.contains e.no || (e.solo && decide (e.no > st.jnl.acked))
      let fetch := again.filterMap fun e => if st.jnl.buf.any (·.no == e.no) then none else st.entryBody s.mem e.no
      let x : Store := { base := j.seg0.inAddr, len := len, ptr := j.w6 }
      let keep : SupEnt → Bool := fun y => !y.returned
      let back : SupEnt → SupEnt := fun y => { y with stored := false }
      (s.up n fun st =>
        { st with jnl := { st.jnl with
                            store := some x
                            storeQ := again.map Entry.no
                            buf := fetch ++ st.jnl.buf
                            sup := (st.jnl.sup.filter keep).map back } }.jnlSync).succeed n j [])

/-- JNL_STORE_FREE, R167. -/
def execJnlStoreFree (n : Fin 4) (j : Job) (s : State) : Host.Outcome State Fault Refusal :=
  .next (s.mgrJob n j fun s =>
    let st := s.sd n
    match st.jnl.store with
    | none => s.fail n j 0x41
    | some x =>
      let d := if j.w6 = x.next ∧ x.limit st.blocked = x.used then x.used else x.dist j.w6
      if j.w6 ≥ x.len ∨ d > x.limit st.blocked then s.fail n j 0x41
      else
        let ents := x.ents.filter fun e => decide (x.dist e.off ≥ d) && !(decide (d = x.used))
        (s.up n fun st => { st with jnl := { st.jnl with
                              store := some { x with free := (x.free + d) % max 1 x.len, used := x.used - d, ents := ents } } }).succeed
          n j [])

/-- JNL_REPLAY, R195: from the host store, or from the twin's entries, which also refill the store. J at TO is compared with the live chain's,
through the entries after it where the chain's own index no longer reaches so far back. A replay that fails stands at the part done. -/
def execJnlReplay (n : Fin 4) (j : Job) (twin : List Bytes) (s : State) : Host.Outcome State Fault Refusal :=
  .next (s.mgrJob n j fun s => s.room n j 32 fun s =>
    let st := s.sd n
    let src := le j.input 0 1
    if j.w6 = 0 ∨ j.w7 < j.w6 ∨ src > 1 ∨ j.input.isEmpty then s.fail n j 0x41
    else
      let es := twin.map Entry.parse
      let get := fun k => if src = 1 then es.find? (·.no == k) else st.storeEntry s.mem k
      let all := j.w7 - j.w6 + 1
      let (k, bad, why) := State.replay st get (st.jAt (j.w6 - 1)) j.w6 all 0
      let last := ((get j.w7).map Entry.j).getD []
      let (bad, why) := if why = 0 ∧ ¬ State.chainReaches st get (State.knownFrom st + 1 - j.w7) j.w7 last then (j.w7, 2) else (bad, why)
      let s := if src = 1 ∧ why = 0 then es.foldl (fun s e =>
          match s.storeWrite n e false false with
          | (s, true) => s.up n fun st => { st with jnl := { st.jnl with headOnly := st.jnl.headOnly.filter (· != e.no) } }
          | (s, false) => s) s else s
      let done := if why = 0 then all else k - 1
      let units := ((List.range done).map fun i => ((get (j.w6 + i)).map fun e => e.bytes.length).getD 0).sum / 65536
      let s := s.up n fun st =>
        let st := st.progress 0x20002C (if why = 0 then 100 else min 99 (100 * done / all)) units
        (if why = 0 then st else st.progDrop 0x20002C).jnlSync
      s.succeed n j (toLE 8 k ++ toLE 8 bad ++ toLE 1 why ++ zeros 15) 0 (if why = 0 then 0 else if why = 4 then 0x55 else 0x54))

/-- Sectors become UNCERTAIN; past 16 extents every sector counts so, R513. -/
def Strand.uncertain (st : Strand) (e : Extent) : Strand :=
  if e.count = 0 then st
  else if st.jc.extents.length ≥ 16 then st.put R.JC_UNCERTAIN_OVERFLOW 1
  else
    let l := st.jc.extents ++ [e]
    { st with jc := { st.jc with extents := l } }.put R.JC_UNCERTAIN_HELD l.length

/-- Sectors 0 to `k` - 1 of a generic card are rewritten, and are no longer UNCERTAIN, R514. -/
def Strand.rewritten (st : Strand) (k : Nat) : Strand :=
  let cut : Extent → Extent := fun e => if e.first ≥ k then e else { first := k, count := e.first + e.count - k }
  let l := (st.jc.extents.map cut).filter fun e => e.count != 0
  let st := if k ≥ st.jc.sectors then st.put R.JC_UNCERTAIN_OVERFLOW 0 else st
  { st with jc := { st.jc with extents := l } }.put R.JC_UNCERTAIN_HELD l.length

/-- JNL_EXPORT, R196: onto a generic card. A card that leaves meanwhile ends it with 0x66, R514: `removed` gives the sectors written until then
and how many after them are UNCERTAIN by R513. -/
def execJnlExport (n : Fin 4) (j : Job) (removed : Option (Nat × Nat)) (s : State) : Host.Outcome State Fault Refusal :=
  .next (s.mgrJob n j fun s =>
    let st := s.sd n
    let es := (List.range (j.w7 + 1 - j.w6)).map fun i => st.entryBody s.mem (j.w6 + i)
    if j.w6 = 0 ∨ j.w7 < j.w6 then s.fail n j 0x41
    else if ¬ st.flag R.JC_STATUS_PRESENT ∨ st.flag R.JC_STATUS_JARTEX then s.fail n j 0x66
    else match es.filterMap id with
      | [] => s.fail n j 0x55
      | first :: rest =>
        if es.any (·.isNone) then s.fail n j 0x55
        else match st.release s.now j.env 0xFF 0 (st.get R.PST_SEAL_CTX_CTX) (2 ^ 4) 1 true with
          | (st, .inl e) => (s.setSd n st).fail n j e
          | (st, .inr c) =>
            let es := first :: rest
            let head := fit 128 (ascii "LJEX" ++ toLE 1 1 ++ toLE 1 n.val ++ fit 16 s.ring.ident.deviceId ++ fit 16 st.jnl.s.cur.id
              ++ toLE 8 j.w6 ++ toLE 8 j.w7 ++ first.prev ++ (rest.getLastD first).j ++ toLE 8 es.length)
            let (nonce, st) := st.draw
            let len := sigLen (if c.attr.alg = 0x21 then 2 else 1)
            let sig := fit 96 ((List.range len).map (Config.signByte c.attr.alg c.key (signedText c.attr.alg head) nonce))
            let all := fit 512 (head ++ sig) ++ (es.map Entry.bytes).flatten
            let total := all.length / 512
            let st := st.emit .journalCard 25 (sub all 0 (512 * (removed.map (·.1)).getD total))
            match removed with
            | none => (s.setSd n ((st.rewritten total).progress 0x200030 100 ((all.length - 512) / 65536))).succeed n j []
            | some (k, unc) =>
              let st := ((st.rewritten k).uncertain { first := k, count := unc }).progress 0x200030 (min 99 (100 * k / total)) (512 * (k - 1) / 65536)
              (s.setSd n (st.progDrop 0x200030)).fail n j 0x66)

/-- JNL_SUPERSEDED, R187: the heads from an entry on, as many as the area holds. -/
def execJnlSuperseded (n : Fin 4) (j : Job) (s : State) : Host.Outcome State Fault Refusal :=
  .next (s.mgrJob n j fun s =>
    let want := (s.sd n).jnl.sup.filter fun x => !x.returned && decide (x.e.no ≥ j.w6)
    let out := want.take (j.seg0.outLen / 512)
    if !want.isEmpty && out.isEmpty then s.fail n j 0x41
    else
      let nos := out.map fun x => x.e.no
      let mark : SupEnt → SupEnt := fun x => if nos.contains x.e.no then { x with returned := true } else x
      let heads := (out.map fun x => x.e.head).flatten
      (s.up n fun st =>
        { st with jnl := { st.jnl with sup := st.jnl.sup.map mark } }.trimSup.jnlSync).succeed n j heads)

/-- JNL_TIME_SET, R160. -/
def execJnlTimeSet (n : Fin 4) (j : Job) (s : State) : Host.Outcome State Fault Refusal :=
  .next (s.ceremonyJob n j fun s => (s.up n fun st => st.rebase s.now (j.w6 % 2 ^ 63) st.nv.slew).succeed n j [])

/-- A signed byte. -/
def signed8 (b : Nat) : Int := if b ≥ 128 then (b : Int) - 256 else b

/-- JNL_TIME_SLEW, R160. -/
def execJnlTimeSlew (n : Fin 4) (j : Job) (s : State) : Host.Outcome State Fault Refusal :=
  .next (s.mgrJob n j fun s =>
    let r := signed8 (bits j.w6 0 8)
    if r < -100 ∨ r > 100 then s.fail n j 0x41
    else (s.up n fun st => st.rebase s.now (st.deviceTime s.now) r).succeed n j [])

/-- JNL_ROLLOVER, R678. -/
def execJnlRollover (n : Fin 4) (j : Job) (s : State) : Host.Outcome State Fault Refusal :=
  .next (s.ceremonyJob n j fun s =>
    if ¬ (s.sd n).writer then s.fail n j 0x51
    else s.room n j 16 fun s =>
      (s.up n fun st => { st.hold j with jnl := { st.jnl with rolling := some j } }).tryRollover n)

/-- MIR_ROLE_SWAP, R184; an unpaired writer has no keeper to grant it (0x50, log entry 17). -/
def execMirRoleSwap (n : Fin 4) (j : Job) (s : State) : Host.Outcome State Fault Refusal :=
  .next (s.mgrJob n j fun s =>
    if ¬ (s.sd n).writer then s.fail n j 0x51
    else if ¬ (s.sd n).flag R.MIR_STATUS_PAIRED then s.fail n j 0x50
    else (s.up n fun st => { st.hold j with mir := { st.mir with swap := some j, swapSent := false } }).trySwap n)

/-- MIR_TAKEOVER, R183, R193. -/
def execMirTakeover (n : Fin 4) (j : Job) (s : State) : Host.Outcome State Fault Refusal :=
  .next (s.mgrJob n j fun s =>
    let st := s.sd n
    if st.writer ∨ (st.flag R.MIR_STATUS_PAIRED ∧ st.mir.lostAt.isNone) then s.fail n j 0x30
    else s.room n j 4 fun s =>
      let s := s.takeover n
      s.succeed n j (toLE 4 (s.sd n).jnl.s.epoch))

/-- JOURNAL_CHECKPOINT, R170, R201: once a second while the strand runs; a program that does not verify is JNL_ERR code 3, and the last
checkpoint stands. -/
def execJournalCheckpoint (n : Fin 4) (s : State) (ok : Bool := true) : Host.Outcome State Fault Refusal :=
  let st := s.sd n
  if st.halted ∨ ¬ (2 ≤ st.mode ∧ st.mode ≤ 5) then .next s
  else
    let s := s.upTo (st.jnl.ckptAt + 1000000000)
    .next (s.up n fun st =>
      if ok then st.checkpoint s.now
      else State.jnlErr { st with jnl := { st.jnl with ckptAt := s.now } } 3 st.jnl.s.cur.no)

/-- STORE_ENTRY_WRITE, R166, R167, R187: what an ended journal still owes, then the next entry in order, then superseded copies. -/
def execStoreEntryWrite (n : Fin 4) (writeOk : Bool) (s : State) : Host.Outcome State Fault Refusal :=
  let st := s.sd n
  let settle := fun (s : State) => (s.up n fun st => st.trimBuf.trimSup.jnlSync).tryRollover n
  if st.halted ∨ ¬ st.flag R.JNL_CTL_STORE_EN ∨ st.jnl.store.isNone then .next s
  else match st.jnl.old.find? (·.store), st.jnl.storeQ with
    | some x, _ =>
      if !writeOk then .next (s.up n fun st => State.jnlErr st 2 x.e.no)
      else match s.storeWrite n x.e false true with
        | (s, true) =>
          let mark : OldEnt → OldEnt := fun y => if y = x then { y with store := false } else y
          .next (settle (s.up n fun st => { st with jnl := { st.jnl with old := st.jnl.old.map mark } }))
        | (s, false) => .next s
    | none, k :: rest =>
      match st.jnl.buf.find? (·.no == k) with
      | none => .next (s.up n fun st => { st with jnl := { st.jnl with storeQ := rest } })
      | some e =>
        if !writeOk then .next (s.up n fun st => State.jnlErr st 2 k)
        else match s.storeWrite n e false false with
          | (s, true) => .next (settle (s.up n fun st => { st with jnl := { st.jnl with storeQ := rest } }))
          | (s, false) => .next s
    | none, [] =>
      match st.jnl.sup.find? fun x => !x.stored with
      | none => .next s
      | some x =>
        if !writeOk then .next (s.up n fun st => State.jnlErr st 2 x.e.no)
        else match s.storeWrite n x.e true false with
          | (s, true) =>
            let mark := fun (y : SupEnt) => if y.e.no = x.e.no then { y with stored := true } else y
            .next (settle (s.up n fun st => { st with jnl := { st.jnl with sup := st.jnl.sup.map mark } }))
          | (s, false) => .next s

/-- CARD_HEAD_WRITE, R168, R511: the heads not yet on the card, those of an ended journal first, in a run of up to 64 sectors; a failed write
is JNL_ERR code 1. -/
def execCardHeadWrite (n : Fin 4) (ok : Bool) (s : State) : Host.Outcome State Fault Refusal :=
  let st := s.sd n
  let past := (st.jnl.old.filter (·.card)).take 64
  let run := (st.jnl.buf.filter fun e => decide (e.no > st.jnl.headNo) || st.jc.missed.contains e.no).take 64
  let write := fun (st : Strand) (l : List Entry) => l.foldl (fun (st : Strand) e =>
    st.emit .journalCard 25 (State.cardSector st (State.headSector st e.no) e.head)) st
  match past.map (·.e) ++ run, State.cardRuns st with
  | [], _ | _, false => .next s
  | e :: _, true =>
    if !ok then .next (s.up n fun st => State.jnlErr st 1 e.no)
    else if !past.isEmpty then
      let mark : OldEnt → OldEnt := fun y => if past.contains y then { y with card := false } else y
      let st := write st (past.map (·.e))
      .next (s.setSd n { st with jnl := { st.jnl with old := st.jnl.old.map mark } }.trimBuf)
    else
      let st := write st run
      let top := run.foldl (fun m e => max m e.no) st.jnl.headNo
      let st := { st with jnl := { st.jnl with headNo := top }
                          jc := { st.jc with missed := st.jc.missed.filter fun k => !(run.any (·.no == k)) } }
      .next (s.setSd n st.trimBuf)

/-- ANCHOR_WRITE, R168, R510: an AUTH_WRITE of the latest headed entry's anchor. -/
def execAnchorWrite (n : Fin 4) (result wcount : Nat) (macOk : Bool) (s : State) : Host.Outcome State Fault Refusal :=
  let st := s.sd n
  .next (if ¬ State.cardRuns st ∨ ¬ st.flag R.JC_STATUS_ANCHORING ∨ st.jnl.headNo = 0 then s
    else s.setSd n (State.writeAnchor st st.jnl.headNo result wcount macOk))

end Sys2Proof.Machine
end

