-- ==== Sys2Proof/Machine/TagOps.lean ====
section
/-! DEFINITION. What other chapters do to the tag memory, R539 to R541, and the life-cycle transitions with their tag update,
R67 to R72. -/

namespace Sys2Proof.Machine
open Sys2Proof

namespace State

/-- Change the tag. -/
def upTag (s : State) (f : Tag → Tag) : State := s.upR fun r => { r with tag := f r.tag }

/-- Whether the tag is KILLED, R546. -/
def tagKilled (s : State) : Bool := s.ring.tag.st == .killed

/-- Block 0 as ring supervision keeps it: life-cycle, modes at the last update, UPDATE_NO, R540. -/
def tagLive0 (s : State) : Bytes :=
  let ups := (s.strands.toList.map fun st => st.nv.tagUpdates).sum
  ascii "YL" ++ toLE 1 (s.life + 128 * b2n s.tagKilled) ++ toLE 1 (b2n s.lifeInvalid) ++ toLE 1 s.ring.ident.ownerDigests.length
    ++ (s.strands.toList.map fun st => toLE 1 st.nv.tagMode).flatten ++ toLE 4 (s.ring.tag.updateNo + ups) ++ zeros 3

/-- Block 0, R540: while ring supervision has failed it stays as it was, but for the mark of a kill, R24, R546 (log entry 126). -/
def tagBlock0 (s : State) : Bytes :=
  match s.ring.tag.held0 with
  | some b => b.take 2 ++ toLE 1 (le b 2 1 % 128 + 128 * b2n s.tagKilled) ++ b.drop 3
  | none => s.tagLive0

/-- A block as a reader or the host sees it, R539, R540. -/
def tagBlock (s : State) (b : Nat) : Bytes :=
  match b with
  | 0 => s.tagBlock0
  | 1 => fit 12 s.ring.tag.uid ++ [0x20, 0x51, 0x01, 0x01]
  | 2 => fit 16 s.ring.ident.deviceId
  | 3 => fit 8 (s.ring.ident.constellation.getD []) ++ toLE 4 s.ring.tag.noteCount ++ zeros 4
  | _ => ((s.ring.tag.blocks.find? (·.1 == b)).map (·.2)).getD (zeros 16)

/-- Program a block: the copy not in use is written and the mark moved, R545. -/
def setTagBlock (s : State) (b : Nat) (d : Bytes) : State :=
  s.upTag fun t => { t with blocks := (b, fit 16 d) :: t.blocks.filter (·.1 != b) }

/-- FIELD_DETn follows the field, R547: by TAG_CTL.FDET_EN with main power, by the configuration word without. -/
def fieldDet (s : State) : State :=
  let on := if s.ring.power then s.rflag R.TAG_CTL_FDET_EN else s.ring.tag.fdet
  let live := !s.ring.ident.tagFused && !s.ring.tfFailed && s.ring.tag.st != .off && !s.tagKilled
  s.upTag fun t => { t with fieldDet := live && on }

/-- Ring supervision rewrites a strand's TAMPER block, R540, with the erase-rank events (source, device time) found since; not on a part without
the tag, R532, nor where supervision or the front end has failed, R24. -/
def tamperBlock (s : State) (n : Fin 4) (latched line : Bool) (evs : List (Nat × Nat)) : State :=
  if s.ring.ident.tagFused ∨ s.ring.rsFailed ∨ s.ring.tfFailed then s
  else
    let old := s.tagBlock (4 + n.val)
    let st := s.sd n
    let flags := b2n (latched || bit (le old 0 1) 0) + 2 * b2n st.nv.quarantine + 4 * b2n (line || bit (le old 0 1) 2)
    let last := (evs.getLast?.map fun e => toLE 8 e.2).getD (sub old 4 8)
    let src := (evs.getLast?.map (·.1)).getD (le old 1 1)
    s.setTagBlock (4 + n.val) (toLE 1 flags ++ toLE 1 src ++ toLE 2 (min 65535 (le old 2 2 + evs.length)) ++ last ++ zeros 4)

/-- A life-cycle state's thermometer code is programmed in the three copies, R67, R68; tag block 0 follows, R72; at RETURNED and
SCRAPPED the tag secret goes, R541, and SCRAPPED clears the RETURN records, R58. -/
def advanceLife (s : State) (k : Nat) : State :=
  let s := s.upR fun r =>
    let x := r.ident.life
    let v := 2 ^ k - 1
    { r with ident := { r.ident with life := { a := x.a ||| v, b := x.b ||| v, c := x.c ||| v } } }
  let s := s.upTag fun t => { t with updateNo := t.updateNo + 1 }
  let s := if k ≥ 4 then (s.upTag fun t => { t with secret := none, staged := zeros 32 }).rput R.TAG_STATUS_SECRET_SET 0 else s
  if k = 5 then s.upAll fun st => { st with nv := { st.nv with returnRec := false } } else s

/-- A life-cycle transition as the doubled decision of R69: a mismatch leaves the fuse, and Warden asks again after 1 ms. It
is refused without ring supervision, R24. -/
def lifeStep (s : State) (n : Fin 4) (k : Nat) (d : Decision) (agree : Bool) : State :=
  if s.ring.rsFailed then s
  else if agree then s.advanceLife k else s.up n fun st => st.awaitRetry s.now d

/-- All four strands in RETURN: the device becomes RETURNED, R69. -/
def returnLife (s : State) (n : Fin 4) (agree : Bool) : State :=
  if s.life = 3 ∧ s.strands.toList.all fun st => st.mode == 7 then s.lifeStep n 4 .returned agree else s

/-- Entry into RETURN, R56, R57, R58: the RETURN record is programmed, the owner record and the retained state are erased and
the latch is cleared, R594. -/
def enterReturn (s : State) (n : Fin 4) (agree : Bool) : State :=
  let s := s.up n fun st =>
    let st := { st.setMode 7 10 with retry := none }
    { st.put R.JSP_STATUS_LATCH 0 with nv := { st.nv with
        returnRec := true, quarantine := false, latch := false, retCharter := none, retDigest := 0, runtime := [], reprov := none } }
  s.returnLife n agree

/-- The ceremony closes with the owner key changed, or TRANSIT becomes OWNED, R45, R56: the digest that the ceremony settled on fills the
next empty owner slot, the one before it is revoked, and the strand restarts; the first ownership installs the CONSTELLATION_ID of the
accepted ownership charter, R190. With every owner slot filled nothing changes (log entry 125). -/
def closeOwnership (s : State) (n : Fin 4) (d : BitVec 384) (agree : Bool) : State :=
  let k := s.ring.ident.ownerDigests.length
  let fuse := fun (s : State) => (s.up n fun st => { st with newOwner := none }).upR fun r =>
    { r with ident := { r.ident with
        ownerDigests := r.ident.ownerDigests ++ [(k, d)], revoked := if k = 0 then r.ident.revoked else r.ident.revoked ++ [k - 1] } }
  if (s.sd n).mode ≠ 5 ∨ k ≥ 8 then s
  else if s.life = 3 then (fuse s).restartStrand n 9
  else if s.life ≠ 2 ∨ s.ring.rsFailed then s
  else if !agree then s.up n fun st => { st.awaitRetry s.now .ownership with newOwner := some d }
  else
    let c := (s.sd n).accepted.map fun b => sub b 0x18 8
    let s := (fuse s).upR fun r => { r with ident := { r.ident with constellation := c } }
    (s.advanceLife 3).restartStrand n 9

end State

end Sys2Proof.Machine
end

