-- ==== Sys2Proof/Machine/Cards.lean ====
section
/-! DEFINITION. The journal-card slot, R503 to R514, and the custodian-card slot with its orders, R515 to R523. -/

namespace Sys2Proof.Machine
open Sys2Proof

/-! ### The journal card -/

namespace Strand

/-- The extents show in JC_UNCERTAIN, R513. -/
def jcSync (st : Strand) : Strand :=
  (st.put R.JC_UNCERTAIN_HELD st.jc.extents.length).put R.JC_STATUS_RPA_UNCERTAIN (b2n st.jc.anchorUnc.isSome)

/-- Change the journal-card slot. -/
def upJc (st : Strand) (f : Jc → Jc) : Strand := { st with jc := f st.jc }

/-- Every UNCERTAIN mark goes. -/
def clearUncertain (st : Strand) : Strand :=
  ((st.upJc fun c => { c with extents := [], anchorUnc := none }).put R.JC_UNCERTAIN_OVERFLOW 0).jcSync

/-- The card is no longer initialised: what JC_STATUS shows of it, R513. -/
def cardGone (st : Strand) : Strand :=
  let st := (((st.put R.JC_STATUS_PRESENT 0).put R.JC_STATUS_JARTEX 0).put R.JC_STATUS_PAIRED 0).put R.JC_STATUS_ANCHORING 0
  (st.put R.JC_STATUS_SPEED 0).put R.JC_STATUS_V18 0

/-- The heads in the write that CARD_HEAD_WRITE would make next. -/
def headRun (st : Strand) : List Entry :=
  (st.jnl.buf.filter fun e => decide (e.no > st.jnl.headNo) || st.jc.missed.contains e.no).take 64

/-- What becomes of a write in progress when the card leaves or the slot stops, R513: `phase` 0 no write or its busy released, 1
no data block sent, 2 data, 3 busy; `anchor` tells an anchor write from a run of heads; `started` blocks had begun. -/
def cutWrite (st : Strand) (phase : Nat) (anchor : Bool) (started : Nat) : Strand :=
  if phase < 2 then st
  else if anchor then (st.upJc fun c => { c with anchorUnc := some (st.get R.JC_WCOUNT, st.jnl.headNo) }).jcSync
  else match st.headRun with
    | [] => st
    | e :: _ =>
      let run := if phase = 3 then st.headRun else st.headRun.take started
      let st := st.upJc fun c => { c with missed := c.missed ++ run.map (·.no) }
      st.uncertain { first := State.headSector st e.no, count := run.length }

/-- The three card keys of R508, under the card root, each sent to its receiver: a status, or the contexts that hold them. -/
def deriveCardKeys (st : Strand) (t : Nat) (env : JobEnv) (cardId : Bytes) (no : Nat) : Strand × (Nat ⊕ (Ctx × Ctx × Ctx)) :=
  match st.rootRelease t env 4 with
  | (st, none) => (st, .inl 0x7F)
  | (st, some root) =>
  let key := fun (s : String) => bvBytes (Config.hmac256 root (ascii s ++ fit 16 cardId ++ toLE 1 st.id.val ++ toLE 2 no))
  match st.placeSession t env (strandKey 8 32 (4 + 8) 256) (key "JCM") 5 with
  | (st, .inl e) => (st, .inl e)
  | (st, .inr x) =>
    match st.placeSession t env (strandKey 3 1 (2048 + 4096) 256) (key "JC1") 0 with
    | (st, .inl e) => (st.freeCtx x, .inl e)
    | (st, .inr y) =>
      match st.placeSession t env (strandKey 3 1 (2048 + 4096) 256) (key "JC2") 0 with
      | (st, .inl e) => ((st.freeCtx x).freeCtx y, .inl e)
      | (st, .inr z) => (st, .inr (x, y, z))

/-- The contexts of the card keys take the place of those before. -/
def takeCardKeys (st : Strand) (k : Ctx × Ctx × Ctx) : Strand :=
  let free := fun (st : Strand) (k : Option Nat) => match k.bind st.slot with
    | some c => st.freeCtx c
    | none => st
  let st := free (free (free st st.jc.kMac) st.jc.kX1) st.jc.kX2
  (st.upJc fun d => { d with kMac := some k.1.idx, kX1 := some k.2.1.idx, kX2 := some k.2.2.idx }).onxSync

/-- The XTS contexts are poisoned, R262, and no further replay runs until the card is paired again, R512. -/
def distrust (st : Strand) (t : Nat) : Strand :=
  let one := fun (st : Strand) (k : Option Nat) => match k.bind st.slot with
    | some c => State.poison st t c.idx c.baseGen
    | none => st
  let st := one (one st st.jc.kX1) st.jc.kX2
  { st.put R.JC_STATUS_DISTRUST 1 with nv := { st.nv with distrust := true } }

/-- The pairing record shows in JC_CARD_ID and JC_PAIR. -/
def setPair (st : Strand) (cardId : Bytes) (no : Nat) : Strand :=
  ({ st with nv := { st.nv with pair := some (fit 16 cardId, no), pairNo := no } }.putBytes R.JC_CARD_ID (fit 16 cardId) 0 4).put R.JC_PAIR no

/-- Write one head to the card, and count it as headed. -/
def writeHead (st : Strand) (e : Entry) : Strand :=
  let st := st.emit .journalCard 25 (State.cardSector st (State.headSector st e.no) e.head)
  { st with jnl := { st.jnl with headNo := max st.jnl.headNo e.no }, jc := { st.jc with missed := st.jc.missed.filter (· != e.no) } }

/-- What the strand does when its paired card is back, R514, in order: the fate of an UNCERTAIN anchor, issued again where it did not
land (`again` is the card's answer to that); the UNCERTAIN heads, all where the extents overflowed, and those formed meanwhile; a
checkpoint; anchoring again. -/
def cardBack (st : Strand) (t : Nat) (mem : List Host.Cell) (wcount : Nat) (again : Nat × Nat × Bool) : Strand :=
  let st := match st.jc.anchorUnc with
    | some (w, no) =>
      if wcount > w then ({ st with jnl := { st.jnl with anchorNo := no } }.bump R.JC_ANCHORS).jnlSync
      else State.writeAnchor st st.jnl.headNo again.1 again.2.1 again.2.2
    | none => st
  let nos := (List.range (st.jnl.s.cur.no - st.jnl.headNo)).map (st.jnl.headNo + 1 + ·)
  let stored := (st.jnl.store.map fun x => (x.ents.filter fun e => !e.sup && !e.old).map (·.no)).getD []
  let every := if st.flag R.JC_UNCERTAIN_OVERFLOW then stored ++ st.jnl.buf.map Entry.no else []
  let all := (st.jc.missed ++ nos ++ every).eraseDups
  let st := (all.filterMap (st.entryBody mem)).foldl (fun st e => st.writeHead e) st
  ((st.clearUncertain).checkpoint t).trimBuf

end Strand

/-- JC_CARD_INSERT, R505: JCn_CD is asserted, and the debounce of 100 ms runs. -/
def execJcCardInsert (n : Fin 4) (s : State) : Host.Outcome State Fault Refusal :=
  let st := s.sd n
  .next (if st.mode = 0 ∨ st.jc.inserted then s
    else s.setSd n (st.upJc fun c => { c with inserted := true, debounceAt := some (s.now + 100000000) }))

/-- Whether the journal-card slot works in the present mode: beyond watching JCn_CD, R524. -/
def jcWorks (st : Strand) : Bool := !st.halted && decide (1 ≤ st.mode) && decide (st.mode ≤ 5)

/-- JC_DEBOUNCE_DONE, R505: the card is powered and initialised. -/
def execJcDebounceDone (n : Fin 4) (s : State) : Host.Outcome State Fault Refusal :=
  match (s.sd n).jc.debounceAt with
  | none => .next s
  | some t =>
    let s := s.upTo t
    .next (s.up n fun st =>
      let st := st.upJc fun c => { c with debounceAt := none }
      if jcWorks st ∧ st.jc.inserted then (st.upJc fun c => { c with awaitInit := true }).emit .journalCard 0 [] else st)

/-- JC_INIT_COMPLETE, R504, R505, R507, R514: `fail` is the JC_ERR code that ended the initialisation (0: none); `v18` whether the
switch to 1.8 V succeeded, with `v18Fail` where the card offered it and it failed; `speed` the fastest mode the card offers;
`tuned` whether tuning succeeded; `ident` the answer to IDENT (CARD_ID and the PAIR_NO of the label), none for a generic card;
the sector count; the counter read with the validity of its response, where the strand has a key to ask under (log entry 149); the
answer to an anchor issued again. -/
def execJcInitComplete (n : Fin 4) (fail : Nat) (v18 v18Fail : Bool) (speed : Nat) (tuned : Bool) (ident : Option (Bytes × Nat))
    (sectors wcount : Nat) (macOk : Bool) (s : State) (again : Nat × Nat × Bool := (0, 0, true)) : Host.Outcome State Fault Refusal :=
  let st := s.sd n
  if ¬ st.jc.awaitInit ∨ ¬ jcWorks st then .next s
  else
    let st := st.upJc fun c => { c with awaitInit := false }
    if fail ≠ 0 then .next (s.setSd n (State.jcErr st fail 0))
    else
      let st := if v18Fail ∧ ¬ v18 then State.jcErr st 7 0 else st
      let want := min (min speed (min 4 (st.get R.JC_CTL_SPEED_MAX))) (if v18 then 4 else 1)
      let st := if want ≥ 3 ∧ ¬ tuned then State.jcErr st 4 0 else st
      let st := (st.put R.JC_STATUS_SPEED (if want ≥ 3 ∧ ¬ tuned then 2 else want)).put R.JC_STATUS_V18 (b2n v18)
      let st := (st.put R.JC_STATUS_PRESENT 1).put R.JC_STATUS_JARTEX (b2n ident.isSome)
      let id := (ident.map (·.1)).getD []
      let st := if st.jc.cardId ≠ id then (st.clearUncertain).put R.JC_STATUS_COUNTER_EXPIRED 0 else st
      let ring := (sectors - 2048) / 2048 * 2048
      let due := s.now + 60000000000 * st.get R.JC_CTL_RETUNE
      let st := st.upJc fun c => { c with sectors := sectors, retuneAt := due, cardId := id, ringLen := ring }
      match ident with
      | none => .next (s.setSd n st)
      | some (id, no) =>
        let asked := (State.cardMac st).isSome
        let st := if asked ∧ ¬ macOk then State.cardRefused st 5 st.jnl.headNo else st
        let paired := asked && macOk && (match st.nv.pair with | some (i, k) => fit 16 id == i && k == no | none => false)
        let st := st.put R.JC_STATUS_PAIRED (b2n paired)
        if !paired then .next (s.setSd n st)
        else
          let st := (State.setCounter st wcount).put R.JC_STATUS_ANCHORING 1
          .next (s.setSd n (if st.mode = 1 then st else st.cardBack s.now s.mem wcount again))

/-- JC_CARD_REMOVE, R513: JCn_CD falls, and every operation ends at once; see `cutWrite` for the operands. -/
def execJcCardRemove (n : Fin 4) (phase : Nat) (anchor : Bool) (started : Nat) (s : State) : Host.Outcome State Fault Refusal :=
  let st := s.sd n
  .next (if st.mode = 0 then s
    else
      let st := if State.cardRuns st then st.cutWrite phase anchor started else st
      s.setSd n ((st.cardGone).upJc fun c => { c with inserted := false, debounceAt := none, awaitInit := false }))

/-- JC_BUSY_TIMEOUT, R506: DAT0 stayed low for 500 ms; the card is power-cycled and initialised again. -/
def execJcBusyTimeout (n : Fin 4) (s : State) : Host.Outcome State Fault Refusal :=
  let st := s.sd n
  .next (if ¬ st.flag R.JC_STATUS_PRESENT ∨ ¬ jcWorks st then s
    else s.setSd n ((((State.jcErr st 3 0).cardGone).upJc fun c => { c with awaitInit := true }).emit .journalCard 0 []))

/-- JC_RETUNE_DUE, R504: after RETUNE minutes, or after a data CRC error that survived two retries (`crc`), the controller tunes
again; a tuning that fails 40 times leaves SDR25. An error that survived two retries is three CRC errors. -/
def execJcRetuneDue (n : Fin 4) (crc ok : Bool) (s : State) : Host.Outcome State Fault Refusal :=
  let st := s.sd n
  if ¬ st.flag R.JC_STATUS_PRESENT ∨ st.get R.JC_STATUS_SPEED < 3 ∨ ¬ jcWorks st then .next s
  else
    let s := if crc then s else s.upTo st.jc.retuneAt
    let st := if crc then State.jcErr (st.add R.JC_CRC_ERR 3) 2 0 else st
    let st := st.emit .journalCard 19 []
    let st := st.upJc fun c => { c with retuneAt := s.now + 60000000000 * st.get R.JC_CTL_RETUNE }
    .next (s.setSd n (if ok then st else (State.jcErr st 4 0).put R.JC_STATUS_SPEED 2))

/-- JC_PAIR, R508, R522: the card's RESULT to KEY_PROGRAM, and the counter it then reads. A pairing that fails leaves the keys before. -/
def execJcPair (n : Fin 4) (j : Job) (result wcount : Nat) (s : State) : Host.Outcome State Fault Refusal :=
  .next (s.mgrJob n j fun s =>
    let st := s.sd n
    if st.mode ≠ 5 ∨ ¬ st.cc.pairPermit then s.fail n j 0x30
    else if ¬ st.flag R.JC_STATUS_PRESENT then s.fail n j 0x66
    else s.room n j 18 fun s =>
      let st := { st with cc := { st.cc with pairPermit := false } }
      let no := (st.nv.pairNo + 1) % 65536
      let id := fit 16 st.jc.cardId
      if ¬ st.flag R.JC_STATUS_JARTEX then (s.setSd n (State.jcErr st 1 0)).fail n j 0x69
      else match st.deriveCardKeys s.now j.env id no with
        | (st, .inl e) => (s.setSd n st).fail n j e
        | (st, .inr k) =>
          let st := st.emit .journalCard 56 (State.rpaFrame 1 0 0 [] ((st.sessionKey (some k.1.idx) 5).getD []) none)
          if result ≠ 0 then (s.setSd n (State.jcErr (((st.freeCtx k.1).freeCtx k.2.1).freeCtx k.2.2) 6 0)).fail n j 0x69
          else
            let st := ((st.takeCardKeys k).clearUncertain).setPair id no
            let st := { st with nv := { st.nv with distrust := false } }
            let label := ascii "JCLB" ++ toLE 1 1 ++ toLE 1 n.val ++ toLE 2 no ++ toLE 8 2048 ++ toLE 8 st.jc.ringLen
            let st := st.emit .journalCard 25 (State.cardSector st 0 label)
            let st := ((State.setCounter st wcount).put R.JC_STATUS_PAIRED 1).put R.JC_STATUS_ANCHORING 1
            let st := (st.put R.JC_STATUS_COUNTER_EXPIRED 0).upJc fun c => { c with missed := [] }
            (s.setSd n { st with jnl := { st.jnl with headNo := 0 } }).succeed n j (id ++ toLE 2 no))

/-- A head in its place of the chain, R162: after the J before it, and with the anchor's J where the anchor stands at it or before it. -/
def headLink (no : Nat) (prev : Option Bytes) (aNo : Nat) (aJ : Bytes) (e : Entry) : Bool :=
  e.no == no && e.chained && prev.all (· == e.prev) && (aNo != no || e.j == aJ) && (aNo + 1 != no || e.prev == aJ)

/-- Whether heads chain one to the next from an entry number, R162. -/
def headsChain (no : Nat) (prev : Option Bytes) (aNo : Nat) (aJ : Bytes) : List Entry → Bool
  | [] => true
  | e :: r => headLink no prev aNo aJ e && headsChain (no + 1) (some e.j) aNo aJ r

/-- JC_HEADS, R512, R522: the card's sectors from entry FROM on, to TO and to its anchor, as read, and the anchor that AUTH_READ gives with
the validity of its MAC. The heads up to TO are delivered; the stream is judged at its end. -/
def execJcHeads (n : Fin 4) (j : Job) (sectors : List Bytes) (anchor : Bytes) (macOk : Bool) (s : State) : Host.Outcome State Fault Refusal :=
  .next (s.mgrJob n j fun s =>
    let st := s.sd n
    let k := j.w7 + 1 - j.w6
    if ¬ st.flag R.JC_STATUS_PRESENT then s.fail n j 0x66
    else if ¬ st.flag R.JC_STATUS_PAIRED then s.fail n j 0x67
    else if j.w6 = 0 ∨ j.w7 < j.w6 then s.fail n j 0x41
    else match State.cardKeys st, st.jc.kX1.bind st.slot, st.jc.kX2.bind st.slot with
      | some (a, b), some x, some y =>
        if x.poisoned ∨ y.poisoned ∨ st.nv.distrust then s.fail n j 0x21
        else s.room n j (512 * k) fun s =>
          let (nonce, st) := st.drawBytes 16
          let st := st.emit .journalCard 56 (State.rpaFrame 4 0 0 nonce [] (State.cardMac st))
          let plain := (List.range sectors.length).map fun i =>
            xtsCrypt false a b 512 (State.headSector st (j.w6 + i)) 1 (fit 512 (sectors.getD i []))
          let es := plain.map fun p => ({ head := p, body := none } : Entry)
          let out := (plain.take k).flatten
          let aNo := le anchor 16 8
          let reach := decide (plain.length ≥ k) && decide (j.w6 ≤ aNo + 1) && decide (aNo < j.w6 + plain.length)
          if macOk ∧ reach ∧ headsChain j.w6 none aNo (sub anchor 40 32) es then (s.setSd n st).succeed n j out
          else
            let st := if macOk then st else State.cardRefused st 5 st.jnl.headNo
            (s.setSd n (st.distrust s.now)).succeed n j out 0 1
      | _, _, _ => s.fail n j 0x21)

/-- JC_COUNTER, R509, R522: the counter in the card's answer with the validity of its MAC and NONCE. -/
def execJcCounter (n : Fin 4) (j : Job) (wcount : Nat) (macOk : Bool) (s : State) : Host.Outcome State Fault Refusal :=
  .next (s.mgrJob n j fun s =>
    let st := s.sd n
    if ¬ st.flag R.JC_STATUS_PRESENT then s.fail n j 0x66
    else if ¬ st.flag R.JC_STATUS_PAIRED then s.fail n j 0x67
    else s.room n j 8 fun s =>
      let (nonce, st) := st.drawBytes 16
      let st := st.emit .journalCard 56 (State.rpaFrame 2 0 0 nonce [] (State.cardMac st))
      if !macOk then (s.setSd n (State.cardRefused st 5 st.jnl.headNo)).fail n j 0x69
      else
        (s.setSd n (State.setCounter st wcount)).succeed n j (toLE 4 wcount ++ toLE 4 (0xFFFFFFFF - wcount)))

/-- JC_EJECT, R522: the final anchor is written (the card's RESULT, counter and the validity of its answer), the card is powered
off, and removal is safe. -/
def execJcEject (n : Fin 4) (j : Job) (result wcount : Nat) (macOk : Bool) (s : State) : Host.Outcome State Fault Refusal :=
  .next (s.mgrJob n j fun s =>
    let st := s.sd n
    if ¬ st.flag R.JC_STATUS_PRESENT then s.fail n j 0x66
    else if ¬ State.cardRuns st ∨ st.jnl.headNo = 0 then (s.setSd n st.cardGone).succeed n j []
    else
      let s := s.setSd n (State.writeAnchor st st.jnl.headNo result wcount macOk).cardGone
      if !macOk then s.fail n j 0x69
      else if result = 7 then s.fail n j 0x68
      else if result ≠ 0 then s.fail n j 0x69
      else s.succeed n j [])

/-! ### Orders and what they do -/

namespace Strand

/-- Change the custodian-card slot. -/
def upCc (st : Strand) (f : Cc → Cc) : Strand := { st with cc := f st.cc }

/-- The registers that show the order slot. -/
def ccSync (st : Strand) : Strand :=
  match st.cc.order with
  | some o => ((((st.put R.CC_ORDER_NO o.no).put R.CC_APPROVALS_HELD o.held.length).put R.CC_APPROVALS_M o.m)).put R.CC_APPROVALS_STATE 1
  | none => st.put R.CC_APPROVALS_STATE 0

/-- Custodian activity, R78. -/
def custodianActive (st : Strand) (t : Nat) : Strand := { st with ceremonyBeat := t }

/-- Record a custodian-slot fault, R530. -/
def ccErr (st : Strand) (code sw : Nat) : Strand :=
  st.noteErr R.CC_ERR_VALID R.CC_ERR_CODE R.CC_ERR_OVERFLOW code fun st =>
    (st.put R.CC_ERR_INFO_SW sw).put R.CC_ERR_INFO_ORDER_TYPE ((st.cc.order.map (·.kind)).getD 0)

/-- Roots 0, 3 and 4 are drawn, R209; the attestation secret may be exported once, R240. -/
def drawRoots (st : Strand) : Strand :=
  let one := fun (st : Strand) (k : Nat) => let (x, st) := st.draw; st.setRoot k (BitVec.ofNat 256 x)
  let st := one (one (one st 0) 3) 4
  { st with nv := { st.nv with vault := { st.nv.vault with attestDraw := 1 } } }

/-- Every link closes, with a CLOSE frame while the strand runs, R489. -/
def quietLinks (st : Strand) : Strand := { st with links := [] }

end Strand

namespace State

/-- The strand enters CEREMONY, R56, R489, R519. -/
def enterCeremony (s : State) (n : Fin 4) (openers : List Nat) : State :=
  let s := ((s.sd n).links.map (·.num)).foldl (fun s k => s.linkOff n k) s
  s.up n fun st =>
    let st := ((st.modeCheckpoint s.now).setMode 5 7).put R.CC_STATUS_QUORUM 1
    let st := ((st.quietLinks).holdRelays).oplSync
    let st := st.upCc fun c => { c with openers := openers, pairPermit := false }
    { st with freezeOpen := false, retry := none }.custodianActive s.now

/-- The re-provision order takes effect, R56, R58: the mark and the canary are written, and the strand restarts. -/
def reprovision (s : State) (n : Fin 4) (agree : Bool) : State :=
  if (s.sd n).mode ≠ 6 then s
  else if !agree then s.up n fun st => st.awaitRetry s.now .reprovision
  else (s.up n fun st => { st with nv := { st.nv with
      reprov := some (st.deviceTime s.now), canaryOk := true, canaryVoid := false } }).restartStrand n 12

/-- The return order, R56: from QUARANTINE straight to RETURN by a doubled decision; from CEREMONY through the erase that
ERASE_DECISION decides, R592. -/
def returnOrder (s : State) (n : Fin 4) (agree : Bool) : State :=
  match (s.sd n).mode with
  | 6 => if agree then s.enterReturn n true else s.up n fun st => st.awaitRetry s.now .returnOrder
  | 5 => s.up n fun st => { st with jsp := { st.jsp with erase := some { cause := 4, src := 0, frm := 0, tries := 0 } } }
  | _ => s

/-- The ownership order, R56, R161, R209, R666: CEREMONY, the roots drawn, the canary written, the home writer's journal opened. -/
def ownership (s : State) (n : Fin 4) (openers : List Nat) : State :=
  (s.enterCeremony n openers).up n fun st =>
    let st := st.drawRoots
    let st := { st with nv := { st.nv with canaryOk := true, canaryVoid := false } }
    if st.flag R.MIR_ROLE_HOME_ROLE then
      let (id, st) := st.drawBytes 16
      ((st.openJournal id {}).jnlSync).checkpoint s.now
    else st

/-- Whether an order type is accepted now, R519. -/
def orderAccepted (s : State) (n : Fin 4) (kind : Nat) : Bool :=
  let st := s.sd n
  match kind with
  | 1 => st.mode == 2 || st.mode == 3 || st.mode == 4
  | 2 => st.mode == 1 && s.life == 2 && (st.accepted.map fun b => bit (Charter.flags b) 0) == some true
  | 3 => st.mode == 6
  | 4 => st.mode == 5 || st.mode == 6
  | 5 => st.mode == 5 && s.ring.power
  | 6 | 7 | 8 => st.mode == 5
  | _ => false

/-- What an order does once its quorum is complete, R519; where the condition of R56 no longer holds, the mode stays. -/
def orderEffect (s : State) (n : Fin 4) (o : Order) (agree : Bool) : State :=
  let st := s.sd n
  match o.kind with
  | 1 => if (st.mode = 2 ∨ st.mode = 3 ∨ st.mode = 4) ∧ ¬ st.batchOpen then s.enterCeremony n o.held else s
  | 2 => if s.orderAccepted n 2 then s.ownership n o.held else s
  | 3 => if s.life = 3 then s.reprovision n agree else s
  | 4 => s.returnOrder n agree
  | 5 => if st.mode = 5 ∧ s.ring.power then
      s.up n fun st => ({ st with jsp := { st.jsp with window := some (s.now + 600000000000) } }.put R.JSP_CELL_WINDOW_OPEN 1)
    else s
  | 6 => if st.mode = 5 then s.up n fun st => st.upCc fun c => { c with pairPermit := true } else s
  | 7 => s.closeCeremony n agree
  | _ => if st.mode = 5 ∧ 1 ≤ s.life ∧ s.life ≤ 3 then s.lifeStep n 5 .scrap agree else s

/-- A custodian opcode: the slot runs in every mode but VIGIL and while HALTED, R524; the manager only, R522. -/
def ccJob (s : State) (n : Fin 4) (j : Job) (work : State → State) : State :=
  let st := s.sd n
  if st.halted ∨ st.mode = 0 then s
  else if s.dupHits n j.op then s.fail n j 0x7F
  else if !j.env.readOk then (s.hqErr 2 j.sq 0 j.fn).fail n j 0x40 (1 * 2 ^ 16)
  else if j.fn ≠ 0 then s.fail n j 0x41
  else work (s.up n fun st => st.custodianActive s.now)

end State

namespace Strand

/-- One T=1 block, R515: NAD 0, PCB, LEN, INF, and the LRC or CRC. -/
def t1Block (t : T1) (pcb : Nat) (inf : Bytes) : Bytes :=
  let b := [0] ++ toLE 1 pcb ++ toLE 1 inf.length ++ inf
  b ++ (if t.crc then toLE 2 (crc16 b).toNat else [b.foldl (· ^^^ ·) 0])

/-- I-blocks of at most IFSC bytes, chained, the send-sequence bit turning with each. -/
def t1Chain (t : T1) (data : Bytes) : Nat → T1 × Bytes
  | 0 => (t, [])
  | f + 1 =>
    let k := max 1 t.ifsc
    let more := decide (k < data.length)
    let b := t1Block t (64 * b2n t.ns + 32 * b2n more) (data.take k)
    let t := { t with ns := !t.ns }
    if more then let (t, r) := t1Chain t (data.drop k) f; (t, b ++ r) else (t, b)

/-- A command goes to the custodian card in I-blocks, R515. -/
def apdu (st : Strand) (ins : Nat) (data : Bytes) : Strand :=
  let (t, wire) := t1Chain st.cc.t1 data (data.length + 1)
  (st.upCc fun c => { c with t1 := t }).emit .custodianCard ins data wire

/-- An R- or S-block goes to the custodian card, R515, R516. -/
def t1Send (st : Strand) (pcb : Nat) (inf : Bytes) : Strand := st.emit .custodianCard pcb inf (t1Block st.cc.t1 pcb inf)

/-- The card's session ends with a status, R520. -/
def endSession (st : Strand) (status : Nat) : Strand :=
  st.upCc fun c => { c with step := .over, ended := status, waitUntil := none }

/-- An order is discarded with its approvals, R521, and a session for it is over. -/
def discardOrder (st : Strand) : Strand :=
  if st.cc.order.isNone then st
  else
    let st := if st.cc.step = .idle then st else st.endSession 0
    ((st.upCc fun c => { c with order := none, effected := false }).put R.CC_APPROVALS_HELD 0).ccSync

/-- VERIFY with the held block, R520. -/
def sendVerify (st : Strand) (block : Bytes) : Strand :=
  (st.upCc fun c => { c with step := .verify, pin := none, waitUntil := none }).apdu 0x20 ([0x00, 0x20, 0x00, 0x80, 0x08] ++ block)

/-- The session begins with SELECT once a card is active and an order collects approvals, R520. -/
def startSession (st : Strand) : Strand :=
  if st.flag R.CC_STATUS_ACTIVE ∧ st.cc.order.isSome ∧ (st.cc.step = .idle ∨ st.cc.step = .over) then
    (st.upCc fun c => { c with step := .select, ended := 0 }).apdu 0xA4
      [0x00, 0xA4, 0x04, 0x00, 0x08, 0xF0, 0x4A, 0x52, 0x54, 0x58, 0x43, 0x55, 0x53]
  else st

/-- Whether a custodian certificate is accepted for an order, R518, R519. -/
def custodianOk (st : Strand) (t : Nat) (o : Order) (c : Bytes) : Bool :=
  let now := st.deviceTime t
  let id := le c 8 8
  c.length == 160 && sub c 0 2 == ascii "CU" && le c 2 1 == 1 && decide (le c 3 1 < st.quorum.roots.length)
    && (le c 4 2 &&& o.groups) != 0 && !st.quorum.deny.contains id && decide (le c 0x10 8 ≤ now) && decide (now ≤ le c 0x18 8)
    && Config.verify 0x20 (st.quorum.roots.getD (le c 3 1) []) (signedText 0x20 (sub c 0 0x60)) (sub c 0x60 64)
    && !o.held.contains id && (o.kind != 7 || st.cc.openers.contains id)

end Strand

/-- CC_ORDER, R519 to R522. -/
def execCcOrder (n : Fin 4) (j : Job) (s : State) : Host.Outcome State Fault Refusal :=
  .next (s.ccJob n j fun s =>
    let st := s.sd n
    let b := j.input
    let kind := le b 0 1
    s.room n j 4 fun s =>
      if st.cc.order.isSome then s.fail n j 0x6A
      else if b.length ≠ 64 ∨ ¬ allZero b 1 3 ∨ le b 4 4 ≠ 0 ∨ ¬ allZero b 25 7 then s.fail n j 0x41
      else match st.cc.order, st.quorum.rules.find? (·.order == kind) with
      | none, some r =>
        if sub b 8 16 ≠ fit 16 s.ring.ident.deviceId ∨ le b 24 1 ≠ n.val ∨ ¬ s.orderAccepted n kind then s.fail n j 0x6A
        else
          let no := (st.nv.orderNo + 1) % 2 ^ 32
          let o : Order := { kind := kind, no := no, block := sub b 0 4 ++ toLE 4 no ++ b.drop 8, m := if kind = 7 then 1 else r.m
                             groups := r.groups, deadline := s.now + 60000000000 * st.get R.CC_CTL_ORDER_LIFE }
          let st := { st with nv := { st.nv with orderNo := no } }
          let st := ((st.upCc fun c => { c with order := some o, effected := false }).ccSync).startSession
          (s.setSd n st).succeed n j (toLE 4 no)
      | _, _ => s.fail n j 0x6A)

/-- The format 2 PIN block of ISO 9564 for clear digits, R520. -/
def pinBlock2 (d : List Nat) : Bytes :=
  let nib := [2, d.length] ++ d ++ List.replicate (14 - d.length) 15
  (List.range 8).map fun k => BitVec.ofNat 8 (16 * nib.getD (2 * k) 0 + nib.getD (2 * k + 1) 0)

/-- CC_PIN, R520, R522: the format 4 block is taken under the QUORUM PIN context; a session that waits goes on to VERIFY. -/
def execCcPin (n : Fin 4) (j : Job) (s : State) : Host.Outcome State Fault Refusal :=
  .next (s.ccJob n j fun s =>
    let st := s.sd n
    if st.zeroised then s.fail n j 0x60
    else if j.input.length ≠ 16 then s.fail n j 0x41
    else if (st.ctxFor 0xFF 0 j.ctx).any fun c => decide (c.attr.alg < 1 ∨ c.attr.alg > 3) then (s.up n (·.bump R.ONX_DENIED)).fail n j 0x21
    else match st.release s.now j.env 0xFF 0 j.ctx (2 ^ 9) 0 true with
      | (st, .inl e) => (s.setSd n st).fail n j e
      | (st, .inr c) =>
        match Config.pinOpen 4 c.key j.input [] with
          | some d =>
            if d.length < 4 ∨ d.length > 12 then (s.setSd n st).fail n j 0x41
            else
              let st := if st.cc.waitUntil.isSome then st.sendVerify (pinBlock2 d)
                else st.upCc fun c => { c with pin := some (pinBlock2 d, s.now + 60000000000) }
              (s.setSd n st).succeed n j []
          | none => (s.setSd n st).fail n j 0x41)

/-- CC_ORDER_Q, R522: state (0 IDLE, 1 COLLECTING, 2 IDLE after an order EFFECTED), ORDER_NO, approvals held, M. -/
def execCcOrderQ (n : Fin 4) (j : Job) (s : State) : Host.Outcome State Fault Refusal :=
  .next (s.ccJob n j fun s => s.room n j 10 fun s =>
    let st := s.sd n
    let code := if st.cc.order.isSome then 1 else if st.cc.effected then 2 else 0
    s.succeed n j (toLE 1 code ++ zeros 3 ++ toLE 4 (st.get R.CC_ORDER_NO) ++ toLE 1 (st.get R.CC_APPROVALS_HELD)
      ++ toLE 1 (st.get R.CC_APPROVALS_M)))

/-- CC_CANCEL, R521, R522. -/
def execCcCancel (n : Fin 4) (j : Job) (s : State) : Host.Outcome State Fault Refusal :=
  .next (s.ccJob n j fun s => (s.up n (·.discardOrder)).succeed n j [])

/-- CC_CLOSE, R45, R56, R522: the ceremony closes; `owner` is the digest of the owner key where the ceremony changed it (log entry 125).
0x30 outside CEREMONY. -/
def execCcClose (n : Fin 4) (j : Job) (agree : Bool) (s : State) (owner : Option (BitVec 384) := none) : Host.Outcome State Fault Refusal :=
  .next (s.ccJob n j fun s =>
    if (s.sd n).mode ≠ 5 then s.fail n j 0x30
    else
      let s := s.succeed n j []
      match owner with
      | some d => s.closeOwnership n d agree
      | none => s.closeCeremony n agree)

/-! ### The card in the slot -/

/-- Whether the custodian slot runs, R524. -/
def ccRuns (st : Strand) : Bool := !st.halted && st.mode != 0

/-- The PPS1 that the answer-to-reset's TA1 allows, R515: F up to 512 and D up to 16, else the defaults (log entry 149). -/
def ppsRate (ta1 : Nat) : Nat := if [0, 1, 9].contains (ta1 / 16) ∧ [1, 2, 3, 4, 5, 8].contains (ta1 % 16) then ta1 else 0x11

/-- CC_CARD_INSERT, R515, R520: the class that answered (2 C, 1 B, 0 neither), whether the card offers T=1, and its answer-to-reset: PPS and
the IFS request go out, and the session begins. -/
def execCcCardInsert (n : Fin 4) (cls : Nat) (t1 : Bool) (s : State) (atr : CardAtr := {}) : Host.Outcome State Fault Refusal :=
  let st := s.sd n
  if ¬ ccRuns st then .next s
  else
    let st := (st.custodianActive s.now).put R.CC_STATUS_PRESENT 1
    if cls = 0 ∨ cls > 2 then .next (s.setSd n (st.ccErr 1 0))
    else if !t1 then .next (s.setSd n (st.ccErr 6 0))
    else
      let st := ((st.put R.CC_STATUS_CLASS cls).put R.CC_STATUS_ACTIVE 1).put R.CC_STATUS_CUSTODIAN_OK 0
      let st := st.upCc fun c => { c with step := .idle, retries := 0, resyncs := 0, t1 := { ifsc := atr.ifsc, crc := atr.crc } }
      let rate := toLE 1 (ppsRate atr.ta1)
      let pps := [0xFF, 0x11] ++ rate
      let pps := pps ++ [pps.foldl (· ^^^ ·) 0]
      .next (s.setSd n (((st.emit .custodianCard 0xFF pps pps).t1Send 0xC1 [0xFE]).startSession))

/-- CC_CARD_REMOVE, R520: removal before step 5 completes records nothing. -/
def execCcCardRemove (n : Fin 4) (s : State) : Host.Outcome State Fault Refusal :=
  let st := s.sd n
  .next (if ¬ ccRuns st then s
    else
      let st := ((st.put R.CC_STATUS_PRESENT 0).put R.CC_STATUS_CLASS 0).put R.CC_STATUS_ACTIVE 0
      s.setSd n ((st.put R.CC_STATUS_CUSTODIAN_OK 0).upCc fun c => { c with step := .idle, waitUntil := none, cardKey := [] }))

/-- A status word ends the session, R520: 0x63Cx and 0x6983 from VERIFY as PIN_REFUSED, any other as CUSTODIAN_REFUSED. CC_ERR names what the
step asked for: certificate, PIN or signature (log entry 149). -/
def Strand.refuseSw (st : Strand) (sw : Nat) : Strand :=
  let code := match st.cc.step with | .verify => 5 | .auth => 4 | _ => 3
  (st.ccErr code sw).endSession (if st.cc.step = .verify ∧ (sw / 16 = 0x63C ∨ sw = 0x6983) then 0x6C else 0x6B)

/-- A verified approval is recorded; with M held the order takes effect, R521. -/
def State.approve (s : State) (n : Fin 4) (o : Order) (agree : Bool) : State :=
  let st := (s.sd n).endSession 0
  let o := { o with held := o.held ++ [st.cc.custodian] }
  if o.held.length ≥ o.m then
    let st := st.upCc fun c => { c with order := some o }
    let st := (st.ccSync.upCc fun c => { c with order := none, effected := true }).ccSync
    (s.setSd n st).orderEffect n o agree
  else s.setSd n (st.upCc fun c => { c with order := some o }).ccSync

/-- CC_APDU_RESPONSE, R520: the card's answer to the step sent: data and status word. `agree` is the doubled decision of an
order that takes effect by it; `abort` an ABORT from the card, which ends the chain and the command, R516. -/
def execCcApduResponse (n : Fin 4) (data : Bytes) (sw : Nat) (agree : Bool) (s : State) (abort : Bool := false) : Host.Outcome State Fault Refusal :=
  let st := s.sd n
  match st.cc.order with
  | none => .next s
  | some o =>
    if ¬ ccRuns st ∨ ¬ st.flag R.CC_STATUS_ACTIVE then .next s
    else
      let turn := (data.length + 2 + 253) / 254 % 2 == 1
      let st := (st.custodianActive s.now).upCc fun c => { c with retries := 0, resyncs := 0, t1 := { c.t1 with nr := c.t1.nr ^^ turn } }
      if abort then .next (s.setSd n ((st.t1Send 0xE2 []).endSession 0x6B)) else
      match st.cc.step with
      | .select =>
        if sw ≠ 0x9000 then .next (s.setSd n (st.refuseSw sw))
        else .next (s.setSd n ((st.upCc fun c => { c with step := .getData }).apdu 0xCA [0x80, 0xCA, 0x00, 0x01]))
      | .getData =>
        if sw ≠ 0x9000 then .next (s.setSd n (st.refuseSw sw))
        else if ¬ st.custodianOk s.now o data then .next (s.setSd n ((st.ccErr 3 sw).endSession 0x6B))
        else
          let st := (st.put R.CC_STATUS_CUSTODIAN_OK 1).upCc fun c =>
            { c with step := .verify, custodian := le data 8 8, cardKey := sub data 0x20 64 }
          match st.cc.pin with
          | some (p, t) =>
            if s.now < t then .next (s.setSd n (st.sendVerify p))
            else .next (s.setSd n (st.upCc fun c => { c with pin := none, waitUntil := some (s.now + 60000000000) }))
          | none => .next (s.setSd n (st.upCc fun c => { c with waitUntil := some (s.now + 60000000000) }))
      | .verify =>
        if st.cc.waitUntil.isSome then .next s
        else if sw ≠ 0x9000 then .next (s.setSd n (st.refuseSw sw))
        else
          let (x, st) := st.drawBytes 32
          let st := st.upCc fun c => { c with step := .auth, challenge := x }
          .next (s.setSd n (st.apdu 0x88
            ([0x00, 0x88, 0x00, 0x00] ++ x ++ bvBytes (Config.sha256 o.block))))
      | .auth =>
        if sw ≠ 0x9000 then .next (s.setSd n (st.refuseSw sw))
        else if Config.verify 0x20 st.cc.cardKey (signedText 0x20 (st.cc.challenge ++ bvBytes (Config.sha256 o.block))) data then
          .next ((s.setSd n st).approve n o agree)
        else .next (s.setSd n ((st.ccErr 4 sw).endSession 0x6B))
      | _ => .next s

/-- T1_BLOCK_TIMEOUT, R516: a block in error or missing: an R-block at most twice, RESYNCH up to three times, then the card is
deactivated. -/
def execT1BlockTimeout (n : Fin 4) (s : State) : Host.Outcome State Fault Refusal :=
  let st := s.sd n
  if ¬ ccRuns st ∨ ¬ st.flag R.CC_STATUS_ACTIVE then .next s
  else if st.cc.retries < 2 then
    .next (s.setSd n (((st.bump R.CC_T1_RETRY).upCc fun c => { c with retries := c.retries + 1 }).t1Send (0x82 + 16 * b2n st.cc.t1.nr) []))
  else if st.cc.resyncs < 3 then
    let st := (st.bump R.CC_T1_RETRY).upCc fun c => { c with retries := 0, resyncs := c.resyncs + 1, t1 := { c.t1 with ns := false, nr := false } }
    .next (s.setSd n (st.t1Send 0xC0 []))
  else
    let st := ((st.ccErr 2 0).put R.CC_STATUS_ACTIVE 0).put R.CC_STATUS_CLASS 0
    .next (s.setSd n ((st.put R.CC_STATUS_CUSTODIAN_OK 0).endSession 0x6B))

/-- CC_PIN_LAPSE, R520: a held block lapses after 60 s. -/
def execCcPinLapse (n : Fin 4) (s : State) : Host.Outcome State Fault Refusal :=
  match (s.sd n).cc.pin with
  | none => .next s
  | some (_, t) => .next ((s.upTo t).up n fun st => st.upCc fun c => { c with pin := none })

/-- CC_PIN_WAIT_EXPIRED, R520: no block came within 60 s; the session ends with 0x6C and no VERIFY is sent. -/
def execCcPinWaitExpired (n : Fin 4) (s : State) : Host.Outcome State Fault Refusal :=
  match (s.sd n).cc.waitUntil with
  | none => .next s
  | some t => .next ((s.upTo t).up n fun st => (st.ccErr 5 0).endSession 0x6C)

/-- ORDER_LIFE_EXPIRED, R521. -/
def execOrderLifeExpired (n : Fin 4) (s : State) : Host.Outcome State Fault Refusal :=
  match (s.sd n).cc.order with
  | none => .next s
  | some o => .next ((s.upTo o.deadline).up n (·.discardOrder))

end Sys2Proof.Machine
end

