-- ==== Sys2Proof/Machine/Entropy.lean ====
section
/-! DEFINITION. Configuration violations (R11, R79), and the Quartz entropy source, R311 to R327. -/

namespace Sys2Proof.Machine
open Sys2Proof

namespace Strand

/-- The SOURCE code of a requester, R79. -/
def sourceCode : Requester → Nat
  | .manager => 4
  | .vf _ => 5
  | .core _ _ p => p

/-- Record a configuration violation at an offset of the strand window, R11, R79, R80. -/
def violation (st : Strand) (who : Requester) (off : Nat) : Strand :=
  if st.flag R.CHT_VIOL_VALID then st.bump R.CHT_VIOL_OVERFLOW
  else (((st.put R.CHT_VIOL_VALID 1).put R.CHT_VIOL_MODE st.mode).put R.CHT_VIOL_SOURCE (sourceCode who)).put
    R.CHT_VIOL_ADDR_ADDR off

/-- QTZ_STATUS.GATED, R319, R325. -/
def gateSync (st : Strand) : Strand :=
  let l := st.get R.QTZ_GATE_LIMIT
  st.put R.QTZ_STATUS_GATED (b2n (l != 0 && decide (st.get R.QTZ_FAIL_COUNT > l)))

/-- The pool holds some bytes, R325. -/
def setLevel (st : Strand) (v : Nat) : Strand := (st.put R.QTZ_STATUS_LEVEL v).put R.QTZ_STATUS_VALID (b2n (decide (v > 512)))

/-- One health-test failure of a source, R316. -/
def healthFail (st : Strand) (f : Fld) (src : Nat) : Strand := ((st.bump f src).bump R.QTZ_FAIL_COUNT).gateSync

/-- Whether Quartz runs, R323, and a source of it is enabled, R324. -/
def sourceRuns (st : Strand) (src : Nat) : Bool := st.mode != 0 && decide (src < 4) && bit (st.get R.QTZ_CTL_SRC_EN) src

end Strand

namespace State

/-- A QTZ_RANDOM job is served from the pool, R322. -/
def serveRandom (s : State) (n : Fin 4) (j : Job) : State :=
  let len := bits j.w6 0 13
  let (x, st) := (s.sd n).drawBytes len
  (s.setSd n (st.setLevel (st.get R.QTZ_STATUS_LEVEL - len))).succeed n j x

/-- Waiting QTZ_RANDOM jobs are served in order while the pool holds what the first needs, R313. -/
def serveWaiting (s : State) (n : Fin 4) : Nat → State
  | 0 => s
  | k + 1 =>
    match (s.sd n).eng.qtzQ with
    | [] => s
    | j :: rest =>
      if bits j.w6 0 13 ≤ (s.sd n).get R.QTZ_STATUS_LEVEL then
        ((s.up n fun st => st.upEng fun e => { e with qtzQ := rest }).serveRandom n j).serveWaiting n k
      else s

end State

/-- ENTROPY_BLOCK_CONDITIONED, R312, R313: a 256-bit block enters the pool of 4 KiB, and waiting jobs are served. -/
def execEntropyBlockConditioned (n : Fin 4) (s : State) : Host.Outcome State Fault Refusal :=
  let st := s.sd n
  if st.mode = 0 then .next s
  else
    let s := s.setSd n (st.setLevel (min 4096 (st.get R.QTZ_STATUS_LEVEL + 32)))
    .next (if st.halted then s else s.serveWaiting n st.eng.qtzQ.length)

/-- RCT_FAILURE, R315, R316. -/
def execRctFailure (n : Fin 4) (src : Nat) (s : State) : Host.Outcome State Fault Refusal :=
  .next (if (s.sd n).sourceRuns src then s.up n (·.healthFail R.QTZ_FAIL_SRC_RCT src) else s)

/-- APT_WINDOW_END, R315, R316: the first bit of a window of 1,024 occurred `count` times. -/
def execAptWindowEnd (n : Fin 4) (src count : Nat) (s : State) : Host.Outcome State Fault Refusal :=
  let st := s.sd n
  .next (if st.sourceRuns src ∧ count ≥ st.get R.QTZ_TEST_APT_CUTOFF then s.up n (·.healthFail R.QTZ_FAIL_SRC_APT src) else s)

/-- QTZ_DATA_READ, R313, R321, R430, R434: only a Garnet core of the strand at P0 or P1 reaches the register. -/
def execQtzDataRead (n : Fin 4) (who : Requester) (s : State) : Host.Outcome State Fault Refusal :=
  let st := s.sd n
  let reach := match who with
    | .core m _ p => m == n && decide (p ≤ 1)
    | _ => false
  if !reach then .next { s with resp := .error }
  else if st.flag R.QTZ_STATUS_VALID then
    let (x, st) := st.draw
    .next { s.setSd n (st.setLevel (st.get R.QTZ_STATUS_LEVEL - 4)) with resp := .word (BitVec.ofNat 32 x) }
  else .next { s.setSd n (st.put R.QTZ_STATUS_UNDERRUN 1) with resp := .word 0 }

/-- QTZ_FAIL_CLR_WRITE, R318: the key clears the counts in CEREMONY; a write of it elsewhere is a violation. -/
def execQtzFailClrWrite (n : Fin 4) (who : Requester) (v : Nat) (s : State) : Host.Outcome State Fault Refusal :=
  let st := s.sd n
  if st.mode ≠ 5 then .next (s.setSd n (st.violation who R.QTZ_FAIL_CLR_KEY.off))
  else if v % 2 ^ 16 = 0xC1EA then
    let clear : Strand → Nat → Strand := fun st k => (st.put R.QTZ_FAIL_SRC_RCT 0 k).put R.QTZ_FAIL_SRC_APT 0 k
    .next (s.setSd n (((List.range 4).foldl clear st).put R.QTZ_FAIL_COUNT 0).gateSync)
  else .next s

/-- QTZ_RANDOM, R322, R674: served at once, or when the pool has filled. -/
def execQtzRandom (n : Fin 4) (j : Job) (s : State) : Host.Outcome State Fault Refusal :=
  let j := { j with op := 0x900 }
  let len := bits j.w6 0 13
  let st := s.sd n
  .next (
    if st.halted then s
    else if len = 0 ∨ len > 4096 then s.fail n j 0x41
    else if st.mode = 4 then s.fail n j 0x32
    else if ¬ (st.mode = 2 ∨ st.mode = 3 ∨ st.mode = 5) ∨ ¬ st.flag R.QTZ_CTL_HOST_EN then s.fail n j 0x30
    else if s.dupHits n j.op then s.fail n j 0x7F
    else s.room n j len fun s =>
      if st.eng.qtzQ.isEmpty ∧ len ≤ st.get R.QTZ_STATUS_LEVEL then s.serveRandom n j
      else s.up n fun st => (st.hold j).upEng fun e => { e with qtzQ := e.qtzQ ++ [j] })

end Sys2Proof.Machine
end

