-- ==== Sys2Proof/Machine/Flash.lean ====
section
/-! DEFINITION. The Agate flash of a strand, R555 to R579: check bytes, headers, the erase ledger, Warden's commands, scrubbing. -/

namespace Sys2Proof.Machine
open Sys2Proof

/-! ### Words and their check bytes, R556 -/

namespace Ecc

/-- p(i): the integers from 3 to 71 that are no power of two, in order. -/
def places : List Nat := (List.range 72).filter fun p => decide (p ≥ 3) && !([4, 8, 16, 32, 64].contains p)

/-- The ones of a number of seven bits. -/
def ones (p : Nat) : Nat := ((List.range 7).map fun k => b2n (bit p k)).sum

/-- The column h(i) of a place. -/
def col (p : Nat) : BitVec 8 := BitVec.ofNat 8 (p + 128 * ((1 + ones p) % 2))

/-- Exclusive or of the columns of the data bits that hold 0. -/
def fold (d : BitVec 64) : Nat → List Nat → BitVec 8
  | _, [] => 0
  | i, p :: r => (if d.getLsbD i then 0 else col p) ^^^ fold d (i + 1) r

/-- The check byte of a data word. -/
def check (d : BitVec 64) : BitVec 8 := 0xFF ^^^ fold d 0 places

/-- A stored word: data and check byte. -/
def word (d : BitVec 64) : BitVec 72 := check d ++ d

/-- The parity of 72 bits. -/
def parity (w : BitVec 72) : Bool := ((List.range 72).map fun k => b2n (w.getLsbD k)).sum % 2 == 1

/-- A read word decoded: its data, and 0 clean, 1 corrected, 2 uncorrectable. -/
def decode (w : BitVec 72) : BitVec 64 × Nat :=
  let d : BitVec 64 := w.setWidth 64
  let c : BitVec 8 := (w >>> 64).setWidth 8
  let s := (c ^^^ check d).toNat % 128
  if parity w then
    if s = 0 ∨ [1, 2, 4, 8, 16, 32, 64].contains s then (d, 1)
    else match places.findIdx? (· == s) with
      | some i => (d ^^^ (1#64 <<< i), 1)
      | none => (d, 2)
  else if s = 0 then (d, 0) else (d, 2)

/-- Whether one word may be programmed over another: no 1 where the stored word has a 0, R557. -/
def passes (old new : BitVec 72) : Bool := new &&& ~~~old == 0

end Ecc

/-! ### Blocks, headers and the ledger -/

namespace Flash

/-- The canonical form of a sparse array from a place on: places strictly rising, no blank word listed. -/
def cellsFrom : Nat → FlashCells → Bool
  | _, [] => true
  | lo, (k, w) :: r => decide (lo ≤ k) && decide (w ≠ BitVec.allOnes 72) && cellsFrom (k + 1) r

/-- The canonical form of the data words and the header words. -/
def wf (f : Flash) : Bool := cellsFrom 0 f.data && cellsFrom 0 f.heads

/-- The physical block of a logical block, R555; the order at wafer test is the model's (log entry 24). -/
def physOf (f : Flash) (i : Nat) : Nat := ((f.map.find? (·.1 == i)).map (·.2)).getD (i + 4)

/-- The logical block that a physical block serves. -/
def logicalOf (f : Flash) (p : Nat) : Option Nat :=
  match f.map.find? (·.2 == p) with
  | some x => some x.1
  | none => if 4 ≤ p ∧ p < 15401 ∧ ¬ f.map.any (·.1 == p - 4) then some (p - 4) else none

/-- The spares free. -/
def spares (f : Flash) : Nat := 983 - f.drawn + f.freed.length

/-- Draw a spare: its physical block. -/
def draw (f : Flash) : Option (Nat × Flash) :=
  if f.drawn < 983 then some (15401 + f.drawn, { f with drawn := f.drawn + 1 })
  else match f.freed with
    | p :: r => some (p, { f with freed := r })
    | [] => none

/-- Set the physical block of a logical block. -/
def remap (f : Flash) (i p : Nat) : Flash := { f with map := (i, p) :: f.map.filter (·.1 != i) }

/-- The header STATE value IN_USE, R559. -/
def inUse : BitVec 64 := 0x69FFFFFED3FDA3EC

/-- The header STATE value ERASED_OK, R559. -/
def erasedOk : BitVec 64 := 0xFFFFFFFFFFFDA3EC

/-- Whether an open record names a logical block. -/
def openOn (f : Flash) (i : Nat) : Bool := f.ledger.any fun r => r.logical == i && !r.closed && !r.voided

/-- The class of a logical block, R560: 0 BLANK, 1 ERASED_OK, 2 IN_USE, 3 ERASE_INCOMPLETE. -/
def classOf (f : Flash) (i : Nat) : Nat :=
  let (d, k) := Ecc.decode (cell f.heads (8 * f.physOf i))
  if f.openOn i ∨ k = 2 then 3
  else if d = BitVec.allOnes 64 then 0 else if d = erasedOk then 1 else if d = inUse then 2 else 3

/-- The ERASE_INCOMPLETE blocks: those with an open record or with a header that R559 does not give. -/
def incomplete (f : Flash) : List Nat :=
  let named := (f.ledger.filter fun r => !r.closed && !r.voided).map (·.logical)
  let heads := f.heads.filterMap fun h => f.logicalOf (h.1 / 8)
  ((named ++ heads).filter fun i => f.classOf i == 3).eraseDups

/-- Every data and header word of a physical block blank. -/
def blank (f : Flash) (p : Nat) : Flash :=
  { f with data := f.data.filter fun c => c.1 / 8192 != p, heads := f.heads.filter fun c => c.1 / 8 != p }

/-- The IDENT word, R558. -/
def ident (p i count : Nat) : BitVec 64 :=
  BitVec.ofNat 64 (p + (65535 - p) * 2 ^ 16 + i * 2 ^ 32 + count % 65536 * 2 ^ 48)

/-- The erase count of a physical block. -/
def count (f : Flash) (p : Nat) : Nat := ((f.counts.find? (·.1 == p)).map (·.2)).getD 0

/-- A physical block erased, its header programmed with a STATE value, R562. -/
def erased (f : Flash) (p i : Nat) (state : BitVec 64) : Flash :=
  let k := f.count p + 1
  let f := { f.blank p with counts := (p, k) :: f.counts.filter (·.1 != p) }
  { f with heads := setCell (setCell f.heads (8 * p) (Ecc.word state)) (8 * p + 1) (Ecc.word (ident p i k)) }

/-- A new ledger record, R561; with no room the other anchor takes over with the open records, R563. -/
def record (f : Flash) (p i t : Nat) : Flash × Nat :=
  let live := f.ledger.filter fun r => !r.closed && !r.voided
  let f := if f.room = 0 then { f with anchor := 5 - f.anchor, anchorGen := f.anchorGen + 1, ledger := live, room := 2048 - live.length } else f
  let r : EraseRec := { no := f.nextRec, phys := p, logical := i, time := t }
  ({ f with ledger := f.ledger ++ [r], room := f.room - 1, nextRec := (f.nextRec + 1) % 65536 }, f.nextRec)

/-- CLOSE of a record and of every older open record of the same logical block, R562. -/
def close (f : Flash) (i : Nat) : Flash :=
  { f with ledger := f.ledger.map fun r => if r.logical = i ∧ ¬ r.voided then { r with closed := true } else r }

/-- The device time of the oldest open record. -/
def oldest (f : Flash) : Option Nat :=
  ((f.ledger.filter fun r => !r.closed && !r.voided).map (·.time)).foldl (fun m t => some (match m with | some x => min x t | none => t)) none

end Flash

namespace Strand

/-- The AGT registers that follow the flash. -/
def agtSync (st : Strand) : Strand :=
  let f := st.nv.flash
  let st := (st.put R.AGT_SPARE_FREE f.spares).put R.AGT_SPARE_RETIRED f.retired.length
  let st := (st.put R.AGT_STATUS_SPARE_LOW (b2n (decide (f.spares < 32)))).put R.AGT_INCOMPLETE f.incomplete.length
  let st := (st.put R.AGT_STATUS_ERASE_OPEN (b2n st.agt.erase.isSome)).put R.AGT_STATUS_BUSY (b2n st.agt.prog.isSome)
  let st := if f.spares > 0 then st.put R.AGT_STATUS_SPARE_OUT 0 else st
  let susp := match st.agt.erase with | some e => e.suspended | none => false
  (st.put R.AGT_STATUS_SUSPENDED (b2n susp)).put R.HLT_SPARE_FLASH f.spares

/-- AGT_ERASE_AGE in milliseconds, R564. -/
def eraseAge (st : Strand) (t : Nat) : Nat :=
  match st.nv.flash.oldest with
  | some x => min (2 ^ 32 - 1) ((st.deviceTime t - x) / 1000)
  | none => 0

/-- Record a flash fault, R579. -/
def agtErr (st : Strand) (code block page word : Nat) : Strand :=
  st.noteErr R.AGT_ERR_VALID R.AGT_ERR_CODE R.AGT_ERR_OVERFLOW code fun st =>
    ((st.put R.AGT_ERR_INFO_BLOCK block).put R.AGT_ERR_INFO_PAGE page).put R.AGT_ERR_INFO_WORD word

/-- A result, R573, R577. -/
def agtResult (st : Strand) (code word : Nat) : Strand :=
  (((st.put R.AGT_RESULT_CODE code).put R.AGT_RESULT_WORD word).put R.AGT_RESULT_CORRECTED 0).put R.AGT_RESULT_CLASS 0

/-- The die is wanted: an open erase is suspended, R564. -/
def suspendErase (st : Strand) : Strand :=
  match st.agt.erase with
  | some e => if e.suspended then st
      else ({ st with agt := { st.agt with erase := some { e with suspended := true } } }.bump R.AGT_ERASE_SUSP).agtSync
  | none => st

/-- A word of AGT_PBUF. -/
def pbuf (st : Strand) (k : Nat) : BitVec 64 := BitVec.ofNat 64 (st.get R.AGT_PBUF (2 * k) + 2 ^ 32 * st.get R.AGT_PBUF (2 * k + 1))

/-- Set a word of AGT_PBUF. -/
def setPbuf (st : Strand) (k : Nat) (d : BitVec 64) : Strand :=
  (st.put R.AGT_PBUF d.toNat (2 * k)).put R.AGT_PBUF (d.toNat / 2 ^ 32) (2 * k + 1)

/-- Reset, the erase line or loss of power stops the die: a program leaves its words uncertain, an erase stays open in the ledger
with its block uncertain, R565. -/
def flashStop (st : Strand) : Strand :=
  let st := match st.agt.prog with | some p => st.spoil p | none => st
  { st with agt := {} }.agtSync

/-- A command of Warden at P0; from any other requester it is ignored and recorded, R572. -/
def agtGate (st : Strand) (n : Fin 4) (who : Requester) (work : Strand → Strand) : Strand :=
  if st.mode = 0 ∨ st.halted then st
  else if ¬ wardenOf n who then st.violation who 0xF00008
  else if st.agt.prog.isSome then st.agtResult 4 0
  else work st

end Strand

/-! ### Warden's commands -/

/-- The word that stands at a place of the die and at a word of its logical block. A block that an open record names holds whatever its cells
hold, an open value, R564. The event log's records stand in EVLOG, R569, R602. In
the regions whose records the spec lays out for no reader (RET_A to STATE), a word that no program of Warden's put there is open
(log entry 81). -/
def Strand.storedWord (st : Strand) (place logical word : Nat) : BitVec 72 × Strand :=
  if st.nv.flash.openOn logical then
    let (x, st) := st.draw
    (BitVec.ofNat 72 x, st)
  else if 1400 ≤ logical ∧ logical < 1464 then
    match st.nv.evlog.find? fun r => r.1 % 131072 == 2048 * (logical - 1400) + word / 4 with
    | some r => (Ecc.word (BitVec.ofNat 64 (le r.2 (8 * (word % 4)) 8)), st)
    | none => (Flash.cell st.nv.flash.data place, st)
  else if 8 ≤ logical ∧ logical < 1400 ∧ ¬ st.nv.flash.data.any (·.1 == place) then
    let (x, st) := st.draw
    (Ecc.word (BitVec.ofNat 64 x), st)
  else (Flash.cell st.nv.flash.data place, st)

/-- The words of a READ into AGT_PBUF: `noise` gives the bits that the die delivers wrong, by word of the page. -/
def readWords (st : Strand) (base logical page first : Nat) (noise : List (Nat × Nat)) : Nat → Nat → Strand
  | _, 0 => st
  | k, n + 1 =>
    let w := first + k
    let (stored, st) := st.storedWord (base + w) logical (64 * page + w)
    let raw := stored ^^^ BitVec.ofNat 72 (((noise.find? (·.1 == w)).map (·.2)).getD 0)
    let (d, e) := Ecc.decode raw
    let st := match e with
      | 0 => st.setPbuf k d
      | 1 => ((st.setPbuf k d).bump R.AGT_CE).put R.AGT_RESULT_CORRECTED 1
      | _ =>
        let (x, st) := st.draw
        let st := ((st.setPbuf k (BitVec.ofNat 64 x)).bump R.AGT_UE).agtErr 3 logical page w
        if st.get R.AGT_RESULT_CODE = 8 then st else (st.put R.AGT_RESULT_CODE 8).put R.AGT_RESULT_WORD w
    readWords st base logical page first noise (k + 1) n

/-- AGT_READ, R556, R560, R572, R573: COUNT + 1 words from AGT_ADDR. -/
def execAgtRead (n : Fin 4) (who : Requester) (count : Nat) (noise : List (Nat × Nat)) (s : State) : Host.Outcome State Fault Refusal :=
  .next (s.up n fun st => st.agtGate n who fun st =>
    let a := st.get R.AGT_ADDR_ADDR
    let i := a / 65536
    let w := a / 8 % 64
    let k := count % 64 + 1
    if i ≥ 15397 ∨ w + k > 64 then st.agtResult 5 0
    else
      let st := (st.suspendErase).agtResult 0 0
      let st := if st.nv.flash.classOf i = 3 then st.put R.AGT_STATUS_UNSTABLE 1 else st
      let page := a / 512 % 128
      readWords st (8192 * st.nv.flash.physOf i + 64 * page) i page w noise 0 k)

/-- AGT_PROGRAM, R557, R560, R572: the enabled words of AGT_PBUF onto the page at AGT_ADDR. -/
def execAgtProgram (n : Fin 4) (who : Requester) (s : State) : Host.Outcome State Fault Refusal :=
  .next (s.up n fun st => st.agtGate n who fun st =>
    let a := st.get R.AGT_ADDR_ADDR
    let i := a / 65536
    let page := a / 512 % 128
    if i ≥ 15397 then st.agtResult 5 0
    else
      let f := st.nv.flash
      let p := f.physOf i
      let mask := st.get R.AGT_MASK_LO_MASK + 2 ^ 32 * st.get R.AGT_MASK_HI_MASK
      let ws := (List.range 64).filter fun k => bit mask k
      match f.classOf i with
      | 3 => st.agtResult 2 0
      | 0 => st.agtResult 3 0
      | _ =>
        match ws.find? fun k => !Ecc.passes (Flash.cell f.data (8192 * p + 64 * page + k)) (Ecc.word (st.pbuf k)) with
        | some k => st.agtResult 1 k
        | none =>
          let st := if st.flag R.AGT_CTL_SUSP_PROG then st.suspendErase else st
          let words := ws.map fun k => (64 * page + k, st.pbuf k)
          { st with agt := { st.agt with prog := some { logical := i, phys := p, words := words } } }.agtSync)

/-- AGT_PROGRAM_DONE, R557, R560, R573: the page is programmed and verified; while SUSP_PROG is 0 it waits for an open erase. -/
def execAgtProgramDone (n : Fin 4) (ok : Bool) (s : State) : Host.Outcome State Fault Refusal :=
  let st := s.sd n
  let waits : Bool := match st.agt.erase with | some e => !e.suspended | none => false
  match st.agt.prog with
  | none => .next s
  | some p =>
    if waits then .next s
    else
      let st := { st with agt := { st.agt with prog := none } }
      let st := st.upFlash fun f =>
        if f.classOf p.logical = 1 then { f with heads := Flash.setCell f.heads (8 * p.phys) (Ecc.word Flash.inUse) } else f
      if ok then
        .next (s.setSd n (((st.upFlash fun f => { f with
          data := p.words.foldl (fun l w => Flash.setCell l (8192 * p.phys + w.1) (Ecc.word w.2)) f.data }).agtSync).agtResult 0 0))
      else
        let st := (st.spoil p).upFlash fun f => { f with bad := f.bad ++ [p.phys] }
        .next (s.setSd n (((st.agtErr 1 p.logical ((p.words.headD (0, 0)).1 / 64) 0).agtSync).agtResult 6 0))

/-- AGT_ERASE, R561 to R563, R572: OPEN is programmed and the erase begins; `openOk` says whether OPEN verifies. -/
def execAgtErase (n : Fin 4) (who : Requester) (openOk : Bool) (s : State) : Host.Outcome State Fault Refusal :=
  .next (s.up n fun st => st.agtGate n who fun st =>
    let i := st.get R.AGT_ADDR_ADDR % 65536
    if st.agt.erase.isSome then st.agtResult 4 0
    else if i ≥ 15397 then st.agtResult 5 0
    else
      let p := st.nv.flash.physOf i
      let (f, no) := st.nv.flash.record p i (st.deviceTime s.now)
      let st := st.upFlash fun _ => f
      if openOk then
        let run : EraseRun := { no := no, phys := p, logical := i }
        ({ st with agt := { st.agt with erase := some run } }.put R.AGT_ERASE_SUSP 0).agtSync
      else
        let mark : EraseRec → EraseRec := fun r => if r.no = no ∧ ¬ r.closed then { r with voided := true } else r
        ((st.upFlash fun f => { f with ledger := f.ledger.map mark }).agtSync).agtResult 6 0)

/-- An erased block of EVLOG holds no record any more, R569, R602. -/
def Strand.eraseLog (st : Strand) (i : Nat) : Strand :=
  if i < 1400 ∨ i ≥ 1464 then st
  else { st with nv := { st.nv with evlog := st.nv.evlog.filter fun r => r.1 % 131072 / 2048 != i - 1400 } }

/-- A block fails its erase verify: it is retired, and a spare is erased in its place under a new record, R562, R570, R571. -/
def Strand.eraseFailed (st : Strand) (t : Nat) (e : EraseRun) : Strand :=
  let st := st.agtErr 2 e.logical 0 0
  match st.nv.flash.draw with
  | some (p, f) =>
    let f := { f with retired := f.retired ++ [e.phys], bad := f.bad.filter (· != e.phys) }
    let (f, no) := (f.remap e.logical p).record p e.logical (st.deviceTime t)
    let st := st.upFlash fun _ => f
    let run : EraseRun := { no := no, phys := p, logical := e.logical, drew := true }
    { st with agt := { st.agt with erase := some run } }.agtSync
  | none =>
    let st := (st.agtErr 5 e.logical 0 0).put R.AGT_STATUS_SPARE_OUT 1
    ({ st with agt := { st.agt with erase := none } }.agtSync).agtResult 9 0

/-- AGT_ERASE_DONE, R562, R573: every word verifies blank, and the header verifies; a block whose program failed before is
retired now. -/
def execAgtEraseDone (n : Fin 4) (verifyOk headOk : Bool) (s : State) : Host.Outcome State Fault Refusal :=
  let st := s.sd n
  match st.agt.erase with
  | none => .next s
  | some e =>
    if e.suspended then .next s
    else if verifyOk ∧ headOk ∧ ¬ st.nv.flash.bad.contains e.phys then
      let st := (st.upFlash fun f => (f.erased e.phys e.logical Flash.erasedOk).close e.logical).eraseLog e.logical
      .next (s.setSd n (({ st with agt := { st.agt with erase := none } }.agtSync).agtResult (if e.drew then 7 else 0) 0))
    else .next (s.setSd n (st.eraseFailed s.now e))

/-- AGT_READ_HDR, R572; the header of a block under an open record holds open values. -/
def execAgtReadHdr (n : Fin 4) (who : Requester) (s : State) : Host.Outcome State Fault Refusal :=
  .next (s.up n fun st => st.agtGate n who fun st =>
    let i := st.get R.AGT_ADDR_ADDR % 65536
    if i ≥ 15397 then st.agtResult 5 0
    else
      let st := st.suspendErase
      let f := st.nv.flash
      let put := fun (st : Strand) (k : Nat) =>
        if f.openOn i then let (x, st) := st.draw; st.setPbuf k (BitVec.ofNat 64 x)
        else st.setPbuf k (Ecc.decode (Flash.cell f.heads (8 * f.physOf i + k))).1
      ((put (put st 0) 1).agtResult 0 0).put R.AGT_RESULT_CLASS (f.classOf i))

/-- AGT_ERASE_RESUME, R564: no demand remains; a program that suspends the erase is one. -/
def execAgtEraseResume (n : Fin 4) (s : State) : Host.Outcome State Fault Refusal :=
  .next (s.up n fun st =>
    match st.agt.erase with
    | some e => if st.agt.prog.isSome ∧ st.flag R.AGT_CTL_SUSP_PROG then st else { st with agt := { st.agt with erase := some { e with suspended := false } } }.agtSync
    | none => st)

/-- A block is refreshed onto a spare, R570: erased under the ledger, copied with uncorrectable words as read, IN_USE, mapped, and
the old block erased and returned. -/
def Strand.refresh (st : Strand) (t phys i : Nat) (raw : List (Nat × Nat)) : Strand :=
  match st.nv.flash.draw with
  | none => (((st.agtErr 5 i 0 0).put R.AGT_STATUS_SPARE_OUT 1).agtSync).agtResult 9 0
  | some (p, f) =>
    let (f, _) := f.record p i (st.deviceTime t)
    let f := f.erased p i Flash.inUse
    let copy := (f.data.filter fun c => c.1 / 8192 == phys).map fun c =>
      (8192 * p + c.1 % 8192, match raw.find? (·.1 == c.1 % 8192) with | some x => BitVec.ofNat 72 x.2 | none => Ecc.word (Ecc.decode c.2).1)
    let f := { f with data := copy.foldl (fun (l : FlashCells) (c : Nat × BitVec 72) => Flash.setCell l c.1 c.2) f.data }
    let f := ((f.remap i p).close i).erased phys i (BitVec.allOnes 64)
    let f := { f with heads := f.heads.filter fun c => c.1 / 8 != phys, freed := f.freed ++ [phys] }
    (st.upFlash fun _ => f).agtSync

/-- SCRUB_BLOCK_READ, R16, R17, R570: the scrub has read the next physical block of its pass, with so many corrected words and the uncorrectable
words as read; a pass begins with block 0. -/
def execScrubBlockRead (n : Fin 4) (phys corrected : Nat) (bad : List (Nat × Nat)) (s : State) : Host.Outcome State Fault Refusal :=
  let st := s.sd n
  let at' := if st.flag R.AGT_SCRUB_PROG_VALID then st.get R.AGT_SCRUB_PROG_POSITION % 16384 else 0
  if st.mode = 0 ∨ st.halted ∨ ¬ st.flag R.AGT_SCRUB_CFG_EN ∨ phys ≠ at' ∨ st.agt.erase.isSome ∨ st.agt.prog.isSome then .next s
  else
    let st := (st.add R.AGT_CE corrected).add R.AGT_UE bad.length
    let st := st.progress 0xF00034 (100 * (phys + 1) / 16384) (phys + 1)
    match st.nv.flash.logicalOf phys with
    | none => .next (s.setSd n st)
    | some i =>
      let st := bad.foldl (fun st w => st.agtErr 3 i (w.1 / 64) (w.1 % 64)) st
      .next (s.setSd n (if corrected > st.get R.AGT_SCRUB_CFG_REFRESH ∨ ¬ bad.isEmpty then st.refresh s.now phys i bad else st))

/-! ### The scan of R566 -/

/-- Step 3 of a start: every block is classified; a header that R559 does not give, with no open record, is AGT_ERR code 6. An anchor whose header
is invalid is a fault, and is erased again before it is used, R563; the other is read. -/
def Strand.flashScan (st : Strand) (anchorOk : Bool) : Strand :=
  let f := st.nv.flash
  let st := if anchorOk then st else st.agtErr 4 0 0 0
  let odd := f.incomplete.filter fun i => !f.openOn i
  let st := odd.foldl (fun st i => st.agtErr 6 i 0 0) st
  (st.put R.AGT_STATUS_SCANNED 1).agtSync

/-- Step 6: Warden erases every ERASE_INCOMPLETE block again. -/
def Strand.flashMend (st : Strand) (t : Nat) : Strand :=
  (st.nv.flash.incomplete.foldl (fun st i => (st.upFlash fun f =>
    let p := f.physOf i
    ((f.record p i (st.deviceTime t)).1.erased p i Flash.erasedOk).close i).eraseLog i) st).agtSync

end Sys2Proof.Machine
end

