-- ==== Sys2Proof/Machine/Functions.lean ====
section
/-! DEFINITION. Functions, sharing and migration, R367 to R392: pools, generations, states, reset and removal, the saved
image, and the function opcodes. -/

namespace Sys2Proof.Machine
open Sys2Proof

/-- The fields of a pool block, R369. -/
def Pool.parse (b : Bytes) : Pool :=
  { qbase := le b 0 2, qcount := le b 2 2, ctxQuota := le b 4 4, largeQuota := le b 8 2, subBase := le b 0xA 2
    subCount := le b 0xC 2, wTop := max 1 (le b 0xE 1), wJad := max 1 (le b 0xF 1), wBer := max 1 (le b 0x10 1) }

/-- A pool block, R369. -/
def Pool.block (p : Pool) : Bytes :=
  toLE 2 p.qbase ++ toLE 2 p.qcount ++ toLE 4 p.ctxQuota ++ toLE 2 p.largeQuota ++ toLE 2 p.subBase ++ toLE 2 p.subCount
    ++ toLE 1 p.wTop ++ toLE 1 p.wJad ++ toLE 1 p.wBer ++ zeros 15

/-- The limits of R369 on a pool by itself. -/
def Pool.ok (p : Pool) : Bool :=
  decide (1 ≤ p.qcount) && decide (p.qcount ≤ 1024) && decide (p.qbase + p.qcount ≤ 1024) && decide (1 ≤ p.ctxQuota)
    && decide (p.ctxQuota ≤ 65536) && decide (p.largeQuota ≤ 2048) && decide (p.subBase ≤ 4093)
    && decide (p.subBase + p.subCount ≤ 4094)

/-- Whether two ranges of numbers overlap. -/
def overlaps (a n b m : Nat) : Bool := decide (a < b + m) && decide (b < a + n)

namespace State

/-- Whether a pool overlaps no other virtual function's ranges on a home strand, R370. -/
def poolFits (s : State) (home : Fin 4) (f : Nat) (p : Pool) : Bool :=
  p.ok && !(s.ring.fns.any fun g => g.num != 0 && g.num != f && (g.st != .absent || g.job.isSome) && g.home == home &&
    (overlaps p.qbase p.qcount g.pool.qbase g.pool.qcount || overlaps p.subBase p.subCount g.pool.subBase g.pool.subCount))

/-- Whether a virtual function is enabled in SR-IOV, R368. -/
def vfEnabled (s : State) (f : Nat) : Bool := s.ring.sriov && decide (1 ≤ f) && decide (f ≤ s.ring.numVfs) && decide (f ≤ 248)

/-- Begin the sweep that frees a function's contexts of past generations, R216. -/
def beginSweep (s : State) (n : Fin 4) : State :=
  s.up n fun st => { st.put R.ONX_STATUS_SWEEPING 1 with vault := { st.vault with sweep := some (s.now + 4000000) } }

/-- Disable every queue of a function that is ENABLED or in ERROR, R380; none of its queues waits for a thaw any more. -/
def stopQueues (s : State) (f : Nat) : State :=
  let s := (s.ring.sqs.filter fun q => s.sqOwner q.id == f && (q.state == .enabled || q.state == .error)).foldl
    (fun s q => s.stopQueue q .disabling) s
  let calm := fun (q : Sq) => if s.sqOwner q.id = f then { q with thaw := false } else q
  let calmC := fun (c : Cq) => if s.rget R.HQ_CQ_CFG_OWNER c.id = f then { c with thaw := false } else c
  s.upR fun r => { r with sqs := r.sqs.map calm, cqs := r.cqs.map calmC }

/-- Record a refused function opcode, R392, and end its job, R388: VF_ERR has a code for the statuses 0x30, 0x41, 0x23 and 0x24. -/
def vfRefuse (s : State) (n : Fin 4) (j : Job) (status reason : Nat) : State :=
  let code := match status with | 0x30 => 1 | 0x41 => 2 | 0x23 => 3 | _ => 4
  let s := s.rnoteErr R.VF_ERR_VALID R.VF_ERR_STATUS R.VF_ERR_OVERFLOW code fun s =>
    ((s.rput R.VF_ERR_INFO_FUNCTION (bits j.w6 0 8)).rput R.VF_ERR_INFO_OPCODE (bits j.op 0 8)).rput R.VF_ERR_INFO_REASON reason
  s.fail n j status reason

/-- The function opcode that waits for its end is abandoned: it completes with 0x30, reason 9, and image progress ends, R380, R381. -/
def abandonImage (s : State) (f : Nat) : State :=
  let g := s.fn f
  let s := match g.job with
    | some j => s.vfRefuse g.home j 0x30 9
    | none => s
  (s.setFn { s.fn f with job := none, image := [], map := [], awaitMarks := 0 }).rput R.VF_PROG_VALID 0 f

/-- The first steps of a function reset or removal, R380. -/
def beginReset (s : State) (f : Nat) (to' : FnSt) : State :=
  let s := s.abandonImage f
  let s := s.setFn { s.fn f with st := if f = 0 then .active else to', msix := [] }
  let s := (s.advanceGen f).stopQueues f
  if f = 0 then s.beginSweep 0 |>.beginSweep 1 |>.beginSweep 2 |>.beginSweep 3 else s.beginSweep (s.fn f).home

/-- A function opcode waits for its end: the function holds the job. -/
def holdJob (s : State) (n : Fin 4) (f : Nat) (j : Job) : State :=
  let s := s.up n fun st => { st with taken := if st.taken.any (·.id == j.id) then st.taken else st.taken ++ [j] }
  s.setFn { s.fn f with job := some j }

/-- The function opcode that waits for its end completes, with what the end gives it to write. -/
def endJob (s : State) (f : Nat) (out : Job → Bytes) : State :=
  let g := s.fn f
  match g.job with
  | some j => (s.setFn { g with job := none }).succeed g.home j (out j)
  | none => s

/-- A function opcode: only the manager's (0x41), never on function 0 (reason 8) or a number above 248 (0x41), R387, R388;
on the home strand where the function exists (reason 3). -/
def vfJob (s : State) (n : Fin 4) (j : Job) (work : Nat → State → State) : State :=
  if (s.sd n).halted then s
  else if (s.sd n).mode ≤ 1 then s.fail n j 0x30
  else if s.dupHits n j.op then s.fail n j 0x7F
  else if !j.env.readOk then (s.hqErr 2 j.sq 0 j.fn).fail n j 0x40 (1 * 2 ^ 16)
  else
    let f := bits j.w6 0 8
    if j.fn ≠ 0 then s.vfRefuse n j 0x41 0
    else if f = 0 then s.vfRefuse n j 0x30 8
    else if f > 248 then s.vfRefuse n j 0x41 0
    else work f s

/-- As vfJob, for a function that must be homed on the strand of the job, R387. -/
def vfHome (s : State) (n : Fin 4) (j : Job) (work : Fn → State → State) : State :=
  s.vfJob n j fun f s =>
    if (s.fn f).st ≠ .absent ∧ (s.fn f).home ≠ n then s.vfRefuse n j 0x30 3 else work (s.fn f) s

/-- Set the weights of a function's table entry from its pool, R391. -/
def putWeights (s : State) (f : Nat) (p : Pool) : State :=
  ((s.rput R.VF_WEIGHT_W_TOP p.wTop f).rput R.VF_WEIGHT_W_JAD p.wJad f).rput R.VF_WEIGHT_W_BER p.wBer f

/-- Whether a function maps a queue outside a range, R371. -/
def mapsOutside (s : State) (g : Fn) (p : Pool) : Bool :=
  s.ring.sqs.any (fun q => s.rflag R.HQ_SQ_CFG_MAPPED q.id && s.sqOwner q.id == g.num &&
    (decide (q.id % 1024 < p.qbase) || decide (q.id % 1024 ≥ p.qbase + p.qcount))) ||
  s.ring.cqs.any (fun q => s.rflag R.HQ_CQ_CFG_MAPPED q.id && s.rget R.HQ_CQ_CFG_OWNER q.id == g.num &&
    (decide (q.id % 1024 < p.qbase) || decide (q.id % 1024 ≥ p.qbase + p.qcount)))

end State

/-! ### The saved image -/

/-- A queue record of an image, R385; of COUNT and TIME, the first byte is COUNT (log entry 11). -/
def queueRecord (slot kind flags size weight burst high extra head tail count time : Nat) : Bytes :=
  fit 32 (toLE 2 slot ++ toLE 1 kind ++ toLE 1 flags ++ toLE 1 size ++ zeros 3 ++ toLE 1 weight ++ toLE 1 burst ++ toLE 1 high
    ++ toLE 2 extra ++ toLE 2 head ++ toLE 2 tail ++ toLE 1 count ++ toLE 2 time)

namespace State

/-- The queue records of a function, in rising slot, submission queue before completion queue, R385. -/
def queueRecords (s : State) (g : Fn) : List Bytes :=
  ((List.range g.pool.qcount).map fun i =>
    let q := g.home.val * 1024 + g.pool.qbase + i
    let k := s.sq q
    let c := s.cq q
    (if s.rflag R.HQ_SQ_CFG_MAPPED q && s.sqOwner q == g.num then
      [queueRecord i 0 (b2n (k.state == .enabled || k.thaw)) (s.rget R.HQ_SQ_CFG_SIZE_LOG2 q) (s.rget R.HQ_SQ_SCHED_WEIGHT q)
        (s.rget R.HQ_SQ_SCHED_BURST q) (s.rget R.HQ_SQ_CFG_CQ_HIGH q) (s.rget R.HQ_SQ_CFG_CQ_DEF q - g.pool.qbase)
        k.head k.tail 0 0] else []) ++
    (if s.rflag R.HQ_CQ_CFG_MAPPED q && s.rget R.HQ_CQ_CFG_OWNER q == g.num then
      [queueRecord i 1 (b2n (c.enabled || c.thaw) + 2 * b2n c.ien + 4 * b2n c.phase) (s.rget R.HQ_CQ_CFG_SIZE_LOG2 q) 0 0 0
        (s.rget R.HQ_CQ_CFG_VECTOR q) c.head c.tail (s.rget R.HQ_CQ_INTR_COUNT q) (s.rget R.HQ_CQ_INTR_TIME q)] else [])).flatten

/-- The contexts a function holds now. -/
def ctxsOf (s : State) (g : Fn) : List Ctx :=
  (s.sd g.home).vault.ctxs.filter fun c => c.attr.owner == g.num && c.attr.ownerGen == g.gen

/-- Whether an image carries a context, R385. -/
def carried (c : Ctx) : Bool := bit c.attr.flags 3 && !bit c.attr.flags 1

/-- The high-water mark of a submitter, R170. -/
def highWater (st : Strand) (sub : Nat) : Nat := ((st.jnl.s.marks.find? (·.1 == sub)).map (·.2)).getD 0

/-- The plaintext of an image with its four counts, R385. -/
def imagePlain (s : State) (g : Fn) : Bytes × Nat × Nat × Nat :=
  let st := s.sd g.home
  let qs := s.queueRecords g
  let subs := (List.range g.pool.subCount).map fun i =>
    toLE 2 (g.pool.subBase + i) ++ zeros 6 ++ toLE 8 (highWater st (g.pool.subBase + i))
  let cs := (s.ctxsOf g).filter carried
  let om := (s.ctxsOf g).filter (!carried ·)
  let cb := cs.map fun c => toLE 4 (st.handle c) ++ toLE 4 (blobBody c).length ++ blobBody c
  let ob := om.map fun c => toLE 4 (st.handle c)
  (qs.flatten ++ subs.flatten ++ cb.flatten ++ ob.flatten, qs.length, cs.length, om.length)

/-- The segments of an image from a byte position on, R383. -/
def segments (key header plain imageId : Bytes) (total : Nat) : Nat → Nat → Bytes
  | _, 0 => []
  | i, fuel + 1 =>
    if i ≥ total then []
    else
      let body := sub plain (i * 65536) 65536
      let head := toLE 4 i ++ toLE 4 body.length ++ toLE 4 (b2n (i + 1 == total)) ++ zeros 4
      let (ct, tag) := gcmSeal key (sub imageId 0 8 ++ toLE 4 i) (header ++ head) body
      head ++ ct ++ tag ++ segments key header plain imageId total (i + 1) fuel

/-- The image of a function, R383 to R385, its key wrapped under root 1, with the strand after its draws. -/
def makeImage (s : State) (g : Fn) (seconds : Nat) (st : Strand) (root : Bytes) : Bytes × Strand :=
  let (id, st) := st.drawBytes 16
  let (key, st) := st.drawBytes 32
  let (plain, nq, nc, no) := s.imagePlain g
  let total := (plain.length + 65535) / 65536
  let h := ascii "FNIM" ++ toLE 1 1 ++ toLE 1 g.home.val ++ toLE 1 g.num ++ zeros 1 ++ id
    ++ fit 8 (s.ring.ident.constellation.getD []) ++ fit 16 s.ring.ident.deviceId
    ++ toLE 8 (st.deviceTime s.now + 1000000 * seconds) ++ toLE 4 plain.length ++ toLE 4 total ++ toLE 2 nq
    ++ toLE 2 g.pool.subCount ++ toLE 4 nc ++ toLE 4 no ++ zeros 4 ++ g.pool.block
    ++ fit 40 (kwpWrap root key) ++ zeros 104
  (h ++ segments key h plain id total 0 total, st)

/-- The length of the image VF_SAVE will return, R383, R674. -/
def imageLen (s : State) (g : Fn) : Nat :=
  let n := (s.imagePlain g).1.length
  256 + n + 32 * ((n + 65535) / 65536)

/-- The plaintext of an image's segments where every segment verifies in order, R384. -/
def openSegments (key header imageId : Bytes) (total : Nat) : Nat → Nat → Bytes → Option Bytes
  | _, 0, b => if b.isEmpty then some [] else none
  | i, fuel + 1, b =>
    if i ≥ total then (if b.isEmpty then some [] else none)
    else
      let head := sub b 0 16
      let len := le b 4 4
      if le head 0 4 ≠ i ∨ le head 8 4 ≠ b2n (i + 1 == total) ∨ (i + 1 < total ∧ len ≠ 65536) ∨ len = 0 ∨ len > 65536 then none
      else match gcmOpen key (sub imageId 0 8 ++ toLE 4 i) (header ++ head) (sub b 16 len) (sub b (16 + len) 16) with
        | none => none
        | some p => (openSegments key header imageId total (i + 1) fuel (b.drop (32 + len))).map (p ++ ·)

/-- What R384 finds in an image's header and key: the image key, or the reason of the refusal with 0x24. The key is unwrapped under root
1. -/
def judgeHeader (s : State) (n : Fin 4) (b root : Bytes) : Nat ⊕ Bytes :=
  let st := s.sd n
  if sub b 0 4 ≠ ascii "FNIM" ∨ le b 4 1 ≠ 1 ∨ sub b 0x18 8 ≠ fit 8 (s.ring.ident.constellation.getD []) then .inl 6
  else match Config.kwpOpen root (sub b 0x70 40) with
    | none => .inl 6
    | some key =>
      if st.deviceTime s.now ≥ le b 0x30 8 then .inl 4
      else if st.nv.restored.contains (sub b 8 16) then .inl 5
      else .inr key

/-- The plaintext of an image whose every segment verifies, R384. -/
def judgeSegments (b key : Bytes) : Option Bytes :=
  match openSegments key (sub b 0 256) (sub b 8 16) (le b 0x3C 4) 0 (le b 0x3C 4) (b.drop 256) with
  | none => none
  | some p => if p.length = le b 0x38 4 then some p else none

/-- Place the queue records of an image, R386 step 2: DISABLED, those that were ENABLED to be enabled at the thaw; the entries of a completion
queue that await their owner are those from HEAD to TAIL (log entry 11). -/
def placeQueues (s : State) (g : Fn) (plain : Bytes) : Nat → State
  | 0 => s
  | k + 1 =>
    let s := s.placeQueues g plain k
    let r := sub plain (32 * k) 32
    let q := g.home.val * 1024 + g.pool.qbase + le r 0 2
    let fl := le r 3 1
    if le r 2 1 = 0 then
      let s := ((s.rput R.HQ_SQ_CFG_SIZE_LOG2 (le r 4 1) q).rput R.HQ_SQ_CFG_OWNER g.num q).rput R.HQ_SQ_CFG_CQ_HIGH (le r 10 1) q
      let s := ((s.rput R.HQ_SQ_CFG_CQ_DEF (le r 11 2 + g.pool.qbase) q).rput R.HQ_SQ_CFG_MAPPED 1 q).rput R.HQ_SQ_SCHED_WEIGHT (le r 8 1) q
      let s := s.rput R.HQ_SQ_SCHED_BURST (le r 9 1) q
      s.setSq { id := q, head := le r 13 2, next := le r 13 2, tail := le r 15 2, thaw := bit fl 0 }
    else
      let s := ((s.rput R.HQ_CQ_CFG_SIZE_LOG2 (le r 4 1) q).rput R.HQ_CQ_CFG_OWNER g.num q).rput R.HQ_CQ_CFG_VECTOR (le r 11 2) q
      let s := ((s.rput R.HQ_CQ_CFG_MAPPED 1 q).rput R.HQ_CQ_INTR_COUNT (le r 17 1) q).rput R.HQ_CQ_INTR_TIME (le r 18 2) q
      let n := 2 ^ le r 4 1
      let held := (le r 15 2 + n - le r 13 2) % n
      s.setCq { id := q, head := le r 13 2, tail := le r 15 2, phase := bit fl 2, ien := bit fl 1, thaw := bit fl 0, posted := held }

/-- The generation under which a restored context is placed: the new one, though its advance may still wait, R375, R386. -/
def restoreGen (g : Fn) : Nat := if g.advance then nextGen g.gen else g.gen

/-- Place the context records of an image; the handle map grows as they are placed, R386 step 3. None: 0x23. -/
def placeCtxs (g : Fn) (st : Strand) (plain : Bytes) : Nat → Nat → Bytes → Option (Strand × Bytes × Nat)
  | 0, pos, map => some (st, map, pos)
  | k + 1, pos, map =>
    let old := le plain pos 4
    let len := le plain (pos + 4) 4
    let body := sub plain (pos + 8) len
    let a := Attr.parse body
    match st.place { a with owner := g.num, ownerGen := restoreGen g } (sub body 32 (keyBytes a.alg a.keylen))
        (g.pool.ctxQuota, g.pool.largeQuota) with
    | none => none
    | some (c, st) => placeCtxs g st plain k (pos + 8 + len) (map ++ toLE 4 old ++ toLE 4 (st.handle c))

/-- The handle map's entries for omitted handles, R386. -/
def omittedMap (plain : Bytes) : Nat → Nat → Bytes
  | 0, _ => []
  | k + 1, pos => sub plain pos 4 ++ zeros 4 ++ omittedMap plain k (pos + 4)

/-- An abandoned restore leaves the function ABSENT with everything placed freed; marks raised stay; the generation
advances, R378. -/
def undoRestore (s : State) (f : Nat) : State :=
  let g := s.fn f
  let s := s.up g.home fun st => ((st.vault.ctxs.filter fun c => c.attr.owner == f).foldl (fun st c => st.freeCtx c) st).onxSync
  s.restoreGone g

end State

/-! ### The commands -/

/-- The creation of a function ends: it is ACTIVE, and VF_CREATE completes, R378. -/
def State.created (s : State) (f : Nat) : State := (s.setFn { s.fn f with st := .active }).endJob f fun _ => []

/-- VF_CREATE, R369, R378; a creation whose generation advance waits completes with it, R375. -/
def execVfCreate (n : Fin 4) (j : Job) (s : State) : Host.Outcome State Fault Refusal :=
  .next (s.vfJob n j fun f s =>
    let p := Pool.parse j.input
    if j.input.length ≠ 32 ∨ ¬ allZero j.input 0x11 15 then s.vfRefuse n j 0x41 0
    else if (s.fn f).st ≠ .absent ∨ (s.fn f).job.isSome then s.vfRefuse n j 0x30 1
    else if !s.vfEnabled f then s.vfRefuse n j 0x30 7
    else if !s.poolFits n f p then s.vfRefuse n j 0x30 2
    else
      let s := s.setFn { s.fn f with home := n, pool := p, past := [], imageOk := false }
      let s := ((s.putWeights f p).unmapRange n p).holdJob n f j |>.advanceGen f
      if (s.fn f).advance then s else s.created f)

/-- VF_SET_POOL, R371: the queue and submitter ranges that may not change now give reason 2 (log entry 11). -/
def execVfSetPool (n : Fin 4) (j : Job) (s : State) : Host.Outcome State Fault Refusal :=
  .next (s.vfHome n j fun g s =>
    let p := Pool.parse j.input
    let pastIntake := (s.sd n).post.batches.any fun b => b.job.fn == g.num && !b.posted
    if j.input.length ≠ 32 ∨ ¬ allZero j.input 0x11 15 then s.vfRefuse n j 0x41 0
    else if g.st = .absent then s.vfRefuse n j 0x30 1
    else if !s.poolFits n g.num p || s.mapsOutside g p
        || (pastIntake && (p.subBase != g.pool.subBase || p.subCount != g.pool.subCount)) then s.vfRefuse n j 0x30 2
    else ((s.setPool g.num p).putWeights g.num p).succeed n j [])

/-- VF_REMOVE, R380: it completes when the function is ABSENT. -/
def execVfRemove (n : Fin 4) (j : Job) (s : State) : Host.Outcome State Fault Refusal :=
  .next (s.vfHome n j fun g s =>
    if g.st = .absent ∨ g.st = .removing then s.vfRefuse n j 0x30 1
    else (s.beginReset g.num .removing).holdJob n g.num j)

/-- VF_RESET, R380, R387: it completes when the reset does, with the new generation. -/
def execVfReset (n : Fin 4) (j : Job) (s : State) : Host.Outcome State Fault Refusal :=
  .next (s.vfHome n j fun g s =>
    if g.st = .absent ∨ g.st = .removing then s.vfRefuse n j 0x30 1
    else s.room n j 4 fun s => (s.beginReset g.num .resetting).holdJob n g.num j)

/-- The code of a function state, R377. -/
def fnCode : FnSt → Nat
  | .absent => 0 | .active => 1 | .freezing => 2 | .frozen => 3 | .saving => 4 | .saved => 5 | .restoring => 6
  | .resetting => 7 | .removing => 8

/-- VF_QUERY, R387: pool block, state, generation, contexts and large-key slots held (log entry 11). -/
def execVfQuery (n : Fin 4) (j : Job) (s : State) : Host.Outcome State Fault Refusal :=
  .next (s.vfHome n j fun g s => s.room n j 40 fun s =>
    let u := (s.sd n).useOf g.num
    s.succeed n j (g.pool.block ++ toLE 1 (fnCode g.st) ++ toLE 1 g.gen ++ toLE 4 u.1 ++ toLE 2 u.2))

/-- VF_FREEZE, R379: fetching stops, caches and open chains are dropped, the queues stay ENABLED. -/
def execVfFreeze (n : Fin 4) (j : Job) (s : State) : Host.Outcome State Fault Refusal :=
  .next (s.vfHome n j fun g s =>
    if g.st ≠ .active then s.vfRefuse n j 0x30 1
    else
      let s := (s.ring.sqs.filter fun q => s.sqOwner q.id == g.num).foldl (fun s q => s.stopQueue q q.state) s
      (s.setFn { g with st := .freezing }).holdJob n g.num j)

/-- VF_FREEZE_DONE, R378: the last job taken for the function has ended, and VF_FREEZE completes. -/
def execVfFreezeDone (f : Nat) (s : State) : Host.Outcome State Fault Refusal :=
  let g := s.fn f
  if g.st ≠ .freezing ∨ !(s.jobsOf f).isEmpty then .next s
  else
    .next ((s.setFn { g with st := .frozen }).endJob f fun _ => [])

/-- VF_SAVE, R382, R383: the image is formed and its progress begins. -/
def execVfSave (n : Fin 4) (j : Job) (s : State) : Host.Outcome State Fault Refusal :=
  .next (s.vfHome n j fun g s =>
    let sec := bits j.w6 8 24
    if ¬ (g.st = .frozen ∨ g.st = .saved) ∨ ¬ ((s.sd n).mode = 2 ∨ (s.sd n).mode = 3 ∨ (s.sd n).mode = 4) then
      s.vfRefuse n j 0x30 1
    else if sec < 1 ∨ sec > 86400 then s.vfRefuse n j 0x41 0
    else if j.seg0.outLen < s.imageLen g then s.vfRefuse n j 0x41 0
    else
      s.withRoot n j 1 fun root s =>
      let (img, st) := s.makeImage g sec (s.sd n) root
      let s := ((s.setSd n st).setFn { g with st := .saving, image := img, imageOk := false }).holdJob n g.num j
      (((s.rput R.VF_PROG_VALID 1 g.num).rput R.VF_PROG_PERCENT 0 g.num).rput R.VF_PROG_POSITION 0 g.num).rput R.VF_BYTES 0 g.num)

/-- The progress of an image that is complete, R15, R16. -/
def State.imageDone (s : State) (f len : Nat) : State :=
  (((s.rput R.VF_PROG_VALID 1 f).rput R.VF_PROG_PERCENT 100 f).rput R.VF_PROG_POSITION ((len + 4095) / 4096) f).rput R.VF_BYTES len f

/-- VF_SAVE_DONE, R378, R383: the last segment and the header are written, and the function is SAVED; or an output error
abandons the save and it is FROZEN again. -/
def execVfSaveDone (f : Nat) (writeOk : Bool) (s : State) : Host.Outcome State Fault Refusal :=
  let g := s.fn f
  match g.st, g.job with
  | .saving, some j =>
    if writeOk then
      let s := (s.setFn { g with st := .saved, image := [], imageOk := true }).imageDone f g.image.length
      .next (s.endJob f fun _ => g.image)
    else
      let s := (s.setFn { g with st := .frozen, job := none, image := [] }).rput R.VF_PROG_VALID 0 f
      .next ((s.hqErr 3 j.sq 0 j.fn).fail g.home j 0x40 (2 * 2 ^ 16))
  | _, _ => .next s

/-- A queue of a thawed function that was ENABLED at the save is enabled where its configuration allows it, R344, R386; else HQ_ERR
shows it (log entry 11). -/
def State.thawSq (s : State) (q : Sq) : State :=
  let s := s.setSq { q with thaw := false }
  if s.sqConfigOk q.id then s.setSq { q with state := .enabled, next := q.head, chain := none, cache := [], thaw := false }
  else s.hqErr 5 q.id 0 (s.sqOwner q.id)

/-- The queues of a function that were ENABLED at the save are enabled at their saved positions, completion queues first, R386. -/
def State.thawQueues (s : State) (f : Nat) : State :=
  let wake := fun (c : Cq) => if c.thaw && s.rget R.HQ_CQ_CFG_OWNER c.id == f then { c with enabled := true, thaw := false } else c
  let s := s.upR fun r => { r with cqs := r.cqs.map wake }
  (s.ring.sqs.filter fun q => q.thaw && s.sqOwner q.id == f).foldl State.thawSq s

/-- VF_THAW, R378, R382, R386. -/
def execVfThaw (n : Fin 4) (j : Job) (s : State) : Host.Outcome State Fault Refusal :=
  .next (s.vfHome n j fun g s =>
    if g.st = .frozen ∨ (g.st = .saved ∧ bit j.w6 8) then
      ((s.setFn { g with st := .active }).thawQueues g.num).succeed n j []
    else s.vfRefuse n j 0x30 1)

/-- The placement of an image on a strand, R386, once R384 has accepted it; 0x23 where a context finds no place, 0x50 where a keeper is
unpaired, 0x7F where a program in Agate that a placement needs does not verify. -/
def State.placeImage (s : State) (n : Fin 4) (j : Job) (f : Nat) (plain : Bytes) (nq ns nc no : Nat) : State :=
  let writer := (s.sd n).flag R.MIR_ROLE_ROLE
  let paired := (s.sd n).flag R.MIR_STATUS_PAIRED
  let s := s.placeQueues (s.fn f) plain nq
  match State.placeCtxs (s.fn f) (s.sd n) plain nc (32 * nq + 16 * ns) [] with
  | none => (s.undoRestore f).vfRefuse n j 0x23 0
  | some (st, map, pos) =>
    if nc ≠ 0 ∧ !j.env.logOk then (s.undoRestore f).logFails n j 0
    else
      let marks := (List.range ns).map fun k => (le plain (32 * nq + 16 * k) 2, le plain (32 * nq + 16 * k + 8) 8)
      let hw := marks.foldl (fun l m => raiseMark l m.1 m.2) st.jnl.s.marks
      let st := { st with jnl := { st.jnl with s := { st.jnl.s with marks := hw } } }
      let s := s.setSd n st.onxSync
      if !paired && !writer then (s.undoRestore f).fail n j 0x50 0
      else
        let s := s.up n fun st => st.tellMarks s.now f marks
        let m := map ++ State.omittedMap plain no pos
        (s.setFn { s.fn f with image := sub j.input 8 16, map := m, awaitMarks := if paired then marks.length else 0 }).holdJob n f j

/-- VF_RESTORE, R384, R386: with the header and the key accepted the function is RESTORING under its next generation, and a later failure
leaves it ABSENT under the one after (log entry 11). -/
def execVfRestore (n : Fin 4) (j : Job) (s : State) : Host.Outcome State Fault Refusal :=
  .next (s.vfJob n j fun f s =>
    let b := j.input
    let mode := (s.sd n).mode
    let pool := { Pool.parse (sub b 0x50 32) with qbase := bits j.w7 0 10 }
    let nc := le b 0x44 4
    let no := le b 0x48 4
    if (s.fn f).st ≠ .absent ∨ (s.fn f).job.isSome ∨ ¬ (mode = 2 ∨ mode = 3) then s.vfRefuse n j 0x30 1
    else if j.seg0.outLen < 8 * (nc + no) then s.vfRefuse n j 0x41 0
    else if !s.vfEnabled f then s.vfRefuse n j 0x30 7
    else s.withRoot n j 1 fun root s =>
      match s.judgeHeader n b root with
      | .inl r => s.vfRefuse n j 0x24 r
      | .inr key =>
        let s := s.setFn { s.fn f with st := .restoring, home := n, past := [], imageOk := false }
        let s := (((s.rput R.VF_PROG_VALID 1 f).rput R.VF_PROG_PERCENT 0 f).rput R.VF_PROG_POSITION 0 f).rput R.VF_BYTES 0 f
        match State.judgeSegments b key with
        | none => (s.undoRestore f).vfRefuse n j 0x24 6
        | some plain =>
          if !s.poolFits n f pool then (s.undoRestore f).vfRefuse n j 0x30 2
          else
            let s := (s.setFn { s.fn f with pool := pool }).advanceGen f
            ((s.putWeights f pool).rput R.VF_BYTES b.length f).placeImage n j f plain (le b 0x40 2) (le b 0x42 2) nc no)

/-- VF_RESTORE_DONE, R375, R386: placement is complete once every MARKS_ACK has come and the generation has advanced; the image is
remembered among the last 4,096 restored, and the handle map is the result. -/
def execVfRestoreDone (f : Nat) (s : State) : Host.Outcome State Fault Refusal :=
  let g := s.fn f
  match g.st, g.job with
  | .restoring, some j =>
    if g.awaitMarks > 0 ∨ g.advance then .next s
    else
      let s := s.setFn { g with st := .frozen, image := [], map := [], imageOk := true }
      let s := s.up g.home fun st =>
        { st with nv := { st.nv with restored := (g.image :: st.nv.restored).take 4096 } }
      .next ((s.imageDone f j.inLen).endJob f fun _ => g.map)
  | _, _ => .next s

/-- The reset steps of a function are complete: its queues stand DISABLED with their heads published, R344, R380. -/
def State.settleQueues (s : State) (f : Nat) : State :=
  (s.ring.sqs.filter fun q => s.sqOwner q.id == f && q.state == .disabling).foldl
    (fun s q => s.publish { q with state := .disabled } true) s

/-- Whether the steps of a reset or removal still wait: for the generation advance, R375, or for the context sweep, R380. -/
def State.resetWaits (s : State) (g : Fn) : Bool := g.advance || ((s.sd g.home).vault.sweep).isSome

/-- VF_RESET_DONE, R378, R380; a reset whose generation advance waits completes late, R375. VF_RESET answers the new generation as four
bytes (log entry 11). -/
def execVfResetDone (f : Nat) (s : State) : Host.Outcome State Fault Refusal :=
  let g := s.fn f
  if g.st ≠ .resetting ∨ s.resetWaits g then .next s
  else .next (((s.settleQueues f).setFn { g with st := .active }).endJob f fun _ => toLE 4 g.gen)

/-- VF_REMOVE_DONE, R378, R380: queues unmapped, pool released. -/
def execVfRemoveDone (f : Nat) (s : State) : Host.Outcome State Fault Refusal :=
  let g := s.fn f
  if g.st ≠ .removing ∨ s.resetWaits g then .next s
  else
    let s := (s.settleQueues f).unmapRange g.home g.pool
    .next ((s.setFn { g with st := .absent, pool := {}, past := [], imageOk := false }).endJob f fun _ => [])

/-- GENERATION_ADVANCE, R375: a waiting advance is made once no job in flight carries the next value, and a creation that waited for it
completes. -/
def execGenerationAdvance (f : Nat) (s : State) : Host.Outcome State Fault Refusal :=
  if !(s.fn f).advance then .next s
  else
    let s := s.advanceGen f
    if !(s.fn f).advance ∧ (s.fn f).st = .absent ∧ (s.fn f).job.isSome then .next (s.created f) else .next s

/-- SRIOV_VF_DISABLE, R368: VF Enable and NumVFs take new values, and every virtual function no longer covered goes to
REMOVING. The write that sets them is the same configuration write (log entry 12). -/
def execSriovVfDisable (enable : Bool) (numVfs : Nat) (s : State) : Host.Outcome State Fault Refusal :=
  let s := (s.upR fun r => { r with sriov := enable, numVfs := min numVfs 248 }).rput R.VF_STATUS_SRIOV_EN (b2n enable)
  let gone := s.ring.fns.filter fun g => g.num != 0 && g.st != .absent && g.st != .removing && !s.vfEnabled g.num
  .next (gone.foldl (fun s g => s.beginReset g.num .removing) s)

/-- The reset of every function, R330, R367. -/
def State.resetAllFns (s : State) : State :=
  (s.ring.fns.filter fun g => g.num == 0 || (g.st != .absent && g.st != .removing)).foldl
    (fun s g => s.beginReset g.num .resetting) s

/-- CONVENTIONAL_RESET, R330. -/
def execConventionalReset (s : State) : Host.Outcome State Fault Refusal := .next s.resetAllFns

/-- HOT_RESET, R330. -/
def execHotReset (s : State) : Host.Outcome State Fault Refusal := .next (State.resetAllFns s)

/-- FUNCTION_LEVEL_RESET, R330, R381: of the physical function it resets every function; a reset that meets REMOVING is not
applied. -/
def execFunctionLevelReset (f : Nat) (s : State) : Host.Outcome State Fault Refusal :=
  if f = 0 then .next s.resetAllFns
  else if (s.fn f).st = .absent ∨ (s.fn f).st = .removing then .next s
  else .next (s.beginReset f .resetting)

end Sys2Proof.Machine
end

