-- ==== Sys2Proof/Machine/Operands.lean ====
section
/-! DEFINITION. The operand forms and the results of the Garnet instructions that work on words alone, R400, R402. The
instruction set has no flags. -/

namespace Sys2Proof.Machine.Garnet
open Sys2Proof

/-- A truth value as a word. -/
def word (b : Bool) : Word := if b then 1 else 0

/-- A 16-bit immediate, sign-extended. -/
def simm (i : BitVec 16) : Word := i.signExtend 32

/-- A 16-bit immediate, zero-extended. -/
def uimm (i : BitVec 16) : Word := i.zeroExtend 32

/-- ea: ra + sext(imm16), R402. -/
def ea (base : Word) (i : BitVec 16) : Word := base + simm i

/-- The target of a branch: words from the address of the branch plus 4, R400. -/
def branch (pc : Word) (d : BitVec 21) : Word := pc + 4 + (d.signExtend 32 <<< 2)

/-- The target of a jump. -/
def jump (pc : Word) (d : BitVec 26) : Word := pc + 4 + (d.signExtend 32 <<< 2)

/-- Rotate right by a word's low five bits. -/
def rotr (a b : Word) : Word := a.rotateRight (b.toNat % 32)

/-- The high half of a signed product. -/
def mulh (a b : Word) : Word := BitVec.ofInt 32 (a.toInt * b.toInt / 2 ^ 32)

/-- The high half of an unsigned product. -/
def mulhu (a b : Word) : Word := BitVec.ofNat 32 (a.toNat * b.toNat / 2 ^ 32)

/-- Unsigned quotient; all ones for a divisor of zero. -/
def divu (a b : Word) : Word := if b = 0 then 0xFFFFFFFF else BitVec.ofNat 32 (a.toNat / b.toNat)

/-- Unsigned remainder; the dividend for a divisor of zero. -/
def remu (a b : Word) : Word := if b = 0 then a else BitVec.ofNat 32 (a.toNat % b.toNat)

/-- Leading zero bits, 0 to 32. -/
def clz (a : Word) : Word := if a = 0 then 32 else BitVec.ofNat 32 (31 - a.toNat.log2)

/-- The byte that a nibble of PERM chooses. -/
def permByte (a b : Word) (sel : Nat) : Nat :=
  if sel < 4 then bits a.toNat (8 * sel) 8 else if sel < 8 then bits b.toNat (8 * (sel - 4)) 8 else 0

/-- PERM: byte i of the result is chosen by nibble i of the selector. -/
def perm (a b sel : Word) : Word :=
  BitVec.ofNat 32 (((List.range 4).map fun i => permByte a b (bits sel.toNat (4 * i) 4) * 2 ^ (8 * i)).sum)

/-- Bits [lsb + width − 1 : lsb], zero-extended. -/
def bfx (a : Word) (lsb width : Nat) : Word := BitVec.ofNat 32 (bits a.toNat lsb width)

/-- Bits [lsb + width − 1 : lsb], sign-extended. -/
def bfxs (a : Word) (lsb width : Nat) : Word := (BitVec.ofNat width (bits a.toNat lsb width)).signExtend 32

/-- Bits [lsb + width − 1 : lsb] of d replaced by bits [width − 1 : 0] of a. -/
def bfi (d a : Word) (lsb width : Nat) : Word :=
  BitVec.ofNat 32 (d.toNat - bits d.toNat lsb width * 2 ^ lsb + a.toNat % 2 ^ width * 2 ^ lsb)

/-- A value of `size` bytes, sign-extended to a word. -/
def sextBytes (size v : Nat) : Word := (BitVec.ofNat (8 * size) v).signExtend 32

/-- The granules of 32 bytes that a byte range needs, each by the address of its first byte in the range, R442. -/
def beats (a len : Nat) : List Nat :=
  if len = 0 then []
  else (List.range ((a + len - 1) / 32 - a / 32 + 1)).map fun k => max a (32 * (a / 32 + k))

end Sys2Proof.Machine.Garnet
end

