-- ==== Sys2Proof/Machine/Mpu.lean ====
section
/-! DEFINITION. The memory protection unit, R430 to R446: the order of its checks, the first violation, vectors 6 and 7; the SRAM
patrol, R439; the sweep of the duplicated fields, R437. -/

namespace Sys2Proof.Machine
open Sys2Proof

/-! ### What an address names -/

/-- What an address of the service space, or of a function page, names for a requester, R331, R332, R426 to R432. -/
inductive Place where
  | sram
  | strand (n : Fin 4) (off : Nat)
  | ring (off : Nat)
  | page (n : Fin 4) (off : Nat)
  | hole
  deriving DecidableEq, Repr

/-- A strand number cut to two bits. -/
def strandNo (k : Nat) : Fin 4 := ⟨k % 4, Nat.mod_lt _ (by decide)⟩

/-- An offset of a strand window; those outside its blocks are holes, R428, R429. -/
def Place.inStrand (n : Fin 4) (off : Nat) : Place := if off < 0x1400000 then .strand n off else .hole

/-- An offset of the ring window, R427. -/
def Place.inRing (off : Nat) : Place := if off < 0x400000 then .ring off else .hole

/-- The windows of the service space, R426. -/
def Place.service (a : Nat) : Place :=
  if 0x30000000 ≤ a ∧ a < 0x40000000 then Place.inRing (a - 0x30000000)
  else if 0x40000000 ≤ a ∧ a < 0x50000000 then Place.inStrand (strandNo ((a - 0x40000000) / 0x4000000)) ((a - 0x40000000) % 0x4000000)
  else .hole

/-- What a requester's address names: the manager's BAR0 by service-space address and BAR2 by offset (log entry 25), a virtual
function's page by offset, a core's own map of R432. -/
def Place.of (who : Requester) (a : Nat) : Place :=
  match who with
  | .manager => if a < 0x40000 then .page (strandNo (a / 0x10000)) (a % 0x10000) else Place.service a
  | .vf _ => if a < 0x10000 then .page 0 a else .hole
  | .core n _ _ =>
    if Strand.inSram a then .sram
    else if 0x20000000 ≤ a ∧ a < 0x24000000 then Place.inStrand n (a - 0x20000000)
    else Place.service a

/-- A ring register that a core may write: those of queues of its own strand, and the tag's, R435. -/
def coreRingWrite (n : Fin 4) (off : Nat) : Bool :=
  (decide (0x10000 ≤ off) && decide (off < 0x50000) && (off - 0x10000) / 32 % 4096 / 1024 == n.val) || off / 0x100000 == 2

/-! ### The checks -/

namespace Strand

/-- The lowest-numbered valid region of a core that covers an address, R440, R441. -/
def regionOf (st : Strand) (c : Fin 4) (a : Nat) : Option Nat :=
  (List.range 32).find? fun r =>
    let k := 32 * c.val + r
    st.flag R.MPU_ATTR_VALID k && decide (32 * st.get R.MPU_BASE_BASE k ≤ a) && decide (a ≤ 32 * st.get R.MPU_LIMIT_LIMIT k + 31)

/-- Whether an address of work SRAM may be held in a cache, R415. -/
def cacheable (st : Strand) (c : Fin 4) (a : Nat) : Bool :=
  match st.regionOf c a with
  | some r => !st.flag R.MPU_ATTR_NOCACHE (32 * c.val + r)
  | none => true

/-- A region's permission bits at a privilege, R448. -/
def permits (st : Strand) (c : Fin 4) (r priv : Nat) : Nat :=
  let k := 32 * c.val + r
  match priv with
  | 0 => st.get R.MPU_ATTR_P0 k
  | 1 => st.get R.MPU_ATTR_P1 k
  | 2 => st.get R.MPU_ATTR_P2 k
  | _ => st.get R.MPU_ATTR_P3 k

/-- The permission bit that an access kind needs: 0 fetch, 1 load, 2 store, 3 DMA read, 4 DMA write, R441, R449. -/
def needBit : Nat → Nat
  | 0 => 2 | 1 => 0 | 2 => 1 | 3 => 0 | _ => 1

/-- Whether the default map permits an access at P0 or P1, R432. -/
def defaultMap (p : Place) (a priv kind : Nat) : Bool :=
  match p with
  | .sram => priv == 0 || needBit kind != 1 || decide (a ≥ 0x400000)
  | _ => priv == 0 || needBit kind == 0

/-- Steps 2 to 7 of R441: none where the access is permitted, else the cause and the region that decided (0x3F for none). -/
def mpuCheck (st : Strand) (c : Fin 4) (priv kind a size : Nat) : Option (Nat × Nat) :=
  let p := Place.of (.core st.id c.val priv) a
  let fixed : Option Nat := match p with
    | .hole => some 4
    | .page _ _ => some 4
    | .sram => none
    | .strand m off =>
      if kind = 0 then some 8
      else if (off / 0x100000 = 10 ∨ off / 0x100000 = 18) ∧ priv ≠ 0 then some 9
      else if off / 0x100000 = 8 ∧ priv > 1 then some 9
      else if m ≠ st.id then some 7
      else if size ≠ 4 then some 5
      else none
    | .ring off =>
      if kind = 0 then some 8
      else if size ≠ 4 then some 5
      else if needBit kind = 1 ∧ ¬ coreRingWrite st.id off then some 6
      else none
  match fixed with
  | some x => some (x, 0x3F)
  | none =>
    match st.regionOf c a with
    | some r => if bit (st.permits c r priv) (needBit kind) then none else some (2, r)
    | none => if priv ≤ 1 then (if defaultMap p a priv kind then none else some (3, 0x3F)) else some (1, 0x3F)

/-- Hold the first violation, R446, R449. -/
def noteViolation (st : Strand) (c : Fin 4) (priv kind cause region a size : Nat) : Strand :=
  if st.flag R.MPU_VIOL_VALID then st.bump R.MPU_VIOL_OVERFLOW
  else
    let st := ((st.put R.MPU_VIOL_VALID 1).put R.MPU_VIOL_CORE c.val).put R.MPU_VIOL_PRIV priv
    let st := ((st.put R.MPU_VIOL_KIND kind).put R.MPU_VIOL_CAUSE cause).put R.MPU_VIOL_ADDR a
    (st.put R.MPU_VIOL_INFO_REGION region).put R.MPU_VIOL_INFO_SIZE size

end Strand

namespace State

/-- A refused core access: the record, and vector 6 with EADDR the address, R445, R446. -/
def mpuFault (s : State) (n c : Fin 4) (priv kind cause region a size : Nat) : State :=
  (s.up n fun st => st.noteViolation c priv kind cause region a size).fault n c 6 (kind + 1) (BitVec.ofNat 32 a)

/-- The answer to a refused register access: zero with an error response; for a core an MPU fault, or vector 7 where the access is
misaligned, R5, R429, R436, R441. -/
def refuseAccess (s : State) (who : Requester) (a size cause : Nat) (isWrite : Bool) : State :=
  let s := { s with resp := .error }
  match who with
  | .core n c p =>
    let c := strandNo c
    if ¬ ((s.sd n).core c).running then s
    else if size ≠ 0 ∧ a % size ≠ 0 then s.fault n c 7 (if isWrite then 2 else 1) (BitVec.ofNat 32 a)
    else s.mpuFault n c p (if isWrite then 2 else 1) cause 0x3F a size
  | _ => s

end State

/-- MISALIGNED_REGISTER_ACCESS, R5, R436: an access that is not an aligned 32-bit one has no effect and is answered with an
error; an aligned one of 32 bits is not this command. -/
def execMisalignedRegisterAccess (who : Requester) (addr size : Nat) (isWrite : Bool) (s : State) :
    Host.Outcome State Fault Refusal :=
  .next (if (size = 4 ∧ addr % 4 = 0) ∨ ¬ s.ring.power then s else s.refuseAccess who addr size 5 isWrite)

/-- SRAM_PATROL_PASS, R437, R439, R628: one pass over island M. `ce` gives the corrected words of a row of 1 KiB; `ue` the words
that cannot be corrected, each with its row and its word address in work SRAM (beyond it for the other parts of island M). -/
def execSramPatrolPass (n : Fin 4) (ce ue : List (Nat × Nat)) (s : State) : Host.Outcome State Fault Refusal :=
  let st := s.sd n
  if st.halted ∨ st.mode = 0 then .next s
  else
    let st := (st.add R.MPU_SRAM_CE (ce.map (·.2)).sum).add R.MPU_SRAM_UE ue.length
    let st := (st.add R.MPU_PATROL 1)
    let bad := (ue.map (·.2)).filter fun w => Strand.inSram (8 * w) && !st.sramBad.contains w
    let st : Strand := { st with sramBad := st.sramBad ++ bad }
    let rows := (ce.filter fun x => decide (x.2 > st.get R.HLT_CTL_ROW_CE)).map (·.1) ++ ue.map (·.1)
    .next (s.setSd n (rows.eraseDups.foldl (fun st r => st.reqSwap { kind := 4, island := 5, row := r }) st))

/-- Whether an offset of a strand window holds a duplicated field that the sweep compares, R437. -/
def duplicated (o : Nat) : Bool :=
  o == 0 || o == 0x18 || o / 0x100000 == 10 && decide (o ≥ 0xA01000) ||
    (match RegMap.strandReg o with
      | some d => d.fields.any (·.cls == .s)
      | none => false)

/-- The island that holds a block's registers, R624 (log entry 26). -/
def islandOfBlock (b : Nat) : Nat :=
  match b with
  | 1 | 2 => 18
  | 4 | 8 => 16
  | 5 => 12
  | 6 => 15
  | 7 => 7
  | 9 | 10 | 15 => 5
  | 0 => 0
  | 16 | 17 | 18 => 6
  | _ => 20

/-- DUPLICATE_COPY_SWEEP, R437, R438: the copies of a field at `off` disagree; the field is not used until the next start. -/
def execDuplicateCopySweep (n : Fin 4) (off : Nat) (s : State) : Host.Outcome State Fault Refusal :=
  let st := s.sd n
  if st.halted ∨ st.mode = 0 ∨ ¬ duplicated off ∨ st.dupBad.contains off then .next s
  else .next (s.setSd n (({ st with dupBad := st.dupBad ++ [off] }.bump R.MPU_DUP_ERR).datapath s.now (islandOfBlock (off / 0x100000))))

end Sys2Proof.Machine
end

