-- ==== Sys2Proof/Machine/Sentinel.lean ====
section
/-! DEFINITION. The Jasper sentinel and the Vigil domain, R580 to R610, and the strand erase of R593. -/

namespace Sys2Proof.Machine
open Sys2Proof

/-! ### Responses -/

namespace Strand

/-- The rank of the response in effect, R591: an alarm's halt; a fence until its swaps have ended; a throttle while it runs. -/
def effective (st : Strand) : Nat :=
  if st.jsp.inEffect ≥ 3 then st.jsp.inEffect
  else if st.jsp.inEffect = 2 ∧ st.hlt.cur.isSome then 2
  else if st.flag R.JSP_STATUS_THROTTLED then 1 else 0

/-- Change the sentinel. -/
def upJsp (st : Strand) (f : Jsp → Jsp) : Strand := { st with jsp := f st.jsp }

/-- What a firing raises at once: the NMI or vector 19, R586, and a snapshot where its rank asks for one, R622. -/
def notify (st : Strand) (f : Firing) : Strand :=
  if f.note then st
  else
    let st := if st.flag R.JSP_SRC_CFG_NMI f.src then st.raiseNmi R.GAR_NMI_CAUSE_SENTINEL else st.vector 19 (st.get R.JSP_CTL_ROUTE)
    let lim := st.get R.SNP_CTL_JSP_RANK
    if lim ≠ 7 ∧ f.rank ≥ lim then st.snapTrigger 4 else st

/-- The running frequencies follow the throttle, R589, R611, R626. -/
def clocks (st : Strand) : Strand :=
  (List.range 21).foldl (fun st i => if throttled i then st.put R.ISL_CLK_MHZ (st.isleMhz i) i else st) st

/-- A THROTTLE begins, or its time starts again, R589; cores keep the cycles they have counted, and jobs the work they have done. -/
def throttle (st : Strand) (t : Nat) : Strand :=
  let st := if st.flag R.JSP_STATUS_THROTTLED then st else ((st.rebaseCycles t).put R.JSP_STATUS_THROTTLED 1).clocks
  st.upJsp fun j => { j with throttleUntil := some (t + 1000000000 * st.get R.JSP_CTL_THROTTLE_S) }

/-- The MPU regions and violation record read zero when the cores restart, R447. -/
def mpuClear (st : Strand) : Strand :=
  { st with regs := st.regs.filter fun p => !((decide (0xA01000 ≤ p.1) && decide (p.1 < 0xA02000)) || (decide (0xA00000 ≤ p.1) && decide (p.1 < 0xA0000C))) }

end Strand

namespace State

/-- The targets of an alarm are stopped where a spare of their kind exists (a halt stops the others), and a disagreeing pair is
replaced, R589, R590. -/
def fenceAll (s : State) (n : Fin 4) (targets pairs : List Nat) : State :=
  let s := (targets.filter fun i => Strand.kindOf i != 0).foldl (fun s i => s.fence n i) s
  pairs.foldl (fun s i => s.up n fun st => st.reqSwap { kind := 5, island := i, row := 0 }) s

/-- The sentinel's request wires to the other three strands are driven, R25; ring supervision observes them and records the event, R594,
where it works, R24. -/
def driveWires (s : State) (n : Fin 4) : State :=
  let s := s.up n fun st => st.upJsp fun j => { j with wires := [0, 1, 2, 3].filter (· != n.val) }
  if s.ring.rsFailed then s
  else s.rput R.RNG_ERASE_WIRES ((s.sd n).jsp.wires.foldl (fun w b => w ||| 2 ^ (4 * n.val + b)) (s.rget R.RNG_ERASE_WIRES))

/-- The response to an alarm, R589 to R591. -/
def respond (s : State) (n : Fin 4) (act src frm : Nat) (targets pairs : List Nat) : State :=
  let st := s.sd n
  let special := st.zeroised || st.jsp.lineSince.isSome || st.jsp.erase.isSome
  let cur := if special then 0 else st.effective
  if act ≤ cur then
    let s := if cur ≥ 2 then s.fenceAll n targets pairs else s
    if act = 1 ∧ cur = 1 then s.up n fun st => st.throttle s.now else s
  else match act with
    | 0 => s
    | 1 => s.up n fun st => st.throttle s.now
    | 2 => (s.fenceAll n targets pairs).up n fun st => st.upJsp fun j => { j with inEffect := max j.inEffect 2 }
    | 3 => ((s.fenceAll n targets pairs).haltStrand n).up n fun st => st.upJsp fun j => { j with inEffect := 3 }
    | _ =>
      let s := s.fenceAll n targets pairs
      let s := if act ≥ 5 then s.driveWires n else s
      let e : EraseTry := { cause := if act ≥ 5 then 2 else if src = 15 then 3 else 1, src := src, frm := frm, tries := 0 }
      if st.jsp.erase.isSome then s else s.up n fun st => st.upJsp fun j => { j with erase := some e }

end State

/-- The island that an event of a source names, R580; 0xFF for none. -/
def detectorIsland (src island : Nat) : Nat := if [1, 2, 3, 9, 10].contains src ∨ island > 20 then 0xFF else island

/-- VBAT as measured, R605, R608; ring supervision shows it where it works, R24, R65. -/
def State.vbat (s : State) (n : Fin 4) (mv : Nat) : State :=
  let s := s.upR fun r => { r with cell := mv }
  (if s.ring.rsFailed then s else s.rput R.RNG_SUP_VBAT mv).up n fun st =>
    (st.put R.JSP_CELL_VBAT mv).put R.JSP_STATUS_CELL_OK (b2n (decide (2500 ≤ mv) && decide (mv ≤ 3600)))

/-! ### The Vigil domain -/

namespace State

/-- The VIGIL_RANK of a source, by the SENTINEL section in force at the loss of main power, R595, R587. -/
def vigilRank (st : Strand) (src : Nat) : Nat :=
  match st.nv.vigilCfg.find? (·.1 == src) with
  | some x => x.2
  | none => (jspDefaults src).2.2.1

/-- Root slots zeroed, the latch set, and the erase recorded, R596, R607. -/
def vigilZero (s : State) (n : Fin 4) (src : Nat) : State :=
  s.up n fun st =>
    let st := ((st.put R.JSP_STATUS_LATCH 1).put R.JSP_ERASE_VALID 1).put R.JSP_ERASE_CAUSE 5
    let st := ((st.put R.JSP_ERASE_SOURCE src).put R.JSP_ERASE_FROM 0).put R.JSP_ERASE_TRIES 0
    { st with nv := { st.nv with roots := [], latch := true } }

/-- One Vigil entry and its action, R596, R597. -/
def vigilOne (s : State) (n : Fin 4) (src det : Nat) : State :=
  let r := vigilRank (s.sd n) src
  let s := s.up n fun st =>
    let e : VigilEntry := { src := src, det := det, rank := r, time := st.deviceTime s.now }
    { st with nv := if st.nv.vigil.length < 16 then { st.nv with vigil := st.nv.vigil ++ [e] }
                    else { st.nv with vigilOver := min 255 (st.nv.vigilOver + 1) } }
  if r = 4 then s.vigilZero n src
  else if r = 5 then [0, 1, 2, 3].foldl (fun s m => s.vigilZero m src) s else s

/-- An event in VIGIL, with DETECTOR_DISAGREE where one detector found it alone, R582, R596. -/
def vigilEvent (s : State) (n : Fin 4) (src det : Nat) : State :=
  if bit ((s.sd n).get R.JSP_FUSE_OFF_FUSED) src then s
  else
    let s := s.vigilOne n src det
    if det % 4 = 3 then s else s.vigilOne n 13 det

end State

/-- What a report tells of the sentinel and the islands themselves, R609, R613, R614, R635: a check code of island S; where `chan` is given, a
regulator (SUPPLY), a clock generator (CLOCK) or a channel's completion code (DATAPATH) that failed. -/
def Strand.reportErr (st : Strand) (src island : Nat) (chan : Option Nat) : Strand :=
  let st := if src = 14 ∧ island = 6 then
      st.noteErr R.JSP_ERR_VALID R.JSP_ERR_CODE R.JSP_ERR_OVERFLOW 5 fun st => (st.put R.JSP_ERR_INFO_SOURCE src).put R.JSP_ERR_INFO_ISLAND island
    else st
  match chan, src with
  | some _, 4 => st.islErr 1 island 0
  | some _, 5 => st.islErr 2 island 0
  | some c, 14 => st.islErr 4 island c
  | _, _ => st

/-- DETECTOR_REPORT, R580 to R585, R595, R600: detectors of a source report; bit 0 of `det` is detector A, bit 1 B, both where they agree
within 1 µs (log entry 150). In VIGIL only CELL is watched without a sample. `chan` as for `reportErr`. -/
def execDetectorReport (n : Fin 4) (src det island reading : Nat) (s : State) (chan : Option Nat := none) : Host.Outcome State Fault Refusal :=
  let st := s.sd n
  if det % 4 = 0 ∨ ¬ ((1 ≤ src ∧ src ≤ 11) ∨ src = 14) then .next s
  else
    let s := if src = 10 then s.vbat n reading else s
    if st.mode = 0 then .next (if src = 10 then s.vigilEvent n 10 (det % 4) else s)
    else if src = 9 ∧ st.get R.JSP_CTL_TAMP_EN = 0 then .next s
    else
      let s := s.up n fun st => st.event s.now src (if src = 14 then 1 else det % 4) (detectorIsland src island) reading
      .next (s.up n fun st => st.reportErr src island chan)

/-- VIGIL_SAMPLE, R595, R600: the sources found in a sample, with their detectors; below 2.0 V no sample is taken. A finding is
sampled again 1 ms later. -/
def execVigilSample (n : Fin 4) (vbat : Nat) (found : List (Nat × Nat)) (s : State) : Host.Outcome State Fault Refusal :=
  let st := s.sd n
  let f := found.filter fun x => [1, 2, 3, 6, 9].contains x.1 && x.2 % 4 != 0 && !bit (st.get R.JSP_FUSE_OFF_FUSED) x.1
    && (x.1 != 9 || st.nv.vigilTamp != 0)
  if st.mode ≠ 0 ∨ vbat < 2000 then .next s
  else .next (s.setSd n (st.upJsp fun j => { j with sample := if f.isEmpty then none else some (f, s.now) }))

/-- VIGIL_SAMPLE_REPEAT, R595: what both samples found stands, and counts at once. -/
def execVigilSampleRepeat (n : Fin 4) (vbat : Nat) (found : List (Nat × Nat)) (s : State) : Host.Outcome State Fault Refusal :=
  let st := s.sd n
  match st.jsp.sample with
  | none => .next s
  | some (f, t) =>
    if st.mode ≠ 0 then .next s
    else
      let s := (s.upTo (t + 1000000)).up n fun st => st.upJsp fun j => { j with sample := none }
      if vbat < 2000 then .next s
      else
        let both := found.filter fun x => x.2 % 4 != 0 && f.any (·.1 == x.1)
        .next (both.foldl (fun s x => s.vigilEvent n x.1 (x.2 % 4)) s)

/-- ERASE_REQUEST_RECEIVED, R25, R591: a wire that another strand's sentinel drives. -/
def execEraseRequestReceived (n : Fin 4) (frm : Fin 4) (s : State) : Host.Outcome State Fault Refusal :=
  if (s.sd n).mode = 0 ∨ ¬ (s.sd frm).jsp.wires.contains n.val then .next s
  else .next (s.up n fun st => st.countEvent s.now 15 1 0xFF frm.val)

/-- ALARM_DECISION, R588 to R591: the decision interval of 1 us ends; every firing in it forms one alarm. -/
def execAlarmDecision (n : Fin 4) (s : State) : Host.Outcome State Fault Refusal :=
  let st := s.sd n
  let fs := st.jsp.alarm
  if fs.isEmpty then .next s
  else if st.mode = 0 then .next (s.setSd n (st.upJsp fun j => { j with alarm := [] }))
  else
    let s := s.upTo (st.jsp.alarmAt + 1000)
    let real := fs.filter fun f => !f.note
    let r := real.foldl (fun m f => max m f.rank) 0
    let top := (real.find? fun f => f.rank == r)
    let recs := fs.zipIdx.map fun x => ({ f := x.1, applied := r, first := x.2 == 0 } : LogRec)
    let st := (st.upJsp fun j => { j with alarm := [], logQ := j.logQ ++ recs })
    let st := real.foldl (fun st f => st.notify f) st
    match top with
    | none => .next (s.setSd n st)
    | some f =>
      let st := (((st.put R.JSP_LAST_RANK r).put R.JSP_LAST_SOURCE f.src).bump R.JSP_LAST_ALARMS)
      let targets := ((real.filter fun f => f.src != 13 && decide (f.island ≤ 20)).map (·.island)).eraseDups
      let pairs := (real.filter fun f => f.src == 13).map (·.island)
      let act := if r = 2 ∧ ((targets.isEmpty ∧ pairs.isEmpty) ∨ targets.any fun i => Strand.kindOf i == 0) then 3 else r
      .next ((s.setSd n st).respond n act f.src (if f.src = 15 then f.reading else 0) targets pairs)

/-- THROTTLE_EXPIRED, R589: the return to full clock. -/
def execThrottleExpired (n : Fin 4) (s : State) : Host.Outcome State Fault Refusal :=
  match (s.sd n).jsp.throttleUntil with
  | none => .next s
  | some t =>
    let s := s.upTo t
    .next (s.up n fun st => (((st.rebaseCycles s.now).put R.JSP_STATUS_THROTTLED 0).clocks).upJsp fun j => { j with throttleUntil := none })

/-! ### The erase, R593 -/

namespace Strand

/-- What the erase line clears of a strand: keys, engines, masks, batches, the journal buffer, sessions, queues, the pool, both
card slots, the cores, R119, R133, R197, R242, R274, R306, R323, R420, R490, R524, R565, R574, R10, R81. -/
def eraseClear (st : Strand) : Strand :=
  let st := st.flashStop.progDropAll
  let fab : Fabric := { fmts := st.fab.fmts, decls := st.fab.decls }
  let keep : Core → Core := fun c => { num := c.num, timer := 0 }
  let ext := st.jc.extents
  let st := { st with
    post := clearPost st.post, taken := [], done := [], vault := {}, eng := {}, jnl := {}, mir := {}, links := [], fab := fab, hlt := {}
    jc := { inserted := st.jc.inserted, debounceAt := st.jc.debounceAt, cardId := st.jc.cardId, extents := ext, anchorUnc := st.jc.anchorUnc }
    cc := {}, cores := st.cores.map keep, freezeOpen := false, newOwner := none, retry := none, pairDue := none
    keyBus := none, quar := []
    nv := { st.nv with roots := [], runtime := [], vault := { st.nv.vault with renewing := false, attestDraw := 0 } } }
  let st := ((((st.cardGone).put R.CC_STATUS_ACTIVE 0).put R.CC_STATUS_CLASS 0).put R.CC_STATUS_CUSTODIAN_OK 0).put R.CC_STATUS_QUORUM 0
  let st := (((st.put R.CC_APPROVALS_HELD 0).ccSync).setLevel 0).put R.ONX_STATUS_ZEROISED 1
  let st := st.put R.ONX_STATUS_SWEEPING 0
  let st := ((st.put R.MIR_STATUS_PAIRED 0).put R.MIR_STATUS_LEASE 0).put R.MIR_STATUS_RECONCILING 0
  let st := { st with regs := st.regs.filter fun p =>
    !((decide (0x20 ≤ p.1) && decide (p.1 < 0x28)) || (decide (0xF00200 ≤ p.1) && decide (p.1 < 0xF00400))) }
  ((st.onxSync.jnlSync).oplSync).berSync

end Strand

namespace State

/-- A strand erase, R593: the line clears everything within 2 us, the latch is set, JSP_ERASE records the cause, the strand
enters QUARANTINE (or RETURN for a return order), and its TAMPER block follows the entry to QUARANTINE, R540. The line stays driven for 10 us. -/
def strandErase (s : State) (n : Fin 4) (e : EraseTry) (tries : Nat) (agree : Bool) (cut : Nat × Bool × Nat) : State :=
  let s := (s.loseWork n).up n fun st =>
    let st := if State.cardRuns st then st.cutWrite cut.1 cut.2.1 cut.2.2 else st
    let st := (st.eraseClear.put R.JSP_STATUS_LATCH 1).put R.JSP_STATUS_ERASED 1
    let st := ((st.put R.JSP_ERASE_VALID 1).put R.JSP_ERASE_CAUSE e.cause).put R.JSP_ERASE_SOURCE e.src
    let st := (st.put R.JSP_ERASE_FROM e.frm).put R.JSP_ERASE_TRIES tries
    { st with nv := { st.nv with latch := true }, jsp := { st.jsp with erase := none, lineSince := some s.now } }
  let m := (s.sd n).mode
  let s :=
    if e.cause = 4 ∧ (m = 5 ∨ m = 6) then s.enterReturn n agree
    else if m = 6 ∨ m = 7 then s
    else s.up n fun st => let st := st.setMode 6 11; { st with nv := { st.nv with quarantine := true } }
  if (s.sd n).mode = 6 ∧ m ≠ 6 then s.tamperBlock n false true [(e.src, (s.sd n).deviceTime s.now)] else s

end State

/-- ERASE_DECISION, R592, R593: the two checkers decide; after a third mismatch the line is driven regardless. `cut` tells of a write to the
journal card that the line cuts short, as for JC_CARD_REMOVE, R524. -/
def execEraseDecision (n : Fin 4) (agree : Bool) (s : State) (cut : Nat × Bool × Nat := (0, false, 0)) : Host.Outcome State Fault Refusal :=
  let st := s.sd n
  match st.jsp.erase with
  | none => .next s
  | some e =>
    if st.mode = 0 then .next (s.setSd n (st.upJsp fun j => { j with erase := none }))
    else
      let k := e.tries + 1
      let s := if agree then s else s.up n fun st => (st.mismatch s.now).upJsp fun j => { j with erase := some { e with tries := k } }
      .next (if agree ∨ k ≥ 3 then s.strandErase n e k agree cut else s)

/-- ERASE_LINE_RELEASE, R420, R447, R593: after 10 us the line falls, and the cores restart through vector 0. -/
def execEraseLineRelease (n : Fin 4) (s : State) : Host.Outcome State Fault Refusal :=
  match (s.sd n).jsp.lineSince with
  | none => .next s
  | some t =>
    let s := (s.upTo (t + 10000)).up n fun st => (st.mpuClear).upJsp fun j => { j with lineSince := none }
    let st := s.sd n
    .next (if st.halted ∨ st.measure = [] then s else s.startCores n st.bootVdt)

/-! ### Injected events, the log, the cell -/

/-- JSP_INJECT_WRITE, R603: in BLANK and MAKER an event like any other; elsewhere it is counted and logged, and nothing acts. -/
def execJspInjectWrite (n : Fin 4) (who : Requester) (v : Nat) (s : State) : Host.Outcome State Fault Refusal :=
  let st := s.sd n
  let src := bits v 0 8
  let det := bits v 8 2
  let island := if bits v 16 5 > 20 then 0xFF else bits v 16 5
  if ¬ wardenOf n who ∨ bits v 24 8 ≠ 0xA6 ∨ src = 0 ∨ src > 15 ∨ det = 0 ∨ st.mode = 0 then .next s
  else if s.life ≤ 1 then .next (s.setSd n (st.event s.now src (det + 4) island))
  else if bit (st.get R.JSP_FUSE_OFF_FUSED) src then .next s
  else
    let f := st.firingOf s.now src (det + 4) island 0
    .next (s.setSd n ((st.bump R.JSP_SRC_CNT_EVENTS src).upJsp fun j =>
      { j with events := (f :: j.events).take 256, logQ := j.logQ ++ [{ f := f, applied := 0, first := true }] }))

/-- A log record without its CHECK, R602. -/
def logBody (seq group : Nat) (r : LogRec) : Bytes :=
  let f := r.f
  toLE 4 seq ++ toLE 1 f.src ++ toLE 1 (f.det % 16) ++ toLE 1 f.island ++ toLE 1 f.modeByte ++ toLE 8 f.time ++ toLE 1 f.rank
    ++ toLE 1 r.applied ++ toLE 2 group ++ toLE 4 (if f.src = 15 then 0 else f.reading)

/-- A record joins the log; the region holds 131,072, and the oldest block of 2,048 is erased when room is needed, R602. -/
def Strand.logAppend (st : Strand) (r : LogRec) : Strand :=
  let seq := st.nv.evSeq
  let group := if r.first then seq % 65536 else st.jsp.group
  let body := logBody seq group r
  let check := (bvBytes (Config.sha256 (st.nv.evCheck ++ body))).take 8
  let old := if st.nv.evlog.length ≥ 131072 then st.nv.evlog.drop 2048 else st.nv.evlog
  let st := st.upJsp fun j => { j with group := group }
  let st := st.put R.JSP_LOG_HEAD (seq + 1)
  { st with nv := { st.nv with evlog := old ++ [(seq, body ++ check)], evSeq := (seq + 1) % 2 ^ 32, evCheck := check } }

/-- EVENT_LOG_WRITE, R602, R609: the next waiting record is written to Agate; a failed write is JSP_ERR code 2 and the record waits. `chainOk`
says whether the record before it bears its CHECK; a break that is found is JSP_ERR code 4. -/
def execEventLogWrite (n : Fin 4) (ok : Bool) (s : State) (chainOk : Bool := true) : Host.Outcome State Fault Refusal :=
  let st := s.sd n
  match st.jsp.logQ with
  | [] => .next s
  | r :: rest =>
    let err := fun (st : Strand) (code : Nat) => st.noteErr R.JSP_ERR_VALID R.JSP_ERR_CODE R.JSP_ERR_OVERFLOW code fun st =>
      (st.put R.JSP_ERR_INFO_SOURCE r.f.src).put R.JSP_ERR_INFO_ISLAND r.f.island
    if st.mode = 0 then .next s
    else
      let st := if chainOk then st else err st 4
      .next (s.setSd n (if ok then (st.upJsp fun j => { j with logQ := rest }).logAppend r else err st 2))

/-- CELL_WINDOW_CLOSE, R601: ten minutes have passed, or CEREMONY has ended; with VBAT absent a CELL event is raised. -/
def execCellWindowClose (n : Fin 4) (vbat : Nat) (s : State) : Host.Outcome State Fault Refusal :=
  match (s.sd n).jsp.window with
  | none => .next s
  | some t =>
    let s := if (s.sd n).mode = 5 then s.upTo t else s
    let s := (s.vbat n vbat).up n fun st => (st.put R.JSP_CELL_WINDOW_OPEN 0).upJsp fun j => { j with window := none }
    .next (if vbat = 0 then s.up n fun st => st.countEvent s.now 10 1 0xFF 0 else s)

/-- CRYSTAL_STOP, R663: every island V runs on its internal oscillator. -/
def execCrystalStop (s : State) : Host.Outcome State Fault Refusal := .next (s.upR fun r => { r with xtalStopped := true })

end Sys2Proof.Machine
end

