-- ==== Sys2Proof/Machine/Package.lean ====
section
/-! DEFINITION. The package, the life-cycle fuses as the maker programs them, and the probe session: R65, R67, R583, R585,
R668. -/

namespace Sys2Proof.Machine
open Sys2Proof

/-- THERM_N_THRESHOLD, R668: the hottest island, in tenths of a degree, moves THERM_N. -/
def execThermNThreshold (hottest : Int) (s : State) : Host.Outcome State Fault Refusal :=
  if !s.ring.power then .next s
  else .next (s.upR fun r => { r with thermLow := if hottest > 1000 then true else if hottest < 950 then false else r.thermLow })

/-- SUPPLY_GLITCH, R65, R655: an excursion of `ns` nanoseconds; one longer than 20 µs is the loss of main power and not
counted here; the supply monitors are lost with ring supervision, R24. -/
def execSupplyGlitch (ns : Nat) (s : State) : Host.Outcome State Fault Refusal :=
  if s.ring.power ∧ ¬ s.ring.rsFailed ∧ ns ≤ 20000 then .next (s.rbump R.RNG_SUP_GLITCH) else .next s

/-- MAKER_LIFECYCLE_PROGRAM, R67, R69: BLANK to MAKER, when the maker key digest and the maker return-key digest are
fused, as this command carries them; MAKER to TRANSIT, which leaves them as they are. A mismatch of the doubled decision leaves the fuses and raises
DECISION_MISMATCH in every sentinel; the maker repeats the command. Transitions are refused without ring supervision, R24. -/
def execMakerLifecycleProgram (digest returnDigest : BitVec 384) (agree : Bool) (s : State) :
    Host.Outcome State Fault Refusal :=
  if !s.ring.power || s.ring.rsFailed || s.lifeInvalid || decide (s.life > 1) then .next s
  else if !agree then .next (s.upAll fun st => if st.halted then st else st.mismatch s.now)
  else if s.life = 0 then
    .next ((s.upR fun r => { r with ident := { r.ident with makerDigest := digest, returnDigest := returnDigest } }).advanceLife 1)
  else .next (s.advanceLife 2)

/-- SOURCE_FUSE_OFF, R583: in MAKER, and only for the sources that R580 marks. -/
def execSourceFuseOff (src : Nat) (s : State) : Host.Outcome State Fault Refusal :=
  if s.ring.power ∧ s.life = 1 ∧ src ∈ [2, 3, 7, 8, 9, 10] then
    let s := s.upR fun r => { r with ident := { r.ident with sourceOff := r.ident.sourceOff ||| 2 ^ src } }
    .next (s.upAll fun st => st.put R.JSP_FUSE_OFF_FUSED s.ring.ident.sourceOff)
  else .next s

/-- Whether the test access port reaches internal debug, R67, R70. -/
def State.debugReach (s : State) : Bool := s.ring.power && (decide (s.life ≤ 1) || (s.life == 4 && s.ring.debugOpen))

/-- TEST_PROBE_SESSION, R585: a probe session opens or closes; every strand's TEST follows, and a change empties the window
histories. -/
def execTestProbeSession (opening : Bool) (s : State) : Host.Outcome State Fault Refusal :=
  if opening && !s.debugReach then .next s
  else .next (s.upAll fun st =>
    if st.mode = 0 ∨ st.flag R.JSP_STATUS_TEST = opening then st else (st.put R.JSP_STATUS_TEST (b2n opening)).emptyWindows)

end Sys2Proof.Machine
end

