-- ==== Sys2Proof/Machine/Mirror.lean ====
section
/-! DEFINITION. The Gulsis mirror link, R171 to R192: pairing, roles, reconciliation, frames, the pair lease, SOLO and takeover. -/

namespace Sys2Proof.Machine
open Sys2Proof

namespace Strand

/-- Whether the strand trains and pairs: from step 8 of start-up on, not HALTED, ENABLE set, R178, R197, R202. -/
def pairable (st : Strand) : Bool :=
  !st.halted && st.flag R.MIR_CTL_ENABLE
    && ((st.mode == 1 && decide (st.get R.CHT_START_STATUS_STEP ≥ 8)) || (decide (2 ≤ st.mode) && decide (st.mode ≤ 5)))

/-- A frame from the twin opened under R174: its payload, or a discarded frame counted in MIR_FRAME_BAD. Bad blocks count, and the frame in
progress ends with them, R172. -/
def openFrame (st : Strand) (t ftype : Nat) (f : GFrame) : Strand × Option Bytes :=
  if st.halted ∨ ¬ st.flag R.MIR_STATUS_LINKED ∨ ¬ st.flag R.MIR_CTL_ENABLE then (st, none)
  else if f.badBlocks > 0 then (st.add R.MIR_BLOCK_ERR f.badBlocks, none)
  else match st.sessionKey st.mir.keyRx 4 with
  | none => (st, none)
  | some key =>
    match gcmOpen key (frameIv st.id.val st.twinDirection f.ctr) (frameAad ftype f.cipher.length f.ctr) f.cipher f.tag with
    | some p => if f.ctr > st.mir.rxCtr then (st.upMir fun m => { m with rxCtr := f.ctr, lastRx := t }, some p)
                else (st.bump R.MIR_FRAME_BAD, none)
    | none => (st.bump R.MIR_FRAME_BAD, none)

/-- HELLO, R175: identity, home role, a fresh challenge and ephemeral key. -/
def hello (st : Strand) (id : Bytes × Bytes) : Strand :=
  let (ch, st) := st.drawBytes 32
  let (eph, st) := st.drawBytes 32
  let p := fit 16 id.1 ++ fit 8 id.2 ++ toLE 1 st.id.val ++ toLE 1 (st.get R.MIR_ROLE_HOME_ROLE) ++ zeros 6 ++ ch
    ++ publicKey 0x20 256 eph
  let st := st.unpair .hello
  (st.upMir fun m => { m with helloTx := p, eph := eph, retryAt := none }).clearSend 0x01 p

/-- The string that ATTEST covers, R175: the sender's HELLO, the receiver's HELLO, and the peer's challenge (log entry 18). -/
def attestText (sender receiver : Bytes) : Bytes := sender ++ receiver ++ sub receiver 32 32

/-- A failed attestation, R178: again after 1 s; the third since the start stops pairing and sets MIR_ERR. -/
def failPair (st : Strand) (t code : Nat) : Strand :=
  let k := st.mir.fails + 1
  let st := (st.unpair .trained).upMir fun m => { m with fails := k, retryAt := if k ≥ 3 then none else some (t + 1000000000) }
  if k ≥ 3 then st.mirErr code else st

/-- The first SOLO entry that the keeper has not acknowledged, 0 if none, R175. -/
def firstSolo (st : Strand) : Nat :=
  ((st.jnl.index.find? fun e => e.solo && decide (e.no > st.jnl.acked)).map Entry.no).getD 0

/-- HEAD, R175, its fields in the order listed and without padding (log entry 18). -/
def headPayload (st : Strand) : Bytes :=
  let s := st.jnl.s
  fit 16 s.cur.id ++ toLE 8 s.cur.no ++ fit 32 s.cur.j ++ toLE 8 s.seq ++ toLE 4 s.epoch ++ toLE 1 (b2n st.writer)
    ++ toLE 8 st.firstSolo ++ toLE 8 (st.jnl.headOnly.headD 0) ++ fit 16 s.pred.id ++ toLE 8 s.pred.no ++ fit 32 s.pred.j
    ++ toLE 1 (b2n s.isOpen)

/-- The twin's HEAD. -/
def parseHead (p : Bytes) : TwinHead :=
  { cur := ⟨sub p 0 16, le p 16 8, sub p 24 32⟩, seq := le p 56 8, epoch := le p 64 4, writer := le p 68 1 == 1
    firstSolo := le p 69 8, firstHeadOnly := le p 77 8, pred := ⟨sub p 85 16, le p 101 8, sub p 109 32⟩, isOpen := le p 141 1 == 1 }

/-- The session keys, R174, R178: two contexts with destination MIR, one for each direction of travel, each sent to the link; whether both
arrived. -/
def makeSession (st : Strand) (t : Nat) (env : JobEnv) : Strand × Bool :=
  let peer := sub st.mir.helloRx 64 64
  let secret := (List.range 32).map (Config.agreeByte 0x20 st.mir.eph peer)
  let a := strandKey 3 16 3 256
  match st.placeSession t env a (bvBytes (Config.sessionKey secret st.direction)) 4 with
  | (st, .inl _) => (st, false)
  | (st, .inr c) =>
    match st.placeSession t env a (bvBytes (Config.sessionKey secret st.twinDirection)) 4 with
    | (st, .inl _) => (st.freeCtx c, false)
    | (st, .inr d) => ((st.upMir fun m => { m with keyTx := some c.idx, keyRx := some d.idx, txCtr := 1, rxCtr := 0 }).onxSync, true)

/-- The strand takes a role, recorded with the journal state, R157, R170. -/
def become (st : Strand) (t : Nat) (writer : Bool) : Strand :=
  let st := { st with jnl := { st.jnl with s := { st.jnl.s with role := some writer } } }
  ((st.put R.MIR_ROLE_ROLE (b2n writer)).jnlSync).checkpoint t

/-- The outcome of a reconciliation, R206. -/
def recon (st : Strand) (case : Nat) (twin : Bool) (sup : Nat) : Strand :=
  ((st.put R.MIR_RECON_CASE case).put R.MIR_RECON_AUTHORITY (b2n twin)).put R.MIR_RECON_SUPERSEDED (min sup 16777215)

/-- Pairing is complete, R178, R204: a writer sends the marks it holds; the keeper's first LEASE is due. -/
def paired (st : Strand) (t : Nat) : Strand :=
  let st := (st.put R.MIR_STATUS_PAIRED 1).upMir fun m => { m with step := .paired, keep := none, leaseTx := t - 10000000, conflict := false }
  let l := st.jnl.s.raised
  ({ st with jnl := { st.jnl with s := { st.jnl.s with raised := [] } } }).tellMarks t 0 l

/-- ROLE_CONFLICT, R179: unpaired, no batch admitted until a pairing completes (log entry 139); the case that led to it shows in MIR_RECON. -/
def roleConflict (st : Strand) (case : Nat) : Strand :=
  (((st.mirErr 4).recon case false 0).unpair .refused).upMir fun m => { m with conflict := true }

/-- A fork, R188. -/
def forked (st : Strand) (case : Nat) : Strand :=
  (((st.mirErr 5).put R.MIR_STATUS_FORK 1).recon case false 0).unpair .trained

/-- Roles when both chains agree, R179: every entry stands on both sides. -/
def settleRoles (st : Strand) (t case : Nat) (w : TwinHead) : Strand :=
  let e := st.jnl.s.epoch
  let home := st.flag R.MIR_ROLE_HOME_ROLE
  let twinHome := le st.mir.helloRx 25 1 == 1
  if e = w.epoch ∧ home = twinHome then st.roleConflict case
  else
    let role := if e > w.epoch then st.writer else if w.epoch > e then !w.writer else home
    let st := { st with jnl := { st.jnl with acked := st.jnl.s.cur.no, s := { st.jnl.s with epoch := max e w.epoch } } }
    ((st.become t role).recon case false 0).paired t

/-- The copy's progress, R189, R15. -/
def copyProg (st : Strand) (add : Nat) (done : Bool) : Strand :=
  let st := st.upMir fun m => { m with copyDone := m.copyDone + add }
  let units := max 1 ((st.mir.copyLen + 65535) / 65536)
  let pos := if done then (st.mir.copyDone + 65535) / 65536 else st.mir.copyDone / 65536
  st.progress 0x300038 (if done then 100 else min 99 (100 * pos / units)) pos

/-- The tail beyond an entry leaves the chain, R187, and the journal state stands at that entry with the adopted submitter
table. Batches whose entries go, or would have followed them, release no receipt any more. -/
def supersede (st : Strand) (mem : List Host.Cell) (agree : Nat) (marks : List (Nat × Nat)) : Strand × Nat :=
  let j := st.jnl
  let gone := j.index.filter fun e => decide (e.no > agree)
  let full := fun (e : Entry) => (st.entryBody mem e.no).getD e
  let cur : JHead := { j.s.cur with no := agree, j := (st.jAt agree).getD [] }
  let (seq, time) := if agree = j.s.cur.no then (j.s.seq, j.s.time) else if agree = j.base.no then (j.base.seq, j.base.time) else
    match j.index.find? (·.no == agree) with
    | some e => (e.lastSeq, e.time)
    | none => (0, 0)
  let s := { j.s with cur := cur, seq := seq, time := time % 2 ^ 63, marks := marks }
  let off : Batch → Batch := fun b =>
    if !b.check && (b.phase == .committed || (b.phase == .sealed && decide (b.entryNo > agree))) then { b with dead := true } else b
  let aged : Store → Store := fun x => { x with ents := x.ents.map fun e => if e.no > agree ∧ ¬ e.sup then { e with old := true } else e }
  let keep : Entry → Bool := fun e => decide (e.no ≤ agree)
  let mk : Entry → SupEnt := fun e => { e := full e }
  ({ st with post := { st.post with batches := st.post.batches.map off }
             jnl := { j with s := s, index := j.index.filter keep, buf := j.buf.filter keep, store := j.store.map aged
                             storeQ := j.storeQ.filter fun k => decide (k ≤ agree)
                             headOnly := j.headOnly.filter fun k => decide (k ≤ agree)
                             sup := j.sup ++ gone.map mk
                             acked := min j.acked agree, headNo := min j.headNo agree } }.jnlSync, gone.length)

end Strand

namespace State

/-- The device's identity for HELLO. -/
def identOf (s : State) : Bytes × Bytes := (s.ring.ident.deviceId, s.ring.ident.constellation.getD [])

/-- Send every entry from the first unacknowledged one, R177; bodies from the buffer or the host store, R186. -/
def resendAll (s : State) (n : Fin 4) : State :=
  let st := s.sd n
  let first := st.jnl.acked + 1
  let st := (List.range (st.jnl.s.cur.no + 1 - first)).foldl (fun (st : Strand) i =>
    match st.entryBody s.mem (first + i) with
    | some e => st.mirSend s.now 0x10 e.bytes
    | none => st) st
  s.setSd n (st.upMir fun m => { m with sentAt := s.now, resend := some (first, s.now), nakAt := none })

/-- This side is authoritative, R186: it becomes writer and copies its tail. -/
def copyOut (s : State) (n : Fin 4) (case agree : Nat) (twinEpoch : Nat) : State :=
  let s := s.up n fun st =>
    let st := { st with jnl := { st.jnl with acked := agree, s := { st.jnl.s with epoch := max st.jnl.s.epoch twinEpoch } } }
    let len := ((st.jnl.index.filter fun e => decide (e.no > agree)).map Entry.len).sum
    let st := ((st.become s.now true).recon case false 0).put R.MIR_STATUS_FORK 0
    if st.jnl.s.cur.no = agree then st.paired s.now
    else ((st.put R.MIR_STATUS_RECONCILING 1).upMir fun m =>
      { m with step := .copying, copyTo := some st.jnl.s.cur.no, copyLen := len, copyDone := 0 }).copyProg 0 false
  if (s.sd n).mir.step = .copying then s.resendAll n else s

/-- The twin is authoritative, R186, R187: this side supersedes its tail, adopts the twin's state and becomes keeper. `tail` is the length of
the tail to come, R189. A chain that the card's anchor had refuted is replaced with it, R170 (log entry 132). -/
def copyIn (s : State) (n : Fin 4) (case agree : Nat) (w : TwinHead) (marks : List (Nat × Nat)) (tail : Nat) : State :=
  s.up n fun st =>
    let (st, k) := (st.put R.JNL_STATUS_ANCHOR_BAD 0).supersede s.mem agree marks
    let st := { st with jnl := { st.jnl with s := { st.jnl.s with epoch := max st.jnl.s.epoch w.epoch } } }
    let st := ((st.become s.now false).recon case true k).put R.MIR_STATUS_FORK 0
    if w.cur.no = agree then st.paired s.now
    else ((st.put R.MIR_STATUS_RECONCILING 1).upMir fun m =>
      { m with step := .copying, copyTo := some w.cur.no, copyLen := tail, copyDone := 0 }).copyProg 0 false

/-- The agreement point is found: the case of R186 decides. `marks` is the twin's submitter table; `keep` the chain that
MIR_RECONCILE named at either device. -/
def settle (s : State) (n : Fin 4) (agree : Nat) (w : TwinHead) (marks : List (Nat × Nat)) (keep : Option Bool) (case8 : Bool)
    (tail : Nat) : State :=
  let st := s.sd n
  let mine := decide (st.jnl.s.cur.no > agree)
  let hers := decide (w.cur.no > agree)
  let mySolo := st.jnl.index.any fun e => e.solo && decide (e.no > agree)
  let herSolo := decide (w.firstSolo ≠ 0)
  let home := st.flag R.MIR_ROLE_HOME_ROLE
  let twinHome := le st.mir.helloRx 25 1 == 1
  let authOf : Nat × Option Bool :=
    match (if st.flag R.JNL_STATUS_ANCHOR_BAD then some false else keep) with
    | some k => (2, some k)
    | none =>
      if !mine && !hers then (1, none)
      else if mine != hers then (2, some mine)
      else if mySolo != herSolo then (3, some mySolo)
      else if mySolo then (5, none)
      else if st.jnl.s.epoch ≠ w.epoch then (4, some (decide (st.jnl.s.epoch > w.epoch)))
      else if home ≠ twinHome then (4, some home)
      else (4, none)
  let (case, auth) := authOf
  let headless := match auth with
    | some true => st.jnl.headOnly.any fun k => decide (k > agree) && (st.entryBody s.mem k).isNone
    | some false => decide (w.firstHeadOnly > agree)
    | none => false
  let case' := if case8 then 8 else case
  if headless then s.up n fun st => st.forked 6
  else match case, auth with
    | 1, _ => s.up n fun st => ((st.put R.MIR_STATUS_FORK 0).settleRoles s.now case' w)
    | 5, _ => s.up n fun st => st.forked 5
    | _, some true => s.copyOut n case' agree w.epoch
    | _, some false => s.copyIn n case' agree w marks tail
    | _, none => s.up n fun st => st.roleConflict case' 

/-- Reconciliation once the twin's HEAD is known, R185, R186: cases 7 to 9 at once, else the search for the agreement
point from the lower head down. -/
def reconcile (s : State) (n : Fin 4) (w : TwinHead) (time : Nat) (marks : List (Nat × Nat)) (keep : Option Bool) (tail : Nat) : State :=
  let refuted := (s.sd n).flag R.JNL_STATUS_ANCHOR_BAD && w.isOpen && w.pred != (s.sd n).jnl.s.cur
  let keep := if refuted then some false else keep
  let s := match keep with
    | some false =>
      if (s.sd n).jnl.s.isOpen ∧ w.isOpen ∧ (s.sd n).jnl.s.cur.id ≠ w.cur.id then
        s.up n fun st =>
          let st := (st.put R.JNL_STATUS_ANCHOR_BAD 0).endJournal
          { st with jnl := { st.jnl with s := { st.jnl.s with isOpen := false, cur := {}, seq := 0 }, acked := 0, headNo := 0 } }.jnlSync
      else s
    | _ => s
  let st := s.sd n
  let w' := if keep = some true ∧ st.jnl.s.isOpen ∧ st.jnl.s.cur.id ≠ w.cur.id then { w with isOpen := false } else w
  let adopt := fun (st : Strand) (id : Bytes) (h : JHead) (seq : Nat) =>
    let st := (st.put R.JNL_STATUS_ANCHOR_BAD 0).openJournal id w.pred
    let js := { st.jnl.s with cur := h, seq := seq, time := time, marks := marks, epoch := max st.jnl.s.epoch w.epoch }
    { st with jnl := { st.jnl with acked := h.no, base := { no := h.no, j := h.j, seq := seq, time := time }, s := js } }
  if ¬ st.jnl.s.isOpen ∧ ¬ w'.isOpen then s.up n fun st => (st.put R.MIR_STATUS_FORK 0).settleRoles s.now 7 w
  else if ¬ w'.isOpen then
    s.up n fun st =>
      let st := { st with jnl := { st.jnl with acked := st.jnl.s.cur.no, s := { st.jnl.s with epoch := max st.jnl.s.epoch w.epoch } } }
      ((((st.put R.MIR_STATUS_FORK 0).become s.now true).recon 7 false 0).paired s.now)
  else if ¬ st.jnl.s.isOpen then
    s.up n fun st => (((adopt (st.put R.MIR_STATUS_FORK 0) w.cur.id w.cur w.seq).become s.now false).recon 7 true 0).paired s.now
  else if st.jnl.s.cur.id = w.cur.id then
    if st.jnl.s.cur = w.cur then s.settle n w.cur.no w marks keep false tail
    else
      let k := min st.jnl.s.cur.no w.cur.no
      s.up n fun st => (st.upMir fun m => { m with search := k }).mirSend s.now 0x30
        (toLE 8 k ++ toLE 8 st.jnl.s.cur.no ++ fit 32 ((st.jAt k).getD []))
  else if w.pred = st.jnl.s.cur then
    let s := s.up n fun st =>
      let mine := st.jnl.s.marks
      let st := st.openJournal w.cur.id w.pred
      { st with jnl := { st.jnl with s := { st.jnl.s with marks := mine } } }
    s.settle n 0 w marks (some false) true tail
  else if st.jnl.s.pred = w.cur then s.settle n 0 { w with cur := { w.cur with no := 0 } } marks (some true) true tail
  else s.up n fun st => st.forked 9

/-- Step 9 completes, R51, R56, R61, R76: SERVICE or DEGRADED; in TRANSIT the strand stays in CHARTER. -/
def admitted (s : State) (n : Fin 4) : State :=
  let serves := s.life == 1 || s.life == 3
  s.up n fun st =>
    if serves then (st.modeCheckpoint s.now).enterServing s.now true
    else (st.put R.CHT_START_STATUS_ELAPSED (st.elapsed s.now)).put R.CHT_START_STATUS_STEP 10

/-- Step 9 of start-up, R51, R56, R60: the doubled decision to take up work. -/
def admitWork (s : State) (n : Fin 4) (agree : Bool) : State :=
  let s := s.up n fun st =>
    let st := { st.put R.CHT_START_STATUS_STEP 9 with pairDue := none }
    if st.leaseHeld then st else st.upMir fun m => { m with lostAt := some (m.lostAt.getD s.now) }
  if agree then s.admitted n else s.up n fun st => st.awaitRetry s.now .admission

/-- The lease is held or renewed, R180, R182: SOLO ends once reconciliation has finished; a start at step 8 goes on to step 9;
DEGRADED returns to SERVICE by a doubled decision, R56. -/
def leaseUp (s : State) (n : Fin 4) (agree : Bool) : State :=
  let st := s.sd n
  let done := !st.flag R.MIR_STATUS_RECONCILING
  let s := s.up n fun st =>
    let st := (st.put R.MIR_STATUS_LEASE 1).upMir fun m => { m with lostAt := none }
    if done then st.put R.MIR_STATUS_SOLO 0 else st
  let s := s.releaseAll n
  let st := s.sd n
  if st.mode = 1 ∧ st.get R.CHT_START_STATUS_STEP = 8 then s.admitWork n agree
  else if st.mode = 3 ∧ done ∧ st.servingMode = 2 ∧ st.retry.isNone ∧ ¬ st.halted then
    if agree then s.up n fun st => (st.checkpoint s.now).enterServing s.now false else s.up n fun st => st.awaitRetry s.now .service
  else s

/-- The lease or the writer is lost, R180, R411: DEGRADED under R56, the NMI, MIR_LEASE_LOST. -/
def leaseDown (s : State) (n : Fin 4) (cause : Fld) : State :=
  s.up n fun st =>
    let st := ((st.put R.MIR_STATUS_LEASE 0).bump R.MIR_LEASE_LOST).upMir fun m => { m with lostAt := some s.now }
    let st := st.raiseNmi cause
    if st.mode = 2 then (st.checkpoint s.now).degrade else st

/-- An accepted frame's payload goes on to its work; a discarded one only counts. -/
def onFrame (s : State) (n : Fin 4) (ftype : Nat) (f : GFrame) (work : Bytes → State → State) : State :=
  match (s.sd n).openFrame s.now ftype f with
  | (st, some p) => work p (s.setSd n st)
  | (st, none) => s.setSd n st

/-- The copy has reached the authoritative head, R186. -/
def copyEnd (s : State) (n : Fin 4) : State :=
  s.up n fun st => ((st.put R.MIR_STATUS_RECONCILING 0).copyProg 0 true).paired s.now

end State

/-! ### The commands -/

/-- GULSIS_LANE_LOCK_LOST, R171: the link runs on the lanes left, or goes down. -/
def execGulsisLaneLockLost (n : Fin 4) (lanes : Nat) (s : State) : Host.Outcome State Fault Refusal :=
  .next (s.up n fun st =>
    let k := min lanes 1
    let st := (st.put R.MIR_STATUS_LANES k).put R.MIR_STATUS_LINKED k
    if k = 0 then st.unpair .down else st)

/-- GULSIS_LINK_TRAINED, R171, R178: from a link that was down pairing proceeds with HELLO. -/
def execGulsisLinkTrained (n : Fin 4) (lanes : Nat) (s : State) : Host.Outcome State Fault Refusal :=
  let st := s.sd n
  if ¬ st.pairable then .next s
  else
    let st := (st.put R.MIR_STATUS_LANES (max 1 (min lanes 2))).put R.MIR_STATUS_LINKED 1
    if st.mir.step ≠ .down then .next (s.setSd n st)
    else if st.mir.fails ≥ 3 then .next (s.setSd n (st.upMir fun m => { m with step := .trained }))
    else .next (s.setSd n (st.hello s.identOf))

/-- PAIRING_RETRY, R178: 1 s after a failed attestation. -/
def execPairingRetry (n : Fin 4) (s : State) : Host.Outcome State Fault Refusal :=
  match (s.sd n).mir.retryAt with
  | some t =>
    let s := s.upTo t
    if (s.sd n).pairable ∧ (s.sd n).flag R.MIR_STATUS_LINKED then .next (s.up n fun st => st.hello s.identOf)
    else .next (s.up n fun st => st.upMir fun m => { m with retryAt := none })
  | none => .next s

/-- The DEVICE_ID that MIR_TWIN_ID names. -/
def Strand.twinId (st : Strand) : Bytes := ((List.range 4).map fun k => toLE 4 (st.get R.MIR_TWIN_ID_ID k)).flatten

/-- A device has one twin, R38: no other strand that is paired names another device (log entry 140). -/
def State.oneTwin (s : State) (n : Fin 4) : Bool :=
  s.strands.toList.all fun (st : Strand) => st.id == n || !st.flag R.MIR_STATUS_PAIRED || st.twinId == (s.sd n).twinId

/-- Bad blocks in a clear frame: they count while the link is locked, and the frame is lost, R172. -/
def State.badBlocks (s : State) (n : Fin 4) (errs : Nat) : State :=
  s.up n fun st => if st.flag R.MIR_STATUS_LINKED then st.add R.MIR_BLOCK_ERR errs else st

/-- MIR_HELLO_RECEIVED, R175, R178: own constellation, the twin's identity, own strand number; then ATTEST, under the pairing root. A HELLO
that starts the pairing again is answered with HELLO first. -/
def execMirHelloReceived (n : Fin 4) (p : Bytes) (s : State) (errs : Nat := 0) (env : JobEnv := {}) : Host.Outcome State Fault Refusal :=
  let st := s.sd n
  if errs > 0 then .next (s.badBlocks n errs)
  else if ¬ st.pairable ∨ ¬ st.flag R.MIR_STATUS_LINKED ∨ st.mir.fails ≥ 3 ∨ st.mir.retryAt.isSome then .next s
  else
    let st := if st.mir.step = .hello then st else st.hello s.identOf
    if sub p 0 16 ≠ st.twinId ∨ sub p 16 8 ≠ fit 8 (s.ring.ident.constellation.getD []) ∨ le p 24 1 ≠ n.val ∨ !s.oneTwin n then
      .next (s.setSd n (st.failPair s.now 2))
    else match st.rootRelease s.now env 2 with
      | (st, none) => .next (s.setSd n (st.failPair s.now 1))
      | (st, some key) =>
        let mac := Config.hmac256 key (Strand.attestText st.mir.helloTx (fit 128 p))
        let st := st.upMir fun m => { m with helloRx := fit 128 p, step := .attest }
        .next (s.setSd n (st.clearSend 0x02 (bvBytes mac)))

/-- MIR_ATTEST_RECEIVED, R175, R178: the peer's ATTEST verifies, the session keys are derived, and HEAD is sent. -/
def execMirAttestReceived (n : Fin 4) (mac : Bytes) (s : State) (errs : Nat := 0) (env : JobEnv := {}) : Host.Outcome State Fault Refusal :=
  let st := s.sd n
  if errs > 0 then .next (s.badBlocks n errs)
  else if ¬ st.pairable ∨ st.mir.step ≠ .attest then .next s
  else match st.rootRelease s.now env 2 with
    | (st, none) => .next (s.setSd n (st.failPair s.now 1))
    | (st, some key) =>
      if bvBytes (Config.hmac256 key (Strand.attestText st.mir.helloRx st.mir.helloTx)) ≠ mac then .next (s.setSd n (st.failPair s.now 1))
      else match st.dropSession.makeSession s.now env with
        | (st, false) => .next (s.setSd n (st.failPair s.now 1))
        | (st, true) =>
          let st := st.upMir fun m => { m with step := .agree }
          .next (s.setSd n (st.mirSend s.now 0x03 st.headPayload))

/-- MIR_HEAD_RECEIVED, R175, R179, R185, R186. The operands `time` and `marks` are the DEVICE_TIME and submitter table of the
twin's journal state, `keep` what MIR_RECONCILE named at the twin, and `tail` the length of the tail it would copy; HEAD carries none of
them (log entry 19). -/
def execMirHeadReceived (n : Fin 4) (f : GFrame) (time : Nat) (marks : List (Nat × Nat)) (keep : Option Bool) (s : State) (tail : Nat := 0) :
    Host.Outcome State Fault Refusal :=
  .next (s.onFrame n 0x03 f fun p s =>
    if (s.sd n).mir.step ≠ .agree ∨ (s.sd n).mir.twin.isSome then s
    else
      let w := Strand.parseHead p
      let s := s.up n fun st => st.upMir fun m => { m with twin := some w }
      let k := ((s.sd n).mir.keep).orElse fun _ => keep.map (!·)
      s.reconcile n w time marks k tail)

/-- MIR_RESYNC_REQ_RECEIVED, R185: where both sides hold the J named the point is found; else both go one entry back. -/
def execMirResyncReqReceived (n : Fin 4) (f : GFrame) (marks : List (Nat × Nat)) (keep : Option Bool) (s : State) (tail : Nat := 0) :
    Host.Outcome State Fault Refusal :=
  .next (s.onFrame n 0x30 f fun p s =>
    let st := s.sd n
    match st.mir.twin with
    | none => s
    | some w =>
      let k := le p 0 8
      if st.mir.step ≠ .agree ∨ k > st.mir.search then s
      else if st.jAt k = some (sub p 16 32) then
        let s := if k < st.mir.search then s.up n fun st => st.mirSend s.now 0x30
            (toLE 8 k ++ toLE 8 st.jnl.s.cur.no ++ sub p 16 32) else s
        s.settle n k w marks ((st.mir.keep).orElse fun _ => keep.map (!·)) false tail
      else
        let k := k - 1
        s.up n fun st => (st.upMir fun m => { m with search := k }).mirSend s.now 0x30
          (toLE 8 k ++ toLE 8 st.jnl.s.cur.no ++ fit 32 ((st.jAt k).getD [])))

/-- A NAK goes out, R175; NAK 2 counts. -/
def Strand.sendNak (st : Strand) (t reason : Nat) : Strand :=
  (st.mirSend t 0x12 (toLE 8 (st.jnl.s.cur.no + 1) ++ toLE 1 reason)).bumpIf (reason == 2) R.MIR_CHAIN_NAK

/-- Why the keeper refuses an entry, R176: 0, or the REASON of the first condition failed. -/
def Strand.nakReason (st : Strand) (e : Entry) : Nat :=
  let s := st.jnl.s
  let copying := st.mir.step == .copying
  if e.no ≠ s.cur.no + 1 then 1
  else if ¬ (e.epoch = s.epoch ∨ (copying ∧ e.epoch ≤ s.epoch)) then 4
  else if e.prev ≠ s.cur.j ∨ ¬ e.chained ∨ e.firstSeq ≠ s.seq + 1 then 2
  else if st.bufUsed + e.len > 2097152 then 3
  else 0

/-- MIR_ENTRY_RECEIVED, R176, R177: ACK, NAK, or nothing for a duplicate. -/
def execMirEntryReceived (n : Fin 4) (f : GFrame) (s : State) : Host.Outcome State Fault Refusal :=
  .next (s.onFrame n 0x10 f fun p s =>
    let st := s.sd n
    let e := Entry.parse p
    if st.writer then s
    else if e.no ≤ st.jnl.s.cur.no then
      if st.jAt e.no = some e.j then s else s.setSd n (st.sendNak s.now 2)
    else match st.nakReason e with
      | 0 =>
        let st := st.joinChain e
        let st := { st with jnl := { st.jnl with acked := e.no } }
        let st := st.mirSend s.now 0x11 (toLE 8 e.no ++ e.j)
        let st := st.upMir fun m => { m with peerMax := max m.peerMax e.no }
        let s := s.setSd n st.trimBuf.jnlSync
        match st.mir.copyTo with
        | none => s
        | some k =>
          let s := s.up n fun st => st.copyProg e.len false
          if e.no ≥ k then (s.up n fun st => st.upMir fun m => { m with copyTo := none }).copyEnd n else s
      | r => s.setSd n (st.sendNak s.now r))

/-- MIR_ACK_RECEIVED, R176, R181: every entry up to n is acknowledged; receipts are released while the lease is held. -/
def execMirAckReceived (n : Fin 4) (f : GFrame) (s : State) : Host.Outcome State Fault Refusal :=
  .next (s.onFrame n 0x11 f fun p s =>
    let st := s.sd n
    let k := le p 0 8
    if ¬ st.writer ∨ st.jAt k ≠ some (sub p 8 32) then s
    else
      let st := if k = 0 then st.upMir fun m => { m with roll := none } else st
      let more := ((st.jnl.index.filter fun e => decide (e.no > st.jnl.acked) && decide (e.no ≤ k)).map Entry.len).sum
      let st := { st with jnl := { st.jnl with acked := max st.jnl.acked k } }
      let st := st.upMir fun m => { m with sentAt := s.now, resend := none }
      let s := ((s.setSd n st.trimBuf.jnlSync).releaseAll n).tryRollover n
      let s := s.trySwap n
      let st := s.sd n
      match st.mir.copyTo with
      | none => s
      | some _ =>
        let s := s.up n fun st => st.copyProg more false
        if k ≥ st.jnl.s.cur.no then (s.up n fun st => st.upMir fun m => { m with copyTo := none }).copyEnd n else s)

/-- MIR_NAK_RECEIVED, R177: resend, wait 100 µs, or pair again from HELLO. -/
def execMirNakReceived (n : Fin 4) (f : GFrame) (s : State) : Host.Outcome State Fault Refusal :=
  .next (s.onFrame n 0x12 f fun p s =>
    let st := s.sd n
    let want := le p 0 8
    if ¬ st.writer then s
    else match le p 8 1 with
      | 3 => s.up n fun st => st.upMir fun m => { m with nakAt := some s.now }
      | 4 => s.up n fun st => st.hello s.identOf
      | r =>
        if r = 1 ∨ r = 2 then
          let s := s.up n fun st => (st.bumpIf (r == 2) R.MIR_CHAIN_NAK).upMir fun m => { m with roll := if r = 2 then none else m.roll }
          let running := st.mir.resend.any fun x => x.1 == want && decide (s.now < x.2 + 500000)
          if running then s else s.resendAll n
        else s)

/-- MIR_LEASE_RECEIVED, R180, R182: the lease is held until 11 ms from now. A LEASE of another epoch is not the pair's. -/
def execMirLeaseReceived (n : Fin 4) (f : GFrame) (agree : Bool) (s : State) : Host.Outcome State Fault Refusal :=
  .next (s.onFrame n 0x20 f fun p s =>
    let st := s.sd n
    if ¬ st.writer ∨ ¬ st.flag R.MIR_STATUS_PAIRED ∨ le p 8 4 ≠ st.jnl.s.epoch then s
    else (s.up n fun st => st.upMir fun m => { m with leaseAt := some s.now }).leaseUp n agree)

/-- MIR_HEARTBEAT_RECEIVED, R180; during a copy it moves the head that the copy must reach, R186. -/
def execMirHeartbeatReceived (n : Fin 4) (f : GFrame) (s : State) : Host.Outcome State Fault Refusal :=
  .next (s.onFrame n 0x21 f fun p s => s.up n fun st => st.upMir fun m =>
    { m with peerMax := max m.peerMax (le p 0 8), copyTo := m.copyTo.map fun k => if st.writer then k else max k (le p 0 8) })

/-- MIR_ROLE_RECEIVED, R184: kind 1 requests, kind 2 grants (log entry 18). -/
def execMirRoleReceived (n : Fin 4) (f : GFrame) (s : State) : Host.Outcome State Fault Refusal :=
  .next (s.onFrame n 0x31 f fun p s =>
    let st := s.sd n
    let e := st.jnl.s.epoch
    if le p 0 1 = 1 ∧ ¬ st.writer ∧ le p 4 4 = e then
      s.up n fun st =>
        let st := { st with jnl := { st.jnl with takeover := true, acked := st.jnl.s.cur.no, s := { st.jnl.s with epoch := e + 1 } } }
        let st := (st.become s.now true).upMir fun m => { m with leaseAt := some s.now }
        st.mirSend s.now 0x31 (toLE 1 2 ++ zeros 3 ++ toLE 4 (e + 1))
    else match st.mir.swap with
      | some j =>
        if le p 0 1 = 2 ∧ st.writer ∧ st.mir.swapSent ∧ le p 4 4 = e + 1 then
          let s := s.up n fun st =>
            let st := { st with jnl := { st.jnl with s := { st.jnl.s with epoch := e + 1 } } }
            (st.become s.now false).upMir fun m => { m with swap := none, swapSent := false, leaseAt := none, leaseTx := s.now - 10000000 }
          s.succeed n j []
        else s
      | none => s)

/-- MIR_MARKS_RECEIVED, R192: marks are raised, never lowered; a checkpoint; then MARKS_ACK. -/
def execMirMarksReceived (n : Fin 4) (f : GFrame) (s : State) : Host.Outcome State Fault Refusal :=
  .next (s.onFrame n 0x32 f fun p s =>
    let k := le p 0 2
    s.up n fun st =>
      let l := (List.range k).foldl (fun l i => raiseMark l (le p (8 + 16 * i) 2) (le p (16 + 16 * i) 8)) st.jnl.s.marks
      let st := ({ st with jnl := { st.jnl with s := { st.jnl.s with marks := l } } }).checkpoint s.now
      st.mirSend s.now 0x33 (toLE 2 k ++ zeros 6 ++ bvBytes (Config.sha256 p)))

/-- MIR_MARKS_ACK_RECEIVED, R192, R386: the frame with the digest is confirmed, for the restore that waits for it too. -/
def execMirMarksAckReceived (n : Fin 4) (f : GFrame) (s : State) : Host.Outcome State Fault Refusal :=
  .next (s.onFrame n 0x33 f fun p s =>
    match (s.sd n).mir.marks.find? fun m => le m.payload 0 2 == le p 0 2 && bvBytes (Config.sha256 m.payload) == sub p 8 32 with
    | none => s
    | some m =>
      let s := s.up n fun st => st.upMir fun r => { r with marks := r.marks.filter (· != m) }
      let g := s.fn m.fn
      if g.st = .restoring then s.setFn { g with awaitMarks := g.awaitMarks - le m.payload 0 2 } else s)

/-- MIR_ROLLOVER_RECEIVED, R678. -/
def execMirRolloverReceived (n : Fin 4) (f : GFrame) (s : State) : Host.Outcome State Fault Refusal :=
  .next (s.onFrame n 0x34 f fun p s =>
    let st := s.sd n
    let id := sub p 0 16
    let pred : JHead := ⟨sub p 16 16, le p 32 8, sub p 40 32⟩
    let ack := fun (st : Strand) => st.mirSend s.now 0x11 (toLE 8 0 ++ j0 id)
    if st.writer then s
    else if st.jnl.s.isOpen ∧ st.jnl.s.cur.id = id ∧ st.jnl.s.pred = pred then s.setSd n (ack st)
    else if st.jnl.s.cur = pred ∨ (¬ st.jnl.s.isOpen ∧ pred = ⟨zeros 16, 0, zeros 32⟩) then
      s.setSd n (ack ((st.openJournal id pred).jnlSync.checkpoint s.now))
    else s.setSd n (st.sendNak s.now 2))

/-- ENTRY_RESEND_TIMEOUT, R177: 500 µs without an ACK for the first unacknowledged entry. -/
def execEntryResendTimeout (n : Fin 4) (s : State) : Host.Outcome State Fault Refusal :=
  let st := s.sd n
  if ¬ st.writer ∨ st.mir.keyTx.isNone ∨ st.halted ∨ st.jnl.acked ≥ st.jnl.s.cur.no then .next s
  else
    let s := s.upTo (st.mir.sentAt + 500000)
    .next (s.resendAll n)

/-- NAK_FULL_RESEND, R177: 100 µs after a NAK with REASON 3. -/
def execNakFullResend (n : Fin 4) (s : State) : Host.Outcome State Fault Refusal :=
  match (s.sd n).mir.nakAt with
  | some t =>
    if (s.sd n).halted then .next s
    else
      let s := s.upTo (t + 100000)
      .next (s.resendAll n)
  | none => .next s

/-- ROLLOVER_RESEND, R678. -/
def execRolloverResend (n : Fin 4) (s : State) : Host.Outcome State Fault Refusal :=
  match (s.sd n).mir.roll with
  | some (p, t) =>
    if (s.sd n).halted then .next s
    else
    let s := s.upTo (t + 500000)
    .next (s.up n fun st => (st.mirSend s.now 0x34 p).upMir fun m => { m with roll := some (p, s.now) })
  | none => .next s

/-- HEARTBEAT_DUE, R180: 1 ms without a frame from the writer. -/
def execHeartbeatDue (n : Fin 4) (s : State) : Host.Outcome State Fault Refusal :=
  let st := s.sd n
  if ¬ st.writer ∨ st.halted ∨ ¬ (st.mir.step = .paired ∨ st.mir.step = .copying) then .next s
  else
    let s := s.upTo (st.mir.lastTx + 1000000)
    .next (s.up n fun st => st.mirSend s.now 0x21 (toLE 8 st.jnl.s.cur.no))

/-- LEASE_SEND_DUE, R180: every 10 ms, while a writer frame was accepted within the last 10 ms. -/
def execLeaseSendDue (n : Fin 4) (agree : Bool) (s : State) : Host.Outcome State Fault Refusal :=
  let st := s.sd n
  if st.writer ∨ st.halted ∨ st.mir.step ≠ .paired then .next s
  else
    let s := s.upTo (st.mir.leaseTx + 10000000)
    if s.now ≥ st.mir.lastRx + 10000000 then .next s
    else
      let s := s.up n fun st =>
        let k := st.mir.leaseNo + 1
        (st.mirSend s.now 0x20 (toLE 8 k ++ toLE 4 st.jnl.s.epoch)).upMir fun m => { m with leaseTx := s.now, leaseNo := k }
      .next (if st.leaseHeld then s else s.leaseUp n agree)

/-- LEASE_EXPIRED, R180: 11 ms after the latest LEASE. -/
def execLeaseExpired (n : Fin 4) (s : State) : Host.Outcome State Fault Refusal :=
  let st := s.sd n
  match st.mir.leaseAt with
  | none => .next s
  | some t =>
    if ¬ st.writer ∨ ¬ st.leaseHeld ∨ st.halted then .next s
    else
      let s := s.upTo (t + 11000000)
      .next ((s.up n fun st => st.upMir fun m => { m with leaseAt := none }).leaseDown n R.GAR_NMI_CAUSE_LEASE_LOST)

/-- WRITER_LOST, R180: 10 ms without a writer frame. -/
def execWriterLost (n : Fin 4) (s : State) : Host.Outcome State Fault Refusal :=
  let st := s.sd n
  if st.writer ∨ ¬ st.leaseHeld ∨ st.halted then .next s
  else
    let s := s.upTo (st.mir.lastRx + 10000000)
    .next (s.leaseDown n R.GAR_NMI_CAUSE_WRITER_LOST)

/-- SOLO_ENTRY, R182: 20 ms after the lease loss under SOLO_AFTER_LEASE. -/
def execSoloEntry (n : Fin 4) (s : State) : Host.Outcome State Fault Refusal :=
  let st := s.sd n
  match st.mir.lostAt with
  | none => .next s
  | some t =>
    if ¬ st.writer ∨ st.solo ∨ st.halted ∨ st.fork ∨ ¬ st.flag R.MIR_SOLO_POLICY_POLICY then .next s
    else
      let s := s.upTo (t + 20000000)
      .next ((s.becomeSolo n).tryRollover n)

/-- AUTO_TAKEOVER, R183. -/
def execAutoTakeover (n : Fin 4) (s : State) : Host.Outcome State Fault Refusal :=
  let st := s.sd n
  match st.mir.lostAt with
  | none => .next s
  | some t =>
    if st.writer ∨ st.halted ∨ ¬ st.flag R.MIR_SOLO_POLICY_POLICY ∨ ¬ st.flag R.MIR_CTL_AUTO_TAKEOVER then .next s
    else
      let s := s.upTo (t + 20000000)
      .next (s.takeover n)

/-- MARKS_RESEND_TIMEOUT, R192: the oldest MARKS frame without a MARKS_ACK. -/
def execMarksResendTimeout (n : Fin 4) (s : State) : Host.Outcome State Fault Refusal :=
  match (s.sd n).mir.marks with
  | [] => .next s
  | m :: rest =>
    if (s.sd n).halted then .next s
    else
    let s := s.upTo (m.sentAt + 500000)
    let again := { m with sentAt := s.now }
    .next (s.up n fun st => (st.mirSend s.now 0x32 m.payload).upMir fun r => { r with marks := rest ++ [again] })

/-- MIR_RECONCILE, R188, R193: 0x30 where no fork is held; the choice takes effect at the pairing that follows. -/
def execMirReconcile (n : Fin 4) (j : Job) (s : State) : Host.Outcome State Fault Refusal :=
  .next (s.ceremonyJob n j fun s =>
    if ¬ (s.sd n).fork then s.fail n j 0x30
    else
      let s := s.up n fun st => (st.put R.MIR_STATUS_FORK 0).upMir fun m => { m with keep := some (!bit j.w6 0) }
      let s := if (s.sd n).pairable ∧ (s.sd n).flag R.MIR_STATUS_LINKED then s.up n fun st => st.hello s.identOf else s
      s.succeed n j [])

end Sys2Proof.Machine
end

