-- ==== Sys2Proof/Machine/Start.lean ====
section
/-! DEFINITION. Power, start-up and the mode requests: R20, R24, R28, R39, R42 to R71, R170, R197, R210, R215, R226, R237, R357,
R420, R566, R586, R594 to R598, R601, R621, R663. -/

namespace Sys2Proof.Machine
open Sys2Proof

/-! ### Merging retained settings, R54, R55 -/

namespace Strand

/-- The configuration bits of a register whose Reset is Cht, R9. -/
def chtMask (d : RegDef) : Nat :=
  ((d.fields.filter fun f => f.src == .cht && f.acc == .rw && f.cls != .none).map fun f => (2 ^ f.width - 1) * 2 ^ f.lo).sum

/-- A FIELDS entry on a register: the bits set in `mask` take those of the value, R55. -/
def setBits (st : Strand) (off val mask : Nat) : Strand :=
  let m := BitVec.ofNat 32 mask
  st.wr off ((BitVec.ofNat 32 val &&& m) ||| (st.rd off &&& ~~~m))

/-- The entries of an image. -/
def applyEntries (st : Strand) (l : List FieldEntry) : Strand := l.foldl (fun st e => st.setBits e.off e.val e.mask) st

/-- The entries of an image on Cht fields alone. -/
def applyCht (st : Strand) (l : List FieldEntry) : Strand :=
  l.foldl (fun st e =>
    match RegMap.strandReg e.off with
    | some d => st.setBits e.off e.val (e.mask &&& chtMask d)
    | none => st) st

/-- Every register listed reads by its "reads as" rules. -/
def normalise (st : Strand) : Strand :=
  (st.regs.map (·.1)).foldl (fun st o => st.wr o (BitVec.ofNat 32 (strandNormal o (st.rd o).toNat))) st

/-- The configuration bits of a register, whatever their Reset, R54. -/
def configMask (d : RegDef) : Nat :=
  ((d.fields.filter fun f => f.acc == .rw && f.cls != .none).map fun f => (2 ^ f.width - 1) * 2 ^ f.lo).sum

/-- Every configuration bit at its literal: that of the Reset column, or of the Meaning column for a Cht or Ret field, R9, R54. -/
def literals (st : Strand) : Strand :=
  (st.regs.map (·.1)).foldl (fun st o =>
    match RegMap.strandReg o with
    | some d => st.setBits o (strandReset o).toNat (configMask d)
    | none => st) st

/-- R54: literals first, then what is retained, then the charter, which names a Ret field only when it is new. `retain` has taken out of
the retained settings the bits that a new charter names. -/
def merge (st : Strand) (isNew : Bool) (image : Bytes) : Strand :=
  let now := Charter.entries image st.id
  let st := (st.literals.applyEntries now).applyEntries st.nv.runtime
  (if isNew then st else st.applyCht now).normalise

/-- The retained state rewritten at the end of step 5, R52, R54, R55: the accepted charter and the settings; of those, and of what the
charter replaced named, every bit that a new charter names is dropped. The ring's settings go the same way, R357. -/
def retain (st : Strand) (isNew : Bool) (image : Bytes) : Strand :=
  if !isNew then st
  else
    let old := (st.nv.retCharter.map fun b => Charter.entries b st.id).getD []
    let ring := fun (b : Bytes) => ((Charter.sectionOf b st.id 8).map Charter.ringFields).getD []
    let oldR := (st.nv.retCharter.map ring).getD []
    { st with nv := { st.nv with
        retCharter := some image, retDigest := Charter.digest image
        runtime := unnamed (old ++ st.nv.runtime) (Charter.entries image st.id)
        ringRuntime := unnamed (oldR ++ st.nv.ringRuntime) (ring image) } }

/-- What the charter's sections other than FIELDS give the strand, R43. -/
def applySections (st : Strand) (image : Bytes) : Strand :=
  let sec := fun (ty : Nat) => Charter.sectionOf image st.id ty
  let cad := (sec 2).map Charter.cadence
  let fab := sec 4
  let st := { st with
    accepted := some image
    post := { st.post with cad := cad.getD [], cadAbsent := cad.isNone }
    stations := ((sec 3).map Charter.stations).getD {}
    quorum := ((sec 7).map Charter.quorum).getD {}
    fab := { st.fab with fmts := (fab.map Charter.formats).getD [], decls := (fab.map Charter.decls).getD [] } }
  let st := st.put R.PST_CAD_SEL_COUNT (cad.getD []).length
  let st := (st.put64 R.CHT_SERIAL_LO (Charter.serial image)).putBytes R.CHT_DIGEST (bvBytes (Charter.digest image)) 0 12
  st.put R.CHT_STATUS_OWNER_SLOT (if Charter.keySlot image = 0xFF then 15 else Charter.keySlot image)

/-! ### Steps of a start -/

/-- The canary holds a value once the device is owned, R666. -/
def canaryBad (st : Strand) (life : Nat) : Bool := decide (life ≥ 3) && !st.nv.canaryOk

/-- The Vigil record goes to the event log with DETECTORS bit 3, R597. -/
def copyVigil (st : Strand) : Strand :=
  let rec' : VigilEntry → Firing := fun e =>
    { src := e.src, det := e.det + 8, island := 0xFF, reading := 0, rank := e.rank, note := false, modeByte := 0, time := e.time }
  let q := st.nv.vigil.map fun e => ({ f := rec' e, applied := e.rank, first := true } : LogRec)
  let st := st.put R.JSP_STATUS_VIGIL_EVENTS (min 255 (st.nv.vigil.length + st.nv.vigilOver))
  let st := if st.nv.vigilOver = 0 then st else st.noteErr R.JSP_ERR_VALID R.JSP_ERR_CODE R.JSP_ERR_OVERFLOW 3 fun st => st
  { st.upJsp fun j => { j with logQ := j.logQ ++ q } with nv := { st.nv with vigil := [], vigilOver := 0 } }

/-- A valid re-provision mark, R58: no Vigil entry later than it, and the canary unchanged since. -/
def markValid (st : Strand) : Bool :=
  match st.nv.reprov with
  | some t => st.nv.canaryOk && !st.nv.canaryVoid && st.nv.vigil.all fun e => decide (e.time ≤ t)
  | none => false

/-- Lanes and their spares after the self-test, R26, R29, R51, R309, R277, R422: four cores and engines and two Topaz lanes of those that
passed, and a spare where one is left. -/
def assignLanes (st : Strand) : Strand :=
  let good := fun (lo k : Nat) => (List.range k).filter fun i => !st.fenced.contains (lo + i)
  let g := good 0 5
  let b := good 7 5
  let t := good 12 3
  let map := ((List.range 4).map fun c => (g.getD c 7) * 2 ^ (4 * c)).sum
  let st := (st.put R.GAR_MAP_MAP map).put R.GAR_STATUS_SPARE (g.getD 4 7)
  let st := st.put R.BER_STATUS_SPARE (b.getD 4 7)
  let st := (st.put R.TOP_STATUS_LANE_A (t.getD 0 3)).put R.TOP_STATUS_LANE_B (t.getD 1 3)
  let st := st.put R.TOP_STATUS_ACTIVE (min 2 t.length)
  let st := st.put R.ISL_FENCED ((st.fenced.map fun i => 2 ^ i).sum)
  let st := st.fenced.foldl (fun st i => st.put R.ISL_AGE_FENCED 1 i) st
  let st := (List.range 21).foldl (fun st i => (st.put R.ISL_CLK_SET_MHZ (setMhz i) i).put R.ISL_CLK_MHZ (st.isleMhz i) i) st
  let any := fun (f : Fld) => b2n ((List.range 21).any fun i => st.get f i != 0)
  let st := (st.put R.ISL_STATUS_STEPPED (any R.ISL_AGE_STEP)).put R.ISL_STATUS_WORN (any R.ISL_AGE_WORN)
  (st.berSync).hltSync

/-- The Quartz counts start from zero, R318, and each enabled source that fails the start-up health test counts, R317. -/
def quartzStart (st : Strand) (bad : List (Nat × Bool)) : Strand :=
  let zero : Strand → Nat → Strand := fun st k => (st.put R.QTZ_FAIL_SRC_RCT 0 k).put R.QTZ_FAIL_SRC_APT 0 k
  let st := (((List.range 4).foldl zero st).put R.QTZ_FAIL_COUNT 0).gateSync
  (bad.filter fun x => st.sourceRuns x.1).foldl (fun st x =>
    ((st.healthFail (if x.2 then R.QTZ_FAIL_SRC_APT else R.QTZ_FAIL_SRC_RCT) x.1).put R.QTZ_STATUS_START_FAIL 1)) st

/-- A head read from the card continues the chain, R170: it is marked head-only, and its HIGH_SEQ raises its submitter's mark. -/
def rebuild (st : Strand) : List Bytes → Strand
  | [] => st
  | h :: r =>
    let e : Entry := { head := fit 512 h, body := none }
    if e.prev ≠ st.jnl.s.cur.j ∨ e.no ≠ st.jnl.s.cur.no + 1 then st
    else
      let j := st.jnl
      let s := { j.s with cur := { j.s.cur with no := e.no, j := e.j }, seq := e.lastSeq, time := e.time % 2 ^ 63
                          marks := raiseMark j.s.marks e.submitter e.highSeq }
      ({ st with jnl := { j with s := s, index := indexEntry j.index e, headOnly := j.headOnly ++ [e.no] } }).rebuild r

/-- Step 5 loads the checkpoint and rebuilds beyond it from the card, R170; the role is the one last held, R157. What the keeper had
acknowledged is retained in MIR_ACKED. The rebuild is a stream judged at its end, R512: on a card not trusted since one failed, none runs. -/
def loadJournal (st : Strand) (heads : List Bytes) (anchor : Option (Nat × Bytes)) (macOk : Bool) : Strand :=
  let s := st.nv.jnl
  let st := { st with jnl := { st.jnl with s := s, index := st.jnl.index.filter fun e => decide (e.no ≤ s.cur.no) } }
  let st := if st.nv.distrust then st else st.rebuild heads
  let st := match anchor with
    | none => st
    | some (no, j) =>
      let ok := macOk && decide (no ≤ st.jnl.s.cur.no) && st.jAt no == some j
      let st := if macOk then st else State.cardRefused st 5 no
      let st := if ok then st else st.distrust 0
      { st.put R.JNL_STATUS_ANCHOR_BAD (b2n !ok) with jnl := { st.jnl with anchorNo := no, headNo := st.jnl.s.cur.no } }
  let role := (s.role).getD (st.flag R.MIR_ROLE_HOME_ROLE)
  let acked := min (st.get64 R.MIR_ACKED_LO) st.jnl.s.cur.no
  ({ st with jnl := { st.jnl with acked := acked } }.put R.MIR_ROLE_ROLE (b2n role)).jnlSync

/-- A persistent context as step 7 restores it, R226, R237: a programmed COMMIT marker selects the successor. None where the key
that the record wraps cannot be unwrapped under root 0. -/
def restored (st : Strand) (p : Persist) : Option Ctx :=
  let open' := fun (k : Bytes) => (Config.kwpOpen (bvBytes (st.root 0)) k).filter fun k => k.length == keyBytes p.ctx.attr.alg p.ctx.attr.keylen
  match p.pending, p.marker with
  | some x, true => (open' x.key).map fun k =>
    { p.ctx with key := k, curGen := nextGen p.ctx.curGen, succ := none, large := if x.large.isEmpty then p.ctx.large else x.large
                 attr := { p.ctx.attr with usesLeft := x.usesLeft, expiry := x.expiry, counter := x.counter } }
  | _, _ => (open' p.key).map fun k => { p.ctx with key := k, succ := none }

/-- Step 7: the mirror is loaded and re-masking starts, every slot that is not persistent starts one above its reservation, and the
persistent contexts return to their slots; a record that fails its check leaves its slot free, R210, R215, R226, R237, R250. -/
def openVault (st : Strand) (t : Nat) : Strand :=
  let mirror := st.nv.roots.filter fun r => decide (r.num ≤ 5)
  let st := { st with vault := { mirror := mirror } }
  let ctxs := st.nv.vault.persist.filterMap st.restored
  let bad := st.nv.vault.persist.filter fun p => (st.restored p).isNone
  let gens := st.nv.vault.reserve.filter fun x => !(ctxs.any fun c => c.idx == x.1)
  let v : Vault := { ctxs := ctxs, mirror := mirror
                     gens := gens ++ ctxs.map (fun c => (c.idx, c.curGen)), remaskAt := t }
  let keep := ctxs.map st.record
  let st := { st with vault := v, nv := { st.nv with vault := { st.nv.vault with persist := keep } } }
  let st := bad.foldl (fun st p => st.onxErr 4 p.ctx.idx 0) st
  (st.put R.ONX_STATUS_MIRROR_OPEN 1).onxSync

/-- Warden erases the persistent store of a strand that re-provisions, before anything is restored from it, R242. -/
def dropStore (st : Strand) : Strand :=
  if st.nv.reprov.isNone then st else { st with nv := { st.nv with vault := { st.nv.vault with persist := [] } } }

/-- What a re-provision or a lost start leaves at step 7: the mark's roots drawn, and the latch, the mark and the QUARANTINE record
cleared together, R58, R594. -/
def reprovisioned (st : Strand) : Strand :=
  if st.nv.reprov.isNone then st
  else
    let st := st.drawRoots
    { st.put R.JSP_STATUS_LATCH 0 with nv := { st.nv with reprov := none, latch := false, quarantine := false } }

/-- The keys of the paired card, R508. -/
def startCard (st : Strand) (t : Nat) (env : JobEnv) : Strand :=
  match st.nv.pair with
  | some (id, no) =>
    match st.deriveCardKeys t env id no with
    | (st, .inl _) => st
    | (st, .inr k) => let st := st.takeCardKeys k; if st.nv.distrust then st.distrust t else st
  | none => st

/-- The start has reached a step. -/
def atStep (st : Strand) (k : Nat) : Strand := st.put R.CHT_START_STATUS_STEP k

end Strand

namespace State

/-- A start ends in a failure: HALTED with its step and code, R51, R76. -/
def startFails (s : State) (n : Fin 4) (step code : Nat) : State :=
  s.up n fun st => ((st.atStep step).put R.CHT_START_STATUS_ELAPSED (st.elapsed s.now)).failStart step code

/-- A start ends in QUARANTINE at step 1, R56, R57, R597: the latch is kept as evidence, the tag shows it, and orders are judged by the
retained charter's QUORUM section; a void mark is void for good, R58. -/
def startQuarantine (s : State) (n : Fin 4) : State :=
  let s := s.up n fun st =>
    let st := { (st.setMode 6 3).put R.JSP_STATUS_LATCH 1 with nv := { st.nv with quarantine := true, latch := true, reprov := none } }
    let q := (st.nv.retCharter.bind fun b => Charter.sectionOf b n 7).map Charter.quorum
    { st.put R.CHT_START_STATUS_ELAPSED (st.elapsed s.now) with quorum := q.getD {} }
  s.tamperBlock n true false []

/-- The ring's settings from a governing strand, R54, R357: what its charter names, then what it retained, then, of a charter that is not new,
its Cht fields again. -/
def ringSettings (s : State) (n : Fin 4) (isNew : Bool) (image : Bytes) : State :=
  let st := s.sd n
  let sec := Charter.sectionOf image n 8
  let now := (sec.map Charter.ringFields).getD []
  let setBits := fun (s : State) (off val mask : Nat) =>
    let m := BitVec.ofNat 32 mask
    s.rwr off ((BitVec.ofNat 32 val &&& m) ||| (s.rrd off &&& ~~~m))
  let all := fun (s : State) (l : List FieldEntry) => l.foldl (fun s e => setBits s e.off e.val e.mask) s
  let cht := fun (s : State) (l : List FieldEntry) => l.foldl (fun s e =>
    match RegMap.ringReg e.off with
    | some d => setBits s e.off e.val (e.mask &&& Strand.chtMask d)
    | none => s) s
  let s := [0x0, 0x200000, 0x101014].foldl (fun s o => match RegMap.ringReg o with
    | some d => setBits s o (ringReset o).toNat (Strand.configMask d)
    | none => s) s
  let s := all (all s now) st.nv.ringRuntime
  let s := if isNew then s else cht s now
  let s := [0x0, 0x200000, 0x101014].foldl (fun s o => s.rwr o (BitVec.ofNat 32 (ringNormal o (s.rrd o).toNat))) s
  let s := (s.rput R.RNG_STATUS_RING_SRC n.val).rput R.RNG_STATUS_RING_SET 1
  let s := (s.upTag fun t => { t with fdet := s.rflag R.TAG_CTL_FDET_EN }).fieldDet
  s.upR fun r => { r with govSection := sec.map Charter.ringFields }

/-- The end of step 5 for the ring, R357: the first strand since main power returned governs; a later one is compared with it. -/
def ringStep (s : State) (n : Fin 4) (isNew : Bool) (image : Bytes) : State :=
  if s.ring.rsFailed then s
  else if !s.rflag R.RNG_STATUS_RING_SET then s.ringSettings n isNew image
  else if (Charter.sectionOf image n 8).map Charter.ringFields = s.ring.govSection then s
  else s.rput R.RNG_STATUS_RING_DIFF 1

/-- Step 8, R51, R178, R182: pairing waits PAIR_WAIT seconds; with MIR_CTL.ENABLE at 0 it ends at once. -/
def stepEight (s : State) (n : Fin 4) (agree : Bool) : State :=
  let s := s.up n fun st => { st.atStep 8 with pairDue := some (s.now + 1000000000 * st.get R.CHT_START_CFG_PAIR_WAIT) }
  if (s.sd n).flag R.MIR_CTL_ENABLE then s else s.admitWork n agree

/-- Step 7, R51, R58, R210, R226, R508. -/
def stepSeven (s : State) (n : Fin 4) (env : StartEnv) : State :=
  if !env.vaultOk then s.startFails n 7 7
  else (s.up n fun st => ((((st.atStep 7).dropStore).openVault s.now).reprovisioned).startCard s.now env.keys).stepEight n env.agree

/-- Step 6, R51, R53, R420, R431, R566, R568: the active boot block, or the other one when it is wrong; Warden is copied to bank W0, the
cores start, and every ERASE_INCOMPLETE block is erased again. -/
def stepSix (s : State) (n : Fin 4) (env : StartEnv) : State :=
  let st := s.sd n
  let least := (st.accepted.map Charter.wardenMin).getD 0
  let img := fun (k : Nat) => if k = 0 then env.bootA else env.bootB
  let whole := fun (k : Nat) => !(st.nv.flash.incomplete.any fun i => decide (4 * k ≤ i) && decide (i < 4 * k + 4))
  let ok := fun (k : Nat) => (img k).matches_ && decide ((img k).version ≥ least) && whole k
  let a := st.nv.bootActive
  let go := fun (s : State) (k : Nat) =>
    let b := img k
    let s := s.up n fun st =>
      let nv := { st.nv with bootActive := k }
      let m := Mem.writeBytes st.sram 0 (b.image.take 0x80000)
      let st : Strand := { st.atStep 6 with nv := nv, bootVdt := b.vdt, measure := bvBytes (Config.sha384 b.image), sram := m }
      let act : Nat := ((List.range 4).map fun (c : Nat) => if st.phys c < 5 then 2 ^ c else 0).sum
      (st.put R.GAR_STATUS_ACTIVE act).flashMend s.now
    let s := s.startCores n b.vdt
    if (s.sd n).halted then s else s.stepSeven n env
  if ok a then go s a
  else if ok (1 - a) then
    go (s.up n fun st => (st.put R.CHT_START_STATUS_FAIL_STEP 6).put R.CHT_START_STATUS_FAIL_CODE 6) (1 - a)
  else s.startFails n 6 6

/-- Step 5, R51, R52, R54, R170, R357; a slot of the retained state that holds an ERASE_INCOMPLETE block is ignored, R566. -/
def stepFive (s : State) (n : Fin 4) (env : StartEnv) (isNew : Bool) (image : Bytes) : State :=
  let torn := fun (lo : Nat) => (s.sd n).nv.flash.incomplete.any fun i => decide (lo ≤ i) && decide (i < lo + 528)
  if !env.retainedOk ∨ (torn 8 ∧ torn 536) then s.startFails n 5 5
  else
    let s := s.up n fun st =>
      let st := ((((st.atStep 5).retain isNew image).merge isNew image).applySections image).gateSync
      (st.loadJournal env.heads env.anchor env.anchorOk).oplSync
    (s.ringStep n isNew image).stepSix n env

/-- Step 4, R46 to R48: the slot chosen, compared with the retained charter, or the fallback. -/
def stepFour (s : State) (n : Fin 4) (env : StartEnv) : State :=
  let st := s.sd n
  let m := st.nv.charterMem
  let quad := b2n (m.present && !m.octal)
  let back := fun (s : State) (why : Nat) =>
    match (s.sd n).nv.retCharter with
    | none => (s.up n fun st => st.put R.CHT_STATUS_FALLBACK_WHY why).startFails n 4 4
    | some b =>
      let s := s.up n fun st => ((st.put R.CHT_STATUS_FALLBACK 1).put R.CHT_STATUS_FALLBACK_WHY why)
      (s.up n fun st => (st.put R.CHT_START_STATUS_FAIL_STEP 4).put R.CHT_START_STATUS_FAIL_CODE 4).stepFive n env false b
  let s := s.up n fun st => (st.atStep 4).put R.CHT_STATUS_PORT_QUAD quad
  match Charter.choose s.ring.ident s.life n m with
  | .inr why => back s why
  | .inl (b, kept) =>
    let s := if kept = 0 then s else s.up n fun st => st.put R.CHT_STATUS_FALLBACK_WHY kept
    let img := Charter.signed b
    match st.nv.retCharter with
    | none => (s.up n fun st => st.put R.CHT_STATUS_NEW_CHARTER 1).stepFive n env true img
    | some r =>
      if Charter.serial img > Charter.serial r then (s.up n fun st => st.put R.CHT_STATUS_NEW_CHARTER 1).stepFive n env true img
      else if Charter.serial img < Charter.serial r then back s 4
      else if Charter.digest img = st.nv.retDigest then (s.up n fun st => st.put R.CHT_STATUS_UNCHANGED 1).stepFive n env false r
      else back s 5

/-- Step 3, R51, R56, R61, R150, R566: the self-test, which zeroes the quarantine area; a lane that fails is fenced and its spare taken; BLANK stops here, and a RETURN record or
RETURNED leads to RETURN. -/
def stepThree (s : State) (n : Fin 4) (env : StartEnv) : State :=
  let fatal := env.failed.any fun i => decide (i ≤ 20) && Strand.kindOf i == 0
  let s := s.up n fun st =>
    let st := { st.atStep 3 with fenced := st.fenced ++ env.failed.filter fun i => decide (i ≤ 20) && !st.fenced.contains i }
    let st := if env.detectorsOk then st else st.noteErr R.JSP_ERR_VALID R.JSP_ERR_CODE R.JSP_ERR_OVERFLOW 1 fun st => st
    let st := { st with quar := [] }
    ((st.assignLanes).flashScan env.anchorsOk).quartzStart env.quartz
  if fatal then s.startFails n 3 2
  else if s.life = 0 then s.up n fun st => st.put R.CHT_START_STATUS_ELAPSED (st.elapsed s.now)
  else if (s.sd n).nv.returnRec ∨ s.life = 4 then
    s.up n fun st => (st.setMode 7 6).put R.CHT_START_STATUS_ELAPSED (st.elapsed s.now)
  else s.stepFour n env

/-- Step 2, R51, R61, R67: the fuses; the sources fused off, R583. -/
def stepTwo (s : State) (n : Fin 4) (env : StartEnv) : State :=
  let s := s.up n fun st => (st.atStep 2).put R.JSP_FUSE_OFF_FUSED s.ring.ident.sourceOff
  if !env.fusesOk then s.startFails n 2 3
  else if s.life = 5 then s.startFails n 2 9
  else s.stepThree n env

/-- Step 1, R51, R58, R540, R597, R598: the Vigil record is copied, its erase-rank events reach the TAMPER block (a changed canary is one of CELL), and the latch and the canary are
judged. -/
def stepOne (s : State) (n : Fin 4) (env : StartEnv) : State :=
  let st := s.sd n
  let mark := st.markValid
  let bad := st.canaryBad s.life
  let tamper := st.nv.latch || st.nv.quarantine || bad
  let s := s.up n fun st => (st.atStep 1).copyVigil
  let evs := (st.nv.vigil.filter fun e => decide (e.rank ≥ 4)).map fun e => (e.src, e.time)
  let evs := if bad && !(evs.any fun e => e.1 == 10) then evs ++ [(10, st.deviceTime s.now)] else evs
  let s := if st.nv.latch ∨ bad then s.tamperBlock n true false evs else s
  let s := if bad then s.up n fun st => { st with nv := { st.nv with roots := [] } } else s
  if tamper && !mark && !st.nv.returnRec then s.startQuarantine n else s.stepTwo n env

end State

/-! ### The commands -/

/-- RING_PART_FAILURE, R24. -/
def execRingPartFailure (p : RingPart) (s : State) : Host.Outcome State Fault Refusal :=
  .next (match p with
    | .hostPort => s.upR fun r => { r with hpFailed := true }
    | .tagFrontEnd =>
      let drop : Tag → Tag := fun t => { t with owned := false, prog := none, fieldDet := false }
      ((s.upR fun r => { r with tfFailed := true, tag := drop r.tag }).rput R.TAG_STATUS_OWNED 0).rput R.TAG_STATUS_WIP 0
    | .supervision => s.upR fun r => { r with rsFailed := true, tag := { r.tag with held0 := some s.tagBlock0 } })

/-- RS_REFCLK_FAILOVER, R28, R66: a reference leaves its range; island RS moves to the lowest-numbered one in range. One that has left its
range is not taken again before main power returns, when the monitor measures all four afresh (log entry 123). -/
def execRsRefclkFailover (bad : Fin 4) (s : State) : Host.Outcome State Fault Refusal :=
  let s := s.upR fun r => { r with refBad := if r.refBad.contains bad.val then r.refBad else r.refBad ++ [bad.val] }
  if s.rget R.RNG_STATUS_RS_REF ≠ bad.val ∨ ¬ s.ring.power then .next s
  else match (List.range 4).find? fun k => !s.ring.refBad.contains k with
    | some k => .next (s.rput R.RNG_STATUS_RS_REF k)
    | none => .next s

/-- A strand enters VIGIL, R56, R211, R595, R601, R608: its volatile state is lost; the SENTINEL section in force governs. -/
def Strand.darken (st : Strand) (t : Nat) : Strand :=
  let prev := st.mode
  let cfg := (List.range 14).map fun i => (i + 1, st.get R.JSP_SRC_CFG_VIGIL_RANK (i + 1))
  let tamp := st.get R.JSP_CTL_TAMP_EN
  let st := (st.flashStop).fresh
  let st := ((st.put R.CHT_MODE_PREV_MODE prev).put R.CHT_MODE_MODE 0).put R.CHT_MODE_CAUSE 1
  { st.put R.JSP_STATUS_TEST 0 with jsp := {}, nv := { st.nv with vigilCfg := cfg, vigilTamp := tamp, downAt := t }, quar := [] }

/-- The image progress of the functions over a loss of main power, R17: abandoned, with PERCENT and POSITION as they were (log entry 122). -/
def keepProg (l : RegFile) : RegFile :=
  (List.range 249).foldl (fun r f => RegFile.write ringReset r (0x101020 + 64 * f) (progKeep (RegFile.read ringReset l (0x101020 + 64 * f)))) []

/-- MAIN_POWER_LOSS, R37, R56, R601, R655, with VBAT in millivolts: every strand enters VIGIL and the ring loses its volatile state. A
cell-change window closes, and a CELL event stands where VBAT is absent. -/
def execMainPowerLoss (vbat : Nat) (s : State) : Host.Outcome State Fault Refusal :=
  if !s.ring.power then .next s
  else
    let open' := ([0, 1, 2, 3] : List (Fin 4)).filter fun n => (s.sd n).jsp.window.isSome
    let s := [0, 1, 2, 3].foldl (fun s (n : Fin 4) => s.loseWork n) s
    let s := s.upAll fun st => st.darken s.now
    let s := s.upR fun r =>
      let tag := { r.tag with prog := none, owned := false }
      { r with power := false, regs := keepProg r.regs, staged := [], debugOpen := false, challenge := none, scrapChallenge := none
               govSection := none, sriov := false, numVfs := 0, sqs := [], cqs := [], fns := [{ num := 0, st := .active }]
               scheds := Vector.replicate 4 {}, tag := tag, thermLow := false }
    let s := (s.upR fun r => { r with cell := vbat }).fieldDet
    .next (if vbat = 0 then open'.foldl (fun s n => s.vigilEvent n 10 3) s else s)

/-- MAIN_POWER_RETURN, R56, R65, R70, R598, R663: every strand leaves VIGIL for CHARTER; `lost` names the strands whose root SRAM failed to
retain. The ring starts afresh, with a new challenge and every failed part serving again (log entry 126). Where the crystal stood still, device time may be in error by up to 10 % of the
interval: the error is open (log entry 2). -/
def execMainPowerReturn (lost : List Nat) (s : State) : Host.Outcome State Fault Refusal :=
  if s.ring.power then .next s
  else
    let x := s.ring.xtalStopped
    let s := s.upAll fun st =>
      let st := if lost.contains st.id.val then
          { st with nv := { st.nv with canaryOk := false, canaryVoid := st.nv.reprov.isSome, roots := [] } } else st
      let st := if x then
          let (e, st) := st.draw
          let us := (s.now - st.nv.downAt) / 1000
          st.rebase s.now (st.deviceTime s.now + e % (us / 5 + 1) - us / 10) st.nv.slew
        else st
      let st := { st with jsp := { st.jsp with sample := none } }
      let st := ((st.put R.CHT_MODE_PREV_MODE 0).put R.CHT_MODE_MODE 1).put R.CHT_MODE_CAUSE 2
      st.tagModeUpdate 1
    let (c, st) := (s.sd 0).drawBytes 32
    let s := s.setSd 0 st
    let s := s.upR fun r => { r with
      power := true, hpFailed := false, tfFailed := false, rsFailed := false, challenge := some c, wrongDebug := 0, wrongScrap := 0
      retainPend := [], refBad := [], tag := { r.tag with held0 := none } }
    let s := s.rput R.TAG_STATUS_SECRET_SET (b2n s.ring.tag.secret.isSome)
    let s := s.rput R.TAG_STATUS_KILLED (b2n s.tagKilled)
    let s := s.rput R.TAG_STATUS_FIELD (b2n (s.ring.tag.st != .off && !s.tagKilled))
    .next (s.rput R.RNG_STATUS_RS_REF 0).fieldDet

/-- STRAND_START, R51 to R62: steps 1 to 7 in order, and pairing begins. -/
def execStrandStart (n : Fin 4) (env : StartEnv) (s : State) : Host.Outcome State Fault Refusal :=
  let st := s.sd n
  if !s.ring.power || st.mode != 1 || st.halted || st.get R.CHT_START_STATUS_STEP != 0 then .next s
  else .next (({ (s.up n fun st => { st with startedAt := s.now }) with now := s.now + env.took }).stepOne n env)

/-- PAIR_WAIT_EXPIRED, R51, R75: the start goes on to step 9. -/
def execPairWaitExpired (n : Fin 4) (agree : Bool) (s : State) : Host.Outcome State Fault Refusal :=
  match (s.sd n).pairDue with
  | none => .next s
  | some t =>
    .next (if (s.sd n).halted then s
      else ((s.upTo t).up n fun st => st.put R.CHT_STATUS_PAIR_EXPIRED 1).admitWork n agree)

/-- A second mismatch on an entry to SERVICE or DEGRADED, R60, R680. -/
def State.refusedTwice (s : State) (n : Fin 4) (step : Nat) : State :=
  (s.up n fun st => ((st.mismatch s.now).put R.CHT_START_STATUS_FAIL_STEP step).put R.CHT_START_STATUS_FAIL_CODE 8).haltStrand n

/-- DOUBLED_DECISION_RETRY, R60: 1 ms after a mismatch Warden asks once more, while the strand is still where it was. -/
def execDoubledDecisionRetry (n : Fin 4) (agree : Bool) (s : State) : Host.Outcome State Fault Refusal :=
  match (s.sd n).retry with
  | none => .next s
  | some (d, t) =>
    let s := (s.upTo t).up n fun st => { st with retry := none }
    let m := (s.sd n).mode
    let serve := if agree then s.up n fun st => (st.modeCheckpoint s.now).enterServing s.now false else s.refusedTwice n 0
    let once := fun (f : State → State) => if agree then f s else s.up n fun st => st.mismatch s.now
    if (s.sd n).halted then .next s
    else match d with
      | .admission => .next (if m = 1 then (if agree then s.admitted n else s.refusedTwice n 9) else s)
      | .thaw => .next (if m = 4 then serve else s)
      | .service => .next (if m = 3 ∧ (s.sd n).servingMode = 2 then serve else s)
      | .ceremonyClose => .next (if m = 5 then (if agree then s.closeCeremony n true else s.refusedTwice n 0) else s)
      | .returnOrder => .next (if m = 5 ∨ m = 6 then once fun s => s.enterReturn n true else s)
      | .reprovision => .next (once fun s => s.reprovision n true)
      | .ownership => .next (match (s.sd n).newOwner with
        | some d => if m = 5 then once fun s => s.closeOwnership n d true else s
        | none => s)
      | .scrap => .next (if s.ring.rsFailed then s else once fun s => s.advanceLife 5)
      | .returned => .next (if s.ring.rsFailed then s else once fun s => s.returnLife n true)

/-- Who may write CHT_MODE_REQ: the manager and Warden at P0 of the strand, R74. -/
def modeRequester (n : Fin 4) : Requester → Bool
  | .manager => true
  | .vf _ => false
  | .core m _ p => m == n && p == 0

/-- MODE_REQ_RESTART, R56, R74, R411: refused in VIGIL and RETURN, and for 1 s after a checkstop that halted the strand. -/
def execModeReqRestart (n : Fin 4) (who : Requester) (s : State) : Host.Outcome State Fault Refusal :=
  let st := s.sd n
  let early := match st.chkAt with | some t => st.halted && decide (s.now < t + 1000000000) | none => false
  if !modeRequester n who || st.mode == 0 || st.mode == 7 || early then .next s
  else .next ((s.up n fun st => st.modeCheckpoint s.now).restartStrand n 9)

/-- MODE_REQ_THAW, R56, R62: intake reopens, by a doubled decision. -/
def execModeReqThaw (n : Fin 4) (who : Requester) (agree : Bool) (s : State) : Host.Outcome State Fault Refusal :=
  let st := s.sd n
  if !modeRequester n who || st.mode != 4 || st.halted || st.retry.isSome then .next s
  else if agree then .next (s.up n fun st => (st.modeCheckpoint s.now).enterServing s.now false)
  else .next (s.up n fun st => st.awaitRetry s.now .thaw)

/-- MODE_REQ_FREEZE, R56, R62: FROZEN at once; batches past intake run on. -/
def execModeReqFreeze (n : Fin 4) (who : Requester) (s : State) : Host.Outcome State Fault Refusal :=
  let st := s.sd n
  if !modeRequester n who || !(st.mode == 2 || st.mode == 3) || st.halted then .next s
  else .next (s.up n fun st => ({ (st.modeCheckpoint s.now).setMode 4 8 with freezeOpen := true, retry := none }).holdRelays)

/-- STRAND_FREEZE_COMPLETE, R62: every batch past intake has reached its completion. -/
def execStrandFreezeComplete (n : Fin 4) (s : State) : Host.Outcome State Fault Refusal :=
  let st := s.sd n
  if st.mode = 4 ∧ st.freezeOpen ∧ ¬ st.batchOpen then .next (s.setSd n { st with freezeOpen := false }) else .next s

/-- CEREMONY_IDLE_EXPIRED, R56, R78: the ceremony closes with the owner key unchanged. -/
def execCeremonyIdleExpired (n : Fin 4) (agree : Bool) (s : State) : Host.Outcome State Fault Refusal :=
  let st := s.sd n
  if st.mode ≠ 5 ∨ st.halted ∨ st.retry.isSome then .next s
  else .next ((s.upTo (st.ceremonyBeat + 60000000000 * st.get R.CHT_START_CFG_CEREMONY_IDLE)).closeCeremony n agree)

/-- The challenge that the test access port presents, R70; one not yet drawn in this power cycle is drawn now. -/
def State.debugChallenge (s : State) : Bytes × State :=
  match s.ring.challenge with
  | some c => (c, s)
  | none =>
    let (c, st) := (s.sd 0).drawBytes 32
    (c, (s.setSd 0 st).upR fun r => { r with challenge := some c })

/-- A signature under the maker return key, R69 to R71: the fuses hold the key's SHA-384 digest, so the answer brings the key (log entry 124). -/
def State.makerSigned (s : State) (key text sig : Bytes) : Bool :=
  Config.sha384 key == s.ring.ident.returnDigest && Config.verify 0x21 (key.drop 1) (signedText 0x21 text) sig

/-- MAKER_DEBUG_CHALLENGE, R70: in RETURNED, three wrong answers close the port until the next power cycle; a right one opens internal
debug, and the scrap challenge of R71 is drawn. -/
def execMakerDebugChallenge (sig : Bytes) (s : State) (key : Bytes := []) : Host.Outcome State Fault Refusal :=
  if !s.ring.power || s.life != 4 || decide (s.ring.wrongDebug ≥ 3) || s.ring.debugOpen then .next s
  else
    let (c, s) := s.debugChallenge
    if s.makerSigned key (c ++ fit 16 s.ring.ident.deviceId) sig then
      let (x, st) := (s.sd 0).drawBytes 32
      .next ((s.setSd 0 st).upR fun r => { r with debugOpen := true, scrapChallenge := some x })
    else .next (s.upR fun r => { r with wrongDebug := r.wrongDebug + 1 })

/-- MAKER_SCRAP_ORDER, R71: a signed order over a fresh challenge; the transition is the doubled decision of R69. Each answer uses up its
challenge. -/
def execMakerScrapOrder (sig : Bytes) (agree : Bool) (s : State) (key : Bytes := []) : Host.Outcome State Fault Refusal :=
  match s.ring.scrapChallenge with
  | none => .next s
  | some c =>
    if !s.ring.power || s.life != 4 || !s.ring.debugOpen || decide (s.ring.wrongScrap ≥ 3) then .next s
    else
      let (x, st) := (s.sd 0).drawBytes 32
      let s := (s.setSd 0 st).upR fun r => { r with scrapChallenge := some x }
      if s.makerSigned key (c ++ fit 16 s.ring.ident.deviceId ++ ascii "SCRP") sig then
        .next (s.lifeStep 0 5 .scrap agree)
      else .next (s.upR fun r => { r with wrongScrap := r.wrongScrap + 1 })

/-- RING_RETAIN_WRITE, R357: run-time changes to ring fields go into the retained state of every strand that is not HALTED. -/
def execRingRetainWrite (s : State) : Host.Outcome State Fault Refusal :=
  if s.ring.rsFailed ∨ ¬ s.ring.power then .next s
  else
    let l := s.ring.retainPend
    let s := s.upAll fun st => if st.halted then st else { st with nv := { st.nv with ringRuntime := l.foldl retainEntry st.nv.ringRuntime } }
    .next (s.upR fun r => { r with retainPend := [] })

end Sys2Proof.Machine
end

