-- ==== Sys2Proof/Machine/Tag.lean ====
section
/-! DEFINITION. The Yunatil tag, R531 to R554: a reader's commands by field, and the host interface to tag memory. A reader frame whose CRC or
code is wrong is discarded, R533, and is no command here. -/

namespace Sys2Proof.Machine
open Sys2Proof

namespace State

/-- Whether a field reaches the front end at all: it is fitted, not KILLED and has not failed, R24, R532. -/
def tagAlive (s : State) : Bool := !s.ring.ident.tagFused && !s.ring.tfFailed && !s.tagKilled

/-- A command of the reader that the tag serves, counted while main power is present. -/
def tagServe (s : State) (f : State → State) : State :=
  f (if s.ring.power then s.rbump R.TAG_FIELD_CMDS else s)

/-- The tag changes state. -/
def tagGo (s : State) (x : TagSt) : State := s.upTag fun t => { t with st := x }

/-- The tag replies, with the CRC-16 of R533. -/
def tagReply (s : State) (b : Bytes) : State := s.upTag fun t => { t with replies := t.replies ++ [b ++ toLE 2 (crc16 b).toNat] }

/-- A field command owns tag memory until its access ends; a host program is abandoned meanwhile, R548. -/
def tagOwn (s : State) : State :=
  (s.upTag fun t => { t with owned := true, prog := t.prog.map fun p => { p with abandoned := true } }).rput R.TAG_STATUS_OWNED 1

/-- A command that only an ACKNOWLEDGED tag with this handle answers, R538. -/
def tagAsk (s : State) (h : Nat) (f : State → State) : State :=
  if s.tagAlive ∧ s.ring.tag.st = .acknowledged ∧ s.ring.tag.h = h then s.tagServe f else s

/-- The STATE byte, R550. -/
def tagStateByte (s : State) : Nat :=
  (s.strands.toList.map fun st => b2n st.nv.latch * 2 ^ st.id.val).sum + 16 * b2n (decide (s.ring.cell > 0))
    + 32 * b2n s.ring.power + 64 * b2n s.ring.tag.secret.isSome

/-- A draw of the jitter source in island TF, R536 (log entry 2). -/
def tagDraw (s : State) : Nat × State :=
  (Config.free 4 s.ring.tag.draws, s.upTag fun t => { t with draws := t.draws + 1 })

/-- Record a tag fault, R554. -/
def tagErr (s : State) (code block : Nat) : State :=
  s.rnoteErr R.TAG_ERR_VALID R.TAG_ERR_CODE R.TAG_ERR_OVERFLOW code fun s => s.rput R.TAG_ERR_INFO block

/-- A host command is refused while the memory is not free, R548, R549. -/
def tagBusy (s : State) : State := (s.rput R.TAG_STATUS_BUSY 1).rbump R.TAG_BUSY_COUNT

/-- Some strand is in CEREMONY. -/
def anyCeremony (s : State) : Bool := s.strands.toList.any fun st => st.mode == 5

/-- Whether a requester reaches the TAG registers: the manager and the cores, R430, R435. -/
def tagUser : Requester → Bool
  | .vf _ => false
  | _ => true

end State

/-- TAG_FIELD_ON, R535, R547: a part that is KILLED only shows that a field is there. -/
def execTagFieldOn (s : State) : Host.Outcome State Fault Refusal :=
  if s.ring.ident.tagFused ∨ s.ring.tfFailed then .next s
  else
    let s := s.rput R.TAG_STATUS_FIELD 1
    if s.tagKilled then .next s
    else
      let s := (if s.ring.tag.st = .off then s.tagGo .ready else s).fieldDet
      if s.ring.power ∧ s.rflag R.TAG_CTL_IRQ_FIELD then
        .next (s.up (⟨s.rget R.TAG_CTL_ROUTE_STRAND % 4, Nat.mod_lt _ (by decide)⟩) fun st => st.vector 37 (s.rget R.TAG_CTL_ROUTE_CORE))
      else .next s

/-- The field command in flight is over, and a host program that it cut off starts again, R548. -/
def State.tagFree (s : State) : State :=
  (s.upTag fun t => { t with owned := false, prog := t.prog.map fun p => { p with abandoned := false } }).rput R.TAG_STATUS_OWNED 0

/-- TAG_FIELD_LOST, R535, R547: the handle is discarded, QUIET forgotten, FIELD_DETn released; a field command in progress
ends, and a host program starts again. -/
def execTagFieldLost (s : State) : Host.Outcome State Fault Refusal :=
  if s.ring.ident.tagFused ∨ s.ring.tfFailed then .next s
  else
    let s := s.rput R.TAG_STATUS_FIELD 0
    if s.tagKilled then .next s
    else .next ((s.upTag fun t => { t with st := .off, h := 0, slot := 0, fieldDet := false }).tagFree)

/-- TAG_ROUND, R535, R536: Q of 0 to 8. -/
def execTagRound (q : Nat) (s : State) : Host.Outcome State Fault Refusal :=
  let x := s.ring.tag.st
  if ¬ s.tagAlive ∨ q > 8 ∨ x = .off ∨ x = .quiet ∨ x = .killed then .next s
  else .next (s.tagServe fun s =>
    let (a, s) := s.tagDraw
    let (b, s) := s.tagDraw
    let h := a % 65535 + 1
    let k := b % 2 ^ q
    let s := s.upTag fun t => { t with h := h, slot := k }
    if k = 0 then (s.tagGo .reply).tagReply (toLE 2 h) else s.tagGo .arbitrate)

/-- TAG_NEXT, R535. -/
def execTagNext (s : State) : Host.Outcome State Fault Refusal :=
  if ¬ s.tagAlive then .next s
  else match s.ring.tag.st with
    | .arbitrate => .next (s.tagServe fun s =>
        let k := s.ring.tag.slot - 1
        let s := s.upTag fun t => { t with slot := k }
        if k = 0 then (s.tagGo .reply).tagReply (toLE 2 s.ring.tag.h) else s)
    | .reply => .next (s.tagServe fun s => s.tagGo .ready)
    | _ => .next s

/-- TAG_ACK, R535, R538: UID, LIFE and FLAGS; with another handle the tag waits for the next ROUND. -/
def execTagAck (h : Nat) (s : State) : Host.Outcome State Fault Refusal :=
  if ¬ s.tagAlive ∨ s.ring.tag.st ≠ .reply then .next s
  else .next (s.tagServe fun s =>
    if s.ring.tag.h = h then
      (s.tagGo .acknowledged).tagOwn.tagReply (fit 12 s.ring.tag.uid ++ sub s.tagBlock0 2 1
        ++ toLE 1 (b2n s.ring.tag.secret.isSome + 2 * b2n s.ring.power))
    else s.tagGo .ready)

/-- TAG_NAK, R535. -/
def execTagNak (s : State) : Host.Outcome State Fault Refusal :=
  if s.tagAlive ∧ (s.ring.tag.st = .reply ∨ s.ring.tag.st = .acknowledged) then .next (s.tagServe fun s => s.tagGo .ready) else .next s

/-- TAG_READ, R538, R548: a block being programmed reads as its old copy. -/
def execTagRead (h first count : Nat) (s : State) : Host.Outcome State Fault Refusal :=
  .next (s.tagAsk h fun s =>
    if count = 0 ∨ count > 8 ∨ first + count > 256 then s.tagReply [1]
    else s.tagOwn.tagReply (0 :: ((List.range count).map fun i => s.tagBlock (first + i)).flatten))

/-- TAG_STATE, R538, R550. -/
def execTagState (h : Nat) (s : State) : Host.Outcome State Fault Refusal :=
  .next (s.tagAsk h fun s => s.tagReply (0 :: toLE 1 s.tagStateByte))

/-- TAG_CHALLENGE, R533, R543. -/
def execTagChallenge (h : Nat) (nonce : Bytes) (s : State) : Host.Outcome State Fault Refusal :=
  if nonce.length ≠ 16 then .next s
  else .next (s.tagAsk h fun s =>
    let b := toLE 1 s.tagStateByte
    match s.ring.tag.secret with
    | none => s.tagReply ([3] ++ b ++ zeros 16)
    | some k =>
      let m := fit 16 nonce ++ fit 12 s.ring.tag.uid ++ s.tagBlock 0 ++ s.tagBlock 4 ++ s.tagBlock 5 ++ s.tagBlock 6 ++ s.tagBlock 7 ++ b
      s.tagOwn.tagReply ([0] ++ b ++ (bvBytes (Config.hmac256 k m)).take 16))

/-- TAG_NOTE_WRITE, R533, R538, R544, R545, R554: `ok` says whether the program succeeds. -/
def execTagNoteWrite (h block : Nat) (data mac : Bytes) (ok : Bool) (s : State) : Host.Outcome State Fault Refusal :=
  if data.length ≠ 16 ∨ mac.length ≠ 8 then .next s
  else .next (s.tagAsk h fun s =>
    let answer := fun (s : State) (c : Nat) => s.tagReply (toLE 1 c ++ toLE 4 s.ring.tag.noteCount)
    if ¬ s.rflag R.TAG_CTL_NOTE_EN then answer s 4
    else if block < 16 ∨ block > 63 then answer s 1
    else match s.ring.tag.secret with
      | none => answer s 3
      | some k =>
        let m := [0x08] ++ fit 12 s.ring.tag.uid ++ toLE 1 block ++ fit 16 data ++ toLE 4 s.ring.tag.noteCount
        if (bvBytes (Config.hmac256 k m)).take 8 ≠ mac then answer s.tagOwn 2
        else if !ok then answer (if s.ring.power then s.tagOwn.tagErr 2 block else s.tagOwn) 5
        else answer ((s.tagOwn.setTagBlock block data).upTag fun t => { t with noteCount := (t.noteCount + 1) % 2 ^ 32 }) 0)

/-- TAG_QUIET, R535, R538. -/
def execTagQuiet (h : Nat) (s : State) : Host.Outcome State Fault Refusal :=
  .next (s.tagAsk h fun s => (s.tagGo .quiet).tagReply [0])

/-- TAG_FIELD_ACCESS_END, R534, R548: the memory is free again, and an abandoned host program starts anew. -/
def execTagFieldAccessEnd (s : State) : Host.Outcome State Fault Refusal := .next s.tagFree

/-- Whether the host interface works: fitted, powered, not failed, and reached by the requester. -/
def State.tagHost (s : State) (who : Requester) : Bool :=
  !s.ring.ident.tagFused && s.ring.power && !s.ring.tfFailed && State.tagUser who

/-- TAG_HOST_READ, R548, R549: TAG_CMD.OP 1. A damaged validity mark is recorded, R554; what is then read is the block as it stands (log entry 117). -/
def execTagHostRead (who : Requester) (s : State) (markOk : Bool := true) : Host.Outcome State Fault Refusal :=
  if ¬ s.tagHost who then .next s
  else if s.ring.tag.owned ∨ s.ring.tag.prog.isSome then .next s.tagBusy
  else
    let d := s.tagBlock (s.rget R.TAG_ADDR_BLOCK)
    let s := if markOk then s else s.tagErr 3 (s.rget R.TAG_ADDR_BLOCK)
    .next ([0, 1, 2, 3].foldl (fun s k => s.rput R.TAG_RDATA (le d (4 * k) 4) k) s)

/-- TAG_HOST_WRITE, R539, R548, R549: TAG_CMD.OP 2. -/
def execTagHostWrite (who : Requester) (s : State) : Host.Outcome State Fault Refusal :=
  let b := s.rget R.TAG_ADDR_BLOCK
  if ¬ s.tagHost who then .next s
  else if s.ring.tag.owned ∨ s.ring.tag.prog.isSome then .next s.tagBusy
  else if b < 16 ∨ (b < 64 ∧ ¬ s.anyCeremony) then .next (s.tagErr 1 b)
  else
    let d := ([0, 1, 2, 3].map fun k => toLE 4 (s.rget R.TAG_WDATA k)).flatten
    .next ((s.upTag fun t => { t with prog := some { block := b, data := d } }).rput R.TAG_STATUS_WIP 1)

/-- TAG_HOST_PROGRAM_DONE, R545, R549: the program's mark is moved, or it failed and the old copy stays. -/
def execTagHostProgramDone (ok : Bool) (s : State) : Host.Outcome State Fault Refusal :=
  match s.ring.tag.prog with
  | none => .next s
  | some p =>
    if p.abandoned ∨ ¬ s.ring.power ∨ s.ring.tfFailed then .next s
    else
      let s := (s.upTag fun t => { t with prog := none }).rput R.TAG_STATUS_WIP 0
      .next (if ok then s.setTagBlock p.block p.data else s.tagErr 2 p.block)

/-- TAG_SECRET_COMMIT, R541: TAG_SECRET_CTL.COMMIT with 0x5A. -/
def execTagSecretCommit (who : Requester) (v : Nat) (s : State) : Host.Outcome State Fault Refusal :=
  if ¬ s.tagHost who ∨ v % 256 ≠ 0x5A then .next s
  else if s.ring.tag.secret.isSome ∨ ¬ s.anyCeremony then .next (s.tagErr 4 0)
  else .next ((s.upTag fun t => { t with secret := some t.staged, staged := zeros 32 }).rput R.TAG_STATUS_SECRET_SET 1)

/-- TAG_KILL, R546: Warden of strand `n` in CEREMONY, with key 0x4B and that strand's doubled decision. -/
def execTagKill (n : Fin 4) (who : Requester) (v : Nat) (agree : Bool) (s : State) : Host.Outcome State Fault Refusal :=
  if ¬ s.tagHost who ∨ v % 256 ≠ 0x4B then .next s
  else if ¬ wardenOf n who ∨ (s.sd n).mode ≠ 5 then .next (s.tagErr 5 0)
  else if agree then .next (((s.upTag fun t => { t with st := .killed, updateNo := t.updateNo + 1, fieldDet := false }).tagFree).rput R.TAG_STATUS_KILLED 1)
  else .next (s.up n fun st => st.mismatch s.now)

end Sys2Proof.Machine
end

