-- ==== Sys2Proof/Machine/RegView.lean ====
section
/-! DEFINITION. What a register reads as: the stored word, a staged value with its pending bit (R12), and the fields that show
the state of a block as it is at the read. -/

namespace Sys2Proof.Machine
open Sys2Proof

/-! ### Staged values -/

/-- The FIELD_PEND bit that belongs to a Boundary field, by register offset and lowest bit, R12. -/
def pendBit (o lo : Nat) : Nat :=
  if o = 0x100000 then (if lo = 1 then 2 else 4)
  else if o = 0x100004 then 16
  else if o = 0x200000 then 2
  else if o = 0x400000 then 1
  else if o = 0x500000 ∨ o = 0x600000 ∨ o = 0x700000 then 23
  else if o = 0x900004 then 2
  else if o = 0xC00000 then 8
  else if o = 0xD00000 then 16
  else if o = 0x1100800 then 21
  else 28

/-- The row of a register table that a field of a strand window stands in. -/
def fieldAt (o lo : Nat) : Option FieldDef := (RegMap.strandReg o).bind fun d => d.fields.find? fun f => f.lo == lo

/-- A field as a place in a register. -/
def FieldDef.fld (f : FieldDef) (o : Nat) : Fld := ⟨o, 0, f.lo, f.width⟩

/-- A word with the staged values of its register and their pending bits, R12. -/
def overlay (l : List Staged) (o : Nat) (w : Word) : Word :=
  (l.filter fun x => x.off == o).foldl (fun w x =>
    match fieldAt o x.lo with
    | some f => (Fld.mk o 0 (pendBit o x.lo) 1).intoWord ((f.fld o).intoWord w x.val) 1
    | none => w) w

/-! ### Strand registers -/

/-- Whether a loaded cadence entry covers every opcode from `x` to 0x09FF; otherwise the built-in entry covers one, R146, R153. -/
def cadCovers (l : List CadEntry) : Nat → Nat → Bool
  | 0, x => decide (x > 0x9FF)
  | k + 1, x =>
    if x > 0x9FF then true
    else match l.find? fun e => decide (e.lo ≤ x) && decide (x ≤ e.hi) with
      | some e => cadCovers l k (e.hi + 1)
      | none => false

namespace Strand

/-- The cadence entry that PST_CAD_SEL.INDEX shows; INDEX equal to COUNT shows the built-in one, R154, R155. -/
def cadShown (st : Strand) : Option CadEntry :=
  let k := st.get R.PST_CAD_SEL_INDEX
  if k = st.post.cad.length then some cadBuiltin else st.post.cad[k]?

/-- The registers of PST that show the posting engine, R126, R153 to R155. -/
def viewPst (st : Strand) (o : Nat) (w : Word) : Word :=
  let open' := (st.post.batches.filter fun b => !b.posted)
  let e := st.cadShown
  if o = 0x100014 then
    let w := R.PST_STATUS_ADMITTING.intoWord w (b2n st.admitting)
    let w := R.PST_STATUS_IN_FLIGHT.intoWord w open'.length
    R.PST_STATUS_NOTICE_WAIT.intoWord w (b2n (st.post.waits.any fun x => match x with | .notice .. => true | .relay _ => false))
  else if o = 0x100038 then
    let live := st.post.approvals.filter fun a => !a.removed
    R.PST_APPROVALS_PENDING.intoWord (R.PST_APPROVALS_LIVE.intoWord w (live.filter (·.live)).length)
      (live.filter fun a => !a.live).length
  else if o = 0x100044 then
    let w := R.PST_SPEC_STATUS_SLOTS_BUSY.intoWord w st.post.slots.length
    let w := R.PST_SPEC_STATUS_SLOT_WAIT.intoWord w (open'.filter fun b => b.slot.isNone).length
    let w := R.PST_SPEC_STATUS_CAD_BUILTIN.intoWord w (b2n (st.accepted.isSome && !cadCovers st.post.cad (st.post.cad.length + 1) 0x100))
    R.PST_SPEC_STATUS_CAD_ABSENT.intoWord w (b2n (st.accepted.isSome && st.post.cadAbsent))
  else if o = 0x100050 then R.PST_CAD_SEL_COUNT.intoWord w st.post.cad.length
  else match e with
    | none => w
    | some e =>
      if o = 0x100054 then R.PST_CAD_OPC_OPC_HI.intoWord (R.PST_CAD_OPC_OPC_LO.intoWord w e.lo) e.hi
      else if o = 0x100058 then R.PST_CAD_BASE.intoWord w e.base
      else if o = 0x10005C then R.PST_CAD_REC_EXEMPT.intoWord (R.PST_CAD_REC_PER_RECORD.intoWord w e.perRecord) (b2n e.exempt)
      else if o = 0x100060 then R.PST_CAD_KIB.intoWord w e.perKib
      else w

/-- The registers of JNL and MIR that show the journal, R165, R198 to R204. -/
def viewJnl (st : Strand) (t o : Nat) (w : Word) : Word :=
  if o = 0x200028 then R.JNL_BUF_USED.intoWord w st.bufUsed
  else if o = 0x200070 then BitVec.ofNat 32 (st.deviceTime t)
  else if o = 0x200074 then BitVec.ofNat 32 (st.deviceTime t / 2 ^ 32)
  else if o = 0x200004 then
    let closed := st.jnl.s.isOpen && decide (st.jnl.s.seq + st.recordsAhead + 1 > 2 ^ 64 - 1)
    R.JNL_STATUS_CARD_OK.intoWord (R.JNL_STATUS_CLOSED.intoWord w (b2n closed)) (b2n (st.flag R.JC_STATUS_ANCHORING && State.cardRuns st))
  else if o = 0x300008 then
    R.MIR_STATUS_HOLDING.intoWord w (st.post.batches.filter fun b => (b.phase == .committed || b.phase == .sealed) && !b.ended).length
  else w

/-- JC_STATUS, R526: anchoring runs on a paired card in the modes of R524. -/
def viewJc (st : Strand) (o : Nat) (w : Word) : Word :=
  if o = 0xD00004 then R.JC_STATUS_ANCHORING.intoWord w (b2n (st.flag R.JC_STATUS_ANCHORING && State.cardRuns st)) else w

/-- The links of a strand that show a state. -/
def linksIn (st : Strand) (k : Nat) : Nat := ((List.range 64).filter fun i => st.linkState i == k).length

/-- The registers of SL that show the links, R492, R497. -/
def viewSl (st : Strand) (o : Nat) (w : Word) : Word :=
  if o = 0xB00004 then
    R.SL_STATUS_FAILED.intoWord (R.SL_STATUS_PLAIN.intoWord (R.SL_STATUS_LIVE.intoWord w (st.linksIn 4)) (st.linksIn 1)) (st.linksIn 6)
  else if 0xB01000 ≤ o ∧ o < 0xB01800 ∧ o % 32 = 0x10 then
    let k := (o - 0xB01000) / 32
    (Fld.mk o 0 8 8).intoWord ((Fld.mk o 0 0 3).intoWord w (st.linkState k)) (min 255 (st.lk k).misses)
  else w

/-- The registers of AGT and JSP that show ages and records, R564, R602, R605, R608. -/
def viewLog (st : Strand) (t o : Nat) (w : Word) : Word :=
  if o = 0xF0001C then BitVec.ofNat 32 (st.eraseAge t)
  else if o = 0xF00004 then R.AGT_STATUS_ERASE_OLD.intoWord w (b2n (decide (st.eraseAge t > 1000 * st.get R.AGT_CTL_AGE_WARN)))
  else if o = 0x1000004 then R.JSP_STATUS_WINDOWED.intoWord w (b2n st.windowed)
  else if o = 0x1000018 then
    match st.jsp.window with
    | some x =>
      if st.mode = 5 then R.JSP_CELL_WINDOW_LEFT.intoWord w ((x - t + 999999999) / 1000000000) else R.JSP_CELL_WINDOW_OPEN.intoWord w 0
    | none => w
  else if 0x1000024 ≤ o ∧ o < 0x1000044 then
    match st.nv.evlog.find? fun r => r.1 == st.get R.JSP_LOG_SEL_SEQ with
    | some r => BitVec.ofNat 32 (le r.2 (o - 0x1000024) 4)
    | none => 0
  else w

/-- The words that SNP_SEL selects of a held snapshot, R639: an island's own state, or an item of a channel into it. -/
def snapItem (st : Strand) : Bytes :=
  match st.snap with
  | none => []
  | some x =>
    let i := st.get R.SNP_SEL_ISLAND
    let k := st.get R.SNP_SEL_ITEM
    if st.get R.SNP_SEL_CHANNEL = 0xFF then
      match x.islands.find? (·.code == i) with
      | some y => sub (y.words.map fun w => toLE 4 w.toNat).flatten (64 * k) 64
      | none => []
    else match x.chans.find? fun c => c.island == i && c.chan == st.get R.SNP_SEL_CHANNEL with
      | some c => c.items.getD k []
      | none => []

/-- The registers of SNP that show the held snapshot. -/
def viewSnp (st : Strand) (o : Nat) (w : Word) : Word :=
  let cyc := match st.snap with
    | some x => ((x.islands.find? (·.code == st.get R.SNP_SEL_ISLAND)).map (·.cycle)).getD 0
    | none => 0
  if o = 0x1200014 then BitVec.ofNat 32 cyc
  else if o = 0x1200018 then BitVec.ofNat 32 (cyc / 2 ^ 32)
  else if 0x1200040 ≤ o ∧ o < 0x1200080 then BitVec.ofNat 32 (le (fit 64 st.snapItem) (o - 0x1200040) 4)
  else w

/-- The registers of CHT that show the start and the life-cycle, R76, R77. -/
def viewCht (st : Strand) (s : State) (o : Nat) (w : Word) : Word :=
  if o = 0xC then
    if st.mode = 1 ∧ ¬ st.halted ∧ (st.get R.CHT_START_STATUS_STEP = 8 ∨ st.get R.CHT_START_STATUS_STEP = 9) then
      R.CHT_START_STATUS_ELAPSED.intoWord w (st.elapsed s.now)
    else w
  else if o = 0x18 then
    R.CHT_LIFECYCLE_OWNER_CHANGES.intoWord (R.CHT_LIFECYCLE_INVALID.intoWord (R.CHT_LIFECYCLE_STATE.intoWord w s.life)
      (b2n s.lifeInvalid)) s.ring.ident.ownerDigests.length
  else w

end Strand

namespace State

/-- The word that an offset of a strand window reads as. -/
def strandWord (s : State) (n : Fin 4) (o : Nat) : Word :=
  let st := s.sd n
  let w := overlay st.staged o (st.rd o)
  match o / 0x100000 with
  | 0 => st.viewCht s o w
  | 1 => st.viewPst o w
  | 2 | 3 => st.viewJnl s.now o w
  | 11 => st.viewSl o w
  | 13 => st.viewJc o w
  | 15 | 16 => st.viewLog s.now o w
  | 18 => st.viewSnp o w
  | _ => w

/-! ### Ring registers -/

/-- The code of a submission queue's state, R344. -/
def sqCode : SqState → Nat
  | .disabled => 0 | .enabled => 1 | .disabling => 2 | .error => 3

/-- Whether a submission queue is blocked only by a full completion queue, R340, R362. -/
def sqWaits (s : State) (q : Sq) : Bool := s.ready q && !s.fenceHolds q && !s.slotsFree q (s.entryAt q q.next)

/-- Whether a fenced entry is held behind earlier jobs of its queue, R340, R362. -/
def sqFenced (s : State) (q : Sq) : Bool := q.state == .enabled && q.next != q.tail && s.fenceHolds q

/-- The HQ registers that show the port and the queues, R359, R362, R365. -/
def viewHq (s : State) (o : Nat) (w : Word) : Word :=
  if o = 4 then
    let m := ([0, 1, 2, 3] : List (Fin 4)).map fun n => b2n (decide ((s.sd n).mode ≥ 2) && !(s.sd n).halted) * 2 ^ n.val
    R.HQ_STATUS_FETCHING.intoWord w m.sum
  else if 0x10000 ≤ o ∧ o < 0x30000 then
    let q := s.sq ((o - 0x10000) / 32)
    if o % 32 = 0x10 then BitVec.ofNat 32 (b2n (q.state == .enabled) + 2 * b2n q.inval)
    else if o % 32 = 0x14 then
      BitVec.ofNat 32 (sqCode q.state + 4 * b2n q.chain.isSome + 8 * b2n (s.sqFenced q) + 16 * b2n (s.sqWaits q) + 32 * b2n q.dbErr
        + 256 * min 16 q.cache.length + 65536 * q.head)
    else w
  else if 0x30000 ≤ o ∧ o < 0x50000 then
    let c := s.cq ((o - 0x30000) / 32)
    if o % 32 = 0x10 then BitVec.ofNat 32 (b2n c.enabled + 2 * b2n c.ien)
    else if o % 32 = 0x14 then
      let full := s.ring.sqs.any fun q => s.sqWaits q && (s.slotsNeeded q (s.entryAt q q.next)).contains c.id
      BitVec.ofNat 32 (b2n c.enabled + 2 * b2n c.writeErr + 4 * b2n full + 8 * b2n c.dbErr + 65536 * c.tail)
    else if o % 32 = 0x18 then BitVec.ofNat 32 (c.posted + c.reserved)
    else if o % 32 = 0x1C then BitVec.ofNat 32 c.head
    else w
  else w

/-- The VF registers that show the function table, R390 and the register list of chapter 11. -/
def viewVf (s : State) (o : Nat) (w : Word) : Word :=
  if o = 0x100000 then R.VF_STATUS_PRESENT.intoWord w (s.ring.fns.filter fun g => g.st != .absent).length
  else if 0x101000 ≤ o ∧ o < 0x101000 + 64 * 249 then
    let f := (o - 0x101000) / 64
    let g := s.fn f
    let p := g.pool
    match (o - 0x101000) % 64 with
    | 0x00 => BitVec.ofNat 32 (fnCode g.st + 256 * g.gen + 65536 * g.home.val + 2 ^ 24 * b2n g.imageOk)
    | 0x04 => BitVec.ofNat 32 (p.qbase + 65536 * p.qcount)
    | 0x08 => BitVec.ofNat 32 p.ctxQuota
    | 0x0C => BitVec.ofNat 32 p.largeQuota
    | 0x10 => BitVec.ofNat 32 (p.subBase + 65536 * p.subCount)
    | 0x18 =>
      let u := (s.sd g.home).useOf f
      BitVec.ofNat 32 (u.1 + 2 ^ 20 * u.2)
    | 0x1C =>
      let js := s.jobsOf f
      BitVec.ofNat 32 (js.length + 65536 * (js.filter fun j => j.gen != g.gen).length)
    | _ => w
  else w

/-- The device summary mode, R64. -/
def summary (s : State) : Nat :=
  let l := s.strands.toList.map fun st => if st.halted then 3 else st.mode
  (([6, 7, 5, 4, 3, 1, 2] : List Nat).find? fun m => l.contains m).getD 1

/-- The RNG registers that show the strands, R63, R640, and the supply voltages that RS measures, R65, which are open. -/
def viewRng (s : State) (o : Nat) (w : Word) : Word :=
  let l := s.strands.toList
  if s.ring.rsFailed ∧ (o = 0x300000 ∨ o = 0x300008 ∨ (0x300010 ≤ o ∧ o ≤ 0x300024)) then BitVec.ofNat 32 (Config.reading o s.now)
  else if o = 0x300000 then
    BitVec.ofNat 32 ((l.map fun st => st.mode * 2 ^ (4 * st.id.val)).sum + (l.map fun st => b2n st.halted * 2 ^ (16 + st.id.val)).sum
      + 2 ^ 24 * s.summary + 2 ^ 28 * (l.filter fun st => (st.mode == 2 || st.mode == 3) && !st.halted).length)
  else if o = 0x300040 then
    BitVec.ofNat 32 ((l.map fun st => b2n st.snap.isSome * 2 ^ (4 + st.id.val)).sum
      + (l.map fun st => b2n (st.flag R.SNP_STATUS_DONE) * 2 ^ (8 + st.id.val)).sum)
  else if o = 0x300010 ∨ o = 0x300014 ∨ o = 0x300018 ∨ o = 0x30001C then BitVec.ofNat 32 (Config.reading o s.now % 4096)
  else w

/-- The word that an offset of the ring window reads as; the TAG registers of a part without the tag read zero, R532. -/
def ringWord (s : State) (o : Nat) : Word :=
  let w := s.rrd o
  match o / 0x100000 with
  | 0 => s.viewHq o w
  | 1 => s.viewVf o w
  | 2 =>
    if s.ring.ident.tagFused then 0
    else if o = 0x200004 then R.TAG_STATUS_PRESENT.intoWord w (b2n !s.ring.tfFailed)
    else if 0x200070 ≤ o ∧ o < 0x20007C ∧ o % 4 = 0 then BitVec.ofNat 32 (le (fit 12 s.ring.tag.uid) (o - 0x200070) 4)
    else w
  | _ => s.viewRng o w

/-! ### Function pages, R332 -/

/-- The queue that a slot of a page names for a requester, where it has one. -/
def slotQueue (s : State) (who : Requester) (n : Fin 4) (i : Nat) : Option Nat :=
  match who with
  | .manager => if i < 1024 then some (n.val * 1024 + i) else none
  | .vf f =>
    let g := s.fn f
    if g.st != .absent ∧ i < g.pool.qcount then some (g.home.val * 1024 + (g.pool.qbase + i) % 1024) else none
  | .core .. => none

/-- The function whose page it is. -/
def pageFn : Requester → Nat
  | .vf f => f
  | _ => 0

/-- The MSI-X vectors of a page: 64 for the physical function, in its page 0, and 16 for a virtual one that has been created, R332, R353,
R368. -/
def pageVectors (s : State) (who : Requester) (n : Fin 4) : Nat :=
  match who with
  | .vf f => if (s.fn f).st = .absent then 0 else 16
  | _ => if n = 0 then 64 else 0

/-- One MSI-X vector of a function. -/
def msixOf (g : Fn) (v : Nat) : Msix := (g.msix.find? (·.vec == v)).getD { vec := v, masked := false, pend := false, sent := 0 }

/-- A word of a vector's 16 bytes in the MSI-X table: message address, message data, vector control (log entry 27). -/
def msixWord (m : Msix) : Nat → Word
  | 0 => m.msgAddr
  | 4 => m.msgAddrHi
  | 8 => m.msgData
  | _ => BitVec.ofNat 32 (b2n m.masked)

/-- The word that an offset of a function page reads as. -/
def pageWord (s : State) (who : Requester) (n : Fin 4) (o : Nat) : Word :=
  let f := pageFn who
  let g := s.fn f
  if o < 0x2000 then
    match s.slotQueue who n (o / 8) with
    | some k =>
      let q := s.sq k
      if !(s.rflag R.HQ_SQ_CFG_MAPPED k && s.pageReaches who k (s.sqOwner k)) then 0
      else if o % 8 = 0 then BitVec.ofNat 32 q.tail
      else BitVec.ofNat 32 (b2n (q.state == .enabled) + 2 * b2n q.inval + 4 * sqCode q.state + 65536 * q.head)
    | none => 0
  else if o < 0x4000 then
    match s.slotQueue who n ((o - 0x2000) / 8) with
    | some k =>
      let c := s.cq k
      if !(s.rflag R.HQ_CQ_CFG_MAPPED k && s.pageReaches who k (s.rget R.HQ_CQ_CFG_OWNER k)) then 0
      else if o % 8 = 0 then BitVec.ofNat 32 c.head
      else BitVec.ofNat 32 (b2n c.enabled + 2 * b2n c.ien + 65536 * c.tail)
    | none => 0
  else if o = 0x4000 then
    BitVec.ofNat 32 (f + 256 * g.gen + 65536 * (if f = 0 then n.val else g.home.val) + 2 ^ 18 * g.pool.qbase)
  else if 0x8000 ≤ o ∧ o < 0x8000 + 16 * s.pageVectors who n then msixWord (msixOf g ((o - 0x8000) / 16)) (o % 16)
  else if 0xC000 ≤ o ∧ o < 0xC000 + s.pageVectors who n / 8 then
    BitVec.ofNat 32 (((List.range 32).map fun k => b2n (msixOf g (8 * (o - 0xC000) + k)).pend * 2 ^ k).sum)
  else 0

end State

end Sys2Proof.Machine
end

