-- ==== Sys2Proof/Machine/Snapshot.lean ====
section
/-! DEFINITION. The snapshot, R622 to R625: what each island latches, as each block's chapter lays it down, and the commands that trigger,
carry and release one. No key, mask, share, operand, data or quarantine content is latched, R624; the order of the words is the model's (log
entry 23). -/

namespace Sys2Proof.Machine
open Sys2Proof

/-! ### What a block latches -/

/-- Numbers as latched words. -/
def snapWords (l : List Nat) : List Word := l.map (BitVec.ofNat 32)

/-- A wide number as latched words, lowest first. -/
def snapWide (n v : Nat) : List Word := snapWords ((List.range n).map fun k => v / 2 ^ (32 * k))

/-- The words that the registers of one block read as, at offsets `lo` to `hi` of it; what reads zero is not kept. -/
def snapRegs (s : State) (n : Fin 4) (k lo hi : Nat) : List Word :=
  (((RegMap.strandBlock k).map fun d => (List.range (max 1 d.count)).map fun i => d.off + d.stride * i).flatten.filter fun o =>
    decide (lo ≤ o % 0x100000) && decide (o % 0x100000 ≤ hi)).map fun o => s.strandWord n o

namespace Strand

/-- The core-cluster set, R81: CHT_MODE and CHT_START_STATUS as they read. -/
def snapCht (st : Strand) (s : State) : List Word := [st.rd R.CHT_MODE_MODE.off, st.viewCht s 0xC (st.rd 0xC)]

/-- A logical core, R420: PC, STATUS, CYCLE, the open tickets, the last ECAUSE of each bank, the general registers. -/
def snapCore (st : Strand) (t : Nat) (c : Fin 4) : List Word :=
  let x := st.core c
  let open' := x.tickets.filter fun k => k.ended.isNone
  [x.pc, x.status] ++ snapWide 2 (st.cycles t c) ++ x.ecause.toList ++ snapWords [open'.length] ++ snapWords (open'.map (·.num))
    ++ (x.banks.toList.map (·.toList)).flatten

/-- A phase of R100 as a number. -/
def phaseNo : BPhase → Nat
  | .checking => 1 | .aborted => 2 | .committed => 3 | .sealed => 4 | .released => 5

/-- One quarantine slot, R152: 0 free, 1 held, 2 zeroing, with the batch that holds it. -/
def snapSlot (st : Strand) (k : Nat) : List Nat :=
  match st.post.slots.find? (·.num == k) with
  | none => [0, 0]
  | some q => [if q.zeroAt.isSome then 2 else 1, q.order]

/-- Posting, R121, R152: each slot; each batch past intake with its state, whether it speculates, how far its check pass has gone, and its
accumulators by currency. -/
def snapPost (st : Strand) : List Word :=
  let open' := st.post.batches.filter fun b => !b.posted
  snapWords (((List.range 8).map st.snapSlot).flatten ++ [open'.length])
    ++ (open'.map fun b => snapWords [b.order, phaseNo b.phase, b2n (b.spec && b.slot.isSome && !b.abandoned && b.phase == .checking), b.parsed, b.recs.length, b.cur.length]
      ++ (b.cur.map fun c => snapWords [le c.ccy 0 c.ccy.length, c.exp] ++ snapWide 4 c.debit ++ snapWide 4 c.credit).flatten).flatten

/-- Journal and mirror, R198: the entry last formed, acknowledged, stored and anchored, the lease and the time left on it, MIR_STATUS, and the
frames that await their answer on the link: the range of entries, a ROLLOVER, MARKS. -/
def snapJnl (st : Strand) (t : Nat) : List Word :=
  let stored := st.get R.JNL_STORED_LO + 2 ^ 32 * st.get R.JNL_STORED_HI
  let anchored := st.get R.JNL_ANCHOR_LO + 2 ^ 32 * st.get R.JNL_ANCHOR_HI
  let left := match st.mir.leaseAt with | some x => x + 1000000 - t | none => 0
  let frame := fun (b : Bytes) => snapWords ([b.length] ++ b.map (·.toNat))
  let sent := if st.writer && st.mir.keyTx.isSome then st.jnl.index.filter fun e => decide (e.no > st.jnl.acked) else []
  (([st.jnl.s.cur.no, st.jnl.acked, stored, anchored].map (snapWide 2)).flatten)
    ++ [BitVec.ofNat 32 (b2n st.leaseHeld)] ++ snapWide 2 left ++ [st.viewJnl t 0x300008 (st.rd 0x300008)]
    ++ snapWords [sent.length] ++ (sent.map fun e => snapWide 2 e.no).flatten
    ++ (match st.mir.roll with | some r => frame r.1 | none => []) ++ (st.mir.marks.map fun m => frame m.payload).flatten

/-- The vault, R244: the slot counts, ONX_STATUS, and each slot with an open replacement: its number, the successor's state, the generations. -/
def snapVault (st : Strand) : List Word :=
  snapWords ([st.get R.ONX_CTX_FREE, st.get R.ONX_LARGE_FREE, st.get R.ONX_PERSIST, st.get R.ONX_STAGED] ++ [(st.rd 0x400004).toNat])
    ++ (st.vault.ctxs.map fun c => match c.succ with
      | some x => snapWords [c.idx, 1 + b2n x.verified, c.baseGen, c.curGen]
      | none => []).flatten

/-- The entry of a job's chain that its block stands in, by the bytes of the entries before it. -/
def entryReached : List Seg → Nat → Nat → Nat
  | [], _, k => k
  | [_], _, k => k
  | g :: r, left, k => if left < g.inLen then k else entryReached r (left - g.inLen) (k + 1)

/-- A lane or hash core at work, R275: the job, its requester, the entry and block reached, the counter values reserved. The block is the share
of the job's blocks that its cycles so far make (log entry 23). -/
def snapWork (unit blocks cycles done size : Nat) (j : Job) (drawn : Nat × Nat) : List Word :=
  let b := if cycles = 0 then 0 else min blocks (blocks * (done / 1000) / cycles)
  snapWords [1 + unit, j.op, j.id, j.fn, j.gen, entryReached j.segs (size * b) 0, b] ++ snapWide 4 drawn.1 ++ snapWords [drawn.2]

/-- A Topaz lane, R275; nothing where it is idle. -/
def snapLane (st : Strand) (t k : Nat) : List Word :=
  ((st.eng.topRuns.filter fun r => r.lane == k).map fun r =>
    snapWork k r.work.blocks r.work.cycles (runDone r.since r.mark r.done (st.isleMhz (12 + k)) t) 16 r.job r.drawn).flatten

/-- The Jade cores, R275. -/
def snapJade (st : Strand) (t : Nat) : List Word :=
  (st.eng.jadRuns.map fun r =>
    let size := if r.work.blocks = 0 then 0 else (r.job.inLen + r.work.blocks - 1) / r.work.blocks
    snapWork r.core r.work.blocks r.work.cycles (runDone r.since r.mark r.done (st.isleMhz 15) t) size r.job (0, 0)).flatten

/-- The state of a Beryl engine as a number, R305: 0 IDLE, 1 WIPING, 2 LOADING, 3 RUNNING, 4 CHECKING, 5 FENCED. -/
def snapBerSt (st : Strand) (e : Nat) : Nat :=
  if st.fenced.contains (7 + e) then 5
  else match st.berRun e with
    | none => 0
    | some r => match r.st with | .wiping => 1 | .loading => 2 | .running => 3 | .checking => 4

/-- A Beryl engine, R307: state, owner, opcode, lengths, candidates, cycles elapsed. -/
def snapBeryl (st : Strand) (t e : Nat) : List Word :=
  let own := match st.eng.berEngs.find? (·.num == e) with | some b => b.owner.getD (0, 0) | none => (0, 0)
  snapWords ([st.snapBerSt e] ++ (match st.berRun e with
    | none => [own.1, own.2, 0, 0, 0, 0, 0]
    | some r => [r.job.fn, r.job.gen, r.job.op, r.job.inLen, (r.job.segs.map (·.outLen)).sum, r.total,
      runDone r.since r.mark r.done (st.isleMhz (7 + e)) t / 1000]))

/-- The links, R490: each link's state and counters; the record port's and the Opal queue's level, pointers and tags, never a record. -/
def snapLinks (st : Strand) (s : State) (n : Fin 4) : List Word :=
  let tag := fun (x : OSlot) => b2n x.sor + 2 * b2n x.half + 4 * b2n x.perr + 8 * b2n x.gap + 16 * b2n x.eor
  (st.links.map fun l => snapWords [l.num, st.linkState l.num] ++ snapWide 2 l.txCtr ++ snapWide 2 l.rxCtr
      ++ [s.strandWord n (R.SL_LINK_STAT_STATE.at l.num), s.strandWord n (R.SL_LINK_RX_OK.at l.num), s.strandWord n (R.SL_LINK_RX_BAD.at l.num), s.strandWord n (R.SL_LINK_TX_OK.at l.num)]).flatten
    ++ snapWords ([st.fab.queue.length, b2n st.fab.lowHalf.isSome, b2n st.fab.recOpen] ++ st.fab.queue.map tag)
    ++ snapRegs s n 12 0 0xFFFFF

/-- The card slots, R524: slot states and counters, the UNCERTAIN extents, the order slot without its block. -/
def snapCards (st : Strand) (s : State) (n : Fin 4) : List Word :=
  let step := match st.cc.step with | .idle => 0 | .select => 1 | .getData => 2 | .verify => 3 | .auth => 4 | .over => 5
  snapRegs s n 13 0x8 0x2F ++ [s.strandWord n 0xD00004] ++ snapRegs s n 14 0x4 0xFFFFF ++ snapWords [step, st.cc.retries, st.cc.resyncs, st.jc.extents.length]
    ++ (st.jc.extents.map fun x => snapWords [x.first, x.count]).flatten
    ++ (match st.cc.order with | some o => snapWords ([1, o.kind, o.no, o.m, o.groups] ++ o.held) ++ snapWide 2 o.deadline | none => snapWords [0])

/-- Agate, R574: the command in progress, AGT_ADDR, the open ledger record, AGT_ERASE_AGE and AGT_STATUS. -/
def snapFlash (st : Strand) (s : State) (n : Fin 4) : List Word :=
  let cmd := if st.agt.erase.isSome then 2 else if st.agt.prog.isSome then 1 else 0
  let rec' := match st.agt.erase with | some e => [1, e.no, e.phys, e.logical, b2n e.suspended] | none => [0]
  [s.strandWord n R.AGT_CMD_OP.off, s.strandWord n R.AGT_ADDR_ADDR.off, s.strandWord n 0xF0001C, s.strandWord n 0xF00004] ++ snapWords ([cmd] ++ rec')

/-- The sentinel, R610: each source's window history and counts, the response in effect, JSP_STATUS, the decision in progress. -/
def snapSentinel (st : Strand) (s : State) (n : Fin 4) : List Word :=
  (st.jsp.hist.map fun h => snapWords [h.1, h.2.length] ++ (h.2.map (snapWide 2)).flatten).flatten
    ++ ((List.range 16).map fun k => s.strandWord n (R.JSP_SRC_CNT_EVENTS.at k)) ++ snapWords [st.jsp.inEffect] ++ [s.strandWord n 0x1000004]
    ++ (match st.jsp.erase with | some e => snapWords [1, e.cause, e.src, e.frm, e.tries] | none => snapWords [0])

/-- The MPU, R447: the violation record, the counters, every region register. -/
def snapMpu (s : State) (n : Fin 4) : List Word := snapRegs s n 10 0 0xFFFFF

/-- Quartz, R323: the pool level, VALID, UNDERRUN and the counts. -/
def snapQuartz (st : Strand) : List Word :=
  snapWords [st.get R.QTZ_STATUS_LEVEL, st.get R.QTZ_STATUS_VALID, st.get R.QTZ_STATUS_UNDERRUN, st.get R.QTZ_FAIL_COUNT, st.get R.QTZ_FAIL_SRC_RCT, st.get R.QTZ_FAIL_SRC_APT]

end Strand

/-- A queue's fields in a snapshot, R355: state, HEAD, TAIL, cache occupancy, the entries of an open chain. -/
def snapSq (q : Sq) : List Word :=
  snapWords [q.id, State.sqCode q.state, q.head, q.tail, q.cache.length, match q.chain with | some c => c.entries.length | none => 0]

/-- A completion queue's, R355: state, HEAD, TAIL, reservations. -/
def snapCq (c : Cq) : List Word := snapWords [c.id, b2n c.enabled, c.head, c.tail, c.reserved]

/-- The scheduler of a strand, R355: the round's grants and the queue being visited. -/
def snapSched (x : Sched) : List Word :=
  snapWords ([x.grants.length] ++ (x.grants.map fun g => [g.1, g.2]).flatten ++ [match x.cur with | some q => 1 + q | none => 0])

/-- A function, R389: state, generation, use and in-flight counts, the progress of an image. -/
def snapFn (s : State) (g : Fn) : List Word :=
  snapWords [g.num] ++ [s.viewVf (R.VF_STATE_STATE.at g.num) 0, s.viewVf (R.VF_USE_CTX.at g.num) 0, s.viewVf (R.VF_INFLIGHT_JOBS.at g.num) 0,
    s.ringWord (R.VF_PROG_POSITION.at g.num)]

/-- The tag front end, R551: the state, the field command in flight, the host command and WIP, never the secret. -/
def snapTag (s : State) : List Word :=
  let x := s.ring.tag
  let k := match x.st with | .off => 0 | .ready => 1 | .arbitrate => 2 | .reply => 3 | .acknowledged => 4 | .quiet => 5 | .killed => 6
  snapWords [k, b2n x.owned, match x.prog with | some p => 1 + p.block | none => 0] ++ [s.ringWord R.TAG_CMD_OP.off, s.ringWord 0x200004]

/-- What an island latches, R624: codes of R580, and 24 HP, 25 TF, 26 RS. -/
def islandWords (s : State) (n : Fin 4) (i : Nat) : List Word :=
  let st := s.sd n
  if i < 5 then st.snapCht s ++ (match st.logicalOf i with | some c => st.snapCore s.now c | none => [])
  else if i < 7 then st.snapCht s ++ (if i = 5 then Strand.snapMpu s n ++ st.snapFlash s n else st.snapSentinel s n)
  else if i < 12 then st.snapBeryl s.now (i - 7)
  else if i < 15 then st.snapLane s.now (i - 12)
  else match i with
    | 15 => st.snapJade s.now
    | 16 => st.snapVault ++ st.snapQuartz
    | 18 => st.snapPost
    | 20 => st.snapJnl s.now ++ st.snapLinks s n ++ st.snapCards s n
    | 24 => (s.ring.sqs.map snapSq).flatten ++ (s.ring.cqs.map snapCq).flatten ++ (s.ring.scheds.toList.map snapSched).flatten
      ++ (s.ring.fns.map (snapFn s)).flatten
    | 25 => if s.ring.power then snapTag s else []
    | 26 => [s.ringWord 0x300000, s.ringWord 0x300004]
    | _ => []

/-! ### Triggers, tokens and the release -/

/-- SNAP_IN_EDGE, R622: high for at least 20 ns. -/
def execSnapInEdge (ns : Nat) (s : State) : Host.Outcome State Fault Refusal :=
  .next (if ns < 20 ∨ ¬ s.ring.power then s
    else s.upAll fun st => if st.flag R.SNP_CTL_SNAP_IN_EN ∧ st.mode ≠ 0 then st.snapTrigger 1 else st)

/-- SNP_TRIGGER, R434, R622. -/
def execSnpTrigger (n : Fin 4) (who : Requester) (s : State) : Host.Outcome State Fault Refusal :=
  .next (if wardenOf n who then s.up n (·.snapTrigger 3) else { s with resp := .error })

/-- SNP_RELEASE, R434, R625. -/
def execSnpRelease (n : Fin 4) (who : Requester) (s : State) : Host.Outcome State Fault Refusal :=
  .next (if wardenOf n who then s.up n fun st => { st.put R.SNP_STATUS_HELD 0 with snap := none } else { s with resp := .error })

/-- Latch an island of a snapshot at its first token, R623. -/
def Strand.latch (st : Strand) (s : State) (n : Fin 4) (i : Nat) (x : Snap) : Strand :=
  let mhz := if i < 21 then st.get R.ISL_CLK_MHZ i else if i = 24 then 500 else 250
  let cyc := (s.now - st.startedAt) * mhz / 1000
  { st with snap := some { x with islands := x.islands ++ [⟨i, cyc, islandWords s n i⟩] } }

/-- The parts of the ring that have failed latch nothing: their bits of SNP_ABSENT_RING, R24, R625. -/
def State.ringAbsent (s : State) : Nat := b2n s.ring.hpFailed + 2 * b2n s.ring.tfFailed + 4 * b2n s.ring.rsFailed

/-- SNAPSHOT_TOKEN, R623, R625: a token reaches an island on a channel, which had carried `items` since the island latched. A
fenced island, or a failed part of the ring, does not latch. `quiet` says that no channel of the strand still records;
a channel of the masked key bus records only the fact of an item, R624. -/
def execSnapshotToken (n : Fin 4) (i chan : Nat) (items : List Bytes) (quiet : Bool) (s : State) (keyBus : Bool := false) : Host.Outcome State Fault Refusal :=
  let st := s.sd n
  match st.snap with
  | none => .next s
  | some x =>
    if ¬ (i ≤ 20 ∨ (24 ≤ i ∧ i ≤ 26)) then .next s
    else
      let st := st.put R.SNP_ABSENT_RING (st.get R.SNP_ABSENT_RING ||| s.ringAbsent)
      let st :=
        if st.fenced.contains i then st.put R.SNP_ABSENT_ISLANDS (st.get R.SNP_ABSENT_ISLANDS ||| 2 ^ i)
        else if i ≥ 24 ∧ bit s.ringAbsent (i - 24) then st
        else if x.islands.any (·.code == i) then
          (if x.chans.any fun c => c.island == i && c.chan == chan then st
           else { st with snap := some { x with chans := x.chans ++ [⟨i, chan, true, (items.take 4).map fun b => if keyBus then [] else b⟩] } })
        else st.latch s n i x
      let done := quiet && (List.range 21).all fun k =>
        st.fenced.contains k || (match st.snap with | some y => y.islands.any (·.code == k) | none => false)
      .next (s.setSd n (if done ∧ ¬ st.flag R.SNP_STATUS_DONE then
        (st.put R.SNP_STATUS_DONE 1).vector 38 (st.get R.SNP_CTL_ROUTE) else st))

/-- RNG_SNAP_WRITE, R435, R640: the manager, with key 0x53, triggers the strands named; nothing where ring supervision has failed, R24. -/
def execRngSnapWrite (who : Requester) (v : Nat) (s : State) : Host.Outcome State Fault Refusal :=
  .next (if who ≠ .manager ∨ bits v 24 8 ≠ 0x53 ∨ s.ring.rsFailed then s
    else s.upAll fun st => if bit v st.id.val then st.snapTrigger 2 else st)

end Sys2Proof.Machine
end

