-- ==== Sys2Proof/Machine/RegAccess.lean ====
section
/-! DEFINITION. Register reads and writes from the manager, a virtual function or a core: R4 to R14, R122, R355, R357, R429 to
R436; staged values taking effect, R12, R618 to R620; the MPU's region registers, R444. -/

namespace Sys2Proof.Machine
open Sys2Proof

/-! ### Reading -/

/-- The _LO registers whose read latches the _HI register behind them, R122. -/
def loRegs : List Nat :=
  [0x10, 0x100018, 0x100020, 0x200008, 0x200010, 0x200018, 0x200020, 0x200070, 0x300020, 0x1200014]

/-- Whether a requester may reach a block of a strand window, R430, R434. -/
def reaches (who : Requester) (n : Fin 4) (off : Nat) : Bool :=
  match who with
  | .manager => off / 0x100000 != 10 && off / 0x100000 != 18
  | .vf _ => false
  | .core m _ p =>
    m == n && (p == 0 || (off / 0x100000 != 10 && off / 0x100000 != 18)) && (decide (p ≤ 1) || off / 0x100000 != 8)

/-- The cause of R449 under which a core's access to a strand window is refused. -/
def reachCause (who : Requester) (n : Fin 4) : Nat :=
  match who with
  | .core m _ _ => if m = n then 9 else 7
  | _ => 9

namespace State

/-- Answer a word. -/
def answer (s : State) (w : Word) : State := { s with resp := .word w }

/-- A read in a strand window: QTZ_DATA, a field whose copies disagree, a latched _HI register, and every other. -/
def readStrand (s : State) (who : Requester) (n : Fin 4) (off : Nat) : State :=
  let st := s.sd n
  if off = 0x800008 then
    match execQtzDataRead n who s with
    | .next t => t
    | _ => s
  else if st.dupBad.contains off then { s with resp := .error }
  else match st.hiLatch.find? (·.1 == off) with
    | some x => (s.setSd n { st with hiLatch := st.hiLatch.filter (·.1 != off) }).answer x.2
    | none =>
      let w := s.strandWord n off
      let s := if loRegs.contains off then
          s.setSd n { st with hiLatch := st.hiLatch.filter (·.1 != off + 4) ++ [(off + 4, s.strandWord n (off + 4))] }
        else s
      s.answer w

/-- A register read, by the place that its address names. -/
def regRead (s : State) (who : Requester) (a : Nat) : State :=
  if ¬ s.ring.power then s
  else match Place.of who a with
    | .strand n off => if reaches who n off then s.readStrand who n off else s.refuseAccess who a 4 (reachCause who n) false
    | .ring off => s.answer (s.ringWord off)
    | .page n off => s.answer (s.pageWord who n off)
    | _ => s.refuseAccess who a 4 4 false

end State

/-! ### Writing a strand register -/

/-- The records whose VALID bit, bit 0, clears the whole record and the registers behind it, R79, R127, R201, R207, R249, R278,
R281, R310, R366, R392, R424, R425, R449, R498, R527, R530, R554, R579, R609, R635. -/
def recordInfo (o : Nat) : Option (List Nat) :=
  if o = 0x20 then some [0x24]
  else if o = 0x10003C then some [0x100040]
  else if o = 0x200034 then some [0x200038]
  else if o = 0x300044 then some []
  else if o = 0x400034 then some [0x400038]
  else if o = 0x50001C then some [0x500020]
  else if o = 0x600010 then some [0x600014]
  else if o = 0x70001C then some [0x700020]
  else if o = 0x900014 then some [0x900018]
  else if o = 0x90001C then some [0x900020]
  else if o = 0xA00000 then some [0xA00004, 0xA00008]
  else if o = 0xB00014 then some [0xB00018]
  else if o = 0xD00018 then some [0xD0001C]
  else if o = 0xE00014 then some [0xE00018]
  else if o = 0xF0003C then some [0xF00040]
  else if o = 0x1000044 then some [0x1000048]
  else if o = 0x1100010 then some [0x1100014]
  else if o = 0x1100814 then some []
  else none

/-- A run-time change to a field as the retained state keeps it, R9. -/
def fieldEntry (o : Nat) (f : FieldDef) (x : Nat) : FieldEntry := ⟨o, x % 2 ^ f.width * 2 ^ f.lo, (2 ^ f.width - 1) * 2 ^ f.lo⟩

namespace Strand

/-- A value that the manager writes is kept in the strand's retained state, where the field's Reset is Cht or Ret, R9, R52. -/
def retainRun (st : Strand) (who : Requester) (o : Nat) (f : FieldDef) (x : Nat) : Strand :=
  if f.src = .lit ∨ who ≠ .manager then st
  else { st with nv := { st.nv with runtime := retainEntry st.nv.runtime (fieldEntry o f x) } }

/-- One bit or field of a W1C register is cleared. -/
def clearBits (st : Strand) (o : Nat) (f : FieldDef) : Strand := st.wr o ((f.fld o).intoWord (st.rd o) 0)

/-- A staged value for a Boundary field: the last one written, none where it is the value in effect, R12, R13. -/
def stage (st : Strand) (who : Requester) (o : Nat) (f : FieldDef) (x : Nat) : Strand :=
  let x := f.norm.apply x % 2 ^ f.width
  let rest := st.staged.filter fun y => !(y.off == o && y.lo == f.lo)
  let st := st.retainRun who o f x
  if (f.fld o).ofWord (st.rd o) = x then { st with staged := rest } else { st with staged := rest ++ [⟨o, f.lo, x⟩] }

/-- One field of a write, R7, R11 to R14. The Bool says that an S field was refused. -/
def writeField (st : Strand) (who : Requester) (o : Nat) (v : Word) (f : FieldDef) : Strand × Bool :=
  let x := (f.fld o).ofWord v
  match f.acc, f.cls with
  | .ro, _ => (st, false)
  | .wo, _ => (st, false)
  | .w1s, _ => (st, false)
  | .w1c, _ => (if x = 0 then st else st.clearBits o f, false)
  | .rw, .none => (st.wr o ((f.fld o).intoWord (st.rd o) x), false)
  | .rw, .s =>
    if (f.fld o).ofWord (st.rd o) = x then (st, false)
    else if st.mode = 1 then (st.wr o ((f.fld o).intoWord (st.rd o) x), false)
    else (st, true)
  | .rw, .b => (st.stage who o f x, false)
  | .rw, .l => ((st.wr o ((f.fld o).intoWord (st.rd o) x)).retainRun who o f x, false)

/-- The fields of a register, one after another. -/
def writeFields (st : Strand) (who : Requester) (o : Nat) (v : Word) : List FieldDef → Strand × Bool
  | [] => (st, false)
  | f :: r =>
    let (st, a) := st.writeField who o v f
    let (st, b) := writeFields st who o v r
    (st, a || b)

/-- What follows from new settings of a block: gating by the health counts, the queue's HOLD, entries that need no store. -/
def settle (st : Strand) (blk : Nat) : Strand :=
  match blk with
  | 2 => st.trimBuf
  | 8 => st.gateSync
  | 12 => st.oplSync
  | _ => st

/-- New settings of the mirror: with ENABLE 0 a pairing ends and none begins, R202; with no role recorded, ROLE shows HOME_ROLE from step 5
on, R205. -/
def settleMirror (st : Strand) (o : Nat) : Strand :=
  if o = 0x300000 ∧ ¬ st.flag R.MIR_CTL_ENABLE ∧ st.mir.step ≠ .down then
    ((st.put R.MIR_STATUS_LANES 0).put R.MIR_STATUS_LINKED 0).unpair .down
  else if o = 0x30000C ∧ st.jnl.s.role = none ∧ st.get R.CHT_START_STATUS_STEP ≥ 5 then
    st.put R.MIR_ROLE_ROLE (b2n (st.flag R.MIR_ROLE_HOME_ROLE))
  else st

/-- A write to a listed register that no rule of its own governs, R6, R7. -/
def writeReg (st : Strand) (who : Requester) (o : Nat) (v : Word) : Strand :=
  match RegMap.strandReg o with
  | none => st
  | some d =>
    let (st, refused) := st.writeFields who o v d.fields
    let st := st.wr o (BitVec.ofNat 32 (strandNormal o (st.rd o).toNat))
    let st := match recordInfo o with
      | some l => if bit v.toNat 0 then (o :: l).foldl (fun (st : Strand) x => st.wr x 0) st else st
      | none => st
    let st := if refused then (st.put R.CHT_STATUS_S_REFUSED 1).violation who o else st
    (st.settle (o / 0x100000)).settleMirror o

/-- The staged values of a block take effect, R12. -/
def applyStaged (st : Strand) (blk : Nat) : Strand :=
  let (now, rest) := st.staged.partition fun x => x.off / 0x100000 == blk
  let set : Strand → Staged → Strand := fun st x =>
    match fieldAt x.off x.lo with
    | some f =>
      let w := (f.fld x.off).intoWord (st.rd x.off) x.val
      st.wr x.off (BitVec.ofNat 32 (strandNormal x.off w.toNat))
    | none => st
  (now.foldl set { st with staged := rest }).settle blk

end Strand

namespace State

/-- The state that a meaning answers; the meanings of this block answer a next state. -/
def after (o : Host.Outcome State Fault Refusal) (s : State) : State :=
  match o with
  | .next t => t
  | _ => s

/-- AGT_CMD.OP, R572. The die and the world do nothing wrong while a register write asks for the command (log entry 28). -/
def agtCommand (s : State) (n : Fin 4) (who : Requester) (v : Word) : State :=
  match bits v.toNat 0 4 with
  | 1 => after (execAgtRead n who (bits v.toNat 4 6) [] s) s
  | 2 => after (execAgtProgram n who s) s
  | 3 => after (execAgtErase n who true s) s
  | 4 => after (execAgtReadHdr n who s) s
  | _ => s

/-- CHT_MODE_REQ, R74. -/
def modeReq (s : State) (n : Fin 4) (who : Requester) (v : Word) : State :=
  if bits v.toNat 24 8 ≠ 0xA5 then s
  else match bits v.toNat 0 3 with
    | 1 => after (execModeReqRestart n who s) s
    | 2 => after (execModeReqThaw n who true s) s
    | 4 => after (execModeReqFreeze n who s) s
    | _ => s

/-- SL_LINK_CTL of a link, R496. -/
def linkCtl (s : State) (who : Requester) (n : Fin 4) (k : Nat) (v : Word) : State :=
  let on := bits v.toNat 0 1
  let s := after (execSlLinkEnableWrite n k on s) s
  let s := s.up n fun st => st.retainRun who (0xB0100C + 32 * k) (fd 0 1 .l .rw .cht 1 .id) on
  if bit v.toNat 1 then after (execSlLinkCloseWrite n k s) s else s

/-- SNP_CMD, R622, R625. -/
def snpCommand (s : State) (n : Fin 4) (who : Requester) (v : Word) : State :=
  let s := if bit v.toNat 1 then after (execSnpRelease n who s) s else s
  if bit v.toNat 0 then after (execSnpTrigger n who s) s else s

/-- The Agate registers that Warden alone writes, R572. -/
def agtWindow (o : Nat) : Bool := (decide (0xF00008 ≤ o) && decide (o < 0xF00018)) || (decide (0xF00200 ≤ o) && decide (o < 0xF00400))

/-- A write in a strand window. A HALTED strand takes writes to CHT and JSP alone, beside SNP_CMD (R59; log entry 29). -/
def writeStrand (s : State) (who : Requester) (n : Fin 4) (o : Nat) (v : Word) : State :=
  let st := s.sd n
  let b := o / 0x100000
  if st.halted ∧ b ≠ 0 ∧ b ≠ 16 ∧ b ≠ 18 then s
  else if o = 4 then s.modeReq n who v
  else if o = 0x800028 then after (execQtzFailClrWrite n who v.toNat s) s
  else if 0xB01000 ≤ o ∧ o < 0xB01800 ∧ o % 32 = 0x0C then s.linkCtl who n ((o - 0xB01000) / 32) v
  else if agtWindow o then
    if ¬ wardenOf n who then s.up n fun st => st.violation who o
    else if o = 0xF00008 then s.agtCommand n who v
    else s.up n fun st => st.writeReg who o v
  else if o = 0x1000014 then after (execJspInjectWrite n who v.toNat s) s
  else if o = 0x1100808 then after (execHltSwapWrite n v.toNat s) s
  else if o = 0x1200004 then s.snpCommand n who v
  else s.up n fun st => st.writeReg who o v

/-! ### Writing a ring register -/

/-- The governing strand, R357. -/
def governing (s : State) : Fin 4 := strandNo (s.rget R.RNG_STATUS_RING_SRC)

/-- One field of a ring write: no ring field is of class B, and an S field asks for the governing strand in CHARTER, R357. -/
def ringField (s : State) (o : Nat) (v : Word) (f : FieldDef) : State × Bool :=
  let p := f.fld o
  let x := p.ofWord v
  match f.acc, f.cls with
  | .w1c, _ => (if x = 0 then s else s.rwr o (p.intoWord (s.rrd o) 0), false)
  | .rw, .none => (s.rwr o (p.intoWord (s.rrd o) x), false)
  | .rw, .s =>
    if p.ofWord (s.rrd o) = x then (s, false)
    else if (s.sd s.governing).mode = 1 then (s.rwr o (p.intoWord (s.rrd o) x), false)
    else (s, true)
  | .rw, _ =>
    let s := s.rwr o (p.intoWord (s.rrd o) x)
    (if f.src = .lit then s else s.upR fun r => { r with retainPend := retainEntry r.retainPend (fieldEntry o f x) }, false)
  | _, _ => (s, false)

/-- The fields of a ring register. -/
def ringFields (s : State) (o : Nat) (v : Word) : List FieldDef → State × Bool
  | [] => (s, false)
  | f :: r =>
    let (s, a) := s.ringField o v f
    let (s, b) := ringFields s o v r
    (s, a || b)

/-- A write to a listed ring register that no rule of its own governs; one that R357 refuses is recorded at its ring-window offset
(log entry 151). -/
def writeRingReg (s : State) (who : Requester) (o : Nat) (v : Word) : State :=
  match RegMap.ringReg o with
  | none => s
  | some d =>
    let (s, refused) := s.ringFields o v d.fields
    let s := s.rwr o (BitVec.ofNat 32 (ringNormal o (s.rrd o).toNat))
    let s := if bit v.toNat 0 then
        (if o = 0x50 then (s.rwr 0x50 0).rwr 0x54 0
         else if o = 0x100004 then (s.rwr 0x100004 0).rwr 0x100008 0
         else if o = 0x200038 then (s.rwr 0x200038 0).rwr 0x20003C 0
         else s)
      else s
    if refused then s.up s.governing fun st => (st.put R.CHT_STATUS_S_REFUSED 1).violation who o else s

/-- A queue-configuration write while the queue is not DISABLED is refused and recorded, R355, at its ring-window offset (log entry 151). -/
def queueConfig (s : State) (who : Requester) (q : Nat) (disabled : Bool) (o : Nat) (v : Word) : State :=
  if disabled then s.writeRingReg who o v else s.up (homeOf q) fun st => st.violation who o

/-- HQ_SQ_CFG, R344, R355: a write that clears MAPPED of an ENABLED queue unmaps it, and the queue is disabled (log entry 144). -/
def sqCfgWrite (s : State) (who : Requester) (q : Nat) (o : Nat) (v : Word) : State :=
  let k := s.sq q
  if k.state = .enabled ∧ s.rflag R.HQ_SQ_CFG_MAPPED q ∧ ¬ bit v.toNat 31 then
    (s.stopQueue k .disabling).rput R.HQ_SQ_CFG_MAPPED 0 q
  else s.queueConfig who q (k.state == .disabled) o v

/-- ENABLE and INVAL of a submission queue, R343, R344. -/
def sqControl (s : State) (who : Requester) (q : Nat) (v : Word) : State :=
  let s := if bit v.toNat 0 then after (execSqEnableWrite who q s) s else after (execSqDisableWrite who q s) s
  if bit v.toNat 1 then after (execSqInvalWrite who q s) s else s

/-- A write in the HQ block, R333, R357 to R366. -/
def writeHq (s : State) (who : Requester) (o : Nat) (v : Word) : State :=
  if 0x10000 ≤ o ∧ o < 0x30000 then
    let q := (o - 0x10000) / 32
    let k := s.sq q
    if o % 32 = 0x10 then s.sqControl who q v
    else if o % 32 = 0x14 then (if bit v.toNat 5 then s.setSq { k with dbErr := false } else s)
    else if o % 32 = 8 then s.sqCfgWrite who q o v
    else s.queueConfig who q (k.state == .disabled) o v
  else if 0x30000 ≤ o ∧ o < 0x50000 then
    let q := (o - 0x30000) / 32
    let c := s.cq q
    if o % 32 = 0x10 then after (execCqEnableWrite who q (bit v.toNat 0) (bit v.toNat 1) s) s
    else if o % 32 = 0x14 then
      (if bit v.toNat 1 ∨ bit v.toNat 3 then
        s.setCq { c with writeErr := c.writeErr && !bit v.toNat 1, dbErr := c.dbErr && !bit v.toNat 3 } else s)
    else if o % 32 = 0x18 ∨ o % 32 = 0x1C then s
    else s.queueConfig who q (!c.enabled) o v
  else s.writeRingReg who o v

/-- A write in the VF block: VF_WEIGHT of a function that is not ABSENT, and VF_ERR, R391, R392. -/
def writeVf (s : State) (who : Requester) (o : Nat) (v : Word) : State :=
  if 0x101000 ≤ o ∧ o < 0x101000 + 64 * 249 ∧ (o - 0x101000) % 64 = 0x14 then
    let f := (o - 0x101000) / 64
    if (s.fn f).st = .absent then s
    else
      let s := s.writeRingReg who o v
      let g := s.fn f
      let w := (s.rrd o).toNat
      let s := s.setPool f { g.pool with wTop := bits w 0 8, wJad := bits w 8 8, wBer := bits w 16 8 }
      if f = 0 then s.upR fun r => { r with retainPend := retainEntry r.retainPend ⟨o, w % 2 ^ 24, 0xFFFFFF⟩ } else s
  else s.writeRingReg who o v

/-- The strand whose Warden asks for TAG_KILL. -/
def killStrand : Requester → Fin 4
  | .core n _ _ => n
  | _ => 0

/-- A write in the TAG block, R532, R541, R546, R549, R552. -/
def writeTag (s : State) (who : Requester) (o : Nat) (v : Word) : State :=
  if s.ring.ident.tagFused ∨ ¬ tagUser who then s
  else if o = 0x20000C then
    match bits v.toNat 0 2 with
    | 1 => after (execTagHostRead who s true) s
    | 2 => after (execTagHostWrite who s) s
    | _ => s
  else if 0x200040 ≤ o ∧ o < 0x200060 then
    if ¬ s.tagHost who then s
    else s.upTag fun t => { t with staged := t.staged.take (o - 0x200040) ++ toLE 4 v.toNat ++ t.staged.drop (o - 0x200040 + 4) }
  else if o = 0x200060 then after (execTagSecretCommit who v.toNat s) s
  else if o = 0x200064 then after (execTagKill (killStrand who) who v.toNat true s) s
  else
    (s.writeRingReg who o v).fieldDet

/-- A write in the ring window, R427, R435. RNG accepts RNG_SNAP and the clearing of RING_DIFF, from the manager alone, R65, R66. -/
def writeRing (s : State) (who : Requester) (o : Nat) (v : Word) : State :=
  match o / 0x100000 with
  | 0 => s.writeHq who o v
  | 1 => s.writeVf who o v
  | 2 => s.writeTag who o v
  | _ => if o = 0x300040 then after (execRngSnapWrite who v.toNat s) s else s.writeRingReg who o v

/-! ### Function pages and the whole write -/

/-- A write in a function page, R332: doorbells, queue control, and the words of the MSI-X table. -/
def writePage (s : State) (who : Requester) (n : Fin 4) (o : Nat) (v : Word) : State :=
  if o < 0x2000 then
    match s.slotQueue who n (o / 8) with
    | some q =>
      if o % 8 = 0 then after (execSqDbWrite who q (bits v.toNat 0 16) s) s
      else if s.pageReaches who q (s.sqOwner q) then s.sqControl who q v
      else s
    | none => s
  else if o < 0x4000 then
    match s.slotQueue who n ((o - 0x2000) / 8) with
    | some q =>
      if o % 8 = 0 then after (execCqDbWrite who q (bits v.toNat 0 16) s) s
      else if s.pageReaches who q (s.rget R.HQ_CQ_CFG_OWNER q) then
        after (execCqEnableWrite who q (bit v.toNat 0) (bit v.toNat 1) s) s
      else s
    | none => s
  else if 0x8000 ≤ o ∧ o < 0x8000 + 16 * s.pageVectors who n then
    let f := pageFn who
    let g := s.fn f
    let k := (o - 0x8000) / 16
    let keep := fun (m : Msix) => s.setFn { g with msix := g.msix.filter (·.vec != k) ++ [m] }
    if o % 16 = 0 then keep { msixOf g k with msgAddr := v }
    else if o % 16 = 4 then keep { msixOf g k with msgAddrHi := v }
    else if o % 16 = 8 then keep { msixOf g k with msgData := v }
    else if bit v.toNat 0 then s.setFn { g with msix := g.msix.filter (·.vec != k) ++ [{ msixOf g k with masked := true }] }
    else after (execMsixVectorUnmask f k s) s
  else s

/-- A register write, by the place that its address names. -/
def regWrite (s : State) (who : Requester) (a : Nat) (v : Word) : State :=
  if ¬ s.ring.power then s
  else match Place.of who a with
    | .strand n off =>
      if ¬ reaches who n off then s.refuseAccess who a 4 (reachCause who n) true
      else { s with resp := .none }.writeStrand who n off v
    | .ring off =>
      (match who with
      | .core n _ _ => if coreRingWrite n off then { s with resp := .none }.writeRing who off v else s.refuseAccess who a 4 6 true
      | _ => { s with resp := .none }.writeRing who off v)
    | .page n off => { s with resp := .none }.writePage who n off v
    | _ => s.refuseAccess who a 4 4 true

end State

/-! ### The commands -/

/-- An access of the requester is answered with an error, R438: a core takes vector 3 with detail 2. -/
def State.errorResponse (s : State) (who : Requester) (a : Nat) : State :=
  let s := { s with resp := .error }
  match who with
  | .core n c _ => if ((s.sd n).core (strandNo c)).running then s.fault n (strandNo c) 3 2 (BitVec.ofNat 32 a) else s
  | _ => s

/-- A register access crosses the strand data fabric, R437: a corrected beat is counted, a beat that cannot be corrected is discarded, and a
register read whose parity is wrong gives no value. The parity is that of the registers that are not stored twice. -/
def State.crossing (s : State) (who : Requester) (a : Nat) (bus : BusEnv) (isRead : Bool) (work : State → State) : State :=
  match Place.of who a with
  | .strand n off =>
    if ¬ s.ring.power then work s
    else if bus.discarded then (s.up n fun st => st.bump R.MPU_BUS_UE).errorResponse who a
    else
      let s := if bus.corrected then s.up n fun st => st.bump R.MPU_BUS_CE else s
      if isRead ∧ !bus.parityOk ∧ !duplicated off ∧ reaches who n off then (s.up n fun st => st.bump R.MPU_BUS_UE).errorResponse who a
      else work s
  | _ => work s

/-- REGISTER_WRITE, R5 to R14, R429 to R437: a write of a word at an aligned address; any other is misaligned. -/
def execRegisterWrite (who : Requester) (addr : Nat) (v : Word) (s : State) (bus : BusEnv := {}) : Host.Outcome State Fault Refusal :=
  if addr % 4 = 0 then .next (s.crossing who addr bus false fun s => s.regWrite who addr v)
  else execMisalignedRegisterAccess who addr 4 true s

/-- LO_REGISTER_READ, R122, R437: a register read; of a _LO register it latches the _HI register behind it. -/
def execLoRegisterRead (who : Requester) (addr : Nat) (s : State) (bus : BusEnv := {}) : Host.Outcome State Fault Refusal :=
  if addr % 4 = 0 then .next (s.crossing who addr bus true fun s => s.regRead who addr)
  else execMisalignedRegisterAccess who addr 4 false s

/-- STAGED_VALUE_APPLY, R12, R618 to R620: a unit boundary of a block, or 1 µs without a unit. -/
def execStagedValueApply (n : Fin 4) (blk : Nat) (s : State) : Host.Outcome State Fault Refusal :=
  .next (if (s.sd n).halted ∨ (s.sd n).mode = 0 then s else s.up n fun st => st.applyStaged blk)

/-- MPU_REGION_WRITE, R434, R444, R448: Warden writes BASE, LIMIT or ATTR (`part` 0, 1, 2) of a region of a core; every later access
is checked under the new value, of other cores too (log entry 30). -/
def execMpuRegionWrite (n : Fin 4) (who : Requester) (core : Fin 4) (region : Fin 32) (part : Fin 3) (v : Word) (s : State) :
    Host.Outcome State Fault Refusal :=
  .next (if wardenOf n who then
    s.regWrite who (0x20000000 + 0xA01000 + 16 * (32 * core.val + region.val) + 4 * part.val) v
  else s.refuseAccess who (0x40000000 + n.val * 0x4000000 + 0xA01000 + 16 * (32 * core.val + region.val) + 4 * part.val) 4 9 true)

end Sys2Proof.Machine
end

