-- ==== Sys2Proof/Machine/Garnet.lean ====
section
/-! DEFINITION. The Garnet instructions, R396 to R413. Each command is one instruction of a logical core, with the fields of its
word; what stands in memory at the core's pc is not compared with it (log entry 31). -/

namespace Sys2Proof.Machine
open Sys2Proof

/-! ### Shared steps -/

namespace State

/-- A logical core of a strand. -/
def core (s : State) (n c : Fin 4) : Core := (s.sd n).core c

/-- Change a logical core. -/
def upCore (s : State) (n c : Fin 4) (f : Core → Core) : State := s.up n fun st => st.setCore c (f (st.core c))

/-- An instruction ends on a core, where something may upset the core (log entry 145). -/
def ended (s : State) (n c : Fin 4) (f : Core → Core) : State :=
  s.upCore n c fun x => { f x with upsets := (f x).struck (Config.upset n.val c.val s.now) }

/-- The present instruction retires with a change of the core, and the pc moves past it. -/
def retire (s : State) (n c : Fin 4) (f : Core → Core) : State := s.ended n c fun x => (f x).next

/-- An error response on an access of a core: vector 3 with detail 2, R413, R438. -/
def busError (s : State) (n c : Fin 4) (a : Nat) : State := s.fault n c 3 2 (BitVec.ofNat 32 a)

/-- An access of a core to work SRAM fails: vector 3 with a detail of R413; the uncorrectable word is counted, R437. -/
def sramError (s : State) (n c : Fin 4) (detail a : Nat) : State :=
  (s.up n fun st => st.bump R.MPU_SRAM_UE).fault n c 3 detail (BitVec.ofNat 32 a)

/-- Read general registers of the current bank: a wrong parity raises vector 3 with detail 3, R413. -/
def reading (s : State) (n c : Fin 4) (l : List (Fin 32)) (work : State → State) : State :=
  let x := s.core n c
  if l.any (x.parityBad x.bank) then s.faultOpen n c 3 3 else work s

/-- One instruction: a core that runs and does not wait fetches at its pc, R416, R433, R441; then the instruction works. -/
def instr (s : State) (n c : Fin 4) (work : Core → State → State) : State :=
  let st := s.sd n
  let x := st.core c
  let a := x.pc.toNat
  if ¬ x.running ∨ x.waiting ∨ st.halted then s
  else match st.mpuCheck c x.priv 0 a 4 with
    | some (cause, r) => s.mpuFault n c x.priv 0 cause r a 4
    | none =>
      match st.cacheRead c false (st.cacheable c a) a 4 with
      | (st, 0) => work x (s.setSd n st)
      | (st, d) => (s.setSd n st).sramError n c d a

/-- A REG instruction on two registers; rc must be zero, R401. -/
def regOp (s : State) (n c : Fin 4) (rd ra rb rc : Fin 32) (f : Word → Word → Word) : State :=
  s.instr n c fun _ s =>
    if rc ≠ 0 then s.faultOpen n c 4 3 else s.reading n c [ra, rb] fun s => s.retire n c fun x => x.setG rd (f (x.g ra) (x.g rb))

/-- A REG shift by the five bits of the rb field; rc must be zero, R401. -/
def shiftOp (s : State) (n c : Fin 4) (rd ra sh rc : Fin 32) (f : Word → Nat → Word) : State :=
  s.instr n c fun _ s =>
    if rc ≠ 0 then s.faultOpen n c 4 3 else s.reading n c [ra] fun s => s.retire n c fun x => x.setG rd (f (x.g ra) sh.val)

/-- An IMM instruction on a register and an extended immediate. -/
def immOp (s : State) (n c : Fin 4) (rd ra : Fin 32) (i : Word) (f : Word → Word → Word) : State :=
  s.instr n c fun _ s => s.reading n c [ra] fun s => s.retire n c fun x => x.setG rd (f (x.g ra) i)

/-- A FLD instruction: lsb + width must not exceed 32, R401; `rs` are the registers that it reads. -/
def fieldOp (s : State) (n c : Fin 4) (rd ra lsb wm1 : Fin 32) (rs : List (Fin 32)) (f : Word → Word → Nat → Nat → Word) : State :=
  s.instr n c fun _ s =>
    if lsb.val + wm1.val + 1 > 32 then s.faultOpen n c 4 3
    else s.reading n c rs fun s => s.retire n c fun x => x.setG rd (f (x.g rd) (x.g ra) lsb.val (wm1.val + 1))

/-- Continue at a target; the instruction retires. -/
def goTo (s : State) (n c : Fin 4) (t : Word) (f : Core → Core) : State := s.ended n c fun x => { f x with pc := t }

/-- A load of `size` bytes: alignment, R403; the MPU, R441; then work SRAM or a register. -/
def load (s : State) (n c : Fin 4) (a size : Nat) (f : Core → Nat → Core) : State :=
  let st := s.sd n
  let x := st.core c
  if a % size ≠ 0 then s.fault n c 7 1 (BitVec.ofNat 32 a)
  else match st.mpuCheck c x.priv 1 a size with
    | some (cause, r) => s.mpuFault n c x.priv 1 cause r a size
    | none =>
      if Strand.inSram a then
        match st.cacheRead c true (st.cacheable c a) a size with
        | (st, 0) => (s.setSd n st).retire n c fun x => f x (leNat (Mem.readBytes st.sram a size))
        | (st, d) => (s.setSd n st).sramError n c d a
      else
        let s := s.regRead (.core n c.val x.priv) a
        match s.resp with
        | .word w => s.retire n c fun x => f x w.toNat
        | _ => s.busError n c a

/-- A store of bytes: alignment, the MPU, then work SRAM, or a register with a word. -/
def store (s : State) (n c : Fin 4) (a : Nat) (b : Bytes) : State :=
  let st := s.sd n
  let x := st.core c
  let size := b.length
  if a % size ≠ 0 then s.fault n c 7 2 (BitVec.ofNat 32 a)
  else match st.mpuCheck c x.priv 2 a size with
    | some (cause, r) => s.mpuFault n c x.priv 2 cause r a size
    | none =>
      let s := s.retire n c fun x => x
      if Strand.inSram a then s.up n fun st =>
        let own := (st.core c).dlines
        let st := st.sramWrite a b
        st.setCore c { st.core c with dlines := own }
      else s.regWrite (.core n c.val x.priv) a (BitVec.ofNat 32 (leNat b))

/-- An instruction that P2 and P3 may not execute: vector 5 with detail 1, R396. -/
def supervisor (s : State) (n c : Fin 4) (work : Core → State → State) : State :=
  s.instr n c fun x s => if x.priv > 1 then s.faultOpen n c 5 1 else work x s

/-- Whether a register pair may be named: even, and not g0, R401. -/
def pairOk (rd : Fin 32) : Bool := rd.val % 2 == 0 && rd != 0

/-- The register after one, in the pair. -/
def pairNext (rd : Fin 32) : Fin 32 := ⟨(rd.val + 1) % 32, Nat.mod_lt _ (by decide)⟩

end State

/-! ### REG -/

/-- ADD. -/
def execGAdd (n c : Fin 4) (rd ra rb rc : Fin 32) (s : State) : Host.Outcome State Fault Refusal := .next (s.regOp n c rd ra rb rc (· + ·))

/-- SUB. -/
def execGSub (n c : Fin 4) (rd ra rb rc : Fin 32) (s : State) : Host.Outcome State Fault Refusal := .next (s.regOp n c rd ra rb rc (· - ·))

/-- AND. -/
def execGAnd (n c : Fin 4) (rd ra rb rc : Fin 32) (s : State) : Host.Outcome State Fault Refusal := .next (s.regOp n c rd ra rb rc (· &&& ·))

/-- OR. -/
def execGOr (n c : Fin 4) (rd ra rb rc : Fin 32) (s : State) : Host.Outcome State Fault Refusal := .next (s.regOp n c rd ra rb rc (· ||| ·))

/-- XOR. -/
def execGXor (n c : Fin 4) (rd ra rb rc : Fin 32) (s : State) : Host.Outcome State Fault Refusal := .next (s.regOp n c rd ra rb rc (· ^^^ ·))

/-- SLL: by rb [4:0]. -/
def execGSll (n c : Fin 4) (rd ra rb rc : Fin 32) (s : State) : Host.Outcome State Fault Refusal :=
  .next (s.regOp n c rd ra rb rc fun a b => a <<< (b.toNat % 32))

/-- SRL. -/
def execGSrl (n c : Fin 4) (rd ra rb rc : Fin 32) (s : State) : Host.Outcome State Fault Refusal :=
  .next (s.regOp n c rd ra rb rc fun a b => a >>> (b.toNat % 32))

/-- SRA. -/
def execGSra (n c : Fin 4) (rd ra rb rc : Fin 32) (s : State) : Host.Outcome State Fault Refusal :=
  .next (s.regOp n c rd ra rb rc fun a b => a.sshiftRight (b.toNat % 32))

/-- ROTR. -/
def execGRotr (n c : Fin 4) (rd ra rb rc : Fin 32) (s : State) : Host.Outcome State Fault Refusal :=
  .next (s.regOp n c rd ra rb rc Garnet.rotr)

/-- SLLI: by the rb field. -/
def execGSlli (n c : Fin 4) (rd ra sh rc : Fin 32) (s : State) : Host.Outcome State Fault Refusal :=
  .next (s.shiftOp n c rd ra sh rc fun a k => a <<< k)

/-- SRLI. -/
def execGSrli (n c : Fin 4) (rd ra sh rc : Fin 32) (s : State) : Host.Outcome State Fault Refusal :=
  .next (s.shiftOp n c rd ra sh rc fun a k => a >>> k)

/-- SRAI. -/
def execGSrai (n c : Fin 4) (rd ra sh rc : Fin 32) (s : State) : Host.Outcome State Fault Refusal :=
  .next (s.shiftOp n c rd ra sh rc fun a k => a.sshiftRight k)

/-- SEQ. -/
def execGSeq (n c : Fin 4) (rd ra rb rc : Fin 32) (s : State) : Host.Outcome State Fault Refusal :=
  .next (s.regOp n c rd ra rb rc fun a b => Garnet.word (a == b))

/-- SNE. -/
def execGSne (n c : Fin 4) (rd ra rb rc : Fin 32) (s : State) : Host.Outcome State Fault Refusal :=
  .next (s.regOp n c rd ra rb rc fun a b => Garnet.word (a != b))

/-- SLT: signed. -/
def execGSlt (n c : Fin 4) (rd ra rb rc : Fin 32) (s : State) : Host.Outcome State Fault Refusal :=
  .next (s.regOp n c rd ra rb rc fun a b => Garnet.word (a.slt b))

/-- SLTU: unsigned. -/
def execGSltu (n c : Fin 4) (rd ra rb rc : Fin 32) (s : State) : Host.Outcome State Fault Refusal :=
  .next (s.regOp n c rd ra rb rc fun a b => Garnet.word (a.ult b))

/-- CSEL: ra where rc is not zero, else rb. -/
def execGCsel (n c : Fin 4) (rd ra rb rc : Fin 32) (s : State) : Host.Outcome State Fault Refusal :=
  .next (s.instr n c fun _ s => s.reading n c [ra, rb, rc] fun s => s.retire n c fun x => x.setG rd (if x.g rc ≠ 0 then x.g ra else x.g rb))

/-- MUL: the low half. -/
def execGMul (n c : Fin 4) (rd ra rb rc : Fin 32) (s : State) : Host.Outcome State Fault Refusal := .next (s.regOp n c rd ra rb rc (· * ·))

/-- MULH. -/
def execGMulh (n c : Fin 4) (rd ra rb rc : Fin 32) (s : State) : Host.Outcome State Fault Refusal :=
  .next (s.regOp n c rd ra rb rc Garnet.mulh)

/-- MULHU. -/
def execGMulhu (n c : Fin 4) (rd ra rb rc : Fin 32) (s : State) : Host.Outcome State Fault Refusal :=
  .next (s.regOp n c rd ra rb rc Garnet.mulhu)

/-- DIVU: a divisor of zero gives all ones, without trap. -/
def execGDivu (n c : Fin 4) (rd ra rb rc : Fin 32) (s : State) : Host.Outcome State Fault Refusal :=
  .next (s.regOp n c rd ra rb rc Garnet.divu)

/-- REMU: a divisor of zero gives ra, without trap. -/
def execGRemu (n c : Fin 4) (rd ra rb rc : Fin 32) (s : State) : Host.Outcome State Fault Refusal :=
  .next (s.regOp n c rd ra rb rc Garnet.remu)

/-- CLZ: rb and rc must be zero, R401. -/
def execGClz (n c : Fin 4) (rd ra rb rc : Fin 32) (s : State) : Host.Outcome State Fault Refusal :=
  .next (s.instr n c fun _ s =>
    if rb ≠ 0 ∨ rc ≠ 0 then s.faultOpen n c 4 3 else s.reading n c [ra] fun s => s.retire n c fun x => x.setG rd (Garnet.clz (x.g ra)))

/-- PERM. -/
def execGPerm (n c : Fin 4) (rd ra rb rc : Fin 32) (s : State) : Host.Outcome State Fault Refusal :=
  .next (s.instr n c fun _ s => s.reading n c [ra, rb, rc] fun s => s.retire n c fun x => x.setG rd (Garnet.perm (x.g ra) (x.g rb) (x.g rc)))

/-! ### FLD and IMM -/

/-- BFX; the width field holds width − 1. -/
def execGBfx (n c : Fin 4) (rd ra lsb wm1 : Fin 32) (s : State) : Host.Outcome State Fault Refusal :=
  .next (s.fieldOp n c rd ra lsb wm1 [ra] fun _ a l w => Garnet.bfx a l w)

/-- BFXS. -/
def execGBfxs (n c : Fin 4) (rd ra lsb wm1 : Fin 32) (s : State) : Host.Outcome State Fault Refusal :=
  .next (s.fieldOp n c rd ra lsb wm1 [ra] fun _ a l w => Garnet.bfxs a l w)

/-- BFI. -/
def execGBfi (n c : Fin 4) (rd ra lsb wm1 : Fin 32) (s : State) : Host.Outcome State Fault Refusal :=
  .next (s.fieldOp n c rd ra lsb wm1 [rd, ra] Garnet.bfi)

/-- ADDI. -/
def execGAddi (n c : Fin 4) (rd ra : Fin 32) (i : BitVec 16) (s : State) : Host.Outcome State Fault Refusal :=
  .next (s.immOp n c rd ra (Garnet.simm i) (· + ·))

/-- ANDI. -/
def execGAndi (n c : Fin 4) (rd ra : Fin 32) (i : BitVec 16) (s : State) : Host.Outcome State Fault Refusal :=
  .next (s.immOp n c rd ra (Garnet.uimm i) (· &&& ·))

/-- ORI. -/
def execGOri (n c : Fin 4) (rd ra : Fin 32) (i : BitVec 16) (s : State) : Host.Outcome State Fault Refusal :=
  .next (s.immOp n c rd ra (Garnet.uimm i) (· ||| ·))

/-- XORI. -/
def execGXori (n c : Fin 4) (rd ra : Fin 32) (i : BitVec 16) (s : State) : Host.Outcome State Fault Refusal :=
  .next (s.immOp n c rd ra (Garnet.uimm i) (· ^^^ ·))

/-- SEQI. -/
def execGSeqi (n c : Fin 4) (rd ra : Fin 32) (i : BitVec 16) (s : State) : Host.Outcome State Fault Refusal :=
  .next (s.immOp n c rd ra (Garnet.simm i) fun a b => Garnet.word (a == b))

/-- SLTI. -/
def execGSlti (n c : Fin 4) (rd ra : Fin 32) (i : BitVec 16) (s : State) : Host.Outcome State Fault Refusal :=
  .next (s.immOp n c rd ra (Garnet.simm i) fun a b => Garnet.word (a.slt b))

/-- SLTIU. -/
def execGSltiu (n c : Fin 4) (rd ra : Fin 32) (i : BitVec 16) (s : State) : Host.Outcome State Fault Refusal :=
  .next (s.immOp n c rd ra (Garnet.simm i) fun a b => Garnet.word (a.ult b))

/-- LUI: ra must be zero, R401. -/
def execGLui (n c : Fin 4) (rd ra : Fin 32) (i : BitVec 16) (s : State) : Host.Outcome State Fault Refusal :=
  .next (s.instr n c fun _ s => if ra ≠ 0 then s.faultOpen n c 4 3 else s.retire n c fun x => x.setG rd (Garnet.uimm i <<< 16))

/-- JALR: the target before rd is written; a target that is not aligned raises vector 7 with detail 3, R403. -/
def execGJalr (n c : Fin 4) (rd ra : Fin 32) (i : BitVec 16) (s : State) : Host.Outcome State Fault Refusal :=
  .next (s.instr n c fun x s => s.reading n c [ra] fun s =>
    let t := Garnet.ea (x.g ra) i
    if t.toNat % 4 ≠ 0 then s.fault n c 7 3 t else s.goTo n c t fun y => y.setG rd (x.pc + 4))

/-! ### Loads and stores -/

/-- LW. -/
def execGLw (n c : Fin 4) (rd ra : Fin 32) (i : BitVec 16) (s : State) : Host.Outcome State Fault Refusal :=
  .next (s.instr n c fun x s => s.reading n c [ra] fun s => s.load n c (Garnet.ea (x.g ra) i).toNat 4 fun y v => y.setG rd (BitVec.ofNat 32 v))

/-- LH. -/
def execGLh (n c : Fin 4) (rd ra : Fin 32) (i : BitVec 16) (s : State) : Host.Outcome State Fault Refusal :=
  .next (s.instr n c fun x s => s.reading n c [ra] fun s => s.load n c (Garnet.ea (x.g ra) i).toNat 2 fun y v => y.setG rd (Garnet.sextBytes 2 v))

/-- LHU. -/
def execGLhu (n c : Fin 4) (rd ra : Fin 32) (i : BitVec 16) (s : State) : Host.Outcome State Fault Refusal :=
  .next (s.instr n c fun x s => s.reading n c [ra] fun s => s.load n c (Garnet.ea (x.g ra) i).toNat 2 fun y v => y.setG rd (BitVec.ofNat 32 v))

/-- LB. -/
def execGLb (n c : Fin 4) (rd ra : Fin 32) (i : BitVec 16) (s : State) : Host.Outcome State Fault Refusal :=
  .next (s.instr n c fun x s => s.reading n c [ra] fun s => s.load n c (Garnet.ea (x.g ra) i).toNat 1 fun y v => y.setG rd (Garnet.sextBytes 1 v))

/-- LBU. -/
def execGLbu (n c : Fin 4) (rd ra : Fin 32) (i : BitVec 16) (s : State) : Host.Outcome State Fault Refusal :=
  .next (s.instr n c fun x s => s.reading n c [ra] fun s => s.load n c (Garnet.ea (x.g ra) i).toNat 1 fun y v => y.setG rd (BitVec.ofNat 32 v))

/-- LDP: one 8-byte access into rd and rd + 1. -/
def execGLdp (n c : Fin 4) (rd ra : Fin 32) (i : BitVec 16) (s : State) : Host.Outcome State Fault Refusal :=
  .next (s.instr n c fun x s =>
    if ¬ State.pairOk rd then s.faultOpen n c 4 3
    else s.reading n c [ra] fun s => s.load n c (Garnet.ea (x.g ra) i).toNat 8 fun y v =>
      (y.setG rd (BitVec.ofNat 32 v)).setG (State.pairNext rd) (BitVec.ofNat 32 (v / 2 ^ 32)))

/-- SW. -/
def execGSw (n c : Fin 4) (rd ra : Fin 32) (i : BitVec 16) (s : State) : Host.Outcome State Fault Refusal :=
  .next (s.instr n c fun x s => s.reading n c [ra, rd] fun s => s.store n c (Garnet.ea (x.g ra) i).toNat (toLE 4 (x.g rd).toNat))

/-- SH. -/
def execGSh (n c : Fin 4) (rd ra : Fin 32) (i : BitVec 16) (s : State) : Host.Outcome State Fault Refusal :=
  .next (s.instr n c fun x s => s.reading n c [ra, rd] fun s => s.store n c (Garnet.ea (x.g ra) i).toNat (toLE 2 (x.g rd).toNat))

/-- SB. -/
def execGSb (n c : Fin 4) (rd ra : Fin 32) (i : BitVec 16) (s : State) : Host.Outcome State Fault Refusal :=
  .next (s.instr n c fun x s => s.reading n c [ra, rd] fun s => s.store n c (Garnet.ea (x.g ra) i).toNat (toLE 1 (x.g rd).toNat))

/-- SDP: one 8-byte access. -/
def execGSdp (n c : Fin 4) (rd ra : Fin 32) (i : BitVec 16) (s : State) : Host.Outcome State Fault Refusal :=
  .next (s.instr n c fun x s =>
    if ¬ State.pairOk rd then s.faultOpen n c 4 3
    else s.reading n c [ra, rd, State.pairNext rd] fun s => s.store n c (Garnet.ea (x.g ra) i).toNat (toLE 4 (x.g rd).toNat ++ toLE 4 (x.g (State.pairNext rd)).toNat))

/-! ### Branches and jumps -/

/-- BZ. -/
def execGBz (n c : Fin 4) (rt : Fin 32) (d : BitVec 21) (s : State) : Host.Outcome State Fault Refusal :=
  .next (s.instr n c fun x s => s.reading n c [rt] fun s => if x.g rt = 0 then s.goTo n c (Garnet.branch x.pc d) fun y => y else s.retire n c fun y => y)

/-- BNZ. -/
def execGBnz (n c : Fin 4) (rt : Fin 32) (d : BitVec 21) (s : State) : Host.Outcome State Fault Refusal :=
  .next (s.instr n c fun x s => s.reading n c [rt] fun s => if x.g rt = 0 then s.retire n c fun y => y else s.goTo n c (Garnet.branch x.pc d) fun y => y)

/-- J. -/
def execGJ (n c : Fin 4) (d : BitVec 26) (s : State) : Host.Outcome State Fault Refusal :=
  .next (s.instr n c fun x s => s.goTo n c (Garnet.jump x.pc d) fun y => y)

/-- JAL: g31 takes the address after it. -/
def execGJal (n c : Fin 4) (d : BitVec 26) (s : State) : Host.Outcome State Fault Refusal :=
  .next (s.instr n c fun x s => s.goTo n c (Garnet.jump x.pc d) fun y => y.setG 31 (x.pc + 4))

/-! ### SYS -/

/-- SYSCALL: vector 9, EADDR the operand, EPC the instruction after it, R409. -/
def execGSyscall (n c : Fin 4) (k : BitVec 12) (s : State) : Host.Outcome State Fault Refusal :=
  .next (s.instr n c fun x s => s.raise n c 9 0 (k.zeroExtend 32) (x.pc + 4))

/-- BREAK: vector 10. -/
def execGBreak (n c : Fin 4) (k : BitVec 12) (s : State) : Host.Outcome State Fault Refusal :=
  .next (s.instr n c fun x s => s.raise n c 10 0 (k.zeroExtend 32) (x.pc + 4))

/-- ERET, R410 (into bank B1: log entry 153). -/
def execGEret (n c : Fin 4) (s : State) : Host.Outcome State Fault Refusal :=
  .next (s.supervisor n c fun _ s => s.eret n c)

namespace Strand

/-- The vectors pending and enabled on a core, as bits, R408. -/
def wanted (st : Strand) (c : Fin 4) : Nat := st.ipend[c] &&& (st.core c).imask

/-- The lowest vector pending and enabled, 16 to 63. -/
def firstVector (st : Strand) (c : Fin 4) : Option Nat := (List.range 48).find? (fun k => bit (st.wanted c) (16 + k)) |>.map (16 + ·)

/-- Whether a wait ends: an interrupt pending and enabled, even while IE is 0, or an NMI. -/
def wakes (st : Strand) (c : Fin 4) : Bool := (st.firstVector c).isSome || st.nmi[c]

end Strand

/-- WFI: in bank B0 alone; it waits with the pc past it, R408. -/
def execGWfi (n c : Fin 4) (s : State) : Host.Outcome State Fault Refusal :=
  .next (s.supervisor n c fun x s =>
    if x.bank ≠ 0 then s.faultOpen n c 4 3
    else s.retire n c fun y => { y with waiting := !(s.sd n).wakes c })

/-- The control registers that have a number of their own, R397. -/
def crListed (k : Nat) : Bool :=
  [0, 1, 2, 4, 5, 6, 7, 8, 0xA, 0xB, 0xC].contains k
    || ([1, 2, 3, 4].contains (k % 16) && decide (1 ≤ k / 16) && decide (k / 16 ≤ 3))

/-- The lowest level that may read a control register; 4 for none may, R397. -/
def crReadable (k priv : Nat) : Bool :=
  if k = 8 then false else if [0, 1, 0xA, 0xB].contains k then true else decide (priv ≤ 1)

/-- Who may write a control register, R397. -/
def crWritable (k priv : Nat) : Bool :=
  match k with
  | 1 | 4 | 5 | 6 | 7 | 8 | 0xC => decide (priv ≤ 1)
  | 2 => priv == 0
  | 0x11 => decide (priv ≤ 1)
  | 0x21 | 0x31 | 0x12 | 0x22 | 0x32 => priv == 0
  | _ => false

/-- The bank of EPCk, ESRk, ECAUSEk or EADDRk. -/
def crBank (k : Nat) : Fin 4 := strandNo (k / 16)

/-- The value of a control register, R397. -/
def Strand.crValue (st : Strand) (t : Nat) (c : Fin 4) (k : Nat) : Word :=
  let x := st.core c
  let b := crBank k
  match k with
  | 0 => BitVec.ofNat 32 (c.val + 16 * st.phys c.val + 2 ^ 16 * (st.get R.GAR_ID_MINOR + 256 * st.get R.GAR_ID_MAJOR))
  | 1 => x.status
  | 2 => x.vdt
  | 4 => BitVec.ofNat 32 (x.imask / 2 ^ 16)
  | 5 => BitVec.ofNat 32 (x.imask / 2 ^ 48 % 2 ^ 16)
  | 6 => BitVec.ofNat 32 (st.ipend[c] / 2 ^ 16)
  | 7 => BitVec.ofNat 32 (st.ipend[c] / 2 ^ 48 % 2 ^ 16)
  | 0xA => BitVec.ofNat 32 (st.cycles t c)
  | 0xB => x.cycHi
  | 0xC => x.timer
  | _ =>
    match k % 16 with
    | 1 => x.epc[b]
    | 2 => x.esr[b]
    | 3 => x.ecause[b]
    | _ => x.eaddr[b]

/-- MFCR, R397: a read of CYCLE_LO latches CYCLE_HI. -/
def execGMfcr (n c : Fin 4) (rd : Fin 32) (k : BitVec 12) (s : State) : Host.Outcome State Fault Refusal :=
  .next (s.instr n c fun x s =>
    if ¬ crListed k.toNat then s.faultOpen n c 4 2
    else if ¬ crReadable k.toNat x.priv then s.faultOpen n c 5 2
    else
      let st := s.sd n
      let v := st.crValue s.now c k.toNat
      s.retire n c fun y =>
        { y with cycHi := if k = 0xA then BitVec.ofNat 32 (st.cycles s.now c / 2 ^ 32) else y.cycHi }.setG rd v)

/-- Write a control register, R397: IMASK and IPEND hold vectors 16 to 63; a 1 in IPEND0 clears vector 17, the one that software
raises there; a 1 in IPEND1 raises its vector; ICMSG raises vector 17 on another core. EPC keeps the pc's alignment (log entry 32). -/
def Strand.crWrite (st : Strand) (c : Fin 4) (k : Nat) (v : Word) : Strand :=
  let x := st.core c
  let b := crBank k
  match k with
  | 1 => st.setCore c { x with ie := bit v.toNat 4 }
  | 2 => st.setCore c { x with vdt := v &&& 0xFFFFFC00 }
  | 4 => st.setCore c { x with imask := x.imask / 2 ^ 48 % 2 ^ 16 * 2 ^ 48 + v.toNat * 2 ^ 16 }
  | 5 => st.setCore c { x with imask := x.imask / 2 ^ 16 % 2 ^ 32 * 2 ^ 16 + v.toNat % 2 ^ 16 * 2 ^ 48 }
  | 6 => if bit v.toNat 1 then { st with ipend := st.ipend.set c (st.ipend[c] &&& (2 ^ 64 - 1 - 2 ^ 17)) } else st
  | 7 => { st with ipend := st.ipend.set c (st.ipend[c] ||| v.toNat % 2 ^ 16 * 2 ^ 48) }
  | 8 => st.vector 17 (v.toNat % 4)
  | 0xC => st.setCore c { x with timer := v }
  | _ =>
    match k % 16 with
    | 1 => st.setCore c { x with epc := x.epc.set b (v &&& 0xFFFFFFFC) }
    | _ => st.setCore c { x with esr := x.esr.set b (v &&& 0x3F) }

/-- MTCR, R397. -/
def execGMtcr (n c : Fin 4) (ra : Fin 32) (k : BitVec 12) (s : State) : Host.Outcome State Fault Refusal :=
  .next (s.instr n c fun x s =>
    if ¬ crListed k.toNat then s.faultOpen n c 4 2
    else if ¬ crWritable k.toNat x.priv then s.faultOpen n c 5 2
    else s.reading n c [ra] fun s => (s.up n fun st => st.crWrite c k.toNat (x.g ra)).retire n c fun y => y)

/-- FENCE, R404: on a core that observes its accesses in order, every access is complete when the instruction retires. -/
def execGFence (n c : Fin 4) (s : State) : Host.Outcome State Fault Refusal := .next (s.instr n c fun _ s => s.retire n c fun y => y)

/-- CACHE 0: the whole instruction cache, at P0, R417. -/
def execGCacheInvalIcache (n c : Fin 4) (s : State) : Host.Outcome State Fault Refusal :=
  .next (s.instr n c fun x s => if x.priv ≠ 0 then s.faultOpen n c 5 1 else s.retire n c fun y => { y with ilines := [] })

/-- CACHE 1: the instruction line holding address ra, at P0 and P1. -/
def execGCacheInvalIline (n c : Fin 4) (ra : Fin 32) (s : State) : Host.Outcome State Fault Refusal :=
  .next (s.supervisor n c fun x s => s.reading n c [ra] fun s => s.retire n c fun y => y.dropLine false ((x.g ra).toNat / 32))

/-- CACHE 2: the data line holding address ra, at P0 and P1. -/
def execGCacheInvalDline (n c : Fin 4) (ra : Fin 32) (s : State) : Host.Outcome State Fault Refusal :=
  .next (s.supervisor n c fun x s => s.reading n c [ra] fun s => s.retire n c fun y => y.dropLine true ((x.g ra).toNat / 32))

/-- CACHE 3: the whole data cache, at P0. -/
def execGCacheInvalDcache (n c : Fin 4) (s : State) : Host.Outcome State Fault Refusal :=
  .next (s.instr n c fun x s => if x.priv ≠ 0 then s.faultOpen n c 5 1 else s.retire n c fun y => { y with dlines := [] })

/-- The bank that n [6:5] of MFB and MTB names. -/
def bankOf (k : BitVec 12) : Fin 4 := strandNo (k.toNat / 32)

/-- The register that n [4:0] names. -/
def regOf (k : BitVec 12) : Fin 32 := ⟨k.toNat % 32, Nat.mod_lt _ (by decide)⟩

/-- Whether MFB or MTB may reach a bank: one below the current; at P1 not a bank B0 that was entered from P0, R413. -/
def bankReach (x : Core) (b : Fin 4) : Bool :=
  decide (b < x.bank) && !(x.priv == 1 && b == 0 && x.esr[(1 : Fin 4)].toNat / 4 % 4 == 0)

/-- MFB. -/
def execGMfb (n c : Fin 4) (rd : Fin 32) (k : BitVec 12) (s : State) : Host.Outcome State Fault Refusal :=
  .next (s.instr n c fun x s =>
    if ¬ bankReach x (bankOf k) then s.faultOpen n c 5 4
    else if x.parityBad (bankOf k) (regOf k) then s.faultOpen n c 3 3
    else s.retire n c fun y => y.setG rd (y.reg (bankOf k) (regOf k)))

/-- MTB. -/
def execGMtb (n c : Fin 4) (ra : Fin 32) (k : BitVec 12) (s : State) : Host.Outcome State Fault Refusal :=
  .next (s.instr n c fun x s =>
    if ¬ bankReach x (bankOf k) then s.faultOpen n c 5 4
    else s.reading n c [ra] fun s => s.retire n c fun y => y.setReg (bankOf k) (regOf k) (y.g ra))

/-! ### Interrupts, the NMI, the timer -/

/-- INTERRUPT_ENTRY, R408, R409: in bank B0 with IE set, the lowest vector pending and enabled; an NMI due goes first. -/
def execInterruptEntry (n c : Fin 4) (s : State) : Host.Outcome State Fault Refusal :=
  let st := s.sd n
  let x := st.core c
  if ¬ x.running ∨ st.halted ∨ x.bank ≠ 0 ∨ ¬ x.ie ∨ st.nmi[c] then .next s
  else match st.firstVector c with
    | some v => .next (s.takeInterrupt n c v)
    | none => .next s

/-- NMI_ENTRY, R409, R411: outside bank B3 the NMI is taken; in B3 it waits in STATUS.NMI_PEND. -/
def execNmiEntry (n c : Fin 4) (s : State) : Host.Outcome State Fault Refusal :=
  let st := s.sd n
  let x := st.core c
  if ¬ x.running ∨ st.halted ∨ ¬ st.nmi[c] then .next s
  else
    let s := s.setSd n { st with nmi := st.nmi.set c false }
    if x.bank = 3 then .next (s.upCore n c fun x => { x with nmiPend := true }) else .next (s.takeNmi n c)

/-- WFI_WAKE, R408: the wait ends. -/
def execWfiWake (n c : Fin 4) (s : State) : Host.Outcome State Fault Refusal :=
  let st := s.sd n
  if (st.core c).running ∧ (st.core c).waiting ∧ st.wakes c then .next (s.upCore n c fun x => { x with waiting := false }) else .next s

/-- CORE_TIMER_EXPIRY, R397: CYCLE_LO next comes to TIMER, and vector 16 is raised. -/
def execCoreTimerExpiry (n c : Fin 4) (s : State) : Host.Outcome State Fault Refusal :=
  let st := s.sd n
  let x := st.core c
  let mhz := st.coreMhz c.val
  if ¬ x.running ∨ st.halted ∨ mhz = 0 then .next s
  else
    let d := (x.timer.toNat + 2 ^ 32 - st.cycles s.now c % 2 ^ 32) % 2 ^ 32
    let d := if d = 0 then 2 ^ 32 else d
    .next ((s.upTo (s.now + (d * 1000 + mhz - 1) / mhz)).up n fun st => st.vector 16 c.val)

/-! ### Coprocessor majors -/

namespace State

/-- A unit of majors 0x38 to 0x3B: at P0 and P1 only, and present, R406, R407. -/
def copGate (s : State) (n c : Fin 4) (unit : Fin 4) (work : Core → State → State) : State :=
  s.instr n c fun x s =>
    let d := (s.sd n).majorFault (0x38 + unit.val)
    if x.priv > 1 then s.faultOpen n c 5 3
    else if d ≠ 0 then s.fault n c 8 d (BitVec.ofNat 32 (0x38 + unit.val))
    else work x s

/-- The first beat of a range that the MPU refuses at a privilege, with its cause and region, R442; `kind` 3 read, 4 write. -/
def badBeat (s : State) (n c : Fin 4) (priv kind a len : Nat) : Option (Nat × Nat × Nat) :=
  if len > 0x80000 then some (4, 0x3F, a)
  else (Garnet.beats a len).findSome? fun b => ((s.sd n).mpuCheck c priv kind b 32).map fun x => (x.1, x.2, b)

/-- The first refused beat of the ranges that SUBMIT checks. -/
def badRange (s : State) (n c : Fin 4) (priv desc : Nat) (j : Job) : Option (Nat × Nat × Nat × Nat) :=
  let one := fun (kind a len : Nat) => (s.badBeat n c priv kind a len).map fun x => (kind, x)
  (one 3 desc 64).or ((one 3 j.seg0.inAddr j.seg0.inLen).or (one 4 j.seg0.outAddr j.seg0.outLen))

/-- The opcodes of a unit's range, R406. -/
def unitOps (unit : Fin 4) (op : Nat) : Bool :=
  match unit with
  | 0 => [0x400, 0x401, 0x402, 0x408, 0x409, 0x40A, 0x40B, 0x410, 0x411, 0x418, 0x419, 0x420, 0x421, 0x428, 0x430].contains op
  | 1 => op / 256 == 3
  | 2 => op == 0x112 || op == 0x130
  | _ => [0x500, 0x501, 0x502].contains op

/-- The next ticket number, 1 to 65,535, that no open ticket of the core has. -/
def nextTicket (x : Core) : Nat :=
  let free := fun (k : Nat) => !(x.tickets.any fun t => t.num == k && t.ended.isNone)
  ((List.range 65).map fun i => (x.lastTicket + i) % 65535 + 1).find? free |>.getD (x.lastTicket % 65535 + 1)

/-- The job of a descriptor, for the strand as owner, R336, R406. -/
def copJob (s : State) (n c : Fin 4) (d : Bytes) : Job :=
  let st := s.sd n
  let w := w0 d
  { id := s.ring.jobSeq, op := bits w 48 16, fn := 0xFF, gen := 0, tag := bits w 0 32, ctx := le d 8 4
    segs := [{ inAddr := le d 16 8, inLen := le d 24 4, data := (st.sramRead (le d 16 8) (le d 24 4)).getD [], outAddr := le d 32 8, outLen := le d 40 4 }]
    w6 := le d 48 8, w7 := le d 56 8, origin := s.now, lastInput := s.now, cop := some c }

/-- A unit takes a coprocessor job. -/
def copRun (s : State) (n : Fin 4) (unit : Fin 4) (j : Job) : State :=
  match unit with
  | 0 => s.berSubmit n j
  | 1 => s.topSubmit n j
  | 2 => after (if j.op = 0x112 then execApprovalQuery n j s else execSubmitterQuery n j s) s
  | _ => s.jadSubmit n j

/-- Note a refused DMA beat, R445, R446. -/
def noteBeat (s : State) (n c : Fin 4) (priv kind cause region a : Nat) : State :=
  s.up n fun st => st.noteViolation c priv kind cause region a 32

end State

/-- COP_SUBMIT, R406, R442: the ticket, and the job to its unit; a job that breaks the regions or leaves SRAM ends with 0x40, one with
an opcode outside the unit's range with 0x41. -/
def execCopSubmit (n c : Fin 4) (unit : Fin 4) (rd ra rb : Fin 32) (s : State) : Host.Outcome State Fault Refusal :=
  .next (s.copGate n c unit fun x s => s.reading n c [ra, rb] fun s =>
    let st := s.sd n
    if (x.tickets.filter fun t => t.unit == unit.val && t.ended.isNone).length ≥ 16 then s.retire n c fun y => y.setG rd 0
    else
      let desc := (x.g ra).toNat
      let d := (st.sramRead desc 64).getD (zeros 64)
      let j := s.copJob n c d
      let k := State.nextTicket x
      let tk : Ticket := { num := k, unit := unit.val, priv := x.priv, job := j, recAt := (x.g rb).toNat }
      let s := (s.upR fun r => { r with jobSeq := r.jobSeq + 1 }).retire n c fun y =>
        { y with tickets := y.tickets.filter (fun (t : Ticket) => t.num != k) ++ [tk], lastTicket := k }.setG rd (BitVec.ofNat 32 k)
      match s.badRange n c x.priv desc j with
      | some (kind, cause, region, a) => (s.noteBeat n c x.priv kind cause region a).fail n j 0x40
      | none =>
        if (st.sramRead desc 64).isNone ∨ (st.sramRead j.seg0.inAddr j.seg0.inLen).isNone then
          (s.up n fun st => st.bump R.MPU_SRAM_UE).fail n j 0x7F
        else if State.reservedSet d ∨ ¬ State.unitOps unit j.op then s.fail n j 0x41
        else s.copRun n unit j)

/-- COP_POLL, R406: 0 while open, 0x100 + status when ended, all ones for a ticket the core does not hold on the unit. -/
def execCopPoll (n c : Fin 4) (unit : Fin 4) (rd ra : Fin 32) (s : State) : Host.Outcome State Fault Refusal :=
  .next (s.copGate n c unit fun x s => s.reading n c [ra] fun s =>
    let v : Word := match x.tickets.find? fun t => t.num == (x.g ra).toNat && t.unit == unit.val with
      | some t => (match t.ended with | some e => BitVec.ofNat 32 (0x100 + e) | none => 0)
      | none => 0xFFFFFFFF
    s.retire n c fun y => y.setG rd v)

/-- COP_VERSION, R406. -/
def execCopVersion (n c : Fin 4) (unit : Fin 4) (rd : Fin 32) (s : State) : Host.Outcome State Fault Refusal :=
  .next (s.copGate n c unit fun _ s => s.retire n c fun y => y.setG rd 0x0100)

namespace State

/-- A fabric major 0x3C + m: down to the level of GAR_CTL.FABRIC_PRIV, and present, R407. -/
def fabricGate (s : State) (n c : Fin 4) (m : Fin 4) (work : Core → State → State) : State :=
  s.instr n c fun x s =>
    let d := (s.sd n).majorFault (0x3C + m.val)
    if x.priv > (s.sd n).get R.GAR_CTL_FABRIC_PRIV then s.faultOpen n c 5 3
    else if d ≠ 0 then s.fault n c 8 d (BitVec.ofNat 32 (0x3C + m.val))
    else work x s

/-- The version word of the fabric's configuration, R483. -/
def fabricWord (s : State) (n : Fin 4) : Word :=
  match (s.sd n).accepted.bind fun b => Charter.sectionOf b n 4 with
  | some b => BitVec.ofNat 32 (Charter.fabricVersion b)
  | none => 0

end State

/-- FABRIC_VERSION, R407: fn11 0x7FF. -/
def execFabricVersion (n c : Fin 4) (m : Fin 4) (rd : Fin 32) (s : State) : Host.Outcome State Fault Refusal :=
  .next (s.fabricGate n c m fun _ s =>
    let v := s.fabricWord n
    s.retire n c fun y => y.setG rd v)

/-- FABRIC_FUNCTION, R407: the fabric receives fn11, ra, rb and the privilege; what a declared function returns is the configuration's own,
an open value (log entry 2). -/
def execFabricFunction (n c : Fin 4) (m : Fin 4) (fn11 : BitVec 11) (rd : Fin 32) (s : State) (ra rb : Fin 32 := 0) : Host.Outcome State Fault Refusal :=
  .next (s.fabricGate n c m fun _ s =>
    if fn11 = 0x7FF then
      let v := s.fabricWord n
      s.retire n c fun y => y.setG rd v
    else if ¬ ((s.sd n).fab.decls.any fun d => d.major == 0x3C + m.val && d.fn11 == fn11.toNat) then s.faultOpen n c 4 2
    else s.reading n c [ra, rb] fun s =>
      let (x, st) := (s.sd n).draw
      (s.setSd n st).retire n c fun y => y.setG rd (BitVec.ofNat 32 x))

/-- COP_TICKET_END, R347, R406: the job of a ticket has ended; its record is written where its beat is permitted, and vector 18
is raised. A core has no phase and no submission queue: those fields are zero (log entry 33). -/
def execCopTicketEnd (n c : Fin 4) (num : Nat) (s : State) : Host.Outcome State Fault Refusal :=
  let st := s.sd n
  let x := st.core c
  match x.tickets.find? fun t => t.num == num && t.ended.isNone with
  | none => .next s
  | some tk =>
    match st.done.find? fun d => d.job.id == tk.job.id && d.job.cop == some c with
    | none => .next s
    | some d =>
      if st.halted then .next s
      else
        let s := (s.upTo d.due).up n fun st =>
          let st := d.counts.foldl (fun (st : Strand) k => st.add k.1 k.2) st
          let st : Strand := { st with done := st.done.filter fun e => e.job.id != d.job.id }
          let mark : Ticket → Ticket := fun t => if t.num = num then { t with ended := some d.status } else t
          let y := st.core c
          st.setCore c { y with tickets := y.tickets.map mark }
        let rcd := toLE 4 d.job.tag ++ toLE 1 d.status ++ zeros 3 ++ toLE 4 d.resLen ++ toLE 4 d.detail ++ zeros 16
        let s := match s.badBeat n c tk.priv 4 tk.recAt 32 with
          | some (cause, r, a) => s.noteBeat n c tk.priv 4 cause r a
          | none => s.writeJob n d.job tk.recAt rcd
        .next (s.up n fun st => st.vector 18 c.val)

/-- COP_BEAT_ISSUE, R442, R445: a beat of an open ticket's job is checked again; a refused one ends the job with 0x40. A passed one
moves data that the model moves at the job's end. -/
def execCopBeatIssue (n c : Fin 4) (num a : Nat) (write : Bool) (s : State) : Host.Outcome State Fault Refusal :=
  let st := s.sd n
  let kind := if write then 4 else 3
  match (st.core c).tickets.find? fun t => t.num == num && t.ended.isNone with
  | none => .next s
  | some tk =>
    if st.halted ∨ st.done.any (·.job.id == tk.job.id) then .next s
    else match st.mpuCheck c tk.priv kind a 32 with
      | none => .next s
      | some (cause, r) =>
        let s := (s.noteBeat n c tk.priv kind cause r a).up n fun st =>
          (st.upEng fun e => { e with
            topQ := e.topQ.filter (·.id != tk.job.id), jadQ := e.jadQ.filter (·.id != tk.job.id), berQ := e.berQ.filter (·.id != tk.job.id)
            topRuns := e.topRuns.filter (·.job.id != tk.job.id), jadRuns := e.jadRuns.filter (·.job.id != tk.job.id)
            berRuns := e.berRuns.filter (·.job.id != tk.job.id) }).berSync
        .next (s.fail n tk.job 0x40)

end Sys2Proof.Machine
end

