-- ==== Sys2Proof/Machine/Dispatch.lean ====
section
/-! DEFINITION. One arm per command: each is one direct call of its meaning. -/

namespace Sys2Proof.Machine
open Sys2Proof

def exec (i : Instr) (s : State) : Host.Outcome State Fault Refusal :=
  match i with
  | .registerWrite who addr v bus => Sys2Proof.Machine.execRegisterWrite who addr v s bus
  | .stagedValueApply n blk => Sys2Proof.Machine.execStagedValueApply n blk s
  | .misalignedRegisterAccess who addr size isWrite => Sys2Proof.Machine.execMisalignedRegisterAccess who addr size isWrite s
  | .loRegisterRead who addr bus => Sys2Proof.Machine.execLoRegisterRead who addr s bus
  | .ringPartFailure p => Sys2Proof.Machine.execRingPartFailure p s
  | .rsRefclkFailover bad => Sys2Proof.Machine.execRsRefclkFailover bad s
  | .eraseRequestReceived n frm => Sys2Proof.Machine.execEraseRequestReceived n frm s
  | .mainPowerLoss vbat => Sys2Proof.Machine.execMainPowerLoss vbat s
  | .mainPowerReturn lost => Sys2Proof.Machine.execMainPowerReturn lost s
  | .strandStart n env => Sys2Proof.Machine.execStrandStart n env s
  | .pairWaitExpired n agree => Sys2Proof.Machine.execPairWaitExpired n agree s
  | .doubledDecisionRetry n agree => Sys2Proof.Machine.execDoubledDecisionRetry n agree s
  | .modeReqRestart n who => Sys2Proof.Machine.execModeReqRestart n who s
  | .modeReqThaw n who agree => Sys2Proof.Machine.execModeReqThaw n who agree s
  | .modeReqFreeze n who => Sys2Proof.Machine.execModeReqFreeze n who s
  | .strandFreezeComplete n => Sys2Proof.Machine.execStrandFreezeComplete n s
  | .ceremonyIdleExpired n agree => Sys2Proof.Machine.execCeremonyIdleExpired n agree s
  | .makerDebugChallenge sig key => Sys2Proof.Machine.execMakerDebugChallenge sig s key
  | .makerScrapOrder sig agree key => Sys2Proof.Machine.execMakerScrapOrder sig agree s key
  | .rngSnapWrite who v => Sys2Proof.Machine.execRngSnapWrite who v s
  | .ringRetainWrite => Sys2Proof.Machine.execRingRetainWrite s
  | .postBatch n j => Sys2Proof.Machine.execPostBatch n j s
  | .checkBatch n j => Sys2Proof.Machine.execCheckBatch n j s
  | .batchIntake n => Sys2Proof.Machine.execBatchIntake n s
  | .quarantineSlotTake n => Sys2Proof.Machine.execQuarantineSlotTake n s
  | .recordCheck n order fault => Sys2Proof.Machine.execRecordCheck n order s fault
  | .batchDecision n order => Sys2Proof.Machine.execBatchDecision n order s
  | .batchCommit n order => Sys2Proof.Machine.execBatchCommit n order s
  | .sealPreparation n order eng => Sys2Proof.Machine.execSealPreparation n order eng s
  | .sealCompletion n order eng endOk => Sys2Proof.Machine.execSealCompletion n order eng endOk s
  | .holdLimitExpired n order => Sys2Proof.Machine.execHoldLimitExpired n order s
  | .completionPost n writeOk => Sys2Proof.Machine.execCompletionPost n writeOk s
  | .slotClearDone n slot => Sys2Proof.Machine.execSlotClearDone n slot s
  | .approvalConfirm n j => Sys2Proof.Machine.execApprovalConfirm n j s
  | .approvalRevoke n j => Sys2Proof.Machine.execApprovalRevoke n j s
  | .approvalQuery n j => Sys2Proof.Machine.execApprovalQuery n j s
  | .relayBuffer n j => Sys2Proof.Machine.execRelayBuffer n j s
  | .pinTranslate n j => Sys2Proof.Machine.execPinTranslate n j s
  | .submitterQuery n j => Sys2Proof.Machine.execSubmitterQuery n j s
  | .approvalExpiry n ref station => Sys2Proof.Machine.execApprovalExpiry n ref station s
  | .jnlReceipt n j => Sys2Proof.Machine.execJnlReceipt n j s
  | .jnlStoreSet n j => Sys2Proof.Machine.execJnlStoreSet n j s
  | .jnlStoreFree n j => Sys2Proof.Machine.execJnlStoreFree n j s
  | .jnlReplay n j twin => Sys2Proof.Machine.execJnlReplay n j twin s
  | .jnlExport n j removed => Sys2Proof.Machine.execJnlExport n j removed s
  | .jnlSuperseded n j => Sys2Proof.Machine.execJnlSuperseded n j s
  | .jnlTimeSet n j => Sys2Proof.Machine.execJnlTimeSet n j s
  | .jnlTimeSlew n j => Sys2Proof.Machine.execJnlTimeSlew n j s
  | .jnlRollover n j => Sys2Proof.Machine.execJnlRollover n j s
  | .mirRoleSwap n j => Sys2Proof.Machine.execMirRoleSwap n j s
  | .mirTakeover n j => Sys2Proof.Machine.execMirTakeover n j s
  | .mirReconcile n j => Sys2Proof.Machine.execMirReconcile n j s
  | .journalCheckpoint n ok => Sys2Proof.Machine.execJournalCheckpoint n s ok
  | .storeEntryWrite n writeOk => Sys2Proof.Machine.execStoreEntryWrite n writeOk s
  | .cardHeadWrite n ok => Sys2Proof.Machine.execCardHeadWrite n ok s
  | .anchorWrite n result wcount macOk => Sys2Proof.Machine.execAnchorWrite n result wcount macOk s
  | .gulsisLaneLockLost n lanes => Sys2Proof.Machine.execGulsisLaneLockLost n lanes s
  | .gulsisLinkTrained n lanes => Sys2Proof.Machine.execGulsisLinkTrained n lanes s
  | .pairingRetry n => Sys2Proof.Machine.execPairingRetry n s
  | .mirHelloReceived n p errs env => Sys2Proof.Machine.execMirHelloReceived n p s errs env
  | .mirAttestReceived n mac errs env => Sys2Proof.Machine.execMirAttestReceived n mac s errs env
  | .mirHeadReceived n f time marks keep tail => Sys2Proof.Machine.execMirHeadReceived n f time marks keep s tail
  | .mirResyncReqReceived n f marks keep tail => Sys2Proof.Machine.execMirResyncReqReceived n f marks keep s tail
  | .mirEntryReceived n f => Sys2Proof.Machine.execMirEntryReceived n f s
  | .mirAckReceived n f => Sys2Proof.Machine.execMirAckReceived n f s
  | .mirNakReceived n f => Sys2Proof.Machine.execMirNakReceived n f s
  | .mirLeaseReceived n f agree => Sys2Proof.Machine.execMirLeaseReceived n f agree s
  | .mirHeartbeatReceived n f => Sys2Proof.Machine.execMirHeartbeatReceived n f s
  | .mirRoleReceived n f => Sys2Proof.Machine.execMirRoleReceived n f s
  | .mirMarksReceived n f => Sys2Proof.Machine.execMirMarksReceived n f s
  | .mirMarksAckReceived n f => Sys2Proof.Machine.execMirMarksAckReceived n f s
  | .mirRolloverReceived n f => Sys2Proof.Machine.execMirRolloverReceived n f s
  | .entryResendTimeout n => Sys2Proof.Machine.execEntryResendTimeout n s
  | .nakFullResend n => Sys2Proof.Machine.execNakFullResend n s
  | .rolloverResend n => Sys2Proof.Machine.execRolloverResend n s
  | .heartbeatDue n => Sys2Proof.Machine.execHeartbeatDue n s
  | .leaseSendDue n agree => Sys2Proof.Machine.execLeaseSendDue n agree s
  | .leaseExpired n => Sys2Proof.Machine.execLeaseExpired n s
  | .writerLost n => Sys2Proof.Machine.execWriterLost n s
  | .soloEntry n => Sys2Proof.Machine.execSoloEntry n s
  | .autoTakeover n => Sys2Proof.Machine.execAutoTakeover n s
  | .marksResendTimeout n => Sys2Proof.Machine.execMarksResendTimeout n s
  | .vltCreate n j => Sys2Proof.Machine.execVltCreate n j s
  | .vltImport n j => Sys2Proof.Machine.execVltImport n j s
  | .vltFree n j => Sys2Proof.Machine.execVltFree n j s
  | .vltQuery n j => Sys2Proof.Machine.execVltQuery n j s
  | .vltSetAttr n j => Sys2Proof.Machine.execVltSetAttr n j s
  | .vltPublic n j => Sys2Proof.Machine.execVltPublic n j s
  | .vltSpill n j => Sys2Proof.Machine.execVltSpill n j s
  | .vltLoad n j => Sys2Proof.Machine.execVltLoad n j s
  | .vltDiscard n j => Sys2Proof.Machine.execVltDiscard n j s
  | .vltExportT n j => Sys2Proof.Machine.execVltExportT n j s
  | .vltImportT n j => Sys2Proof.Machine.execVltImportT n j s
  | .vltRewrap n j => Sys2Proof.Machine.execVltRewrap n j s
  | .vltWrapRenew n j => Sys2Proof.Machine.execVltWrapRenew n j s
  | .vltWrapClose n j => Sys2Proof.Machine.execVltWrapClose n j s
  | .vltReplace n j => Sys2Proof.Machine.execVltReplace n j s
  | .vltVerify n j => Sys2Proof.Machine.execVltVerify n j s
  | .vltCommit n j => Sys2Proof.Machine.execVltCommit n j s
  | .vltAbandon n j => Sys2Proof.Machine.execVltAbandon n j s
  | .vltAttest n j => Sys2Proof.Machine.execVltAttest n j s
  | .vltRootImport n j => Sys2Proof.Machine.execVltRootImport n j s
  | .vltRootClear n j => Sys2Proof.Machine.execVltRootClear n j s
  | .vltAttestExport n j => Sys2Proof.Machine.execVltAttestExport n j s
  | .vltWrapOut n j => Sys2Proof.Machine.execVltWrapOut n j s
  | .rootRemaskPass n masks => Sys2Proof.Machine.execRootRemaskPass n masks s
  | .keyRelease n j usage dest => Sys2Proof.Machine.execKeyRelease n j usage dest s
  | .contextSweepDone n => Sys2Proof.Machine.execContextSweepDone n s
  | .topKcv n j => Sys2Proof.Machine.execTopKcv n j s
  | .topCbcEnc n j => Sys2Proof.Machine.execTopCbcEnc n j s
  | .topCbcDec n j => Sys2Proof.Machine.execTopCbcDec n j s
  | .topCtrEnc n j => Sys2Proof.Machine.execTopCtrEnc n j s
  | .topCtrDec n j => Sys2Proof.Machine.execTopCtrDec n j s
  | .topGcmEnc n j => Sys2Proof.Machine.execTopGcmEnc n j s
  | .topGcmDec n j => Sys2Proof.Machine.execTopGcmDec n j s
  | .topGcmDecStream n j => Sys2Proof.Machine.execTopGcmDecStream n j s
  | .streamChainAbort n id entries => Sys2Proof.Machine.execStreamChainAbort n id entries s
  | .topCcmEnc n j => Sys2Proof.Machine.execTopCcmEnc n j s
  | .topCcmDec n j => Sys2Proof.Machine.execTopCcmDec n j s
  | .topCmacGen n j => Sys2Proof.Machine.execTopCmacGen n j s
  | .topCmacVerify n j => Sys2Proof.Machine.execTopCmacVerify n j s
  | .topXtsEnc n j => Sys2Proof.Machine.execTopXtsEnc n j s
  | .topXtsDec n j => Sys2Proof.Machine.execTopXtsDec n j s
  | .topKwWrap n j => Sys2Proof.Machine.execTopKwWrap n j s
  | .topKwUnwrap n j => Sys2Proof.Machine.execTopKwUnwrap n j s
  | .jadHash n j => Sys2Proof.Machine.execJadHash n j s
  | .jadHmacGen n j => Sys2Proof.Machine.execJadHmacGen n j s
  | .jadHmacVerify n j => Sys2Proof.Machine.execJadHmacVerify n j s
  | .topazReseed n lane supplied failed => Sys2Proof.Machine.execTopazReseed n lane supplied s failed
  | .berModmul n j => Sys2Proof.Machine.execBerModmul n j s
  | .berModexp n j => Sys2Proof.Machine.execBerModexp n j s
  | .berModinv n j => Sys2Proof.Machine.execBerModinv n j s
  | .berRsaSign n j => Sys2Proof.Machine.execBerRsaSign n j s
  | .berRsaVerify n j => Sys2Proof.Machine.execBerRsaVerify n j s
  | .berRsaEncrypt n j => Sys2Proof.Machine.execBerRsaEncrypt n j s
  | .berRsaDecrypt n j => Sys2Proof.Machine.execBerRsaDecrypt n j s
  | .berEcdsaSign n j => Sys2Proof.Machine.execBerEcdsaSign n j s
  | .berEcdsaVerify n j => Sys2Proof.Machine.execBerEcdsaVerify n j s
  | .berEddsaSign n j => Sys2Proof.Machine.execBerEddsaSign n j s
  | .berEddsaVerify n j => Sys2Proof.Machine.execBerEddsaVerify n j s
  | .berEcdh n j => Sys2Proof.Machine.execBerEcdh n j s
  | .berFfdh n j => Sys2Proof.Machine.execBerFfdh n j s
  | .berPointCheck n j => Sys2Proof.Machine.execBerPointCheck n j s
  | .berPrimeGen n j => Sys2Proof.Machine.execBerPrimeGen n j s
  | .berylWipeDone n e => Sys2Proof.Machine.execBerylWipeDone n e s
  | .berylJobStart n e entropy => Sys2Proof.Machine.execBerylJobStart n e entropy s
  | .berylCountReached n e => Sys2Proof.Machine.execBerylCountReached n e s
  | .berylFence n e key => Sys2Proof.Machine.execBerylFence n e key s
  | .primeCandidate n e entropy => Sys2Proof.Machine.execPrimeCandidate n e entropy s
  | .entropyBlockConditioned n => Sys2Proof.Machine.execEntropyBlockConditioned n s
  | .rctFailure n src => Sys2Proof.Machine.execRctFailure n src s
  | .aptWindowEnd n src count => Sys2Proof.Machine.execAptWindowEnd n src count s
  | .qtzDataRead n who => Sys2Proof.Machine.execQtzDataRead n who s
  | .qtzFailClrWrite n who v => Sys2Proof.Machine.execQtzFailClrWrite n who v s
  | .qtzRandom n j => Sys2Proof.Machine.execQtzRandom n j s
  | .mgtNop n j => Sys2Proof.Machine.execMgtNop n j s
  | .entryTake n => Sys2Proof.Machine.execEntryTake n s
  | .chainWaitExpired q => Sys2Proof.Machine.execChainWaitExpired q s
  | .entryCacheFetch q readOk => Sys2Proof.Machine.execEntryCacheFetch q readOk s
  | .jobInputRead n id readOk => Sys2Proof.Machine.execJobInputRead n id readOk s
  | .jobOutputWriteError n id => Sys2Proof.Machine.execJobOutputWriteError n id s
  | .sqDbWrite who q tail => Sys2Proof.Machine.execSqDbWrite who q tail s
  | .cqDbWrite who q head => Sys2Proof.Machine.execCqDbWrite who q head s
  | .sqEnableWrite who q => Sys2Proof.Machine.execSqEnableWrite who q s
  | .sqDisableWrite who q => Sys2Proof.Machine.execSqDisableWrite who q s
  | .sqInvalWrite who q => Sys2Proof.Machine.execSqInvalWrite who q s
  | .cqEnableWrite who q enable ien => Sys2Proof.Machine.execCqEnableWrite who q enable ien s
  | .queueDiscardDone q => Sys2Proof.Machine.execQueueDiscardDone q s
  | .headPublish q writeOk => Sys2Proof.Machine.execHeadPublish q writeOk s
  | .cqInterruptTimer q => Sys2Proof.Machine.execCqInterruptTimer q s
  | .msixVectorUnmask f vec => Sys2Proof.Machine.execMsixVectorUnmask f vec s
  | .conventionalReset => Sys2Proof.Machine.execConventionalReset s
  | .hotReset => Sys2Proof.Machine.execHotReset s
  | .functionLevelReset f => Sys2Proof.Machine.execFunctionLevelReset f s
  | .pcieLinkDown => Sys2Proof.Machine.execPcieLinkDown s
  | .pcieLinkUp speed width => Sys2Proof.Machine.execPcieLinkUp speed width s
  | .vfCreate n j => Sys2Proof.Machine.execVfCreate n j s
  | .vfSetPool n j => Sys2Proof.Machine.execVfSetPool n j s
  | .vfRemove n j => Sys2Proof.Machine.execVfRemove n j s
  | .vfReset n j => Sys2Proof.Machine.execVfReset n j s
  | .vfQuery n j => Sys2Proof.Machine.execVfQuery n j s
  | .vfFreeze n j => Sys2Proof.Machine.execVfFreeze n j s
  | .vfSave n j => Sys2Proof.Machine.execVfSave n j s
  | .vfThaw n j => Sys2Proof.Machine.execVfThaw n j s
  | .vfRestore n j => Sys2Proof.Machine.execVfRestore n j s
  | .sriovVfDisable enable numVfs => Sys2Proof.Machine.execSriovVfDisable enable numVfs s
  | .vfFreezeDone f => Sys2Proof.Machine.execVfFreezeDone f s
  | .vfSaveDone f writeOk => Sys2Proof.Machine.execVfSaveDone f writeOk s
  | .vfRestoreDone f => Sys2Proof.Machine.execVfRestoreDone f s
  | .vfResetDone f => Sys2Proof.Machine.execVfResetDone f s
  | .vfRemoveDone f => Sys2Proof.Machine.execVfRemoveDone f s
  | .generationAdvance f => Sys2Proof.Machine.execGenerationAdvance f s
  | .gAdd n c rd ra rb rc => Sys2Proof.Machine.execGAdd n c rd ra rb rc s
  | .gSub n c rd ra rb rc => Sys2Proof.Machine.execGSub n c rd ra rb rc s
  | .gAnd n c rd ra rb rc => Sys2Proof.Machine.execGAnd n c rd ra rb rc s
  | .gOr n c rd ra rb rc => Sys2Proof.Machine.execGOr n c rd ra rb rc s
  | .gXor n c rd ra rb rc => Sys2Proof.Machine.execGXor n c rd ra rb rc s
  | .gSll n c rd ra rb rc => Sys2Proof.Machine.execGSll n c rd ra rb rc s
  | .gSrl n c rd ra rb rc => Sys2Proof.Machine.execGSrl n c rd ra rb rc s
  | .gSra n c rd ra rb rc => Sys2Proof.Machine.execGSra n c rd ra rb rc s
  | .gRotr n c rd ra rb rc => Sys2Proof.Machine.execGRotr n c rd ra rb rc s
  | .gSlli n c rd ra sh rc => Sys2Proof.Machine.execGSlli n c rd ra sh rc s
  | .gSrli n c rd ra sh rc => Sys2Proof.Machine.execGSrli n c rd ra sh rc s
  | .gSrai n c rd ra sh rc => Sys2Proof.Machine.execGSrai n c rd ra sh rc s
  | .gSeq n c rd ra rb rc => Sys2Proof.Machine.execGSeq n c rd ra rb rc s
  | .gSne n c rd ra rb rc => Sys2Proof.Machine.execGSne n c rd ra rb rc s
  | .gSlt n c rd ra rb rc => Sys2Proof.Machine.execGSlt n c rd ra rb rc s
  | .gSltu n c rd ra rb rc => Sys2Proof.Machine.execGSltu n c rd ra rb rc s
  | .gCsel n c rd ra rb rc => Sys2Proof.Machine.execGCsel n c rd ra rb rc s
  | .gMul n c rd ra rb rc => Sys2Proof.Machine.execGMul n c rd ra rb rc s
  | .gMulh n c rd ra rb rc => Sys2Proof.Machine.execGMulh n c rd ra rb rc s
  | .gMulhu n c rd ra rb rc => Sys2Proof.Machine.execGMulhu n c rd ra rb rc s
  | .gDivu n c rd ra rb rc => Sys2Proof.Machine.execGDivu n c rd ra rb rc s
  | .gRemu n c rd ra rb rc => Sys2Proof.Machine.execGRemu n c rd ra rb rc s
  | .gClz n c rd ra rb rc => Sys2Proof.Machine.execGClz n c rd ra rb rc s
  | .gPerm n c rd ra rb rc => Sys2Proof.Machine.execGPerm n c rd ra rb rc s
  | .gBfx n c rd ra lsb wm1 => Sys2Proof.Machine.execGBfx n c rd ra lsb wm1 s
  | .gBfxs n c rd ra lsb wm1 => Sys2Proof.Machine.execGBfxs n c rd ra lsb wm1 s
  | .gBfi n c rd ra lsb wm1 => Sys2Proof.Machine.execGBfi n c rd ra lsb wm1 s
  | .gAddi n c rd ra k => Sys2Proof.Machine.execGAddi n c rd ra k s
  | .gAndi n c rd ra k => Sys2Proof.Machine.execGAndi n c rd ra k s
  | .gOri n c rd ra k => Sys2Proof.Machine.execGOri n c rd ra k s
  | .gXori n c rd ra k => Sys2Proof.Machine.execGXori n c rd ra k s
  | .gSeqi n c rd ra k => Sys2Proof.Machine.execGSeqi n c rd ra k s
  | .gSlti n c rd ra k => Sys2Proof.Machine.execGSlti n c rd ra k s
  | .gSltiu n c rd ra k => Sys2Proof.Machine.execGSltiu n c rd ra k s
  | .gLui n c rd ra k => Sys2Proof.Machine.execGLui n c rd ra k s
  | .gJalr n c rd ra k => Sys2Proof.Machine.execGJalr n c rd ra k s
  | .gLw n c rd ra k => Sys2Proof.Machine.execGLw n c rd ra k s
  | .gLh n c rd ra k => Sys2Proof.Machine.execGLh n c rd ra k s
  | .gLhu n c rd ra k => Sys2Proof.Machine.execGLhu n c rd ra k s
  | .gLb n c rd ra k => Sys2Proof.Machine.execGLb n c rd ra k s
  | .gLbu n c rd ra k => Sys2Proof.Machine.execGLbu n c rd ra k s
  | .gLdp n c rd ra k => Sys2Proof.Machine.execGLdp n c rd ra k s
  | .gSw n c rd ra k => Sys2Proof.Machine.execGSw n c rd ra k s
  | .gSh n c rd ra k => Sys2Proof.Machine.execGSh n c rd ra k s
  | .gSb n c rd ra k => Sys2Proof.Machine.execGSb n c rd ra k s
  | .gSdp n c rd ra k => Sys2Proof.Machine.execGSdp n c rd ra k s
  | .gBz n c rt d => Sys2Proof.Machine.execGBz n c rt d s
  | .gBnz n c rt d => Sys2Proof.Machine.execGBnz n c rt d s
  | .gJ n c d => Sys2Proof.Machine.execGJ n c d s
  | .gJal n c d => Sys2Proof.Machine.execGJal n c d s
  | .gSyscall n c k => Sys2Proof.Machine.execGSyscall n c k s
  | .gBreak n c k => Sys2Proof.Machine.execGBreak n c k s
  | .gEret n c => Sys2Proof.Machine.execGEret n c s
  | .gWfi n c => Sys2Proof.Machine.execGWfi n c s
  | .gMfcr n c rd k => Sys2Proof.Machine.execGMfcr n c rd k s
  | .gMtcr n c ra k => Sys2Proof.Machine.execGMtcr n c ra k s
  | .gFence n c => Sys2Proof.Machine.execGFence n c s
  | .gCacheInvalIcache n c => Sys2Proof.Machine.execGCacheInvalIcache n c s
  | .gCacheInvalIline n c ra => Sys2Proof.Machine.execGCacheInvalIline n c ra s
  | .gCacheInvalDline n c ra => Sys2Proof.Machine.execGCacheInvalDline n c ra s
  | .gCacheInvalDcache n c => Sys2Proof.Machine.execGCacheInvalDcache n c s
  | .gMfb n c rd k => Sys2Proof.Machine.execGMfb n c rd k s
  | .gMtb n c ra k => Sys2Proof.Machine.execGMtb n c ra k s
  | .copSubmit n c unit rd ra rb => Sys2Proof.Machine.execCopSubmit n c unit rd ra rb s
  | .copPoll n c unit rd ra => Sys2Proof.Machine.execCopPoll n c unit rd ra s
  | .copVersion n c unit rd => Sys2Proof.Machine.execCopVersion n c unit rd s
  | .fabricFunction n c m fn11 rd ra rb => Sys2Proof.Machine.execFabricFunction n c m fn11 rd s ra rb
  | .fabricVersion n c m rd => Sys2Proof.Machine.execFabricVersion n c m rd s
  | .interruptEntry n c => Sys2Proof.Machine.execInterruptEntry n c s
  | .nmiEntry n c => Sys2Proof.Machine.execNmiEntry n c s
  | .wfiWake n c => Sys2Proof.Machine.execWfiWake n c s
  | .coreTimerExpiry n c => Sys2Proof.Machine.execCoreTimerExpiry n c s
  | .copTicketEnd n c num => Sys2Proof.Machine.execCopTicketEnd n c num s
  | .copBeatIssue n c num a write => Sys2Proof.Machine.execCopBeatIssue n c num a write s
  | .mpuRegionWrite n who core region part v => Sys2Proof.Machine.execMpuRegionWrite n who core region part v s
  | .sramPatrolPass n ce ue => Sys2Proof.Machine.execSramPatrolPass n ce ue s
  | .duplicateCopySweep n off => Sys2Proof.Machine.execDuplicateCopySweep n off s
  | .plainRecordReceived n k chars => Sys2Proof.Machine.execPlainRecordReceived n k chars s
  | .plainLineError n k => Sys2Proof.Machine.execPlainLineError n k s
  | .linkHandshakeStart n k => Sys2Proof.Machine.execLinkHandshakeStart n k s
  | .slCertFrame n k crcOk p env => Sys2Proof.Machine.execSlCertFrame n k crcOk p env s
  | .slReadyFrame n k f => Sys2Proof.Machine.execSlReadyFrame n k f s
  | .slApprovalFrame n k f env => Sys2Proof.Machine.execSlApprovalFrame n k f env s
  | .slRecordFrame n k f => Sys2Proof.Machine.execSlRecordFrame n k f s
  | .slHostDataFrame n k f => Sys2Proof.Machine.execSlHostDataFrame n k f s
  | .slEmptyFrame n k f => Sys2Proof.Machine.execSlEmptyFrame n k f s
  | .slCloseFrame n k f => Sys2Proof.Machine.execSlCloseFrame n k f s
  | .slPollDue n k => Sys2Proof.Machine.execSlPollDue n k s
  | .slPollMiss n k => Sys2Proof.Machine.execSlPollMiss n k s
  | .slHandshakeTimeout n k => Sys2Proof.Machine.execSlHandshakeTimeout n k s
  | .slBackoffElapsed n k => Sys2Proof.Machine.execSlBackoffElapsed n k s
  | .slSessionLifeExpired n k => Sys2Proof.Machine.execSlSessionLifeExpired n k s
  | .slTransceiverFault n k => Sys2Proof.Machine.execSlTransceiverFault n k s
  | .slSend n j => Sys2Proof.Machine.execSlSend n j s
  | .slReceive n j => Sys2Proof.Machine.execSlReceive n j s
  | .slClose n j => Sys2Proof.Machine.execSlClose n j s
  | .slQuery n j => Sys2Proof.Machine.execSlQuery n j s
  | .slLinkEnableWrite n k v => Sys2Proof.Machine.execSlLinkEnableWrite n k v s
  | .slLinkCloseWrite n k => Sys2Proof.Machine.execSlLinkCloseWrite n k s
  | .recordPortTransfer n data sor perr => Sys2Proof.Machine.execRecordPortTransfer n data sor perr s
  | .eorIdleExpired n => Sys2Proof.Machine.execEorIdleExpired n s
  | .spinelRecordConvert n port len ce ue lrf trailer => Sys2Proof.Machine.execSpinelRecordConvert n port len ce ue lrf trailer s
  | .spinelBatchClose n => Sys2Proof.Machine.execSpinelBatchClose n s
  | .batchIdleExpired n link batchNo => Sys2Proof.Machine.execBatchIdleExpired n link batchNo s
  | .relayBatchPresent n => Sys2Proof.Machine.execRelayBatchPresent n s
  | .jcCardInsert n => Sys2Proof.Machine.execJcCardInsert n s
  | .jcDebounceDone n => Sys2Proof.Machine.execJcDebounceDone n s
  | .jcInitComplete n fail v18 v18Fail speed tuned ident sectors wcount macOk again => Sys2Proof.Machine.execJcInitComplete n fail v18 v18Fail speed tuned ident sectors wcount macOk s again
  | .jcCardRemove n phase anchor started => Sys2Proof.Machine.execJcCardRemove n phase anchor started s
  | .jcBusyTimeout n => Sys2Proof.Machine.execJcBusyTimeout n s
  | .jcRetuneDue n crc ok => Sys2Proof.Machine.execJcRetuneDue n crc ok s
  | .jcPair n j result wcount => Sys2Proof.Machine.execJcPair n j result wcount s
  | .jcHeads n j sectors anchor macOk => Sys2Proof.Machine.execJcHeads n j sectors anchor macOk s
  | .jcCounter n j wcount macOk => Sys2Proof.Machine.execJcCounter n j wcount macOk s
  | .jcEject n j result wcount macOk => Sys2Proof.Machine.execJcEject n j result wcount macOk s
  | .ccOrder n j => Sys2Proof.Machine.execCcOrder n j s
  | .ccPin n j => Sys2Proof.Machine.execCcPin n j s
  | .ccOrderQ n j => Sys2Proof.Machine.execCcOrderQ n j s
  | .ccCancel n j => Sys2Proof.Machine.execCcCancel n j s
  | .ccClose n j agree owner => Sys2Proof.Machine.execCcClose n j agree s owner
  | .ccCardInsert n cls t1 atr => Sys2Proof.Machine.execCcCardInsert n cls t1 s atr
  | .ccCardRemove n => Sys2Proof.Machine.execCcCardRemove n s
  | .ccApduResponse n data sw agree abort => Sys2Proof.Machine.execCcApduResponse n data sw agree s abort
  | .t1BlockTimeout n => Sys2Proof.Machine.execT1BlockTimeout n s
  | .ccPinLapse n => Sys2Proof.Machine.execCcPinLapse n s
  | .ccPinWaitExpired n => Sys2Proof.Machine.execCcPinWaitExpired n s
  | .orderLifeExpired n => Sys2Proof.Machine.execOrderLifeExpired n s
  | .tagFieldOn => Sys2Proof.Machine.execTagFieldOn s
  | .tagFieldLost => Sys2Proof.Machine.execTagFieldLost s
  | .tagRound q => Sys2Proof.Machine.execTagRound q s
  | .tagNext => Sys2Proof.Machine.execTagNext s
  | .tagAck h => Sys2Proof.Machine.execTagAck h s
  | .tagNak => Sys2Proof.Machine.execTagNak s
  | .tagRead h first count => Sys2Proof.Machine.execTagRead h first count s
  | .tagState h => Sys2Proof.Machine.execTagState h s
  | .tagChallenge h nonce => Sys2Proof.Machine.execTagChallenge h nonce s
  | .tagNoteWrite h block data mac ok => Sys2Proof.Machine.execTagNoteWrite h block data mac ok s
  | .tagQuiet h => Sys2Proof.Machine.execTagQuiet h s
  | .tagFieldAccessEnd => Sys2Proof.Machine.execTagFieldAccessEnd s
  | .tagHostRead who markOk => Sys2Proof.Machine.execTagHostRead who s markOk
  | .tagHostWrite who => Sys2Proof.Machine.execTagHostWrite who s
  | .tagHostProgramDone ok => Sys2Proof.Machine.execTagHostProgramDone ok s
  | .tagSecretCommit who v => Sys2Proof.Machine.execTagSecretCommit who v s
  | .tagKill n who v agree => Sys2Proof.Machine.execTagKill n who v agree s
  | .agtRead n who count noise => Sys2Proof.Machine.execAgtRead n who count noise s
  | .agtProgram n who => Sys2Proof.Machine.execAgtProgram n who s
  | .agtErase n who openOk => Sys2Proof.Machine.execAgtErase n who openOk s
  | .agtReadHdr n who => Sys2Proof.Machine.execAgtReadHdr n who s
  | .agtProgramDone n ok => Sys2Proof.Machine.execAgtProgramDone n ok s
  | .agtEraseDone n verifyOk headOk => Sys2Proof.Machine.execAgtEraseDone n verifyOk headOk s
  | .agtEraseResume n => Sys2Proof.Machine.execAgtEraseResume n s
  | .scrubBlockRead n phys corrected bad => Sys2Proof.Machine.execScrubBlockRead n phys corrected bad s
  | .detectorReport n src det island reading chan => Sys2Proof.Machine.execDetectorReport n src det island reading s chan
  | .alarmDecision n => Sys2Proof.Machine.execAlarmDecision n s
  | .throttleExpired n => Sys2Proof.Machine.execThrottleExpired n s
  | .eraseDecision n agree cut => Sys2Proof.Machine.execEraseDecision n agree s cut
  | .eraseLineRelease n => Sys2Proof.Machine.execEraseLineRelease n s
  | .jspInjectWrite n who v => Sys2Proof.Machine.execJspInjectWrite n who v s
  | .eventLogWrite n ok chainOk => Sys2Proof.Machine.execEventLogWrite n ok s chainOk
  | .vigilSample n vbat found => Sys2Proof.Machine.execVigilSample n vbat found s
  | .vigilSampleRepeat n vbat found => Sys2Proof.Machine.execVigilSampleRepeat n vbat found s
  | .cellWindowClose n vbat => Sys2Proof.Machine.execCellWindowClose n vbat s
  | .crystalStop => Sys2Proof.Machine.execCrystalStop s
  | .gradientCheck n kind a b va vb det set => Sys2Proof.Machine.execGradientCheck n kind a b va vb det s set
  | .agingWorn n k margin monitorsOk => Sys2Proof.Machine.execAgingWorn n k margin s monitorsOk
  | .snapInEdge ns => Sys2Proof.Machine.execSnapInEdge ns s
  | .snpTrigger n who => Sys2Proof.Machine.execSnpTrigger n who s
  | .snpRelease n who => Sys2Proof.Machine.execSnpRelease n who s
  | .snapshotToken n k chan items quiet keyBus => Sys2Proof.Machine.execSnapshotToken n k chan items quiet s keyBus
  | .hltSwapWrite n v => Sys2Proof.Machine.execHltSwapWrite n v s
  | .swapDecision n agree => Sys2Proof.Machine.execSwapDecision n agree s
  | .swapMoveDone n ok => Sys2Proof.Machine.execSwapMoveDone n s ok
  | .topazJobEnd n id => Sys2Proof.Machine.execTopazJobEnd n id s
  | .jadeJobEnd n id => Sys2Proof.Machine.execJadeJobEnd n id s
  | .thermNThreshold hottest => Sys2Proof.Machine.execThermNThreshold hottest s
  | .supplyGlitch ns => Sys2Proof.Machine.execSupplyGlitch ns s
  | .makerLifecycleProgram digest returnDigest agree => Sys2Proof.Machine.execMakerLifecycleProgram digest returnDigest agree s
  | .sourceFuseOff src => Sys2Proof.Machine.execSourceFuseOff src s
  | .testProbeSession opening => Sys2Proof.Machine.execTestProbeSession opening s

end Sys2Proof.Machine
end

