-- ==== Sys2Proof/Safety.lean ====
section
/-! DEFINITION. Safe runs: those in which no step faults and none is refused. -/

namespace Sys2Proof.Machine
open Sys2Proof

/-- A step that answers a next state. -/
def Continues (s : State) : Prop := ∃ t, step s = .next t

/-- A run of `k` steps that answers a state. -/
def runs : Nat → State → State → Prop
  | 0, s, t => s = t
  | k + 1, s, t => ∃ u, step s = .next u ∧ runs k u t

end Sys2Proof.Machine
end

