-- ==== Sys2Proof/WellFormed.lean ====
section
/-! DEFINITION. The commands that the outside of the block can make: every operand lies in the range the spec gives it.
`exec` is total all the same; a command that is not well-formed names a part the device does not have. -/

namespace Sys2Proof

/-- Who exists: virtual functions 1 to 248 (R74, R368), the four logical cores of a strand at P0 to P3 (R394, R395). -/
def Requester.wf : Requester → Bool
  | .manager => true
  | .vf f => decide (1 ≤ f) && decide (f ≤ 248)
  | .core _ c p => decide (c < 4) && decide (p < 4)

/-- A 32-bit service address on a word boundary, R5. -/
def wordAddress (a : Nat) : Bool := decide (a < 2 ^ 32) && a % 4 == 0

/-- A job's stamp: a function, a generation from 1 to 255 (R374), queue ids of 12 bits (R334), a 16-bit opcode and the fields
of its entry within their widths (R336). -/
def Job.wf (j : Job) : Bool :=
  decide (j.fn < 256) && decide (1 ≤ j.gen) && decide (j.gen < 256) && decide (j.sq < 4096) && decide (j.cq < 4096)
    && decide (j.op < 65536) && decide (j.ctx < 2 ^ 32) && decide (j.w6 < 2 ^ 32) && decide (j.w7 < 2 ^ 32) && !j.segs.isEmpty

namespace Instr

/-- Checks on the requester and the register address of an access. -/
def accessWf : Instr → Bool
  | .registerWrite who a _ _ => who.wf && wordAddress a
  | .loRegisterRead who a _ => who.wf && wordAddress a
  | .misalignedRegisterAccess who a size _ =>
    who.wf && decide (a < 2 ^ 32) && [1, 2, 4, 8].contains size && !(size == 4 && a % 4 == 0)
  | .modeReqRestart _ who | .modeReqThaw _ who _ | .modeReqFreeze _ who | .rngSnapWrite who _ | .qtzDataRead _ who
  | .qtzFailClrWrite _ who _ | .sqDbWrite who _ _ | .cqDbWrite who _ _ | .sqEnableWrite who _ | .sqDisableWrite who _
  | .sqInvalWrite who _ | .cqEnableWrite who _ _ _ | .mpuRegionWrite _ who _ _ _ _ | .tagHostRead who _ | .tagHostWrite who
  | .tagSecretCommit who _ | .tagKill _ who _ _ | .agtRead _ who _ _ | .agtProgram _ who | .agtErase _ who _
  | .agtReadHdr _ who | .jspInjectWrite _ who _ | .snpTrigger _ who | .snpRelease _ who => who.wf
  | _ => true

/-- Checks on numbers of queues, functions, lanes, engines, links, sources and blocks. -/
def numberWf : Instr → Bool
  | .stagedValueApply _ blk => decide (blk < 20)
  | .gulsisLaneLockLost _ k => decide (k < 2)
  | .gulsisLinkTrained _ k => k == 1 || k == 2
  | .slotClearDone _ k => decide (k < 8)
  | .topazReseed _ l _ _ => decide (l < 3)
  | .berylWipeDone _ e | .berylJobStart _ e _ | .berylCountReached _ e | .berylFence _ e _ | .primeCandidate _ e _
  | .sealPreparation _ _ e | .sealCompletion _ _ e _ => decide (e < 5)
  | .sqDbWrite _ q _ | .cqDbWrite _ q _ | .sqEnableWrite _ q | .sqDisableWrite _ q | .sqInvalWrite _ q | .cqEnableWrite _ q _ _
  | .chainWaitExpired q | .entryCacheFetch q _ | .queueDiscardDone q | .headPublish q _ | .cqInterruptTimer q => decide (q < 4096)
  | .msixVectorUnmask f _ | .functionLevelReset f | .vfFreezeDone f | .vfSaveDone f _ | .vfRestoreDone f | .vfResetDone f
  | .vfRemoveDone f | .generationAdvance f => decide (f ≤ 248)
  | .sriovVfDisable _ v => decide (v ≤ 248)
  | .plainRecordReceived _ k _ | .plainLineError _ k | .linkHandshakeStart _ k | .slCertFrame _ k _ _ _ | .slReadyFrame _ k _
  | .slApprovalFrame _ k _ _ | .slRecordFrame _ k _ | .slHostDataFrame _ k _ | .slEmptyFrame _ k _ | .slCloseFrame _ k _
  | .slPollDue _ k | .slPollMiss _ k | .slHandshakeTimeout _ k | .slBackoffElapsed _ k | .slSessionLifeExpired _ k
  | .slTransceiverFault _ k | .slLinkEnableWrite _ k _ | .slLinkCloseWrite _ k => decide (k < 64)
  | .recordPortTransfer _ d _ _ => decide (d < 2 ^ 32)
  | .tagRound q => decide (q < 256)
  | .detectorReport _ src det _ _ => decide (1 ≤ src) && decide (src < 16) && [1, 2, 3].contains det
  | .sourceFuseOff src => decide (1 ≤ src) && decide (src < 16)
  | _ => true

/-- Checks on a job's stamp. -/
def jobWf : Instr → Bool
  | .postBatch _ j | .checkBatch _ j | .approvalConfirm _ j | .approvalRevoke _ j | .approvalQuery _ j | .relayBuffer _ j
  | .pinTranslate _ j | .submitterQuery _ j | .jnlReceipt _ j | .jnlStoreSet _ j | .jnlStoreFree _ j | .jnlReplay _ j _
  | .jnlExport _ j _ | .jnlSuperseded _ j | .jnlTimeSet _ j | .jnlTimeSlew _ j | .jnlRollover _ j | .mirRoleSwap _ j
  | .mirTakeover _ j | .mirReconcile _ j | .vltCreate _ j | .vltImport _ j | .vltFree _ j | .vltQuery _ j | .vltSetAttr _ j
  | .vltPublic _ j | .vltSpill _ j | .vltLoad _ j | .vltDiscard _ j | .vltExportT _ j | .vltImportT _ j | .vltRewrap _ j
  | .vltWrapRenew _ j | .vltWrapClose _ j | .vltReplace _ j | .vltVerify _ j | .vltCommit _ j | .vltAbandon _ j
  | .vltAttest _ j | .vltRootImport _ j | .vltRootClear _ j | .vltAttestExport _ j | .vltWrapOut _ j | .keyRelease _ j _ _
  | .topKcv _ j | .topCbcEnc _ j | .topCbcDec _ j | .topCtrEnc _ j | .topCtrDec _ j | .topGcmEnc _ j | .topGcmDec _ j
  | .topGcmDecStream _ j | .topCcmEnc _ j | .topCcmDec _ j | .topCmacGen _ j | .topCmacVerify _ j | .topXtsEnc _ j
  | .topXtsDec _ j | .topKwWrap _ j | .topKwUnwrap _ j | .jadHash _ j | .jadHmacGen _ j | .jadHmacVerify _ j
  | .berModmul _ j | .berModexp _ j | .berModinv _ j | .berRsaSign _ j | .berRsaVerify _ j | .berRsaEncrypt _ j
  | .berRsaDecrypt _ j | .berEcdsaSign _ j | .berEcdsaVerify _ j | .berEddsaSign _ j | .berEddsaVerify _ j | .berEcdh _ j
  | .berFfdh _ j | .berPointCheck _ j | .berPrimeGen _ j | .qtzRandom _ j | .mgtNop _ j | .vfCreate _ j | .vfSetPool _ j
  | .vfRemove _ j | .vfReset _ j | .vfQuery _ j | .vfFreeze _ j | .vfSave _ j | .vfThaw _ j | .vfRestore _ j | .slSend _ j
  | .slReceive _ j | .slClose _ j | .slQuery _ j | .jcPair _ j _ _ | .jcHeads _ j _ _ _ | .jcCounter _ j _ _ | .jcEject _ j _ _ _
  | .ccOrder _ j | .ccPin _ j | .ccOrderQ _ j | .ccCancel _ j | .ccClose _ j _ _ => j.wf
  | _ => true

/-- A command the outside of the block can make. -/
def wf (c : Instr) : Bool := c.accessWf && c.numberWf && c.jobWf

end Instr

end Sys2Proof
end

