-- ==== Sys2Proof/Certificates/Slice0/Obligations.lean ====
section
/-! DEFINITION. The statements for the provers. -/

/-! ### Shared vocabulary -/

namespace Sys2Proof.Claims
open Sys2Proof Sys2Proof.Machine

/-- A core that may fetch: it runs, does not wait, its strand is not HALTED, and its fetch is permitted and whole. -/
def MayFetch (s : State) (n c : Fin 4) : Prop :=
  (s.core n c).running = true ∧ (s.core n c).waiting = false ∧ (s.sd n).halted = false
    ∧ (s.sd n).mpuCheck c (s.core n c).priv 0 (s.core n c).pc.toNat 4 = none
    ∧ ((s.sd n).sramRead (s.core n c).pc.toNat 4).isSome = true

/-- A core about to run an instruction: it may fetch, the line at its pc holds no error, and every register's parity is right. -/
def Fetches (s : State) (n c : Fin 4) : Prop :=
  MayFetch s n c ∧ (s.core n c).lineError false ((s.core n c).pc.toNat / 32) = none ∧ ∀ k r, (s.core n c).parityBad k r = false

/-- The command completes, and of the whole device only one core changes: by `f`, beside the lines its instruction cache holds and the errors
that wait to be met in it. -/
def CoreBecomes (i : Instr) (s : State) (n c : Fin 4) (f : Core → Core) : Prop :=
  ∃ lines ups, exec i s = .next (s.upCore n c fun x => { f x with ilines := lines, upsets := ups })

/-- The instruction retires: as `CoreBecomes`, with the pc moved past it. -/
def Retires (i : Instr) (s : State) (n c : Fin 4) (f : Core → Core) : Prop :=
  CoreBecomes i s n c fun x => { f x with pc := x.pc + 4 }

/-- Every other strand and host memory are as before. -/
def Aside (s t : State) (n : Fin 4) : Prop := (∀ m, m ≠ n → t.sd m = s.sd m) ∧ t.mem = s.mem

/-- Of the whole device only strand `n`, the clock and the answer to a register access may differ. -/
def OnlyStrand (s t : State) (n : Fin 4) : Prop := Aside s t n ∧ t.ring = s.ring

/-- A strand serves a job: it is not HALTED and past CHARTER, its duplicated fields are whole, the job's input was read, and a receipt or PIN job
that names a context meets its keys (R243). -/
def Served (s : State) (n : Fin 4) (j : Job) : Prop :=
  (s.sd n).halted = false ∧ 2 ≤ (s.sd n).mode ∧ s.dupHits n j.op = false ∧ j.env.readOk = true
    ∧ (State.namesContext j = true → (s.sd n).mode < 6)

/-- A protected Gulsis frame: one that R174 discards only counts; of an accepted one, with payload `p` on strand `x`, `P` holds. -/
def OnFrame (c : Instr) (s : State) (n : Fin 4) (ty : Nat) (f : GFrame) (P : Strand → Bytes → State → Prop) : Prop :=
  match (s.sd n).openFrame s.now ty f with
  | (x, none) => exec c s = .next (s.setSd n x)
  | (x, some p) => ∃ t, exec c s = .next t ∧ (∀ m, m ≠ n → t.sd m = s.sd m) ∧ P x p t

/-- A strand serves a vault opcode: `Served`, and its keys are not gone (R243). -/
def VaultServed (s : State) (n : Fin 4) (j : Job) : Prop := Served s n j ∧ (s.sd n).zeroised = false

/-- The canonical form of everything the device holds by address: host memory, work SRAM, the flash array, the register files. -/
def Canonical (s : State) : Prop :=
  Mem.wf s.mem = true ∧ RegFile.wf ringReset s.ring.regs = true
    ∧ ∀ n : Fin 4, Mem.wf (s.sd n).sram = true ∧ RegFile.wf strandReset (s.sd n).regs = true ∧ (s.sd n).nv.flash.wf = true

end Sys2Proof.Claims

open Sys2Proof Sys2Proof.Machine Sys2Proof.Claims

/-! ### Garnet instructions -/

/-- R395, R401, R402: the register, field and immediate instructions, with every other field of the device unchanged; a write to g0 is
discarded (`Core.setG`). -/
def Obligations.GarnetRegisterResults : Prop :=
  ∀ (s : State) (n c : Fin 4) (rd ra rb rc : Fin 32) (i : BitVec 16), Fetches s n c →
    Retires (.gAdd n c rd ra rb 0) s n c (fun x => x.setG rd (x.g ra + x.g rb))
    ∧ Retires (.gSub n c rd ra rb 0) s n c (fun x => x.setG rd (x.g ra - x.g rb))
    ∧ Retires (.gAnd n c rd ra rb 0) s n c (fun x => x.setG rd (x.g ra &&& x.g rb))
    ∧ Retires (.gOr n c rd ra rb 0) s n c (fun x => x.setG rd (x.g ra ||| x.g rb))
    ∧ Retires (.gXor n c rd ra rb 0) s n c (fun x => x.setG rd (x.g ra ^^^ x.g rb))
    ∧ Retires (.gSll n c rd ra rb 0) s n c (fun x => x.setG rd (x.g ra <<< ((x.g rb).toNat % 32)))
    ∧ Retires (.gSrl n c rd ra rb 0) s n c (fun x => x.setG rd (x.g ra >>> ((x.g rb).toNat % 32)))
    ∧ Retires (.gSra n c rd ra rb 0) s n c (fun x => x.setG rd ((x.g ra).sshiftRight ((x.g rb).toNat % 32)))
    ∧ Retires (.gRotr n c rd ra rb 0) s n c (fun x => x.setG rd ((x.g ra).rotateRight ((x.g rb).toNat % 32)))
    ∧ Retires (.gSlli n c rd ra rb 0) s n c (fun x => x.setG rd (x.g ra <<< rb.val))
    ∧ Retires (.gSrli n c rd ra rb 0) s n c (fun x => x.setG rd (x.g ra >>> rb.val))
    ∧ Retires (.gSrai n c rd ra rb 0) s n c (fun x => x.setG rd ((x.g ra).sshiftRight rb.val))
    ∧ Retires (.gSeq n c rd ra rb 0) s n c (fun x => x.setG rd (if x.g ra = x.g rb then 1 else 0))
    ∧ Retires (.gSne n c rd ra rb 0) s n c (fun x => x.setG rd (if x.g ra = x.g rb then 0 else 1))
    ∧ Retires (.gSlt n c rd ra rb 0) s n c (fun x => x.setG rd (if (x.g ra).toInt < (x.g rb).toInt then 1 else 0))
    ∧ Retires (.gSltu n c rd ra rb 0) s n c (fun x => x.setG rd (if (x.g ra).toNat < (x.g rb).toNat then 1 else 0))
    ∧ Retires (.gMul n c rd ra rb 0) s n c (fun x => x.setG rd (BitVec.ofNat 32 ((x.g ra).toNat * (x.g rb).toNat)))
    ∧ Retires (.gMulh n c rd ra rb 0) s n c (fun x => x.setG rd (BitVec.ofInt 32 ((x.g ra).toInt * (x.g rb).toInt / 2 ^ 32)))
    ∧ Retires (.gMulhu n c rd ra rb 0) s n c (fun x => x.setG rd (BitVec.ofNat 32 ((x.g ra).toNat * (x.g rb).toNat / 2 ^ 32)))
    ∧ Retires (.gDivu n c rd ra rb 0) s n c
        (fun x => x.setG rd (if x.g rb = 0 then 0xFFFFFFFF else BitVec.ofNat 32 ((x.g ra).toNat / (x.g rb).toNat)))
    ∧ Retires (.gRemu n c rd ra rb 0) s n c
        (fun x => x.setG rd (if x.g rb = 0 then x.g ra else BitVec.ofNat 32 ((x.g ra).toNat % (x.g rb).toNat)))
    ∧ Retires (.gClz n c rd ra 0 0) s n c
        (fun x => x.setG rd (if x.g ra = 0 then 32 else BitVec.ofNat 32 (31 - (x.g ra).toNat.log2)))
    ∧ Retires (.gPerm n c rd ra rb rc) s n c (fun x => x.setG rd (Garnet.perm (x.g ra) (x.g rb) (x.g rc)))
    ∧ Retires (.gCsel n c rd ra rb rc) s n c (fun x => x.setG rd (if x.g rc = 0 then x.g rb else x.g ra))
    ∧ (rb.val + rc.val + 1 ≤ 32 →
      Retires (.gBfx n c rd ra rb rc) s n c
        (fun x => x.setG rd (BitVec.ofNat 32 ((x.g ra).toNat / 2 ^ rb.val % 2 ^ (rc.val + 1))))
      ∧ Retires (.gBfxs n c rd ra rb rc) s n c
        (fun x => x.setG rd ((BitVec.ofNat (rc.val + 1) ((x.g ra).toNat / 2 ^ rb.val)).signExtend 32))
      ∧ Retires (.gBfi n c rd ra rb rc) s n c (fun x => x.setG rd (Garnet.bfi (x.g rd) (x.g ra) rb.val (rc.val + 1))))
    ∧ Retires (.gAddi n c rd ra i) s n c (fun x => x.setG rd (x.g ra + i.signExtend 32))
    ∧ Retires (.gAndi n c rd ra i) s n c (fun x => x.setG rd (x.g ra &&& i.zeroExtend 32))
    ∧ Retires (.gOri n c rd ra i) s n c (fun x => x.setG rd (x.g ra ||| i.zeroExtend 32))
    ∧ Retires (.gXori n c rd ra i) s n c (fun x => x.setG rd (x.g ra ^^^ i.zeroExtend 32))
    ∧ Retires (.gSeqi n c rd ra i) s n c (fun x => x.setG rd (if x.g ra = i.signExtend 32 then 1 else 0))
    ∧ Retires (.gSlti n c rd ra i) s n c (fun x => x.setG rd (if (x.g ra).toInt < i.toInt then 1 else 0))
    ∧ Retires (.gSltiu n c rd ra i) s n c
        (fun x => x.setG rd (if (x.g ra).toNat < (i.signExtend 32 : BitVec 32).toNat then 1 else 0))
    ∧ Retires (.gLui n c rd 0 i) s n c (fun x => x.setG rd (BitVec.ofNat 32 (i.toNat * 2 ^ 16)))

/-- R402, R403, R414, R441: loads from work SRAM that the MPU permits, from memory or from a line held without error. The data line may be
held from then on. -/
def Obligations.GarnetLoadResults : Prop :=
  ∀ (s : State) (n c : Fin 4) (rd ra : Fin 32) (i : BitVec 16) (size a : Nat) (b : Bytes), Fetches s n c →
    a = ((s.core n c).g ra + i.signExtend 32).toNat → a % size = 0 → Strand.inSram a = true →
    (s.sd n).mpuCheck c (s.core n c).priv 1 a size = none → (s.sd n).sramRead a size = some b →
    (s.core n c).lineError true (a / 32) = none →
    let Loads := fun (k : Instr) (w : Nat) (f : Core → Core) =>
      size = w → ∃ held, Retires k s n c fun x => { f x with dlines := held }
    Loads (.gLw n c rd ra i) 4 (fun x => x.setG rd (BitVec.ofNat 32 (leNat b)))
    ∧ Loads (.gLh n c rd ra i) 2 (fun x => x.setG rd ((BitVec.ofNat 16 (leNat b)).signExtend 32))
    ∧ Loads (.gLhu n c rd ra i) 2 (fun x => x.setG rd (BitVec.ofNat 32 (leNat b)))
    ∧ Loads (.gLb n c rd ra i) 1 (fun x => x.setG rd ((BitVec.ofNat 8 (leNat b)).signExtend 32))
    ∧ Loads (.gLbu n c rd ra i) 1 (fun x => x.setG rd (BitVec.ofNat 32 (leNat b)))
    ∧ (rd.val % 2 = 0 → rd ≠ 0 → Loads (.gLdp n c rd ra i) 8
        (fun x => (x.setG rd (BitVec.ofNat 32 (leNat b))).setG (State.pairNext rd) (BitVec.ofNat 32 (leNat b / 2 ^ 32))))

/-- R402, R403, R404, R441: stores to work SRAM that the MPU permits. The stored bytes lie at the effective address; every
other byte of work SRAM, every register of the core, its strand's registers, every other strand, host memory and the ring are
unchanged. -/
def Obligations.GarnetStoreResults : Prop :=
  ∀ (s : State) (n c : Fin 4) (rd ra : Fin 32) (i : BitVec 16) (size a : Nat), Fetches s n c →
    a = ((s.core n c).g ra + i.signExtend 32).toNat → a % size = 0 → Strand.inSram a = true →
    (s.sd n).mpuCheck c (s.core n c).priv 2 a size = none →
    let v := (s.core n c).g rd
    let Stores := fun (k : Instr) (b : Bytes) => size = b.length → ∃ t, exec k s = .next t
      ∧ (∀ p, Mem.read (t.sd n).sram p = if h : a ≤ p ∧ p - a < b.length then b[p - a]'h.2 else Mem.read (s.sd n).sram p)
      ∧ (t.core n c).pc = (s.core n c).pc + 4 ∧ (t.core n c).banks = (s.core n c).banks
      ∧ (t.sd n).regs = (s.sd n).regs ∧ (∀ m, m ≠ n → t.sd m = s.sd m) ∧ t.mem = s.mem ∧ t.ring = s.ring
    Stores (.gSw n c rd ra i) (toLE 4 v.toNat)
    ∧ Stores (.gSh n c rd ra i) (toLE 2 v.toNat)
    ∧ Stores (.gSb n c rd ra i) (toLE 1 v.toNat)
    ∧ (rd.val % 2 = 0 → rd ≠ 0 →
        Stores (.gSdp n c rd ra i) (toLE 4 v.toNat ++ toLE 4 ((s.core n c).g (State.pairNext rd)).toNat))

/-- R400, R402, R403: branches and jumps. -/
def Obligations.GarnetControlFlow : Prop :=
  ∀ (s : State) (n c : Fin 4) (rt rd ra : Fin 32) (d : BitVec 21) (e : BitVec 26) (i : BitVec 16), Fetches s n c →
    CoreBecomes (.gBz n c rt d) s n c
      (fun x => { x with pc := if x.g rt = 0 then x.pc + 4 + (d.signExtend 32 <<< 2) else x.pc + 4 })
    ∧ CoreBecomes (.gBnz n c rt d) s n c
      (fun x => { x with pc := if x.g rt = 0 then x.pc + 4 else x.pc + 4 + (d.signExtend 32 <<< 2) })
    ∧ CoreBecomes (.gJ n c e) s n c (fun x => { x with pc := x.pc + 4 + (e.signExtend 32 <<< 2) })
    ∧ CoreBecomes (.gJal n c e) s n c (fun x => { x.setG 31 (x.pc + 4) with pc := x.pc + 4 + (e.signExtend 32 <<< 2) })
    ∧ (((s.core n c).g ra + i.signExtend 32).toNat % 4 = 0 →
        CoreBecomes (.gJalr n c rd ra i) s n c (fun x => { x.setG rd (x.pc + 4) with pc := x.g ra + i.signExtend 32 }))

/-- R409, R410: SYSCALL and BREAK in bank B0 enter bank B1 through a valid descriptor; EPC is the instruction after, ESR the
STATUS, ECAUSE the vector, EADDR the operand; IE falls, the privilege and the pc are the descriptor's.
R410: ERET at P0 or P1 from bank k to a lower bank that it may enter restores STATUS and the pc from ESRk and EPCk; an NMI that waits in B3
is not among these. WFI in B0 waits unless an interrupt is pending and enabled (R408); MFB and MTB reach a lower bank (R402, R413). -/
def Obligations.GarnetTrapsAndSystemInstructions : Prop :=
  ∀ (s : State) (n c : Fin 4) (r : Fin 32) (k : BitVec 12), Fetches s n c →
    (∀ d, (s.core n c).bank = 0 →
    let Enters := fun (i : Instr) (v : Nat) => (s.sd n).descriptor c v = some d → d.ok v 1 = true → bit d.flags 1 = false →
      CoreBecomes i s n c fun x =>
        { x with epc := x.epc.set 1 (x.pc + 4), esr := x.esr.set 1 x.status
                 ecause := x.ecause.set 1 (BitVec.ofNat 32 (v + 2 ^ 8 * v)), eaddr := x.eaddr.set 1 (k.zeroExtend 32)
                 bank := 1, priv := d.priv, ie := false, waiting := false, pc := BitVec.ofNat 32 d.handler }
    Enters (.gSyscall n c k) 9 ∧ Enters (.gBreak n c k) 10)
    ∧ (∀ b : Fin 4, (s.core n c).priv ≤ 1 → (s.core n c).bank = b → b ≠ 0 →
      let sr := ((s.core n c).esr[b]).toNat
      sr % 4 < b.val → (sr % 4 = 2 → sr / 4 % 4 = 0) → (sr % 4 = 1 → sr / 4 % 4 ≤ 1) → (b = 3 → (s.core n c).nmiPend = false) →
      CoreBecomes (.gEret n c) s n c fun x => { x.setStatus x.esr[b] with pc := x.epc[b] })
    ∧ ((s.core n c).priv ≤ 1 → (s.core n c).bank = 0 →
      Retires (.gWfi n c) s n c fun x => { x with waiting := !(s.sd n).wakes c })
    ∧ (bankReach (s.core n c) (bankOf k) = true →
      Retires (.gMfb n c r k) s n c (fun x => x.setG r (x.reg (bankOf k) (regOf k)))
      ∧ Retires (.gMtb n c r k) s n c (fun x => x.setReg (bankOf k) (regOf k) (x.g r)))

/-- R397, R404, R417: the control registers, FENCE and the cache operations.
R413, R416: an error that cannot be corrected drops the line and the access is repeated from memory, which raises vector 3 with detail 1 where it
fails too; one that can is counted in the core's GAR_CE; a wrong parity of a register that an instruction reads raises vector 3 with
detail 3 (EADDR open, log entry 2). -/
def Obligations.GarnetControlRegistersCachesAndErrors : Prop :=
  (∀ (s : State) (n c : Fin 4) (rd ra rb : Fin 32), MayFetch s n c →
    ((s.core n c).lineError false ((s.core n c).pc.toNat / 32) = some false →
      ∃ t, exec (.gFence n c) s = .next t ∧ (t.core n c).pc = (s.core n c).pc + 4
        ∧ (t.sd n).regs = ((s.sd n).bump R.GAR_CE_IC ((s.sd n).phys c.val)).regs)
    ∧ ((s.core n c).lineError false ((s.core n c).pc.toNat / 32) = some true →
      ∃ t, exec (.gFence n c) s = .next t ∧ (t.core n c).pc = (s.core n c).pc + 4 ∧ (t.sd n).regs = (s.sd n).regs)
    ∧ ((s.core n c).lineError false ((s.core n c).pc.toNat / 32) = none → (s.core n c).parityBad (s.core n c).bank rb = true →
      ∃ x l u, exec (.gAdd n c rd ra rb 0) s = .next (((s.up n fun st => { st with draws := st.draws + 1 }).upCore n c fun y =>
        { y with ilines := l, upsets := u }).fault n c 3 3 x)))
  ∧ (∀ (s : State) (n c : Fin 4), (s.core n c).running = true → (s.core n c).waiting = false → (s.sd n).halted = false →
    (s.sd n).mpuCheck c (s.core n c).priv 0 (s.core n c).pc.toNat 4 = none → (s.sd n).sramRead (s.core n c).pc.toNat 4 = none →
    (s.core n c).lineError false ((s.core n c).pc.toNat / 32) = some true →
    exec (.gFence n c) s = .next ((s.upCore n c fun x => x.dropLine false (x.pc.toNat / 32)).sramError n c 1 (s.core n c).pc.toNat))
  ∧ ∀ (s : State) (n c : Fin 4) (r : Fin 32) (k : BitVec 12), Fetches s n c →
    (crListed k.toNat = true → crReadable k.toNat (s.core n c).priv = true → k ≠ 0xA →
      Retires (.gMfcr n c r k) s n c (fun x => x.setG r ((s.sd n).crValue s.now c k.toNat)))
    ∧ ((s.core n c).priv ≤ 1 →
      Retires (.gMtcr n c r 0xC) s n c (fun x => { x with timer := x.g r })
      ∧ Retires (.gMtcr n c r 1) s n c (fun x => { x with ie := bit (x.g r).toNat 4 })
      ∧ Retires (.gMtcr n c r 4) s n c (fun x => { x with imask := x.imask / 2 ^ 48 % 2 ^ 16 * 2 ^ 48 + (x.g r).toNat * 2 ^ 16 })
      ∧ Retires (.gMtcr n c r 5) s n c (fun x => { x with imask := x.imask / 2 ^ 16 % 2 ^ 32 * 2 ^ 16 + (x.g r).toNat % 2 ^ 16 * 2 ^ 48 })
      ∧ (∃ l u, exec (.gMtcr n c r 7) s = .next ((s.up n fun st =>
          { st with ipend := st.ipend.set c (st.ipend[c] ||| ((s.core n c).g r).toNat % 2 ^ 16 * 2 ^ 48) }).upCore n c fun x =>
            { x with pc := x.pc + 4, ilines := l, upsets := u }))
      ∧ (∃ l u, exec (.gMtcr n c r 8) s = .next ((s.up n fun st => st.vector 17 (((s.core n c).g r).toNat % 4)).upCore n c fun x =>
            { x with pc := x.pc + 4, ilines := l, upsets := u }))
      ∧ Retires (.gMtcr n c r 0x11) s n c (fun x => { x with epc := x.epc.set 1 (x.g r &&& 0xFFFFFFFC) }))
    ∧ ((s.core n c).priv = 0 →
      Retires (.gMtcr n c r 2) s n c (fun x => { x with vdt := x.g r &&& 0xFFFFFC00 })
      ∧ ∀ b : Fin 4, b ≠ 0 →
        (b ≠ 1 → Retires (.gMtcr n c r (BitVec.ofNat 12 (16 * b.val + 1))) s n c (fun x => { x with epc := x.epc.set b (x.g r &&& 0xFFFFFFFC) }))
        ∧ Retires (.gMtcr n c r (BitVec.ofNat 12 (16 * b.val + 2))) s n c (fun x => { x with esr := x.esr.set b (x.g r &&& 0x3F) }))
    ∧ Retires (.gFence n c) s n c (fun x => x)
    ∧ ((s.core n c).priv = 0 →
      CoreBecomes (.gCacheInvalIcache n c) s n c (fun x => { x with pc := x.pc + 4 })
      ∧ (∃ t, exec (.gCacheInvalIcache n c) s = .next t ∧ (t.core n c).ilines = [])
      ∧ Retires (.gCacheInvalDcache n c) s n c (fun x => { x with dlines := [] }))
    ∧ ((s.core n c).priv ≤ 1 →
      Retires (.gCacheInvalDline n c r) s n c (fun x => { x with dlines := x.dlines.filter (· != (x.g r).toNat / 32) })
      ∧ Retires (.gCacheInvalIline n c r) s n c (fun x => x)
      ∧ (∃ t, exec (.gCacheInvalIline n c r) s = .next t ∧ ((s.core n c).g r).toNat / 32 ∉ (t.core n c).ilines))

/-- R406, R407, R442, R483: coprocessor SUBMIT, POLL and VERSION, and the fabric's functions. SUBMIT gives a ticket and the job to its
unit; POLL answers 0 while the ticket is open, 0x100 + status once it has ended, all ones for a ticket not held; the result of a
declared fabric function is an open value (log entry 2).
R406, R442, R445: the end of a ticket marks it with the job's status and raises vector 18; a beat that the regions permit changes
nothing, a refused one ends the job with 0x40. -/
def Obligations.GarnetCoprocessorsAndTickets : Prop :=
  (∀ (s : State) (n c u : Fin 4) (rd ra rb : Fin 32) (f : BitVec 11), Fetches s n c →
    ((s.core n c).priv ≤ 1 → (s.sd n).majorFault (0x38 + u.val) = 0 →
      Retires (.copVersion n c u rd) s n c (fun x => x.setG rd 0x0100)
      ∧ (∀ tk, (s.core n c).tickets.find? (fun t => t.num == ((s.core n c).g ra).toNat && t.unit == u.val) = some tk →
          Retires (.copPoll n c u rd ra) s n c
            (fun x => x.setG rd (match tk.ended with | some e => BitVec.ofNat 32 (0x100 + e) | none => 0)))
      ∧ ((s.core n c).tickets.find? (fun t => t.num == ((s.core n c).g ra).toNat && t.unit == u.val) = none →
          Retires (.copPoll n c u rd ra) s n c (fun x => x.setG rd 0xFFFFFFFF))
      ∧ (∀ d, ((s.core n c).tickets.filter fun t => t.unit == u.val && t.ended.isNone).length < 16 →
          (s.sd n).sramRead ((s.core n c).g ra).toNat 64 = some d →
          let j := s.copJob n c d
          let k := State.nextTicket (s.core n c)
          s.badRange n c (s.core n c).priv ((s.core n c).g ra).toNat j = none →
          ((s.sd n).sramRead j.seg0.inAddr j.seg0.inLen).isSome = true → State.reservedSet d = false → State.unitOps u j.op = true →
          ∃ l ups, exec (.copSubmit n c u rd ra rb) s = .next (State.copRun
            ((s.upR fun r => { r with jobSeq := r.jobSeq + 1 }).upCore n c fun x =>
              { ({ x with tickets := x.tickets.filter (fun (t : Ticket) => t.num != k)
                            ++ [{ num := k, unit := u.val, priv := x.priv, job := j, recAt := (x.g rb).toNat }]
                          lastTicket := k } : Core).setG rd (BitVec.ofNat 32 k) with pc := x.pc + 4, ilines := l, upsets := ups }) n u j)))
    ∧ ((s.core n c).priv ≤ (s.sd n).get R.GAR_CTL_FABRIC_PRIV → (s.sd n).majorFault (0x3C + u.val) = 0 →
      Retires (.fabricVersion n c u rd) s n c (fun x => x.setG rd (s.fabricWord n))
      ∧ (f ≠ 0x7FF → ((s.sd n).fab.decls.any fun d => d.major == 0x3C + u.val && d.fn11 == f.toNat) = true →
          ∃ v l ups, exec (.fabricFunction n c u f rd ra rb) s = .next
            ((s.up n fun st => { st with draws := st.draws + 1 }).upCore n c fun x => { x.setG rd v with pc := x.pc + 4, ilines := l, upsets := ups }))))
  ∧ (∀ (s : State) (n c : Fin 4) (num a : Nat) (wr : Bool) (tk : Ticket), (s.sd n).halted = false →
    (s.core n c).tickets.find? (fun t => t.num == num && t.ended.isNone) = some tk →
    (∀ d, (s.sd n).done.find? (fun d => d.job.id == tk.job.id && d.job.cop == some c) = some d →
      ∃ t, exec (.copTicketEnd n c num) s = .next t ∧ t.now = max s.now d.due
        ∧ (t.core n c).tickets = (s.core n c).tickets.map (fun k => if k.num = num then { k with ended := some d.status } else k)
        ∧ bit ((t.sd n).ipend[c]) 18 = true ∧ (∀ e ∈ (t.sd n).done, e.job.id ≠ d.job.id) ∧ t.mem = s.mem ∧ t.ring = s.ring)
    ∧ ((s.sd n).done.any (fun d => d.job.id == tk.job.id) = false →
      ((s.sd n).mpuCheck c tk.priv (if wr then 4 else 3) a 32 = none → exec (.copBeatIssue n c num a wr) s = .next s)
      ∧ ((s.sd n).mpuCheck c tk.priv (if wr then 4 else 3) a 32 ≠ none → ∃ t, exec (.copBeatIssue n c num a wr) s = .next t
        ∧ ∃ d ∈ (t.sd n).done, d.job.id = tk.job.id ∧ d.status = 0x40)))

/-- R397, R408, R409, R411: an interrupt in bank B0 enters bank B1, the NMI bank B3, through a valid descriptor, and its pending mark
falls; the end of a wait; the timer raises vector 16 when the cycle count next comes to TIMER. EADDR is open there (log entries 2,
62). -/
def Obligations.GarnetAsynchronousEntries : Prop :=
  ∀ (s : State) (n c : Fin 4) (d : Desc), (s.core n c).running = true → (s.sd n).halted = false →
    (∀ v, (s.core n c).bank = 0 → (s.core n c).ie = true → (s.sd n).nmi[c] = false → (s.sd n).firstVector c = some v →
      (s.sd n).descriptor c v = some d → d.ok v 1 = true →
      ∃ a, exec (.interruptEntry n c) s = .next (State.entered (s.up n fun st =>
        { st with draws := st.draws + 1, ipend := st.ipend.set c (st.ipend[c] &&& (2 ^ 64 - 1 - 2 ^ v)) })
          n c 1 v v 0 a (s.core n c).pc d))
    ∧ ((s.core n c).bank ≠ 3 → (s.sd n).nmi[c] = true → (s.sd n).descriptor c 1 = some d → d.ok 1 3 = true →
      ∃ a, exec (.nmiEntry n c) s = .next (State.entered (s.up n fun st =>
        { st with draws := st.draws + 1, nmi := st.nmi.set c false }) n c 3 1 1 0 a (s.core n c).pc d))
    ∧ ((s.core n c).bank = 3 → (s.sd n).nmi[c] = true → exec (.nmiEntry n c) s = .next
        ((s.up n fun st => { st with nmi := st.nmi.set c false }).upCore n c fun x => { x with nmiPend := true }))
    ∧ ((s.core n c).waiting = true → (s.sd n).wakes c = true →
      exec (.wfiWake n c) s = .next (s.upCore n c fun x => { x with waiting := false }))
    ∧ ((s.sd n).coreMhz c.val ≠ 0 → ∃ t k, exec (.coreTimerExpiry n c) s = .next t
      ∧ 1 ≤ k ∧ k ≤ 2 ^ 32 ∧ ((s.sd n).cycles s.now c + k) % 2 ^ 32 = (s.core n c).timer.toNat
      ∧ t.now = s.now + (k * 1000 + (s.sd n).coreMhz c.val - 1) / (s.sd n).coreMhz c.val
      ∧ t.sd n = (s.sd n).vector 16 c.val ∧ (∀ m, m ≠ n → t.sd m = s.sd m) ∧ t.mem = s.mem ∧ t.ring = s.ring)


/-! ### Registers and memory protection -/

/-- R5, R429, R436: an access that is not an aligned 32-bit one changes nothing but the answer, an error; so does an aligned one to a hole. A
core that runs takes an exception with it: vector 7 where the address is not aligned to the access, else the MPU fault of R446.
R437: a beat that cannot be corrected is discarded and counted, its requester has an error response, and nothing else changes; a corrected one
is counted, and the access goes on. -/
def Obligations.RefusedRegisterAccesses : Prop :=
  ∀ (s : State) (who : Requester) (a size : Nat) (wr : Bool) (v : Word) (bus : BusEnv), s.ring.power = true →
    let e := { s with resp := .error }
    ((∀ n c p, who = .core n c p → ((s.sd n).core (strandNo c)).running = false) →
      (¬ (size = 4 ∧ a % 4 = 0) → exec (.misalignedRegisterAccess who a size wr) s = .next e)
      ∧ (a % 4 = 0 → Place.of who a = .hole →
        exec (.registerWrite who a v bus) s = .next e ∧ exec (.loRegisterRead who a bus) s = .next e))
    ∧ (∀ n c p, who = .core n c p → ((s.sd n).core (strandNo c)).running = true →
        (size ≠ 0 → a % size ≠ 0 →
          exec (.misalignedRegisterAccess who a size wr) s = .next (e.fault n (strandNo c) 7 (if wr then 2 else 1) (BitVec.ofNat 32 a)))
        ∧ (size ≠ 4 → (size = 0 ∨ a % size = 0) →
          exec (.misalignedRegisterAccess who a size wr) s = .next (e.mpuFault n (strandNo c) p (if wr then 2 else 1) 5 0x3F a size))
        ∧ (a % 4 = 0 → Place.of who a = .hole →
          exec (.registerWrite who a v bus) s = .next (e.mpuFault n (strandNo c) p 2 4 0x3F a 4)
          ∧ exec (.loRegisterRead who a bus) s = .next (e.mpuFault n (strandNo c) p 1 4 0x3F a 4)))
    ∧ (∀ n off, a % 4 = 0 → Place.of who a = .strand n off →
      (bus.discarded = true → let lost := (s.up n fun st => st.bump R.MPU_BUS_UE).errorResponse who a
        exec (.registerWrite who a v bus) s = .next lost ∧ exec (.loRegisterRead who a bus) s = .next lost)
      ∧ (bus.discarded = false → let t := if bus.corrected then s.up n fun st => st.bump R.MPU_BUS_CE else s
        exec (.registerWrite who a v bus) s = exec (.registerWrite who a v) t
        ∧ (bus.parityOk = true ∨ duplicated off = true → exec (.loRegisterRead who a bus) s = exec (.loRegisterRead who a) t)
        ∧ (bus.parityOk = false → duplicated off = false → reaches who n off = true → exec (.loRegisterRead who a bus) s
            = .next ((t.up n fun st => st.bump R.MPU_BUS_UE).errorResponse who a))))

/-- R122: a read of a _LO register latches its _HI partner, and the next read of that _HI register returns the latched value; any other
register read of a strand window, of the ring window or of a function page answers the word and changes nothing else. The reader is the
manager, a virtual function or a core that may reach the block. -/
def Obligations.RegisterReadsAnswer : Prop :=
  (∀ (s : State) (who : Requester) (n : Fin 4) (a off : Nat), s.ring.power = true → a % 4 = 0 →
    (Place.of who a = .ring off → exec (.loRegisterRead who a) s = .next { s with resp := .word (s.ringWord off) })
    ∧ (Place.of who a = .page n off → exec (.loRegisterRead who a) s = .next { s with resp := .word (s.pageWord who n off) }))
  ∧ ∀ (s : State) (who : Requester) (n : Fin 4) (a off : Nat), s.ring.power = true → a % 4 = 0 → Place.of who a = .strand n off →
    reaches who n off = true → off ≠ 0x800008 → off ∉ (s.sd n).dupBad →
    ((s.sd n).hiLatch.find? (fun x => x.1 == off) = none → off ∉ loRegs →
      exec (.loRegisterRead who a) s = .next { s with resp := .word (s.strandWord n off) })
    ∧ (∀ w, (s.sd n).hiLatch.find? (fun x => x.1 == off) = some (off, w) →
      exec (.loRegisterRead who a) s = .next { s.up n (fun st =>
        { st with hiLatch := st.hiLatch.filter fun x => x.1 != off }) with resp := .word w })
    ∧ ((s.sd n).hiLatch.find? (fun x => x.1 == off) = none → off ∈ loRegs → off + 4 ∉ (s.sd n).dupBad →
      Place.of who (a + 4) = .strand n (off + 4) → ∃ t, exec (.loRegisterRead who a) s = .next t
        ∧ t.resp = .word (s.strandWord n off) ∧ (t.sd n).hiLatch.find? (fun x => x.1 == off + 4) = some (off + 4, s.strandWord n (off + 4))
        ∧ ∃ u, exec (.loRegisterRead who (a + 4)) t = .next u ∧ u.resp = .word (s.strandWord n (off + 4)))

/-- R12, R13: a Boundary field, shown on PST_CFG.APPROVAL_LIFE. The write leaves the value in effect, reads back as written with the
pending bit, and takes effect at the block's boundary. -/
def Obligations.BoundaryFieldIsStagedThenApplied : Prop :=
  ∀ (s : State) (n : Fin 4) (v : Word) (x y : Nat), s.ring.power = true → (s.sd n).halted = false → (s.sd n).mode ≠ 0 →
    (s.sd n).hiLatch = [] → 0x100004 ∉ (s.sd n).dupBad → v.toNat % 2 ^ 16 = x → x ≠ 0 → (s.sd n).rd 0x100004 = BitVec.ofNat 32 y →
    0 < y → y < 2 ^ 16 → x ≠ y →
    let a := 0x40000000 + n.val * 0x4000000 + 0x100004
    ∃ t, exec (.registerWrite .manager a v) s = .next t ∧ (t.sd n).get R.PST_CFG_APPROVAL_LIFE = y
      ∧ (∃ u w, exec (.loRegisterRead .manager a) t = .next u ∧ u.resp = .word w ∧ R.PST_CFG_APPROVAL_LIFE.ofWord w = x
          ∧ R.PST_CFG_APPROVAL_LIFE_PEND.ofWord w = 1)
      ∧ (∃ u, exec (.stagedValueApply n 1) t = .next u ∧ (u.sd n).get R.PST_CFG_APPROVAL_LIFE = x
          ∧ (∀ e ∈ (u.sd n).staged, e.off / 0x100000 ≠ 1) ∧ (∀ m, m ≠ n → u.sd m = s.sd m) ∧ u.mem = s.mem ∧ u.ring = s.ring)

/-- R7, R11, R14, R79: the other classes of a register write by the manager: a Start-fixed field outside and in CHARTER, a Live field,
a read-only field, and VALID of an error record.
R434, R444, R448: Warden's core writes a region register, which reads as written at once. R437, R438, R439: a patrol pass and a
disagreement of duplicated fields count and are remembered. -/
def Obligations.RegisterWritesAndMpu : Prop :=
  (∀ (s : State) (n : Fin 4) (v : Word), s.ring.power = true → (s.sd n).halted = false →
    let a := fun o => 0x40000000 + n.val * 0x4000000 + o
    ((s.sd n).mode ≠ 1 → v ≠ (s.sd n).rd 0x100008 → ∃ t, exec (.registerWrite .manager (a 0x100008) v) s = .next t
      ∧ (t.sd n).rd 0x100008 = (s.sd n).rd 0x100008 ∧ (t.sd n).flag R.CHT_STATUS_S_REFUSED = true
      ∧ (t.sd n).flag R.CHT_VIOL_VALID = true
      ∧ ((s.sd n).flag R.CHT_VIOL_VALID = false → (t.sd n).get R.CHT_VIOL_ADDR_ADDR = 0x100008))
    ∧ ((s.sd n).mode = 1 → ∃ t, exec (.registerWrite .manager (a 0x100008) v) s = .next t ∧ (t.sd n).rd 0x100008 = v
      ∧ ∀ o, o ≠ 0x100008 → (t.sd n).rd o = (s.sd n).rd o)
    ∧ (∃ t, exec (.registerWrite .manager (a 0x200000) v) s = .next t ∧ (t.sd n).get R.JNL_CTL_STORE_EN = v.toNat % 2)
    ∧ (∃ t, exec (.registerWrite .manager (a 0x100028) v) s = .next t ∧ ∀ o, (t.sd n).rd o = (s.sd n).rd o)
    ∧ (bit v.toNat 0 = true → ∃ t, exec (.registerWrite .manager (a 0x20) v) s = .next t ∧ (t.sd n).rd 0x20 = 0
      ∧ (t.sd n).rd 0x24 = 0 ∧ ∀ o, o ≠ 0x20 → o ≠ 0x24 → (t.sd n).rd o = (s.sd n).rd o))
  ∧ (∀ (s : State) (n : Fin 4), (s.sd n).halted = false →
    (∀ c r v, s.ring.power = true → let k := 32 * c.val + r.val
      (∃ t, exec (.mpuRegionWrite n (.core n 0 0) c r 0 v) s = .next t ∧ (t.sd n).get R.MPU_BASE_BASE k = v.toNat / 32)
      ∧ (∃ t, exec (.mpuRegionWrite n (.core n 0 0) c r 1 v) s = .next t ∧ (t.sd n).get R.MPU_LIMIT_LIMIT k = v.toNat / 32)
      ∧ (∃ t, exec (.mpuRegionWrite n (.core n 0 0) c r 2 v) s = .next t ∧ (t.sd n).flag R.MPU_ATTR_VALID k = bit v.toNat 31
          ∧ (t.sd n).get R.MPU_ATTR_P2 k = bits v.toNat 8 3 ∧ (∀ m, m ≠ n → t.sd m = s.sd m) ∧ t.mem = s.mem))
    ∧ ((s.sd n).mode ≠ 0 → (∀ ce ue, ∃ t, exec (.sramPatrolPass n ce ue) s = .next t
      ∧ (t.sd n).get R.MPU_SRAM_CE = min ((s.sd n).get R.MPU_SRAM_CE + (ce.map (·.2)).sum) (2 ^ 32 - 1)
      ∧ (t.sd n).get R.MPU_SRAM_UE = min ((s.sd n).get R.MPU_SRAM_UE + ue.length) (2 ^ 32 - 1)
      ∧ (t.sd n).sram = (s.sd n).sram ∧ (∀ m, m ≠ n → t.sd m = s.sd m) ∧ t.mem = s.mem ∧ t.ring = s.ring)
      ∧ (∀ off, duplicated off = true → off ∉ (s.sd n).dupBad → ∃ t, exec (.duplicateCopySweep n off) s = .next t
        ∧ off ∈ (t.sd n).dupBad ∧ (t.sd n).get R.MPU_DUP_ERR = min ((s.sd n).get R.MPU_DUP_ERR + 1) (2 ^ 32 - 1)
        ∧ (∀ m, m ≠ n → t.sd m = s.sd m) ∧ t.mem = s.mem ∧ t.ring = s.ring)))


/-! ### Start, modes and the ring -/

/-- R56, R37: the loss of main power takes every strand to VIGIL, its return to CHARTER; the roots stay in island V. -/
def Obligations.MainPowerLossAndReturn : Prop :=
  ∀ (s : State) (vbat : Nat) (lost : List Nat),
    (s.ring.power = true → vbat ≠ 0 → ∃ t, exec (.mainPowerLoss vbat) s = .next t ∧ t.ring.power = false ∧ t.mem = s.mem ∧ t.now = s.now
      ∧ ∀ n, (t.sd n).mode = 0 ∧ (t.sd n).get R.CHT_MODE_CAUSE = 1 ∧ (t.sd n).get R.CHT_MODE_PREV_MODE = (s.sd n).mode
        ∧ (t.sd n).nv.roots = (s.sd n).nv.roots ∧ (t.sd n).sram = [] ∧ (t.sd n).taken = [])
    ∧ (s.ring.power = false → ∃ t, exec (.mainPowerReturn lost) s = .next t ∧ t.ring.power = true ∧ t.ring.challenge.isSome = true
      ∧ t.mem = s.mem ∧ t.now = s.now
      ∧ ∀ n, (t.sd n).mode = 1 ∧ (t.sd n).get R.CHT_MODE_CAUSE = 2 ∧ (t.sd n).get R.CHT_MODE_PREV_MODE = 0
        ∧ ((s.sd n).id.val ∉ lost → (t.sd n).nv.roots = (s.sd n).nv.roots)
        ∧ ((s.sd n).id.val ∈ lost → (t.sd n).nv.roots = [] ∧ (t.sd n).nv.canaryOk = false))

/-- R51, R52, R56, R61, R76: STRAND_START in each of its ends: the tamper latch; unreadable fuses; SCRAPPED; BLANK; RETURNED; the charter
of a strand with nothing retained. -/
def Obligations.StartOfAStrand : Prop :=
  ∀ (s : State) (n : Fin 4) (env : StartEnv), s.ring.power = true → (s.sd n).mode = 1 → (s.sd n).halted = false →
    (s.sd n).get R.CHT_START_STATUS_STEP = 0 →
    let Ends := fun (P : State → Strand → Prop) => ∃ t, exec (.strandStart n env) s = .next t ∧ t.now = s.now + env.took
      ∧ t.mem = s.mem ∧ P t (t.sd n)
    ((s.sd n).nv.latch = true → (s.sd n).markValid = false → (s.sd n).nv.returnRec = false → Ends fun _ x =>
      x.mode = 6 ∧ x.get R.CHT_MODE_CAUSE = 3 ∧ x.halted = false ∧ x.nv.latch = true ∧ x.nv.quarantine = true)
    ∧ ((s.sd n).nv.latch = false → (s.sd n).nv.quarantine = false → (s.sd n).canaryBad s.life = false →
      (env.fusesOk = false → Ends fun _ x => x.mode = 1 ∧ x.halted = true ∧ x.get R.CHT_START_STATUS_FAIL_STEP = 2
        ∧ x.get R.CHT_START_STATUS_FAIL_CODE = 3)
      ∧ (env.fusesOk = true → s.life = 5 → Ends fun _ x => x.mode = 1 ∧ x.halted = true
        ∧ x.get R.CHT_START_STATUS_FAIL_STEP = 2 ∧ x.get R.CHT_START_STATUS_FAIL_CODE = 9)
      ∧ (env.fusesOk = true → env.failed = [] →
        (s.life = 0 → Ends fun _ x => x.mode = 1 ∧ x.halted = false ∧ x.get R.CHT_START_STATUS_STEP = 3)
        ∧ (s.life = 4 → Ends fun _ x => x.mode = 7 ∧ x.get R.CHT_MODE_CAUSE = 6 ∧ x.halted = false)
        ∧ (s.life = 1 ∨ s.life = 3 → (s.sd n).nv.returnRec = false → (s.sd n).nv.retCharter = none → env.retainedOk = true →
          Ends fun _ x =>
            match Charter.choose s.ring.ident s.life n (s.sd n).nv.charterMem with
            | .inl (b, _) =>
                let torn := fun (lo : Nat) => ∃ i ∈ (s.sd n).nv.flash.incomplete, lo ≤ i ∧ i < lo + 528
                (torn 8 ∧ torn 536 → x.halted = true ∧ x.get R.CHT_START_STATUS_FAIL_STEP = 5 ∧ x.get R.CHT_START_STATUS_FAIL_CODE = 5)
                ∧ (¬ (torn 8 ∧ torn 536) → x.accepted = some (Charter.signed b) ∧ x.nv.retCharter = some (Charter.signed b)
                  ∧ x.nv.retDigest = Charter.digest (Charter.signed b))
            | .inr why => x.halted = true ∧ x.get R.CHT_START_STATUS_FAIL_STEP = 4 ∧ x.get R.CHT_START_STATUS_FAIL_CODE = 4
                ∧ x.get R.CHT_STATUS_FALLBACK_WHY = why % 8)))

/-- R51, R56, R60, R62, R74: the doubled entries to SERVICE or DEGRADED (after pairing, at a thaw, at its retry, at the close of a ceremony;
a second mismatch halts with code 8), the manager's restart and freeze, and the end of a freeze. -/
def Obligations.ServingRestartAndFreeze : Prop :=
  (∀ (s : State) (n : Fin 4) (agree : Bool), (s.sd n).halted = false →
    (∀ t0, (s.sd n).pairDue = some t0 → (s.life = 1 ∨ s.life = 3) → ∃ t, exec (.pairWaitExpired n true) s = .next t
      ∧ t.now = max s.now t0 ∧ (t.sd n).mode = (s.sd n).servingMode ∧ (t.sd n).get R.CHT_START_STATUS_STEP = 10
      ∧ (t.sd n).flag R.CHT_STATUS_PAIR_EXPIRED = true ∧ OnlyStrand s t n)
    ∧ ((s.sd n).mode = 4 → (s.sd n).retry = none → ∃ t, exec (.modeReqThaw n .manager agree) s = .next t ∧ OnlyStrand s t n
      ∧ (agree = true → (t.sd n).mode = (s.sd n).servingMode ∧ (t.sd n).freezeOpen = false)
      ∧ (agree = false → (t.sd n).mode = 4 ∧ (t.sd n).retry = some (.thaw, s.now + 1000000)))
    ∧ (∀ t0, (s.sd n).mode = 4 → (s.sd n).retry = some (.thaw, t0) → ∃ t, exec (.doubledDecisionRetry n agree) s = .next t
      ∧ t.now = max s.now t0 ∧ (t.sd n).retry = none ∧ Aside s t n
      ∧ (agree = true → (t.sd n).mode = (s.sd n).servingMode)
      ∧ (agree = false → (t.sd n).mode = 4 ∧ (t.sd n).halted = true ∧ (t.sd n).get R.CHT_START_STATUS_FAIL_CODE = 8))
    ∧ ((s.sd n).mode = 5 → (s.sd n).retry = none → s.life = 2 → ∃ t, exec (.ceremonyIdleExpired n agree) s = .next t
      ∧ (t.sd n).mode = 5 ∧ OnlyStrand s t n)
    ∧ ((s.sd n).mode = 5 → (s.sd n).retry = none → (s.life = 1 ∨ s.life = 3) → ∃ t, exec (.ceremonyIdleExpired n true) s = .next t
      ∧ (t.sd n).mode = (s.sd n).servingMode ∧ OnlyStrand s t n
      ∧ t.now = max s.now ((s.sd n).ceremonyBeat + 60000000000 * (s.sd n).get R.CHT_START_CFG_CEREMONY_IDLE)))
  ∧ (∀ (s : State) (n : Fin 4),
    ((s.sd n).mode ≠ 0 → (s.sd n).mode ≠ 7 → (s.sd n).chkAt = none → ∃ t, exec (.modeReqRestart n .manager) s = .next t ∧ Aside s t n
      ∧ (t.sd n).mode = 1 ∧ (t.sd n).get R.CHT_MODE_CAUSE = 9 ∧ (t.sd n).get R.CHT_MODE_PREV_MODE = (s.sd n).mode
      ∧ (t.sd n).halted = false ∧ (t.sd n).taken = [] ∧ (t.sd n).done = [] ∧ (t.sd n).nv.roots = (s.sd n).nv.roots)
    ∧ (((s.sd n).mode = 2 ∨ (s.sd n).mode = 3) → (s.sd n).halted = false → ∃ t, exec (.modeReqFreeze n .manager) s = .next t
      ∧ (t.sd n).mode = 4 ∧ (t.sd n).get R.CHT_MODE_CAUSE = 8 ∧ (t.sd n).freezeOpen = true ∧ OnlyStrand s t n)
    ∧ ((s.sd n).mode = 4 → (s.sd n).freezeOpen = true → (s.sd n).batchOpen = false →
      exec (.strandFreezeComplete n) s = .next (s.up n fun st => { st with freezeOpen := false }))
    ∧ ∀ f agree, exec (.modeReqRestart n (.vf f)) s = .next s ∧ exec (.modeReqFreeze n (.vf f)) s = .next s
        ∧ exec (.modeReqThaw n (.vf f) agree) s = .next s)

/-- R24, R28, R70, R71, R357: the maker's challenges in RETURNED; a ring part or a reference of island RS fails; run-time ring settings are
retained, each replacing the bits it names. -/
def Obligations.MakerChallengesAndRingParts : Prop :=
  (∀ (s : State) (key sig c : Bytes), s.ring.power = true → s.life = 4 →
    (s.ring.wrongDebug < 3 → s.ring.debugOpen = false →
      ∃ t, exec (.makerDebugChallenge sig key) s = .next t ∧ t.mem = s.mem ∧
        if s.makerSigned key (s.debugChallenge.1 ++ fit 16 s.ring.ident.deviceId) sig = true
        then t.ring.debugOpen = true ∧ t.ring.scrapChallenge.isSome = true
        else t = s.debugChallenge.2.upR fun r => { r with wrongDebug := r.wrongDebug + 1 })
    ∧ (s.ring.wrongDebug ≥ 3 → exec (.makerDebugChallenge sig key) s = .next s)
    ∧ (s.ring.scrapChallenge = some c → s.ring.debugOpen = true → s.ring.wrongScrap < 3 → s.ring.rsFailed = false →
      ∃ t, exec (.makerScrapOrder sig true key) s = .next t ∧ t.mem = s.mem ∧
        if s.makerSigned key (c ++ fit 16 s.ring.ident.deviceId ++ ascii "SCRP") sig = true
        then t.life = 5 else t.life = 4 ∧ t.ring.wrongScrap = s.ring.wrongScrap + 1))
  ∧ (∀ (s : State),
    exec (.ringPartFailure .hostPort) s = .next (s.upR fun r => { r with hpFailed := true })
    ∧ (∃ t, exec (.ringPartFailure .tagFrontEnd) s = .next t ∧ t.ring.tfFailed = true ∧ t.ring.tag.owned = false ∧ t.ring.tag.prog = none
        ∧ t.ring.tag.fieldDet = false ∧ t.rget R.TAG_STATUS_OWNED = 0 ∧ t.rget R.TAG_STATUS_WIP = 0
        ∧ (∀ m, t.sd m = s.sd m) ∧ t.mem = s.mem)
    ∧ exec (.ringPartFailure .supervision) s
        = .next (s.upR fun r => { r with rsFailed := true, tag := { r.tag with held0 := some s.tagBlock0 } })
    ∧ (∀ (bad k : Fin 4), s.ring.power = true → s.rget R.RNG_STATUS_RS_REF = bad.val → k ≠ bad → k.val ∉ s.ring.refBad →
        (∀ j : Fin 4, j < k → j = bad ∨ j.val ∈ s.ring.refBad) → ∃ t, exec (.rsRefclkFailover bad) s = .next t
        ∧ t.rget R.RNG_STATUS_RS_REF = k.val ∧ bad.val ∈ t.ring.refBad ∧ (∀ m, t.sd m = s.sd m) ∧ t.mem = s.mem)
    ∧ (s.ring.rsFailed = false → s.ring.power = true →
        ∃ t, exec .ringRetainWrite s = .next t ∧ t.ring.retainPend = [] ∧ t.mem = s.mem
        ∧ ∀ n, ((s.sd n).halted = true → t.sd n = s.sd n)
          ∧ ((s.sd n).halted = false → (t.sd n).nv.ringRuntime = s.ring.retainPend.foldl retainEntry (s.sd n).nv.ringRuntime)))
  ∧ ∀ (l : List FieldEntry) (e : FieldEntry), e ∈ retainEntry l e
    ∧ ∀ y ∈ retainEntry l e, y = e ∨ (y.off ≠ e.off ∧ y ∈ l)
      ∨ ∃ x ∈ l, x.off = e.off ∧ y = { x with mask := x.mask - (x.mask &&& e.mask) }

/-! ### The posting engine -/

/-- R91, R94, R95, R98, R100: chains wait for intake; the first one passes it as a batch in CHECKING, or completes with the status of
stage 1. -/
def Obligations.PostingIntake : Prop :=
  ∀ (s : State) (n : Fin 4) (j : Job) (rest : List (Job × Option Relay)), (s.sd n).halted = false →
    exec (.postBatch n j) s = .next (s.up n fun st => st.upPost fun p => { p with waiting := p.waiting ++ [({ j with op := 0x100 }, none)] })
    ∧ exec (.checkBatch n j) s = .next (s.up n fun st => st.upPost fun p => { p with waiting := p.waiting ++ [({ j with op := 0x101 }, none)] })
    ∧ ((s.sd n).post.waiting = (j, none) :: rest → ((s.sd n).post.batches.filter fun b => !b.posted).length < 16 →
        j.env.readOk = true → ∃ t, exec (.batchIntake n) s = .next t ∧ OnlyStrand s t n ∧ (t.sd n).post.waiting = rest ∧
        match s.intakeStatus n j none with
        | (0, _) => ∃ b, (t.sd n).post.batches = (s.sd n).post.batches ++ [b] ∧ b.order = (s.sd n).post.nextOrder
            ∧ (t.sd n).post.nextOrder = (s.sd n).post.nextOrder + 1 ∧ b.parsed = 0 ∧ b.slot = none
            ∧ b.phase = (if b.fails = [] ∧ b.fault = none then .checking else .aborted)
            ∧ b.recs = State.recordsOf j.input (Hdr.count (sub j.input 0 64)) ∧ b.check = (j.op == 0x101) ∧ b.reserved = []
        | (e, p) => (t.sd n).post.batches = (s.sd n).post.batches ∧ ∃ d ∈ (t.sd n).done, d.job.id = j.id ∧ d.status = e ∧ d.resLen = 0
            ∧ d.detail = postDetail 1 (p.getD 0) 0 p.isNone)

/-- R94, R97, R104, R127, R130, R139: a batch takes the lowest free slot, with a mask unless it is aborted; a record check moves Parse on by
one record, keeps every failure and aborts the batch at the first; the decision reports the failure or the fault, or lets the batch commit. -/
def Obligations.QuarantineChecksAndDecision : Prop :=
  ∀ (s : State) (n : Fin 4) (b : Batch),
    (∀ k, (s.sd n).post.batches.find? (fun b => b.slot.isNone && !b.posted) = some b → (s.sd n).freeSlot = some k →
      ∃ t m, exec (.quarantineSlotTake n) s = .next t ∧ OnlyStrand s t n
        ∧ (t.sd n).post.slots = (s.sd n).post.slots ++ [{ num := k, order := b.order, mask := m }]
        ∧ (m.isSome = true ↔ b.phase ≠ .aborted) ∧ (t.sd n).batch b.order = some { b with slot := some k }
        ∧ (b.spec = false → (t.sd n).quar = (s.sd n).quar))
    ∧ ((s.sd n).halted = false → (s.sd n).batch b.order = some b →
      (∀ fault, b.phase = .checking → b.parsed < b.recs.length → b.relay = none → (s.sd n).mustWait b = false →
        ∃ t b', exec (.recordCheck n b.order fault) s = .next t ∧ OnlyStrand s t n ∧ (t.sd n).batch b.order = some b'
          ∧ b'.parsed = b.parsed + 1 ∧ b'.recs = b.recs ∧ (∀ f ∈ b.fails, f ∈ b'.fails)
          ∧ (b'.phase = .aborted ∨ b'.phase = .checking ∧ b'.fails = b.fails)
          ∧ b'.lastSeq = max b.lastSeq (Lrf.seq (b.recs.getD b.parsed []))
          ∧ (2 ≤ fault → fault ≤ 5 → b'.phase = .aborted ∧ b'.fault.isSome = true)
          ∧ (∀ e k q, (s.sd n).parseStatus b (b.recs.getD b.parsed []) b.parsed = (e, k, q) → e ≠ 0 →
              b'.phase = .aborted ∧ ∃ f ∈ b'.fails, f.stage = 2 ∧ f.place = b.parsed + 1 ∧ f.status = e))
      ∧ (b.parsed = b.recs.length → b.decision = none →
        let Ends := fun (status detail : Nat) => ∃ t b', exec (.batchDecision n b.order) s = .next t ∧ OnlyStrand s t n
          ∧ (t.sd n).batch b.order = some b' ∧ b'.phase = .aborted ∧ b'.reserved = [] ∧ ∃ d ∈ (t.sd n).done, d.job = b.job
            ∧ d.status = status ∧ d.resLen = 0 ∧ d.detail = detail
        (b.phase = .checking → b.fails = [] → b.fault = none →
          (Strand.unbalanced b.cur = none → b.check = false → exec (.batchDecision n b.order) s =
            .next (s.up n fun st => st.setBatch { b with decision := some s.now }))
          ∧ (∀ k, Strand.unbalanced b.cur = some k → Ends 0x11 (postDetail 5 0 k true))
          ∧ (Strand.unbalanced b.cur = none → b.check = true → Ends 0 0))
        ∧ (b.phase = .aborted →
          (∀ f, b.fault = none → reported b.fails = some f → Ends f.status (postDetail f.stage (f.place - 1) f.slot f.batch))
          ∧ (∀ k, b.fault = some k → Ends 0x7F (postDetail k 0 0 true)))))

/-- R95, R100, R108, R130, R132, R164, R181: commit draws the sequence numbers and the entry number in intake order; the hold limit ends a
batch with 0x50; a slot's words are zero, and after its batch's completion it returns to the pool. -/
def Obligations.CommitHoldLimitAndSlots : Prop :=
  ∀ (s : State) (n : Fin 4) (b : Batch),
    ((s.sd n).halted = false → (s.sd n).batch b.order = some b →
      ((s.sd n).writer = true → b.phase = .checking → b.decision.isSome = true →
        (∀ c ∈ (s.sd n).post.batches, c.order < b.order → c.deciding = false) →
        ∃ t b', exec (.batchCommit n b.order) s = .next t ∧ OnlyStrand s t n ∧ (t.sd n).batch b.order = some b' ∧ b'.phase = .committed
          ∧ b'.commitAt = s.now ∧ b'.reserved = []
          ∧ (let ahead := (s.sd n).post.batches.filter fun c => c.phase == .committed && !c.dead
             b'.firstSeq = (s.sd n).jnl.s.seq + (ahead.map fun c => c.recs.length).sum + 1
              ∧ b'.entryNo = (s.sd n).jnl.s.cur.no + ahead.length + 1)
          ∧ markOf (t.sd n).jnl.s.marks (Hdr.submitter b.header) = max (markOf (s.sd n).jnl.s.marks (Hdr.submitter b.header)) b.lastSeq
          ∧ (t.sd n).get64 R.PST_BATCH_LO = ((s.sd n).get64 R.PST_BATCH_LO + 1) % 2 ^ 64)
      ∧ (b.ended = false → (b.phase = .committed ∨ b.phase = .sealed) → ∃ t, exec (.holdLimitExpired n b.order) s = .next t
        ∧ t.now = max s.now (b.commitAt + 1000000000 * (s.sd n).get R.MIR_CTL_HOLD_LIMIT) ∧ OnlyStrand s t n
        ∧ ∃ d ∈ (t.sd n).done, d.job = b.job ∧ d.status = 0x50 ∧ d.resLen = 0 ∧ d.ended = t.now))
    ∧ (∀ k q t0, (s.sd n).post.slots.find? (fun x => x.num == k) = some q → q.zeroAt = some t0 →
      ∃ t, exec (.slotClearDone n k) s = .next t ∧ t.now = max s.now t0 ∧ OnlyStrand s t n
        ∧ (t.sd n).post.batches = (s.sd n).post.batches
        ∧ (∀ c, c ∈ (t.sd n).quar ↔ c ∈ (s.sd n).quar ∧ c.1 / 524288 ≠ k)
        ∧ (∀ x, x.num ≠ k → (x ∈ (t.sd n).post.slots ↔ x ∈ (s.sd n).post.slots))
        ∧ (∀ x ∈ (t.sd n).post.slots, x.num = k → q.free = false ∧ x.zeroAt = none)
        ∧ (q.free = false → { q with zeroAt := none } ∈ (t.sd n).post.slots))

/-- R99, R112, R128, R134, R162, R164: a Beryl engine prepares the signature, then seals the oldest committed batch: the entry joins the
chain at its head, under the next entry number and sequence numbers; while the seal key is refused the batch stays committed. -/
def Obligations.SealingFormsTheEntry : Prop :=
  ∀ (s : State) (n : Fin 4) (b : Batch) (eng w : Nat) (x : Strand), (s.sd n).halted = false → (s.sd n).batch b.order = some b →
    ((s.sd n).berSeal s.now eng (Strand.sealCycles b.sealAlg false) = some (x, w) →
      b.check = false → b.prep = none → b.slot.isSome = true → (b.phase = .checking ∧ b.spec = true ∨ b.phase = .committed) →
      ∃ t b', exec (.sealPreparation n b.order eng) s = .next t ∧ OnlyStrand s t n ∧ (t.sd n).batch b.order = some b'
        ∧ b'.prep.isSome = true ∧ b'.prepEng = eng ∧ b'.phase = b.phase ∧ b'.berJobs = b.berJobs + 1 ∧ b'.berWipes = b.berWipes + w)
    ∧ ((s.sd n).berSeal s.now eng (Strand.sealCycles b.sealAlg true) = some (x, w) →
      (s.sd n).writer = true → b.phase = .committed → b.dead = false → b.prep.isSome = true →
      (∀ c ∈ (s.sd n).post.batches, c.order < b.order → c.phase = .committed → c.dead = true) →
      (∀ y k c, x.releaseLate s.now b.job.env 0xFF 0 b.sealCtx (2 ^ 4) 1 false = (y, k, .inr c) →
        (s.sd n).jnl.s.cur.no + 1 < 2 ^ 64 → (s.sd n).jnl.s.seq + b.recs.length < 2 ^ 64 →
        ∃ t, exec (.sealCompletion n b.order eng true) s = .next t ∧ (∀ m, m ≠ n → t.sd m = s.sd m) ∧ t.now = s.now
          ∧ (t.sd n).jnl.s.cur.no = (s.sd n).jnl.s.cur.no + 1 ∧ (t.sd n).jnl.s.seq = (s.sd n).jnl.s.seq + b.recs.length
          ∧ (t.sd n).jnl.takeover = false)
      ∧ (∀ y k e ok, x.releaseLate s.now b.job.env 0xFF 0 b.sealCtx (2 ^ 4) 1 false = (y, k, .inl e) → e ≠ 0x7F →
        ∃ t b', exec (.sealCompletion n b.order eng ok) s = .next t ∧ OnlyStrand s t n ∧ (t.sd n).batch b.order = some b'
          ∧ b'.phase = .committed ∧ (t.sd n).jnl = (s.sd n).jnl ∧ (t.sd n).flag R.PST_ERR_VALID = true))

/-- R147, R148, R347, R349: the earliest completion is posted at its time: its entry lies at the tail of its completion queue, the
tail moves on, and the job is no longer taken. -/
def Obligations.CompletionPosting : Prop :=
  ∀ (s : State) (n : Fin 4) (d : Done), (s.sd n).halted = false → s.rflag R.HQ_STATUS_LINK_UP = true → s.ring.hpFailed = false →
    earliest (s.sd n).done = some d → (s.fn d.job.fn).gen = d.job.gen → (s.fn d.job.fn).st ≠ .absent →
    let q := s.cq d.job.cq
    ∃ t, exec (.completionPost n true) s = .next t ∧ t.now = max s.now d.due ∧ (∀ m, m ≠ n → t.sd m = s.sd m)
      ∧ t.mem = Mem.writeBytes s.mem (s.cqBase d.job.cq + 32 * q.tail)
          (toLE 4 d.job.tag ++ toLE 1 d.status ++ toLE 1 d.job.gen ++ toLE 1 (b2n q.phase) ++ zeros 1 ++ toLE 4 d.resLen
            ++ toLE 4 d.detail ++ toLE 2 d.job.sq ++ toLE 2 (s.sq d.job.sq).head ++ zeros 12)
      ∧ (t.cq d.job.cq).tail = (q.tail + 1) % s.cqSize d.job.cq ∧ (t.cq d.job.cq).posted = q.posted + 1
      ∧ (t.cq d.job.cq).reserved = q.reserved - 1
      ∧ (∀ e ∈ (t.sd n).done, e.job.id ≠ d.job.id) ∧ (∀ j ∈ (t.sd n).taken, j.id ≠ d.job.id)

/-- R106, R109, R110, R115, R679: the verifier's opcodes, a buffer that no notice takes, the end of an approval at its EXPIRY; PIN
translation (never from format 4 to format 0; the bytes of a translated block are open); SUBMITTER_QUERY answers the high-water mark. -/
def Obligations.ApprovalsPinBlocksAndSubmitters : Prop :=
  (∀ (s : State) (n : Fin 4) (j : Job) (a : Approval), Served s n j →
    (s.rget R.HQ_CQ_CFG_OWNER ((s.sd n).get R.PST_RELAY_CQ_QUEUE) = j.fn → j.input.length = 18 →
      (s.sd n).approval (sub j.input 0 16) (le j.input 16 2) = some a →
      (a.live = false → bit j.w6 0 = true → (s.sd n).deviceTime s.now < a.expiry → exec (.approvalConfirm n j) s = .next
        ((s.up n fun st => (st.setApproval { a with live := true }).noticeKind1 a.station 5 a.ref).succeed n j []))
      ∧ (a.live = false → bit j.w6 0 = false → exec (.approvalConfirm n j) s = .next
        ((s.up n fun st => (st.dropApproval a).noticeKind1 a.station 6 a.ref).succeed n j []))
      ∧ exec (.approvalRevoke n j) s = .next ((s.up n fun st => (st.dropApproval a).noticeKind1 a.station 6 a.ref).succeed n j [])
      ∧ (16 ≤ j.seg0.outLen → exec (.approvalQuery n j) s = .next
        (s.succeed n j (toLE 1 (if a.live then 2 else 1) ++ toLE 1 a.uses ++ zeros 6 ++ toLE 8 a.expiry))))
    ∧ (s.rget R.HQ_CQ_CFG_OWNER ((s.sd n).get R.PST_RELAY_CQ_QUEUE) ≠ j.fn → j.cop = none →
      exec (.approvalRevoke n j) s = .next (s.fail n j 0x1A) ∧ exec (.approvalQuery n j) s = .next (s.fail n j 0x1A)
        ∧ exec (.approvalConfirm n j) s = .next (s.fail n j 0x1A))
    ∧ ((s.sd n).post.waits = [] → (∀ k ∈ (s.sd n).taken, k.id ≠ j.id) → exec (.relayBuffer n j) s = .next (s.up n fun st =>
        { st.upPost fun p => { p with buffers := p.buffers ++ [j] } with taken := st.taken ++ [j] }))
    ∧ (∀ ref sta, (s.sd n).approval ref sta = some a → a.expiry ≤ (s.sd n).deviceTime s.now →
        exec (.approvalExpiry n ref sta) s = .next (s.up n fun st => (st.dropApproval a true).noticeKind1 a.station 6 a.ref)))
  ∧ (∀ (s : State) (n : Fin 4) (j : Job), Served s n j →
    let src := bits j.w6 0 8
    let dst := bits j.w6 8 8
    (src = 4 → dst = 0 → exec (.pinTranslate n j) s = .next (s.fail n j 0x41))
    ∧ (pinAllowed (s.sd n) src dst = false → exec (.pinTranslate n j) s = .next (s.fail n j 0x41))
    ∧ (∀ x y c1 c2, pinAllowed (s.sd n) src dst = true → pinLen dst ≤ j.seg0.outLen →
      (s.sd n).release s.now j.env j.fn (s.jobGen j) j.ctx (2 ^ 9) 0 true = (x, .inr c1) →
      x.release s.now j.env j.fn (s.jobGen j) (j.w7 % 2 ^ 32) (2 ^ 9) 0 true = (y, .inr c2) →
      (pinKeyOk src c1.attr.alg = true → pinKeyOk dst c2.attr.alg = true →
        exec (.pinTranslate n j) s = .next (s.setSd n y |>.fail n j 0x41)
          ∨ ∃ out, out.length = pinLen dst ∧ exec (.pinTranslate n j) s = .next ((s.setSd n y).succeed n j out))
      ∧ (pinKeyOk src c1.attr.alg = false ∨ pinKeyOk dst c2.attr.alg = false →
        exec (.pinTranslate n j) s = .next (s.setSd n y |>.fail n j 0x21)))
    ∧ (j.fn = 0 ∨ j.cop.isSome = true ∨ s.submitterOk n j.fn (bits j.w6 0 12) = true → 8 ≤ j.seg0.outLen →
        exec (.submitterQuery n j) s = .next (s.succeed n j (toLE 8 (markOf (s.sd n).jnl.s.marks (bits j.w6 0 12)))))
    ∧ (j.fn ≠ 0 → j.cop = none → s.submitterOk n j.fn (bits j.w6 0 12) = false → exec (.submitterQuery n j) s = .next (s.fail n j 0x41)))


/-! ### The host port -/

/-- R147, R148, R339: a job that succeeds at once (MGT_NOP) leaves its completion waiting: at the end of the job for an exempt class,
else at the later of the cadence point and that moment, rounded up to the tick. -/
def Obligations.JobCompletionTimes : Prop :=
  ∀ (s : State) (n : Fin 4) (j : Job), Served s n j →
    ∃ t d, exec (.mgtNop n j) s = .next t ∧ OnlyStrand s t n ∧ d ∈ (t.sd n).done ∧ d.job = j ∧ d.status = 0 ∧ d.resLen = 0
      ∧ d.ended = s.now ∧ (j.op < 0x100 → d.due = s.now)
      ∧ (∀ e, 0x200 ≤ j.op → j.cop = none → (s.sd n).cadEntry j.op = e → e.exempt = false →
          d.due = (max (j.origin + min (e.base + e.perKib * ((j.inLen + 1023) / 1024)) 10000000000) s.now + 9) / 10 * 10)
      ∧ (∀ e ∈ (t.sd n).done, e ≠ d → e ∈ (s.sd n).done ∧ e.job.id ≠ j.id)

/-- R336 to R339, R341, R345, R349: with one eligible queue, ENTRY_TAKE takes its next entry. One that is a whole job is handed to the strand
with a completion slot reserved; an entry that the port refuses, and an opcode that its block does not define, has completed with 0x41. -/
def Obligations.EntryTakeHandsOverAJob : Prop :=
  ∀ (s : State) (n : Fin 4) (q : Sq) (e : Bytes), s.strandSqs n = [q] → s.sq q.id = q → s.ring.scheds[n] = {} →
    s.eligible q = true → s.rget R.HQ_SQ_SCHED_WEIGHT q.id ≠ 0 → q.chain = none → s.entryAt q q.next = e →
    bit (State.w0 e) 47 = true → bit (State.w0 e) 46 = true →
    let j := s.jobOf q.id [e] (s.fn (s.sqOwner q.id)).gen
    let usable := s.cqUsable (s.cqNamed q.id (State.w0 e)) (s.sqOwner q.id)
    ∃ t, exec (.entryTake n) s = .next t ∧ Aside s t n ∧ t.now = s.now
      ∧ (t.sq q.id).next = (q.next + 1) % s.sqSize q.id ∧ (t.sq q.id).head = (q.next + 1) % s.sqSize q.id
      ∧ (t.cq j.cq).reserved = (s.cq j.cq).reserved + 1 ∧ t.ring.jobSeq = s.ring.jobSeq + 1
      ∧ (∃ k ∈ (t.sd n).taken, k.id = j.id)
      ∧ (usable = true → State.reservedSet e = false → bits (State.w0 e) 48 16 ∈ State.opcodes →
          (t.sd n).taken = (s.sd n).taken ++ [j] ∧ (t.sd n).done = (s.sd n).done)
      ∧ (∀ reason, (usable = false ∧ reason = 1 ∨ usable = true ∧ (State.reservedSet e = true ∧ reason = 6
            ∨ State.reservedSet e = false ∧ (0xA00 ≤ bits (State.w0 e) 48 16 ∧ reason = 7
              ∨ bits (State.w0 e) 48 16 < 0xA00 ∧ bits (State.w0 e) 48 16 ∉ State.opcodes ∧ reason = 0))) →
          ∃ d ∈ (t.sd n).done, d.job.id = j.id ∧ d.status = 0x41 ∧ d.resLen = 0 ∧ d.detail = reason)

/-- R335, R349: the doorbells: a tail or head that the ring allows is taken, any other only marks the queue, and one from a page that does not
reach the queue does nothing. R333, R343, R344, R345, R350: queues enabled, disabled, discarded, invalidated and published. -/
def Obligations.DoorbellsAndQueueControl : Prop :=
  (∀ (s : State) (who : Requester) (q v : Nat),
    (let k := s.sq q
     let N := s.sqSize q
     let reaches := s.rflag R.HQ_SQ_CFG_MAPPED q = true ∧ s.pageReaches who q (s.sqOwner q) = true
     let fits := v < N ∧ (v + N - k.tail) % N ≤ (k.head + N - 1 + N - k.tail) % N
     (reaches → fits → exec (.sqDbWrite who q v) s = .next (s.setSq { k with tail := v }))
      ∧ (reaches → ¬ fits → exec (.sqDbWrite who q v) s = .next (s.setSq { k with dbErr := true }))
      ∧ (¬ reaches → exec (.sqDbWrite who q v) s = .next s))
    ∧ (let k := s.cq q
       let N := s.cqSize q
       let moved := (v + N - k.head) % N
       let reaches := s.rflag R.HQ_CQ_CFG_MAPPED q = true ∧ s.pageReaches who q (s.rget R.HQ_CQ_CFG_OWNER q) = true
       (reaches → v < N → moved ≤ k.posted →
          exec (.cqDbWrite who q v) s = .next (s.setCq { k with head := v, posted := k.posted - moved }))
        ∧ (reaches → N ≤ v ∨ k.posted < moved → exec (.cqDbWrite who q v) s = .next (s.setCq { k with dbErr := true }))
        ∧ (¬ reaches → exec (.cqDbWrite who q v) s = .next s)))
  ∧ (∀ (s : State) (who : Requester) (q : Nat) (ien : Bool),
    let k := s.sq q
    let c := s.cq q
    (mayControl who (s.sqOwner q) = true →
      (k.state = .disabled →
        (s.sqConfigOk q = true → exec (.sqEnableWrite who q) s =
          .next (s.setSq { k with state := .enabled, next := k.head, chain := none, cache := [] }))
        ∧ (s.sqConfigOk q = false → exec (.sqEnableWrite who q) s = .next (s.hqErr 5 q 0 (s.sqOwner q))))
      ∧ (k.state = .enabled → ∃ t, exec (.sqDisableWrite who q) s = .next t ∧ (t.sq q).state = .disabling ∧ (t.sq q).cache = []
          ∧ (t.sq q).chain = none ∧ (t.sq q).next = k.head ∧ (t.sq q).head = k.head ∧ (∀ m, t.sd m = s.sd m) ∧ t.mem = s.mem)
      ∧ (k.state = .error → ∃ t, exec (.sqDisableWrite who q) s = .next t ∧ (t.sq q).state = .disabled ∧ (∀ m, t.sd m = s.sd m)
          ∧ t.mem = Mem.writeBytes s.mem (s.hpub q) (toLE 4 (k.head % 2 ^ 16 + 2 ^ 16) ++ toLE 4 (k.pubNo + 1)))
      ∧ (k.state = .enabled → exec (.sqInvalWrite who q) s = .next (s.setSq { k with cache := [], inval := false })))
    ∧ (mayControl who (s.sqOwner q) = false → exec (.sqEnableWrite who q) s = .next s ∧ exec (.sqDisableWrite who q) s = .next s
        ∧ exec (.sqInvalWrite who q) s = .next s)
    ∧ (s.portUp = true →
      (k.state = .disabling → ∃ t, exec (.queueDiscardDone q) s = .next t ∧ (t.sq q).state = .disabled ∧ (∀ m, t.sd m = s.sd m)
          ∧ t.mem = Mem.writeBytes s.mem (s.hpub q) (toLE 4 (k.head % 2 ^ 16 + 2 ^ 16) ++ toLE 4 (k.pubNo + 1)))
      ∧ (∀ d, k.pubDue = some d → k.state ≠ .disabled → ∃ t, exec (.headPublish q true) s = .next t ∧ (t.sq q).pubDue = none
          ∧ (t.sq q).pubNo = k.pubNo + 1 ∧ (∀ m, t.sd m = s.sd m)
          ∧ t.mem = Mem.writeBytes s.mem (s.hpub q) (toLE 4 (k.head % 2 ^ 16) ++ toLE 4 (k.pubNo + 1)))
      ∧ (∀ d, k.pubDue = some d → ∃ t, exec (.headPublish q false) s = .next t ∧ t.mem = s.mem ∧ (t.cq (s.cqDef q)).writeErr = true))
    ∧ (s.portUp = false → exec (.queueDiscardDone q) s = .next s ∧ ∀ ok, exec (.headPublish q ok) s = .next s)
    ∧ (s.rflag R.HQ_CQ_CFG_MAPPED q = true → mayControl who (s.rget R.HQ_CQ_CFG_OWNER q) = true →
      (c.enabled = false → exec (.cqEnableWrite who q true ien) s = .next (s.setCq
        { c with enabled := true, ien := ien, head := 0, tail := 0, phase := true, posted := 0, unsignalled := 0, timer := none }))
      ∧ (c.enabled = true → exec (.cqEnableWrite who q true ien) s = .next (s.setCq { c with ien := ien }))
      ∧ (c.enabled = false ∨ c.reserved = 0 → exec (.cqEnableWrite who q false ien) s =
        .next (s.setCq { c with enabled := false, ien := ien }))
      ∧ (c.enabled = true → 0 < c.reserved → exec (.cqEnableWrite who q false ien) s =
        .next (s.hqErr 6 q 1 (s.rget R.HQ_CQ_CFG_OWNER q)))))

/-- R330, R337, R342, R352, R353, R359: the port's events: an expired chain, the entry cache, input read and output errors, interrupts
and the link. -/
def Obligations.HostPortEvents : Prop :=
  ∀ (s : State) (n : Fin 4) (q : Nat),
    (∀ c, (s.sq q).chain = some c → ∃ t, exec (.chainWaitExpired q) s = .next t ∧ (t.sq q).chain = none ∧ (t.sq q).head = (s.sq q).next
        ∧ t.now = max s.now (c.lastAt + 10000000 * s.rget R.HQ_CTL_CHAIN_WAIT) ∧ t.mem = s.mem
        ∧ ∃ d ∈ (t.sd (State.homeOf q)).done, d.job.tag = bits (State.w0 (c.entries.getLastD [])) 0 32 ∧ d.status = 0x41 ∧ d.detail = 3)
    ∧ (let k := s.sq q
       let i := (k.next + k.cache.length) % s.sqSize q
       k.state = .enabled → s.portServes (State.homeOf q) = true → i ≠ k.tail → k.cache.length < 16 →
        (k.cache.any fun x => x.1 == i) = false →
        exec (.entryCacheFetch q true) s = .next (s.setSq { k with cache := k.cache ++ [(i, Mem.readBytes s.mem (s.sqBase q + 64 * i) 64)] })
        ∧ (∃ t, exec (.entryCacheFetch q false) s = .next t ∧ (t.sq q).state = .error ∧ (∀ m, t.sd m = s.sd m) ∧ t.mem = s.mem))
    ∧ (s.portServes (State.homeOf q) = false → ∀ ok, exec (.entryCacheFetch q ok) s = .next s)
    ∧ (∀ j ∈ (s.sd n).taken, (∀ k ∈ (s.sd n).taken, k.id = j.id → k = j) →
      (∃ t, exec (.jobInputRead n j.id true) s = .next t ∧ OnlyStrand s t n ∧ { j with lastInput := s.now } ∈ (t.sd n).taken
        ∧ (t.sd n).done = (s.sd n).done)
      ∧ (((s.sd n).done.any fun d => d.job.id == j.id) = false → ∃ t d, exec (.jobInputRead n j.id false) s = .next t ∧ Aside s t n ∧ d ∈ (t.sd n).done ∧ d.job.id = j.id ∧ d.status = 0x40)
      ∧ (∃ t d, exec (.jobOutputWriteError n j.id) s = .next t ∧ Aside s t n ∧ d ∈ (t.sd n).done ∧ d.job.id = j.id ∧ d.status = 0x40))
    ∧ (∀ t0, (s.cq q).timer = some t0 → s.portUp = true → (s.cq q).ien = true → ∃ t, exec (.cqInterruptTimer q) s = .next t ∧ (t.cq q).timer = none ∧ (t.cq q).unsignalled = 0
        ∧ t.now = max s.now t0 ∧ (∀ m, t.sd m = s.sd m) ∧ t.mem = s.mem)
    ∧ (∀ vec m, vec < 16 → (s.fn q).msix = [m] → m.vec = vec → exec (.msixVectorUnmask q vec) s = .next (s.setFn
        { s.fn q with msix := [{ m with masked := false, pend := false, sent := m.sent + (if m.pend then 1 else 0) }] }))
    ∧ (∃ t, exec .pcieLinkDown s = .next t ∧ t.rflag R.HQ_STATUS_LINK_UP = false ∧ (∀ m, t.sd m = s.sd m) ∧ t.mem = s.mem)
    ∧ (s.ring.hpFailed = true → ∀ sp wd, ∃ t, exec (.pcieLinkUp sp wd) s = .next t ∧ t.ring.hpFailed = false)
    ∧ (∀ sp wd, sp < 8 → wd < 16 → s.ring.hpFailed = false → ∃ t, exec (.pcieLinkUp sp wd) s = .next t ∧ t.rflag R.HQ_STATUS_LINK_UP = true
        ∧ t.rget R.HQ_STATUS_SPEED = sp ∧ t.rget R.HQ_STATUS_WIDTH = wd ∧ (∀ m, t.sd m = s.sd m) ∧ t.mem = s.mem)

/-! ### The journal -/

/-- R160, R170, R193: the journal clock and the checkpoint. JNL_TIME_SET needs CEREMONY; JNL_TIME_SLEW keeps the time and changes the
rate, at most 100 ppm; the checkpoint is the chain's state, and one that fails leaves the last.
R167, R168, R510: the next entry is written to the store with its pointer block, the next head to the card, and the anchor follows. -/
def Obligations.JournalClockAndWrites : Prop :=
  (∀ (s : State) (n : Fin 4) (j : Job),
    (Served s n j → (s.sd n).mode = 5 → ∃ t, exec (.jnlTimeSet n j) s = .next t ∧ OnlyStrand s t n ∧ t.now = s.now
      ∧ (t.sd n).deviceTime s.now = j.w6 % 2 ^ 63 ∧ (t.sd n).nv.slew = (s.sd n).nv.slew
      ∧ ∃ d ∈ (t.sd n).done, d.job = j ∧ d.status = 0)
    ∧ (Served s n j → (s.sd n).mode ≠ 5 → exec (.jnlTimeSet n j) s = .next (s.fail n j 0x30))
    ∧ (Served s n j → j.fn = 0 → bits j.w6 0 8 ≤ 100 → ∃ t, exec (.jnlTimeSlew n j) s = .next t ∧ OnlyStrand s t n
      ∧ (t.sd n).deviceTime s.now = (s.sd n).deviceTime s.now ∧ (t.sd n).nv.slew = bits j.w6 0 8
      ∧ ∃ d ∈ (t.sd n).done, d.job = j ∧ d.status = 0)
    ∧ (Served s n j → j.fn = 0 → 100 < bits j.w6 0 8 → bits j.w6 0 8 < 156 → exec (.jnlTimeSlew n j) s = .next (s.fail n j 0x41))
    ∧ (∀ ok, (s.sd n).halted = false → 2 ≤ (s.sd n).mode → (s.sd n).mode ≤ 5 → ∃ t, exec (.journalCheckpoint n ok) s = .next t
      ∧ OnlyStrand s t n ∧ t.now = max s.now ((s.sd n).jnl.ckptAt + 1000000000) ∧ (t.sd n).jnl.ckptAt = t.now
      ∧ (ok = true → (t.sd n).nv.jnl = (s.sd n).jnl.s ∧ (t.sd n).regs = (s.sd n).regs)
      ∧ (ok = false → (t.sd n).nv.jnl = (s.sd n).nv.jnl ∧ (t.sd n).flag R.JNL_ERR_VALID = true)))
  ∧ (∀ (s : State) (n : Fin 4),
    (∀ k rest e x off take, (s.sd n).halted = false → (s.sd n).flag R.JNL_CTL_STORE_EN = true → (s.sd n).jnl.store = some x →
      (s.sd n).jnl.storeQ = k :: rest → (s.sd n).jnl.buf.find? (fun e => e.no == k) = some e → (s.sd n).jnl.rolling = none →
      (s.sd n).jnl.old.find? (fun y => y.store) = none → x.placeFor e.bytes.length = some (off, take) → ∃ t, exec (.storeEntryWrite n true) s = .next t
        ∧ (∀ m, m ≠ n → t.sd m = s.sd m) ∧ t.ring = s.ring ∧ (t.sd n).jnl.storeQ = rest
        ∧ (t.sd n).get64 R.JNL_STORED_LO = e.no % 2 ^ 64
        ∧ (∀ a, a < x.ptr ∨ x.ptr + 32 ≤ a → Mem.read t.mem a = Mem.read (Mem.writeBytes s.mem (x.base + off) e.bytes) a)
        ∧ Mem.readBytes t.mem x.ptr 16 = toLE 8 ((x.free + (x.used + take)) % max 1 x.len) ++ toLE 8 e.no)
    ∧ (∀ e, State.cardRuns (s.sd n) = true → ((s.sd n).jnl.old.filter fun y => y.card) = [] → ((s.sd n).jnl.buf.filter fun e =>
        decide (e.no > (s.sd n).jnl.headNo) || (s.sd n).jc.missed.contains e.no) = [e] →
      ∃ t, exec (.cardHeadWrite n true) s = .next t ∧ OnlyStrand s t n ∧ (t.sd n).jnl.headNo = max (s.sd n).jnl.headNo e.no
        ∧ (t.sd n).sent = (s.sd n).sent ++ [{ port := .journalCard, kind := 25
                                              data := State.cardSector (s.sd n) (State.headSector (s.sd n) e.no) e.head }])
    ∧ (∀ w, State.cardRuns (s.sd n) = true → (s.sd n).flag R.JC_STATUS_ANCHORING = true → (s.sd n).jnl.headNo ≠ 0 → w < 2 ^ 32 →
      ∃ t, exec (.anchorWrite n 0 w true) s = .next t ∧ OnlyStrand s t n ∧ (t.sd n).jnl.anchorNo = (s.sd n).jnl.headNo
        ∧ (t.sd n).get R.JC_WCOUNT = w ∧ (t.sd n).get R.JC_ANCHORS = min ((s.sd n).get R.JC_ANCHORS + 1) (2 ^ 32 - 1)
        ∧ (t.sd n).get64 R.JNL_ANCHOR_LO = (s.sd n).jnl.headNo % 2 ^ 64))

/-- R167, R193: the host journal store is named and space is returned to it; JNL_SUPERSEDED answers heads; a store shorter than 64 MiB is
refused. -/
def Obligations.JournalStoreOpcodes : Prop :=
  ∀ (s : State) (n : Fin 4) (j : Job), Served s n j → j.fn = 0 →
    let Ok := fun (t : State) => ∃ d ∈ (t.sd n).done, d.job = j ∧ d.status = 0
    (j.seg0.inLen % 1048576 = 0 → 67108864 ≤ j.seg0.inLen → ∃ t, exec (.jnlStoreSet n j) s = .next t ∧ OnlyStrand s t n ∧ Ok t
      ∧ (t.sd n).jnl.store = some { base := j.seg0.inAddr, len := j.seg0.inLen, ptr := j.w6 }
      ∧ (t.sd n).flag R.JNL_STATUS_STORE_SET = true)
    ∧ (j.seg0.inLen < 67108864 → exec (.jnlStoreSet n j) s = .next (s.fail n j 0x41))
    ∧ (∀ x : Store, (s.sd n).jnl.store = some x → 0 < x.len → j.w6 = x.next → x.limit (s.sd n).blocked = x.used →
      ∃ t, exec (.jnlStoreFree n j) s = .next t ∧ OnlyStrand s t n ∧ Ok t
        ∧ (t.sd n).jnl.store = some { x with free := x.next, used := 0, ents := [] })
    ∧ ((s.sd n).jnl.store = none → exec (.jnlStoreFree n j) s = .next (s.fail n j 0x41))
    ∧ (∀ x : SupEnt, (s.sd n).jnl.sup = [x] → x.returned = false → x.stored = false → j.w6 ≤ x.e.no → 512 ≤ j.seg0.outLen →
      j.env.writeOk = true → j.cop = none → ∃ t d, exec (.jnlSuperseded n j) s = .next t ∧ (∀ m, m ≠ n → t.sd m = s.sd m)
        ∧ (t.sd n).jnl.sup = [{ x with returned := true }] ∧ d ∈ (t.sd n).done ∧ d.job = j ∧ d.status = 0
        ∧ d.resLen = x.e.head.length ∧ t.mem = Mem.writeBytes s.mem j.seg0.outAddr x.e.head)

/-- R112, R185, R193, R195, R196: receipts again, replay and export. A replay of one entry reports its reason byte; what the hash and the
signature check give is open, so the statement holds for both answers. -/
def Obligations.JournalReadingOpcodes : Prop :=
  ∀ (s : State) (n : Fin 4) (j : Job) (e : Entry), Served s n j →
    (∀ h, j.input.length = 12 → s.submitterOk n j.fn (le j.input 0 2) = true → j.ctx = 0 → (s.sd n).writer = false →
      ((s.sd n).jnl.index.filter fun e => e.submitter == le j.input 0 2 && e.batchId == le j.input 2 8).getLast? = some h →
      (s.sd n).entryBody s.mem h.no = some e → le e.head 7 1 = 0 →
      (State.entryReceiptHead e ++ State.entrySig e).length ≤ j.seg0.outLen →
      exec (.jnlReceipt n j) s = .next (s.succeed n j (State.entryReceiptHead e ++ State.entrySig e)))
    ∧ (j.input.length = 12 → s.submitterOk n j.fn (le j.input 0 2) = true →
      ((s.sd n).jnl.index.filter fun e => e.submitter == le j.input 0 2 && e.batchId == le j.input 2 8) = [] →
      exec (.jnlReceipt n j) s = .next (s.fail n j 0x55))
    ∧ (j.fn = 0 → j.w6 ≠ 0 → j.w7 = j.w6 → j.input = [0] → 32 ≤ j.seg0.outLen → j.env.writeOk = true → j.cop = none →
      ((s.sd n).storeEntry s.mem j.w6 = some e →
        let x := State.replayReason (s.sd n) ((s.sd n).jAt (j.w6 - 1)) e
        let r := if x = 0 ∧ ¬ State.chainReaches (s.sd n) (fun k => (s.sd n).storeEntry s.mem k) (State.knownFrom (s.sd n) + 1 - j.w6) j.w6 e.j
          then 2 else x
        ∃ t d, exec (.jnlReplay n j []) s = .next t ∧ (∀ m, m ≠ n → t.sd m = s.sd m) ∧ d ∈ (t.sd n).done ∧ d.job = j
          ∧ d.status = (if r = 0 then 0 else 0x54)
          ∧ t.mem = Mem.writeBytes s.mem j.seg0.outAddr (toLE 8 1 ++ toLE 8 (if r = 0 then 0 else j.w6) ++ toLE 1 r ++ zeros 15))
      ∧ ((s.sd n).storeEntry s.mem j.w6 = none → ∃ t d, exec (.jnlReplay n j []) s = .next t ∧ (∀ m, m ≠ n → t.sd m = s.sd m)
          ∧ d ∈ (t.sd n).done ∧ d.job = j ∧ d.status = 0x55
          ∧ t.mem = Mem.writeBytes s.mem j.seg0.outAddr (toLE 8 0 ++ toLE 8 j.w6 ++ toLE 1 4 ++ zeros 15)))
    ∧ (∀ x c, j.fn = 0 → j.w6 ≠ 0 → j.w7 = j.w6 → (s.sd n).flag R.JC_STATUS_PRESENT = true → (s.sd n).flag R.JC_STATUS_JARTEX = false →
      (s.sd n).entryBody s.mem j.w6 = some e →
      (s.sd n).release s.now j.env 0xFF 0 ((s.sd n).get R.PST_SEAL_CTX_CTX) (2 ^ 4) 1 true = (x, .inr c) →
      (∃ t h, exec (.jnlExport n j none) s = .next t ∧ OnlyStrand s t n ∧ h.length = 512 ∧ h.take 4 = ascii "LJEX"
        ∧ (t.sd n).sent = x.sent ++ [{ port := .journalCard, kind := 25
                                       data := sub (h ++ e.bytes) 0 (512 * ((h ++ e.bytes).length / 512)) }]
        ∧ ∃ d ∈ (t.sd n).done, d.job = j ∧ d.status = 0)
      ∧ ∀ k unc, ∃ t, exec (.jnlExport n j (some (k, unc))) s = .next t ∧ OnlyStrand s t n
        ∧ ∃ d ∈ (t.sd n).done, d.job = j ∧ d.status = 0x66)

/-- R183, R184, R193, R678: the role opcodes and the rollover. A takeover raises the role epoch and makes the strand writer; a settled
rollover opens a journal of a new identity whose predecessor is the old head. -/
def Obligations.RoleAndRolloverOpcodes : Prop :=
  ∀ (s : State) (n : Fin 4) (j : Job), Served s n j →
    (j.fn = 0 → (s.sd n).writer = false → exec (.mirRoleSwap n j) s = .next (s.fail n j 0x51))
    ∧ (j.fn = 0 → (s.sd n).writer = true → (s.sd n).flag R.MIR_STATUS_PAIRED = true → (s.sd n).batchOpen = false →
      (s.sd n).jnl.s.cur.no ≤ (s.sd n).jnl.acked → ∃ t, exec (.mirRoleSwap n j) s = .next t ∧ OnlyStrand s t n
        ∧ (t.sd n).mir.swap = some j ∧ (t.sd n).mir.swapSent = true ∧ (t.sd n).writer = true ∧ (t.sd n).admitting = false)
    ∧ (j.fn = 0 → (s.sd n).writer = true → exec (.mirTakeover n j) s = .next (s.fail n j 0x30))
    ∧ (j.fn = 0 → (s.sd n).writer = false → (s.sd n).flag R.MIR_STATUS_PAIRED = false → (s.sd n).flag R.MIR_SOLO_POLICY_POLICY = false →
      4 ≤ j.seg0.outLen → j.env.writeOk = true → j.cop = none → ∃ t d, exec (.mirTakeover n j) s = .next t
        ∧ (∀ m, m ≠ n → t.sd m = s.sd m) ∧ (t.sd n).writer = true ∧ (t.sd n).jnl.s.epoch = (s.sd n).jnl.s.epoch + 1
        ∧ (t.sd n).jnl.takeover = true ∧ (t.sd n).jnl.s.cur = (s.sd n).jnl.s.cur ∧ d ∈ (t.sd n).done ∧ d.job = j ∧ d.status = 0
        ∧ t.mem = Mem.writeBytes s.mem j.seg0.outAddr (toLE 4 ((s.sd n).jnl.s.epoch + 1)))
    ∧ ((s.sd n).mode ≠ 5 → exec (.jnlRollover n j) s = .next (s.fail n j 0x30))
    ∧ ((s.sd n).mode = 5 → (s.sd n).writer = true → (s.sd n).solo = false → (s.sd n).jnl.s.isOpen = true →
      (s.sd n).jnl.s.cur.no ≤ (s.sd n).jnl.acked → 16 ≤ j.seg0.outLen → j.env.writeOk = true → j.cop = none →
      ∃ t d id, exec (.jnlRollover n j) s = .next t ∧ (∀ m, m ≠ n → t.sd m = s.sd m) ∧ id.length = 16
        ∧ (t.sd n).jnl.s.cur = { id := id, no := 0, j := j0 id } ∧ (t.sd n).jnl.s.pred = (s.sd n).jnl.s.cur ∧ (t.sd n).jnl.s.seq = 0
        ∧ (t.sd n).jnl.rolling = none ∧ (t.sd n).nv.jnl.cur = (t.sd n).jnl.s.cur ∧ d ∈ (t.sd n).done ∧ d.job = j ∧ d.status = 0
        ∧ t.mem = Mem.writeBytes s.mem j.seg0.outAddr id)


/-! ### The mirror -/

/-- R174: a frame whose COUNTER is not above the last accepted one is discarded and only counted, whatever its type.
R171, R175, R178: the link trains or fails, and the twins pair: HELLO, ATTEST. -/
def Obligations.GulsisLinkPairingAndReplay : Prop :=
  (∀ (s : State) (n : Fin 4) (f : GFrame) (agree : Bool) (time tail : Nat) (marks : List (Nat × Nat)) (keep : Option Bool),
    f.ctr ≤ (s.sd n).mir.rxCtr →
    ∀ c ∈ [Instr.mirHeadReceived n f time marks keep tail, .mirResyncReqReceived n f marks keep tail, .mirEntryReceived n f, .mirAckReceived n f,
        .mirNakReceived n f, .mirLeaseReceived n f agree, .mirHeartbeatReceived n f, .mirRoleReceived n f, .mirMarksReceived n f,
        .mirMarksAckReceived n f, .mirRolloverReceived n f],
      exec c s = .next s ∨ exec c s = .next (s.up n fun st => st.bump R.MIR_FRAME_BAD)
        ∨ 0 < f.badBlocks ∧ exec c s = .next (s.up n fun st => st.add R.MIR_BLOCK_ERR f.badBlocks))
  ∧ (∀ (s : State) (n : Fin 4) (k : Nat) (p mac : Bytes) (env : JobEnv),
    (∃ t, exec (.gulsisLaneLockLost n k) s = .next t ∧ OnlyStrand s t n ∧ (t.sd n).get R.MIR_STATUS_LINKED = min k 1
      ∧ (k = 0 → (t.sd n).mir.step = .down ∧ (t.sd n).flag R.MIR_STATUS_PAIRED = false ∧ (t.sd n).mir.keyTx = none)
      ∧ (0 < k → (t.sd n).mir = (s.sd n).mir ∧ (t.sd n).get R.MIR_STATUS_LANES = 1))
    ∧ ((s.sd n).pairable = true →
      ((s.sd n).mir.step = .down → (s.sd n).mir.fails < 3 → ∃ t x, exec (.gulsisLinkTrained n k) s = .next t ∧ OnlyStrand s t n
        ∧ (t.sd n).flag R.MIR_STATUS_LINKED = true ∧ (t.sd n).mir.step = .hello ∧ (t.sd n).flag R.MIR_STATUS_PAIRED = false
        ∧ (t.sd n).mir.helloTx = x ∧ ∃ w, (t.sd n).sent = (s.sd n).sent ++ [{ port := .gulsis, kind := 1, data := x, wire := w }])
      ∧ (∀ t0, (s.sd n).mir.retryAt = some t0 → (s.sd n).flag R.MIR_STATUS_LINKED = true → ∃ t, exec (.pairingRetry n) s = .next t
        ∧ OnlyStrand s t n ∧ t.now = max s.now t0 ∧ (t.sd n).mir.step = .hello ∧ (t.sd n).mir.retryAt = none)
      ∧ ((s.sd n).flag R.MIR_STATUS_LINKED = true → (s.sd n).mir.step = .hello → (s.sd n).mir.fails < 3 → (s.sd n).mir.retryAt = none →
        (∃ t, exec (.mirHelloReceived n p 0 env) s = .next t ∧ OnlyStrand s t n ∧
          if sub p 0 16 = (s.sd n).twinId ∧ sub p 16 8 = fit 8 (s.ring.ident.constellation.getD []) ∧ le p 24 1 = n.val
              ∧ s.oneTwin n = true ∧ ((s.sd n).rootRelease s.now env 2).2.isSome = true
          then (t.sd n).mir.step = .attest ∧ (t.sd n).mir.helloRx = fit 128 p
            ∧ ∃ w, (t.sd n).sent = (s.sd n).sent ++
                [⟨.gulsis, 2, bvBytes (Config.hmac256 (bvBytes ((s.sd n).root 2)) (Strand.attestText (s.sd n).mir.helloTx (fit 128 p))), w⟩]
          else (t.sd n).mir.step = .trained ∧ (t.sd n).mir.fails = (s.sd n).mir.fails + 1)
        ∧ ∀ errs, 0 < errs → exec (.mirHelloReceived n p errs env) s = .next (s.up n fun st => st.add R.MIR_BLOCK_ERR errs))
      ∧ ((s.sd n).mir.step = .attest → ∃ t, exec (.mirAttestReceived n mac 0 env) s = .next t ∧ OnlyStrand s t n ∧
          let r := (s.sd n).rootRelease s.now env 2
          if bvBytes (Config.hmac256 (bvBytes ((s.sd n).root 2)) (Strand.attestText (s.sd n).mir.helloRx (s.sd n).mir.helloTx)) = mac
              ∧ r.2.isSome = true ∧ (r.1.dropSession.makeSession s.now env).2 = true
          then (t.sd n).mir.step = .agree ∧ (t.sd n).mir.rxCtr = 0 ∧ (t.sd n).mir.keyTx.isSome = true
          else (t.sd n).mir.step = .trained ∧ (t.sd n).mir.fails = (s.sd n).mir.fails + 1)))

/-- R175, R176, R177, R180, R184, R185: what an accepted frame of the agreement, the ACK, the NAK, the LEASE and the ROLE does at a strand. -/
def Obligations.MirrorFramesAtTheWriter : Prop :=
  ∀ (s : State) (n : Fin 4) (f : GFrame) (agree : Bool) (time tail : Nat) (marks : List (Nat × Nat)), (s.sd n).jnl.rolling = none →
    OnFrame (.mirHeadReceived n f time marks none tail) s n 0x03 f (fun x p t =>
      if x.mir.step ≠ .agree ∨ x.mir.twin.isSome = true then t = s.setSd n x
      else ((t.sd n).mir.twin = some (Strand.parseHead p) ∨ (t.sd n).mir.step ≠ .agree)
        ∧ (x.jnl.s.isOpen = false → (Strand.parseHead p).isOpen = false → (Strand.parseHead p).epoch < x.jnl.s.epoch →
            (t.sd n).writer = x.writer ∧ (t.sd n).get R.MIR_RECON_CASE = 7 ∧ (t.sd n).jnl.s.epoch = x.jnl.s.epoch))
    ∧ OnFrame (.mirResyncReqReceived n f marks none tail) s n 0x30 f (fun x p t =>
      if x.mir.twin = none ∨ x.mir.step ≠ .agree ∨ le p 0 8 > x.mir.search then t = s.setSd n x
      else x.mir.txCtr < 2 ^ 64 - 1 → x.jAt (le p 0 8) ≠ some (sub p 16 32) → (t.sd n).mir.search = le p 0 8 - 1 ∧ (t.sd n).jnl = x.jnl)
    ∧ OnFrame (.mirAckReceived n f) s n 0x11 f (fun x p t =>
      if x.writer = false ∨ x.jAt (le p 0 8) ≠ some (sub p 8 32) then t = s.setSd n x
      else (t.sd n).jnl.acked = max x.jnl.acked (le p 0 8) ∧ (t.sd n).jnl.s.cur = x.jnl.s.cur)
    ∧ OnFrame (.mirNakReceived n f) s n 0x12 f (fun x p t =>
      if x.writer = false then t = s.setSd n x
      else if le p 8 1 = 3 then t = s.setSd n (x.upMir fun m => { m with nakAt := some s.now })
      else if le p 8 1 = 4 then (t.sd n).mir.step = .hello
      else le p 8 1 = 1 → x.mir.resend = none → (t.sd n).mir.resend = some (x.jnl.acked + 1, s.now)
        ∧ (t.sd n).jnl.s.cur = x.jnl.s.cur ∧ (t.sd n).jnl.acked = x.jnl.acked)
    ∧ OnFrame (.mirLeaseReceived n f agree) s n 0x20 f (fun x p t =>
      if x.writer = false ∨ x.flag R.MIR_STATUS_PAIRED = false ∨ le p 8 4 ≠ x.jnl.s.epoch then t = s.setSd n x
      else (t.sd n).leaseHeld = true ∧ (t.sd n).mir.leaseAt = some s.now ∧ (t.sd n).mir.lostAt = none
        ∧ (x.flag R.MIR_STATUS_RECONCILING = false → (t.sd n).solo = false))
    ∧ OnFrame (.mirRoleReceived n f) s n 0x31 f (fun x p t =>
      if le p 0 1 = 1 ∧ x.writer = false ∧ le p 4 4 = x.jnl.s.epoch then
        (t.sd n).writer = true ∧ (t.sd n).jnl.s.epoch = x.jnl.s.epoch + 1 ∧ (t.sd n).jnl.takeover = true
      else if le p 0 1 = 2 ∧ x.writer = true ∧ x.mir.swapSent = true ∧ le p 4 4 = x.jnl.s.epoch + 1 then
        ∀ j, x.mir.swap = some j → (t.sd n).writer = false ∧ (t.sd n).jnl.s.epoch = x.jnl.s.epoch + 1 ∧ (t.sd n).mir.swap = none
          ∧ ∃ d ∈ (t.sd n).done, d.job = j ∧ d.status = 0
      else t = s.setSd n x)

/-- R176, R180, R192, R678: what an accepted ENTRY, HEARTBEAT, MARKS, MARKS_ACK and ROLLOVER do: the keeper joins only an entry that
chains, marks are raised and never lowered. -/
def Obligations.MirrorFramesAtTheKeeper : Prop :=
  ∀ (s : State) (n : Fin 4) (f : GFrame),
    OnFrame (.mirEntryReceived n f) s n 0x10 f (fun x p t =>
      let e := Entry.parse p
      if x.writer = true then t = s.setSd n x
      else if e.no ≤ x.jnl.s.cur.no ∨ x.nakReason e ≠ 0 then
        (t.sd n).jnl.s.cur = x.jnl.s.cur ∧ (t.sd n).jnl.acked = x.jnl.acked ∧ (t.sd n).jnl.index = x.jnl.index
      else (t.sd n).jnl.s.cur.no = e.no ∧ (t.sd n).jnl.s.cur.j = e.j ∧ (t.sd n).jnl.s.seq = e.lastSeq ∧ (t.sd n).jnl.acked = e.no
        ∧ e.prev = x.jnl.s.cur.j ∧ e.no = x.jnl.s.cur.no + 1)
    ∧ OnFrame (.mirHeartbeatReceived n f) s n 0x21 f (fun x p t =>
      t = s.setSd n (x.upMir fun m => { m with
        peerMax := max m.peerMax (le p 0 8), copyTo := m.copyTo.map fun k => if x.writer = true then k else max k (le p 0 8) }))
    ∧ OnFrame (.mirMarksReceived n f) s n 0x32 f (fun x p t =>
      (∀ b, markOf x.jnl.s.marks b ≤ markOf (t.sd n).jnl.s.marks b)
        ∧ (∀ i, i < le p 0 2 → le p (16 + 16 * i) 8 ≤ markOf (t.sd n).jnl.s.marks (le p (8 + 16 * i) 2))
        ∧ (t.sd n).nv.jnl.marks = (t.sd n).jnl.s.marks ∧ (t.sd n).jnl.s.cur = x.jnl.s.cur ∧ t.mem = s.mem ∧ t.ring = s.ring)
    ∧ OnFrame (.mirMarksAckReceived n f) s n 0x33 f (fun x p t =>
      match x.mir.marks.find? fun m => le m.payload 0 2 == le p 0 2 && bvBytes (Config.sha256 m.payload) == sub p 8 32 with
      | none => t = s.setSd n x
      | some m => (t.sd n).mir.marks = x.mir.marks.filter (· != m) ∧ t.mem = s.mem)
    ∧ OnFrame (.mirRolloverReceived n f) s n 0x34 f (fun x p t =>
      let id := sub p 0 16
      let pred : JHead := ⟨sub p 16 16, le p 32 8, sub p 40 32⟩
      if x.writer = true then t = s.setSd n x
      else if (x.jnl.s.cur = pred ∨ x.jnl.s.isOpen = false ∧ pred = ⟨zeros 16, 0, zeros 32⟩) ∧ ¬ (x.jnl.s.isOpen = true ∧ x.jnl.s.cur.id = id ∧ x.jnl.s.pred = pred) then
        (t.sd n).jnl.s.cur = { id := id, no := 0, j := j0 id } ∧ (t.sd n).jnl.s.pred = pred ∧ (t.sd n).jnl.s.isOpen = true
      else True)

/-- R176, R177, R179, R181, R182, R183, R184: the timers of the mirror that send frames; the loss of the lease, solo, takeover, and the
decision after a fork. -/
def Obligations.MirrorTimersSoloAndTakeover : Prop :=
  (∀ (s : State) (n : Fin 4),
    ((s.sd n).writer = true → (s.sd n).mir.keyTx.isSome = true → (s.sd n).halted = false → (s.sd n).jnl.acked < (s.sd n).jnl.s.cur.no →
      ∃ t, exec (.entryResendTimeout n) s = .next t ∧ OnlyStrand s t n ∧ t.now = max s.now ((s.sd n).mir.sentAt + 500000)
        ∧ (t.sd n).mir.resend = some ((s.sd n).jnl.acked + 1, t.now)
        ∧ (t.sd n).jnl.s.cur = (s.sd n).jnl.s.cur ∧ (t.sd n).jnl.acked = (s.sd n).jnl.acked)
    ∧ (∀ t0, (s.sd n).mir.nakAt = some t0 → (s.sd n).halted = false → ∃ t, exec (.nakFullResend n) s = .next t ∧ OnlyStrand s t n
        ∧ t.now = max s.now (t0 + 100000) ∧ (t.sd n).mir.nakAt = none ∧ (t.sd n).mir.resend = some ((s.sd n).jnl.acked + 1, t.now))
    ∧ (∀ p t0, (s.sd n).mir.roll = some (p, t0) → (s.sd n).halted = false → ∃ t, exec (.rolloverResend n) s = .next t ∧ OnlyStrand s t n
        ∧ t.now = max s.now (t0 + 500000) ∧ (t.sd n).mir.roll = some (p, t.now))
    ∧ (∀ m rest, (s.sd n).mir.marks = m :: rest → (s.sd n).halted = false → ∃ t, exec (.marksResendTimeout n) s = .next t ∧ OnlyStrand s t n
        ∧ t.now = max s.now (m.sentAt + 500000) ∧ (t.sd n).mir.marks = rest ++ [{ m with sentAt := t.now }])
    ∧ ((s.sd n).writer = true → (s.sd n).halted = false → ((s.sd n).mir.step = .paired ∨ (s.sd n).mir.step = .copying) →
      ((s.sd n).sessionKey (s.sd n).mir.keyTx 4).isSome = true → (s.sd n).flag R.MIR_STATUS_LINKED = true → (s.sd n).mir.txCtr < 2 ^ 64 - 1 → ∃ t, exec (.heartbeatDue n) s = .next t
        ∧ OnlyStrand s t n ∧ t.now = max s.now ((s.sd n).mir.lastTx + 1000000) ∧ (t.sd n).mir.txCtr = (s.sd n).mir.txCtr + 1
        ∧ ∃ w, (t.sd n).sent = (s.sd n).sent ++ [⟨.gulsis, 0x21, toLE 8 (s.sd n).mir.txCtr ++ toLE 8 (s.sd n).jnl.s.cur.no, w⟩])
    ∧ ((s.sd n).writer = false → (s.sd n).halted = false → (s.sd n).mir.step = .paired → s.now < (s.sd n).mir.lastRx + 10000000 →
      (s.sd n).mir.leaseTx < (s.sd n).mir.lastRx → (s.sd n).leaseHeld = true → ∀ agree, ∃ t, exec (.leaseSendDue n agree) s = .next t
        ∧ OnlyStrand s t n ∧ t.now = max s.now ((s.sd n).mir.leaseTx + 10000000) ∧ (t.sd n).mir.leaseTx = t.now
        ∧ (t.sd n).mir.leaseNo = (s.sd n).mir.leaseNo + 1 ∧ (t.sd n).leaseHeld = true))
  ∧ (∀ (s : State) (n : Fin 4), (s.sd n).halted = false →
    (∀ t0, (s.sd n).writer = true → (s.sd n).leaseHeld = true → (s.sd n).mir.leaseAt = some t0 → ∃ t, exec (.leaseExpired n) s = .next t
      ∧ OnlyStrand s t n ∧ t.now = max s.now (t0 + 11000000) ∧ (t.sd n).leaseHeld = false ∧ (t.sd n).mir.lostAt = some t.now
      ∧ (t.sd n).mir.leaseAt = none ∧ (t.sd n).flag R.GAR_NMI_CAUSE_LEASE_LOST = true
      ∧ ((s.sd n).mode = 2 → (t.sd n).mode = 3 ∧ (t.sd n).get R.CHT_MODE_CAUSE = 5) ∧ ((s.sd n).mode ≠ 2 → (t.sd n).mode = (s.sd n).mode))
    ∧ ((s.sd n).writer = false → (s.sd n).leaseHeld = true → ∃ t, exec (.writerLost n) s = .next t
      ∧ OnlyStrand s t n ∧ t.now = max s.now ((s.sd n).mir.lastRx + 10000000) ∧ (t.sd n).leaseHeld = false
      ∧ (t.sd n).mir.lostAt = some t.now ∧ (t.sd n).flag R.GAR_NMI_CAUSE_WRITER_LOST = true)
    ∧ (∀ t0, (s.sd n).mir.lostAt = some t0 → (s.sd n).flag R.MIR_SOLO_POLICY_POLICY = true →
      ((s.sd n).writer = true → (s.sd n).solo = false → (s.sd n).fork = false → ∃ t, exec (.soloEntry n) s = .next t
        ∧ (∀ m, m ≠ n → t.sd m = s.sd m) ∧ t.now = max s.now (t0 + 20000000) ∧ (t.sd n).solo = true)
      ∧ ((s.sd n).writer = false → (s.sd n).flag R.MIR_CTL_AUTO_TAKEOVER = true → ∃ t, exec (.autoTakeover n) s = .next t
        ∧ (∀ m, m ≠ n → t.sd m = s.sd m) ∧ t.now = max s.now (t0 + 20000000) ∧ (t.sd n).writer = true ∧ (t.sd n).solo = true
        ∧ (t.sd n).jnl.s.epoch = (s.sd n).jnl.s.epoch + 1 ∧ (t.sd n).jnl.takeover = true))
    ∧ (∀ j, Served s n j → (s.sd n).mode = 5 →
      ((s.sd n).fork = false → exec (.mirReconcile n j) s = .next (s.fail n j 0x30))
      ∧ ((s.sd n).fork = true → ∃ t, exec (.mirReconcile n j) s = .next t ∧ OnlyStrand s t n ∧ (t.sd n).fork = false
        ∧ (t.sd n).mir.keep = some (!bit j.w6 0) ∧ ∃ d ∈ (t.sd n).done, d.job = j ∧ d.status = 0)))


/-! ### The key vault -/

/-- R212 to R218, R245, R319, R675: a symmetric key is generated into the slot at the head of the free list under the slot's next
generation (its bytes are open), an imported one is placed where it unwraps, and VLT_FREE empties the slot. -/
def Obligations.VaultCreationAndFreeing : Prop :=
  ∀ (s : State) (n : Fin 4) (j : Job), VaultServed s n j → j.fn = 0 →
    (∀ i, j.input.length = 32 → (Attr.parse j.input).ok = true → le j.input 0xA 2 = 0 → (Attr.parse j.input).owner = 0 →
      (Attr.parse j.input).flags = 0 → asym (Attr.parse j.input).alg = false → j.op = 0x200 → j.env.logOk = true →
      largeNeed (Attr.parse j.input).alg (Attr.parse j.input).keylen = 0 → 4 ≤ j.seg0.outLen → j.env.writeOk = true → j.cop = none →
      s.gateClosed n = false → bit j.w6 0 = true → (s.sd n).freeHead = some i →
      ∃ t c, exec (.vltCreate n j) s = .next t ∧ (∀ m, m ≠ n → t.sd m = s.sd m)
        ∧ (t.sd n).vault.ctxs = (s.sd n).vault.ctxs ++ [c] ∧ c.idx = i ∧ c.curGen = nextGen ((s.sd n).lastGen i) ∧ c.baseGen = c.curGen
        ∧ c.attr = { Attr.parse j.input with ownerGen := (s.fn 0).gen }
        ∧ c.key.length = keyBytes (Attr.parse j.input).alg (Attr.parse j.input).keylen
        ∧ t.mem = Mem.writeBytes s.mem j.seg0.outAddr (toLE 4 (mkHandle (s.sd n).id c.curGen i))
        ∧ ∃ d ∈ (t.sd n).done, d.job = j ∧ d.status = 0)
    ∧ (j.input.length = 32 → (Attr.parse j.input).ok = true → le j.input 0xA 2 = 0 → (Attr.parse j.input).owner = 0 →
      bit (Attr.parse j.input).flags 1 = false → asym (Attr.parse j.input).alg = true → j.op = 0x200 → s.gateClosed n = false →
      4 + pubLen (Attr.parse j.input).alg (Attr.parse j.input).keylen ≤ j.seg0.outLen → bit j.w6 0 = true →
      exec (.vltCreate n j) s = .next (s.berQueue n j))
    ∧ (∀ x, 32 ≤ j.input.length → (Attr.parse j.input).ok = true → le j.input 0xA 2 = 0 → (Attr.parse j.input).owner = 0 →
      4 ≤ j.seg0.outLen → (s.sd n).mode = 5 → 16 ≤ j.w7 → j.w7 < 64 →
      (∀ k, (s.sd n).rootRelease s.now j.env j.w7 = (x, some k) →
        match Config.kwpOpen k (j.input.drop 32) with
        | none => exec (.vltImport n j) s = .next ((s.setSd n x).fail n j 0x10)
        | some key =>
          if key.length = keyBytes (Attr.parse j.input).alg (Attr.parse j.input).keylen then
            exec (.vltImport n j) s = .next ((s.setSd n x).placeAnswer n j { Attr.parse j.input with ownerGen := (s.fn 0).gen } key false)
          else exec (.vltImport n j) s = .next ((s.setSd n x).fail n j 0x41))
      ∧ ((s.sd n).rootRelease s.now j.env j.w7 = (x, none) → exec (.vltImport n j) s = .next ((s.setSd n x).fail n j 0x7F)))
    ∧ (∀ c, s.vaultCtx n j j.ctx = some c → bit c.attr.flags 1 = false → ∃ t, exec (.vltFree n j) s = .next t ∧ OnlyStrand s t n
      ∧ (t.sd n).slot c.idx = none ∧ (t.sd n).vault.freed.getLast? = some c.idx
      ∧ (∀ i, i ≠ c.idx → (t.sd n).slot i = (s.sd n).slot i) ∧ ∃ d ∈ (t.sd n).done, d.job = j ∧ d.status = 0)
    ∧ (s.vaultCtx n j j.ctx = none → exec (.vltFree n j) s = .next ((s.up n fun st => st.bump R.ONX_ABSENT).fail n j 0x22))

/-- R217, R222, R239, R241, R245: what the opcodes that read a context answer, and VLT_SET_ATTR, which only ever narrows one. -/
def Obligations.VaultQueriesAndAttributes : Prop :=
  ∀ (s : State) (n : Fin 4) (j : Job), VaultServed s n j →
    (∀ c, s.vaultCtx n j j.ctx = some c →
      (32 ≤ j.seg0.outLen → exec (.vltQuery n j) s = .next (s.succeed n j (c.attr.block (ctxState c) c.curGen)))
      ∧ (asym c.attr.alg = true → pubLen c.attr.alg c.attr.keylen ≤ j.seg0.outLen → exec (.vltPublic n j) s = .next
          (s.succeed n j (publicKey c.attr.alg c.attr.keylen c.key)))
      ∧ (asym c.attr.alg = false → exec (.vltPublic n j) s = .next (s.fail n j 0x41))
      ∧ (bit c.attr.flags 1 = false → j.input.length = 32 →
        (setAttrStatus c.attr (Attr.parse j.input) = 0 → ∃ t, exec (.vltSetAttr n j) s = .next t ∧ OnlyStrand s t n
          ∧ (t.sd n).slot c.idx = some { c with attr := { Attr.parse j.input with counter := c.attr.counter } }
          ∧ (Attr.parse j.input).usesLeft ≤ c.attr.usesLeft ∧ (Attr.parse j.input).usage &&& c.attr.usage = (Attr.parse j.input).usage
          ∧ (Attr.parse j.input).dest &&& c.attr.dest = (Attr.parse j.input).dest)
        ∧ (setAttrStatus c.attr (Attr.parse j.input) ≠ 0 →
          exec (.vltSetAttr n j) s = .next (s.fail n j (setAttrStatus c.attr (Attr.parse j.input)))))
      ∧ (∀ x key, (s.sd n).mode = 5 → 16 ≤ bits j.w6 0 6 → bit c.attr.flags 4 = true →
        pad8 (keyBytes c.attr.alg c.attr.keylen) + 8 ≤ j.seg0.outLen → (s.sd n).rootRelease s.now j.env (bits j.w6 0 6) = (x, some key) →
        exec (.vltWrapOut n j) s = .next ((s.setSd n x).succeed n j (kwpWrap key c.key))))
    ∧ (∀ x key, (s.sd n).flag R.ONX_CTL_ATTEST_EN = true → j.input.length = 32 → 112 ≤ j.seg0.outLen →
      (s.sd n).rootRelease s.now j.env 3 = (x, some key) →
      let dev := fit 16 s.ring.ident.deviceId
      let lc := toLE 1 s.life
      let m := fit 48 (s.sd n).measure
      exec (.vltAttest n j) s = .next ((s.setSd n x).succeed n j (dev ++ lc ++ toLE 1 n.val ++ zeros 14 ++ m
        ++ bvBytes (Config.hmac256 key (j.input ++ dev ++ lc ++ m)))))
    ∧ ((s.sd n).flag R.ONX_CTL_ATTEST_EN = false → exec (.vltAttest n j) s = .next (s.fail n j 0x30))

/-- R227 to R233, R246: blobs leave and enter, a spill number dies for ever, and a wrap renewal moves root 0 to root 5. -/
def Obligations.VaultBlobs : Prop :=
  ∀ (s : State) (n : Fin 4) (j : Job), VaultServed s n j →
    (∀ c, s.vaultCtx n j j.ctx = some c → blobLen c.attr.alg c.attr.keylen ≤ j.seg0.outLen →
      (∀ k x iv y z root, bit c.attr.flags 2 = true → (s.sd n).flag R.ONX_CTL_SPILL_EN = true → spillNumber (s.sd n) c = some (k, x) →
        (c.spill.isSome = true ∨ j.env.logOk = true) → x.nextIv 0 = some (iv, y) → y.rootRelease s.now j.env 0 = (z, some root) →
        let c' := { c with spill := some k }
        exec (.vltSpill n j) s = .next ((s.setSd n (if bit j.w6 0 then (z.putCtx c').freeCtx c' else z.putCtx c').onxSync).succeed n j
          (makeBlob 0 n c' root iv k z.nv.vault.wrapGen)))
      ∧ (bit c.attr.flags 2 = false → exec (.vltSpill n j) s = .next (s.fail n j 0x28))
      ∧ (∀ iv y z root, 1 ≤ j.w6 → j.w6 ≤ 86400 → bit c.attr.flags 3 = true → (s.sd n).nextIv 1 = some (iv, y) →
        y.rootRelease s.now j.env 1 = (z, some root) → exec (.vltExportT n j) s = .next
          ((s.setSd n z).succeed n j (makeBlob 1 n c root iv (y.deviceTime s.now + 1000000 * j.w6) 0))))
    ∧ (4 ≤ j.seg0.outLen →
      (∀ k x key, strandBlobKey (s.sd n) j.input = some (k, true) → (s.sd n).rootRelease s.now j.env k = (x, some key) →
        match openBlob j.input key with
        | none => exec (.vltLoad n j) s = .next ((s.setSd n x).fail n j 0x24)
        | some (a, k) =>
          match x.place a k (s.quota a.owner) with
          | none => exec (.vltLoad n j) s = .next ((s.setSd n x).fail n j 0x23)
          | some (c, _) => j.env.logOk = true → ∃ t, exec (.vltLoad n j) s = .next t ∧ (∀ m, m ≠ n → t.sd m = s.sd m)
              ∧ ∃ c' ∈ (t.sd n).vault.ctxs, c'.idx = c.idx ∧ c'.attr = a ∧ c'.key = k)
      ∧ ((∀ k, strandBlobKey (s.sd n) j.input ≠ some (k, true)) → exec (.vltLoad n j) s = .next (s.fail n j 0x24))
      ∧ (∀ x root, sub j.input 0 2 = ascii "OB" → le j.input 2 1 = 1 → le j.input 3 1 = 1 → (s.sd n).deviceTime s.now < le j.input 0x14 8 →
        (s.sd n).rootRelease s.now j.env 1 = (x, some root) →
        match openBlob j.input root with
        | none => exec (.vltImportT n j) s = .next ((s.setSd n x).fail n j 0x24)
        | some (a, k) => exec (.vltImportT n j) s = .next
            ((s.setSd n x).placeAnswer n j { a with owner := j.fn, ownerGen := (s.fn j.fn).gen } k false))
      ∧ (j.fn = 0 → s.gateClosed n = false → (s.sd n).nv.vault.renewing = false → ∃ t, exec (.vltWrapRenew n j) s = .next t
        ∧ (t.sd n).nv.vault.renewing = true ∧ (t.sd n).nv.vault.wrapGen = (s.sd n).nv.vault.wrapGen + 1
        ∧ (t.sd n).nv.vault.oldLive = (s.sd n).nv.vault.live ∧ (t.sd n).nv.vault.live = [] ∧ (t.sd n).nv.vault.spillNext = 0
        ∧ (t.sd n).root 5 = (s.sd n).root 0 ∧ (t.sd n).root 1 = (s.sd n).root 1 ∧ (∀ m, m ≠ n → t.sd m = s.sd m)))
    ∧ (j.env.logOk = true → ∃ t, exec (.vltDiscard n j) s = .next t ∧ OnlyStrand s t n ∧ bits j.w6 0 22 ∉ (t.sd n).nv.vault.live
        ∧ (∀ k, k ≠ bits j.w6 0 22 → (k ∈ (t.sd n).nv.vault.live ↔ k ∈ (s.sd n).nv.vault.live))
        ∧ ∃ d ∈ (t.sd n).done, d.job = j ∧ d.status = 0)
    ∧ (j.input.length ≤ j.seg0.outLen → ∀ x key, strandBlobKey (s.sd n) j.input = some (5, true) →
        (s.sd n).rootRelease s.now j.env 5 = (x, some key) →
        match openBlob j.input key with
        | none => exec (.vltRewrap n j) s = .next ((s.setSd n x).fail n j 0x24)
        | some (a, k) => ∀ num y iv z u root, let c : Ctx := { idx := 0, attr := a, key := k, baseGen := 1, curGen := 1 }
            j.env.logOk = true → spillNumber x c = some (num, y) → y.nextIv 0 = some (iv, z) → z.rootRelease s.now j.env 0 = (u, some root) →
            exec (.vltRewrap n j) s = .next ((s.setSd n u.onxSync).succeed n j (makeBlob 0 n c root iv num z.nv.vault.wrapGen)))
    ∧ (j.fn = 0 → (s.sd n).nv.vault.renewing = true → ∃ t, exec (.vltWrapClose n j) s = .next t ∧ OnlyStrand s t n
        ∧ (t.sd n).nv.vault.renewing = false ∧ (t.sd n).nv.vault.oldLive = [] ∧ (t.sd n).root 5 = 0 ∧ (t.sd n).root 0 = (s.sd n).root 0)
    ∧ (j.fn = 0 → (s.sd n).nv.vault.renewing = false → exec (.vltWrapClose n j) s = .next (s.fail n j 0x25))

/-- R234 to R238, R676: a successor is staged, verified, and committed into its slot under the next generation, or abandoned; until
the commit the slot's own key stays. -/
def Obligations.KeyReplacement : Prop :=
  ∀ (s : State) (n : Fin 4) (j : Job) (c : Ctx), VaultServed s n j → s.vaultCtx n j j.ctx = some c → bit c.attr.flags 1 = false →
    asym c.attr.alg = false → j.env.logOk = true →
    (∀ hid, c.succ = none → j.op = 0x210 → j.input.length = 32 → le j.input 4 4 = 0 → le j.input 24 2 = 0 → le j.input 26 2 = 0 → le j.input 28 4 = 0 →
      bit j.w6 0 = true → s.gateClosed n = false → (s.sd n).freeHead = some hid → largeNeed c.attr.alg c.attr.keylen = 0 →
      (s.sd n).staged' < 256 → genSpan c < 128 → ∃ t x, exec (.vltReplace n j) s = .next t ∧ OnlyStrand s t n
        ∧ (t.sd n).slot c.idx = some { c with succ := some x } ∧ x.key.length = keyBytes c.attr.alg c.attr.keylen ∧ x.hidden = hid
        ∧ x.verified = false ∧ x.imported = false ∧ x.usesLeft = le j.input 0 4 ∧ x.expiry = le j.input 8 8 ∧ x.counter = le j.input 16 8
        ∧ ∃ d ∈ (t.sd n).done, d.job = j ∧ d.status = 0)
    ∧ (∀ x, c.succ = some x →
      (j.op = 0x210 → exec (.vltReplace n j) s = .next (s.fail n j 0x25))
      ∧ (3 ≤ j.seg0.outLen → exec (.vltVerify n j) s =
          if x.imported = true ∧ x.check ≠ kcv c.attr.alg x.key then .next ((s.up n fun st => st.dropSucc c).fail n j 0x26)
          else .next ((s.up n fun st => st.putCtx { c with succ := some { x with verified := true } }).succeed n j (kcv c.attr.alg x.key)))
      ∧ (x.verified = false → exec (.vltCommit n j) s = .next (s.fail n j 0x25))
      ∧ (x.verified = true → 4 ≤ j.seg0.outLen → j.env.cut = true → bit c.attr.flags 0 = true → exec (.vltCommit n j) s =
        .next (s.setSd n (((s.sd n).issueGen c.idx).2.markCommit c)))
      ∧ (x.verified = true → 4 ≤ j.seg0.outLen → (j.env.cut = false ∨ bit c.attr.flags 0 = false) → j.env.writeOk = true → j.cop = none →
        ∃ t g, exec (.vltCommit n j) s = .next t ∧ (∀ m, m ≠ n → t.sd m = s.sd m) ∧ g = nextGen ((s.sd n).lastGen c.idx)
          ∧ (t.sd n).slot c.idx = some { c with key := x.key, curGen := g, succ := none, large := x.large
                                                attr := { c.attr with usesLeft := x.usesLeft, expiry := x.expiry, counter := x.counter } }
          ∧ t.mem = Mem.writeBytes s.mem j.seg0.outAddr (toLE 4 g) ∧ ∃ d ∈ (t.sd n).done, d.job = j ∧ d.status = 0)
      ∧ (∃ t, exec (.vltAbandon n j) s = .next t ∧ OnlyStrand s t n ∧ (t.sd n).slot c.idx = some { c with succ := none }
          ∧ x.hidden ∈ (t.sd n).vault.freed ∧ ∃ d ∈ (t.sd n).done, d.job = j ∧ d.status = 0))
    ∧ (c.succ = none → exec (.vltCommit n j) s = .next (s.fail n j 0x25) ∧ exec (.vltAbandon n j) s = .next (s.fail n j 0x25)
      ∧ exec (.vltVerify n j) s = .next (s.fail n j 0x25))

/-- R208, R210, R216, R223, R224, R240, R241: roots are imported, cleared and masked anew with their values kept; a release charges one
use; the sweep frees what no current owner holds. -/
def Obligations.RootsReleasesAndSweep : Prop :=
  ∀ (s : State) (n : Fin 4) (j : Job),
    (VaultServed s n j → (s.sd n).mode = 5 →
      (16 ≤ bits j.w6 0 6 → ∃ t, exec (.vltRootClear n j) s = .next t ∧ OnlyStrand s t n ∧ (t.sd n).root (bits j.w6 0 6) = 0
        ∧ (∀ k, k ≠ bits j.w6 0 6 → (t.sd n).root k = (s.sd n).root k) ∧ ∃ d ∈ (t.sd n).done, d.job = j ∧ d.status = 0)
      ∧ (∀ c x c', (bits j.w6 0 6 = 1 ∨ bits j.w6 0 6 = 2 ∨ 16 ≤ bits j.w6 0 6) → (s.sd n).quorum.kek.bind (s.sd n).slot = some c →
        bit c.attr.flags 1 = true →
        (s.sd n).release s.now j.env c.attr.owner c.attr.ownerGen ((s.sd n).handle c) (2 ^ 7) 0 true = (x, .inr c') →
        match Config.kwpOpen c'.key j.input with
        | none => exec (.vltRootImport n j) s = .next ((s.setSd n x).fail n j 0x10)
        | some key =>
          if key.length = 32 then ∃ t, exec (.vltRootImport n j) s = .next t ∧ OnlyStrand s t n
            ∧ (t.sd n).root (bits j.w6 0 6) = BitVec.ofNat 256 (beNat key) ∧ ∃ d ∈ (t.sd n).done, d.job = j ∧ d.status = 0
          else exec (.vltRootImport n j) s = .next ((s.setSd n x).fail n j 0x41))
      ∧ ((bits j.w6 0 6 = 1 ∨ bits j.w6 0 6 = 2 ∨ 16 ≤ bits j.w6 0 6) → (s.sd n).quorum.kek.bind (s.sd n).slot = none →
        exec (.vltRootImport n j) s = .next ((s.up n fun st => st.bump R.ONX_ABSENT).fail n j 0x22))
      ∧ (∀ x key, (s.sd n).nv.vault.attestDraw ≠ 0 → 40 ≤ j.seg0.outLen → (s.sd n).rootRelease s.now j.env 1 = (x, some key) →
        exec (.vltAttestExport n j) s = .next
          (((s.setSd n x).up n fun st => { st with nv := { st.nv with vault := { st.nv.vault with attestDraw := 0 } } }).succeed n j
            (kwpWrap key (bvBytes ((s.sd n).root 3))))))
    ∧ (VaultServed s n j → (s.sd n).mode ≠ 5 → exec (.vltRootImport n j) s = .next (s.fail n j 0x30)
        ∧ exec (.vltRootClear n j) s = .next (s.fail n j 0x30) ∧ exec (.vltAttestExport n j) s = .next (s.fail n j 0x30)
        ∧ exec (.vltWrapOut n j) s = .next (s.fail n j 0x30))
    ∧ (∀ k, j.env.agree = true → j.env.transferOk = true → j.env.destOk = true →
        ((s.sd n).rootRelease s.now j.env k).2 = some (bvBytes ((s.sd n).root k)))
    ∧ (∀ masks, (s.sd n).flag R.ONX_STATUS_MIRROR_OPEN = true → ∃ t, exec (.rootRemaskPass n masks) s = .next t ∧ OnlyStrand s t n
        ∧ t.now = (if (s.sd n).vault.remaskRun.isNone then max s.now ((s.sd n).vault.remaskAt + 250000000) else s.now)
        ∧ (∀ k, k < 64 → (t.sd n).root k = (s.sd n).root k) ∧ (t.sd n).vault.ctxs = (s.sd n).vault.ctxs
        ∧ let hi := min ((s.sd n).vault.remaskRun.getD 0 + masks) remaskWords
          (hi = remaskWords → (t.sd n).vault.remaskRun = none
            ∧ (t.sd n).get R.ONX_REMASK = min ((s.sd n).get R.ONX_REMASK + 1) (2 ^ 32 - 1))
          ∧ (hi ≠ remaskWords → (t.sd n).vault.remaskRun = some hi ∧ (t.sd n).get R.ONX_REMASK = (s.sd n).get R.ONX_REMASK))
    ∧ (∀ usage dest c, (s.sd n).halted = false → (s.sd n).zeroised = false →
      (s.sd n).ctxFor j.fn (s.jobGen j) j.ctx = some c → bit c.attr.usage usage = true → bit c.attr.dest dest = true →
      (s.sd n).expired s.now c = false → 0 < c.attr.usesLeft → c.attr.usesLeft < 0xFFFFFFFF → j.env.agree = true →
      j.env.transferOk = true → j.env.destOk = true → ∃ t, exec (.keyRelease n j usage dest) s = .next t ∧ OnlyStrand s t n
        ∧ (t.sd n).slot c.idx = some { c with attr := { c.attr with usesLeft := c.attr.usesLeft - 1 }, lastRelease := s.now })
    ∧ (∀ usage dest, (s.sd n).halted = false → (s.sd n).zeroised = false → (s.sd n).ctxFor j.fn (s.jobGen j) j.ctx = none →
      exec (.keyRelease n j usage dest) s = .next ((s.up n fun st => st.bump R.ONX_ABSENT).fail n j 0x22))
    ∧ (∀ x, (s.sd n).vault.sweep = some x → ∃ t, exec (.contextSweepDone n) s = .next t ∧ OnlyStrand s t n
        ∧ (∀ c ∈ (t.sd n).vault.ctxs, c ∈ (s.sd n).vault.ctxs ∧ s.ownerCurrent c = true) ∧ (t.sd n).vault.sweep = none
        ∧ (t.sd n).flag R.ONX_STATUS_SWEEPING = false)

/-! ### Topaz and Jade -/

/-- R223, R251, R256, R257, R269: a host cipher job with a lane free for it and its key released is taken up by that lane: the counter
values its IV needs are drawn first, and the run holds the result of its opcode under the released key. -/
def Obligations.CipherJobsAreTakenUpByALane : Prop :=
  ∀ (s : State) (n : Fin 4) (j : Job),
    let last := 0xFFFFFFFFFFFFFFFF
    let Starts := fun (i : Instr) (op usage : Nat) (draws : Option Nat) (need : Nat → Nat) (serial suits lens : Nat → Bool) (work : Nat → Bytes → Nat → Work) =>
      ∀ l c x c' y v, let k : Job := { j with op := op }
        Served s n k → (s.sd n).mode ∈ [2, 3, 5] → (s.sd n).flag R.TOP_CTL_HOST_EN = true → j.cop = none →
        (s.sd n).ctxFor j.fn (s.jobGen k) j.ctx = some c → suits c.attr.alg = true → lens c.attr.alg = true → need c.attr.alg ≤ j.seg0.outLen →
        (isTdea c.attr.alg = true → (s.sd n).flag R.TOP_CTL_TDEA_EN = true) → (s.sd n).laneFor (serial c.attr.alg) = some l →
        (s.sd n).release s.now j.env j.fn (s.jobGen k) j.ctx usage 0 true = (x, .inr c') →
        (match draws with
          | none => y = x ∧ v = 0
          | some d => c'.attr.counter ≠ last ∧ x.drawCounter c' d = (y, some v) ∧ (bit c'.attr.flags 0 = true → j.env.logOk = true)) →
        ∃ b cy, exec i s = .next (s.setSd n ((y.hold k).upEng fun e => { e with topRuns := e.topRuns ++
          [{ job := k, lane := l, serial := serial c'.attr.alg, slot := c'.idx, base := c'.baseGen, since := s.now, drawn := (v, draws.getD 0)
             left := b, work := { work c'.attr.alg c'.key v with
               blocks := b, cycles := cy, exhaust := decide (0 < draws.getD 0) && v + draws.getD 0 == last } }] }))
    let b := j.input
    let z := b.length
    let aad := bits j.w7 32 32
    let iv := toLE 8 j.w6 ++ toLE 4 (j.w7 % 2 ^ 32)
    let whole := fun a => z % blockSize a == 0 && z != 0
    let cbc := fun a => if isTdea a then toLE 8 j.w6 else toLE 8 j.w6 ++ toLE 8 j.w7
    let ct := sub b aad (z - 16 - aad)
    let t := bits j.w6 0 5
    let ser := fun (_ : Nat) => true
    let par := fun (_ : Nat) => false
    let text := fun (k : Nat) => decide (0 < k) && decide (k < 2 ^ 32)
    let Out := fun (o : Bytes) => ({ status := 0, outs := [(j.seg0.outAddr, o)], resLen := o.length } : Work)
    let Bad : Work := { status := 0x10, outs := [(j.seg0.outAddr, zeros j.seg0.outLen)], resLen := 0 }
    Starts (.topKcv n j) 0x300 0 none (fun _ => 3) par anyCipher (fun _ => true) (fun a k _ => Out (kcv a k))
    ∧ Starts (.topCbcEnc n j) 0x308 1 none (fun _ => z) ser anyCipher whole (fun a k _ => Out (cbcEnc a k (z / blockSize a) (cbc a) b))
    ∧ Starts (.topCbcDec n j) 0x309 2 none (fun _ => z) isTdea anyCipher whole (fun a k _ => Out (cbcDec a k (z / blockSize a) (cbc a) b))
    ∧ Starts (.topCtrEnc n j) 0x310 1025 (some ((z + 15) / 16)) (fun _ => 8 + z) par isAes (fun _ => true)
        (fun _ k v => Out (toBE 8 v ++ ctrCrypt k (toLE 8 j.w6) v b))
    ∧ Starts (.topCtrDec n j) 0x311 2 none (fun _ => z) par isAes (fun _ => true) (fun _ k _ => Out (ctrCrypt k (toLE 8 j.w6) (beNat (toLE 8 j.w7)) b))
    ∧ Starts (.topGcmEnc n j) 0x314 1025 (some 1) (fun _ => 28 + (z - aad)) par isAes (fun _ => decide (aad ≤ z) && text (z - aad)) (fun _ k v =>
        Out (drawnIv v ++ (gcmSeal k (drawnIv v) (b.take aad) (b.drop aad)).1 ++ (gcmSeal k (drawnIv v) (b.take aad) (b.drop aad)).2))
    ∧ Starts (.topGcmDec n j) 0x315 2 none (fun _ => ct.length) par isAes (fun _ => decide (aad + 16 ≤ z) && text ct.length) (fun _ k _ =>
        match gcmOpen k iv (b.take aad) ct (b.drop (z - 16)) with | some p => Out p | none => Bad)
    ∧ Starts (.topCcmEnc n j) 0x31C 1025 (some 1) (fun _ => 28 + (z - aad)) par isAes (fun _ => decide (aad ≤ z) && decide (z - aad < 2 ^ 24))
        (fun _ k v => Out (drawnIv v ++ ccmCrypt k (drawnIv v) (b.drop aad)
          ++ bvBytes (Config.ccmTag k (drawnIv v) (b.take aad) (b.drop aad))))
    ∧ Starts (.topCcmDec n j) 0x31D 2 none (fun _ => ct.length) par isAes (fun _ => decide (aad + 16 ≤ z) && decide (ct.length < 2 ^ 24)) (fun _ k _ =>
        if bvBytes (Config.ccmTag k iv (b.take aad) (ccmCrypt k iv ct)) = b.drop (z - 16) then Out (ccmCrypt k iv ct) else Bad)
    ∧ Starts (.topCmacGen n j) 0x320 4 none blockSize ser anyCipher (fun _ => true) (fun a k _ => Out (cmac a k b))
    ∧ Starts (.topCmacVerify n j) 0x321 8 none (fun _ => 0) ser anyCipher (fun a => decide (4 ≤ t) && decide (t ≤ blockSize a) && decide (t ≤ z))
        (fun a k _ => if (cmac a k (b.take (z - t))).take t = b.drop (z - t) then Out [] else Bad)
    ∧ Starts (.topKwWrap n j) 0x330 1 none (fun _ => if bit j.w6 0 then pad8 z + 8 else z + 8) ser isAes
        (fun _ => decide (16 ≤ z) && decide (z ≤ 65536) && (bit j.w6 0 || z % 8 == 0))
        (fun _ k _ => Out (if bit j.w6 0 then kwpWrap k b else (List.range (z + 8)).map (Config.kwByte k b)))
    ∧ Starts (.topKwUnwrap n j) 0x331 2 none (fun _ => z - 8) ser isAes
        (fun _ => decide (16 ≤ z) && decide (z ≤ 65536) && z % 8 == 0 && (bit j.w6 0 || decide (24 ≤ z))) (fun _ k _ =>
        match (if bit j.w6 0 then Config.kwpOpen k b else Config.kwOpen k b) with
        | some p => Out (fit (min p.length (z - 8)) p) | none => Bad)

/-- R254, R255, R261, R262, R263: XTS under both keys, a stream over the entries of its chain, the abort of a stream that holds a
poisoned key.
R253, R254, R259, R260, R262, R264, R270, R271: hash and HMAC jobs are taken up by a core; a run's end writes its result and leaves
its completion waiting; a failed stream poisons its context; a lane is reseeded, or stalls. -/
def Obligations.StreamsHashJobsAndRunEnds : Prop :=
  (∀ (s : State) (n : Fin 4) (j : Job), j.cop = none → (s.sd n).mode ∈ [2, 3, 5] → (s.sd n).flag R.TOP_CTL_HOST_EN = true →
    (let Xts := fun (i : Instr) (op : Nat) (enc : Bool) => ∀ l c d x y ca cb, let k : Job := { j with op := op }
      let u := bits j.w7 32 32
      Served s n k → (s.sd n).ctxFor j.fn (s.jobGen k) j.ctx = some c → (s.sd n).ctxFor j.fn (s.jobGen k) (j.w7 % 2 ^ 32) = some d →
      (c.attr.alg = 1 ∨ c.attr.alg = 3) → d.attr.alg = c.attr.alg → 16 ≤ u → u ≤ 2 ^ 24 → j.input.length % u = 0 → j.input ≠ [] →
      j.input.length ≤ j.seg0.outLen → (s.sd n).laneFor false = some l →
      (s.sd n).release s.now j.env j.fn (s.jobGen k) j.ctx 2048 0 true = (x, .inr ca) →
      x.release s.now j.env j.fn (s.jobGen k) (j.w7 % 2 ^ 32) 2048 0 true = (y, .inr cb) → ca.key.length = cb.key.length →
      ∃ b cy, exec i s = .next (s.setSd n ((y.hold k).upEng fun e => { e with topRuns := e.topRuns ++ [
        { job := k, lane := l, serial := false, slot := ca.idx, base := ca.baseGen, since := s.now, left := b, work :=
            if ca.key = cb.key then { status := 0x2A, outs := [], resLen := 0, blocks := b, cycles := cy }
            else let o := xtsCrypt enc ca.key cb.key u j.w6 (j.input.length / u) j.input
              { status := 0, outs := [(j.seg0.outAddr, o)], resLen := o.length, blocks := b, cycles := cy } }] }))
     Xts (.topXtsEnc n j) 0x328 true ∧ Xts (.topXtsDec n j) 0x329 false)
    ∧ (∀ l c x c' a b1 b2, let k : Job := { j with op := 0x318 }
      Served s n k → (s.sd n).ctxFor j.fn (s.jobGen k) j.ctx = some c → isAes c.attr.alg = true → j.segs = [a, b1] → a.data.length + b1.data.length = b2 →
      16 + bits j.w7 32 32 < b2 → b2 - 16 - bits j.w7 32 32 < 2 ^ 32 → bits j.w7 32 32 ≤ a.data.length → 16 ≤ b1.data.length → a.data.length - bits j.w7 32 32 ≤ a.outLen → b1.data.length - 16 ≤ b1.outLen →
      (s.sd n).laneFor false = some l → (s.sd n).release s.now j.env j.fn (s.jobGen k) j.ctx 4098 0 true = (x, .inr c') →
      ∃ r, exec (.topGcmDecStream n j) s = .next (s.setSd n ((x.hold k).upEng fun e => { e with topRuns := e.topRuns ++ [r] }))
        ∧ r.job = k ∧ r.lane = l ∧ r.slot = c'.idx ∧ r.base = c'.baseGen ∧ r.since = s.now ∧ r.poisonAt = none ∧ r.work.resLen = b2 - 16 - bits j.w7 32 32
        ∧ r.work.outs.map (fun o => (o.1, o.2.length)) = [(a.outAddr, a.data.length - bits j.w7 32 32), (b1.outAddr, b1.data.length - 16)]
        ∧ r.work.status = (if r.work.poison then 1 else 0)
        ∧ (r.work.poison = true ↔ gcmOpen c'.key (toLE 8 j.w6 ++ toLE 4 (j.w7 % 2 ^ 32)) ((a.data ++ b1.data).take (bits j.w7 32 32))
            (a.data.drop (bits j.w7 32 32) ++ b1.data.take (b1.data.length - 16)) (b1.data.drop (b1.data.length - 16)) = none))
    ∧ (∀ r p k, (s.sd n).halted = false → (s.sd n).eng.topQ = [] → (s.sd n).eng.topRuns = [r] → r.job = j → j.op = 0x318 →
      r.poisonAt = some p → ∃ t, exec (.streamChainAbort n j.id k) s = .next t ∧ (∀ m, m ≠ n → t.sd m = s.sd m)
        ∧ t.mem = (r.work.outs.take k).foldl (fun m o => Mem.writeBytes m o.1 o.2) s.mem ∧ (t.sd n).eng.topRuns = []
        ∧ ∃ d ∈ (t.sd n).done, d.job = j ∧ d.status = 0x29 ∧ d.resLen = 0 ∧ d.ended = p))
  ∧ (∀ (s : State) (n : Fin 4) (j : Job),
    (let a := bits j.w6 0 4
     let t := bits j.w6 8 8
     let len := j.input.length
     let Runs := fun (i : Instr) (r : JadRun) => ∃ u cy, exec i s = .next u ∧ OnlyStrand s u n
        ∧ (u.sd n).eng.jadRuns = (s.sd n).eng.jadRuns ++ [{ r with since := s.now, work := { r.work with cycles := cy } }]
        ∧ (u.sd n).eng.topRuns = (s.sd n).eng.topRuns
        ∧ (u.sd n).flag (if r.core = 0 then R.JAD_STATUS_S0_BUSY else if r.core = 1 then R.JAD_STATUS_S1_BUSY else R.JAD_STATUS_K_BUSY) = true
     let Out := fun (o : Bytes) => ({ status := 0, outs := [(j.seg0.outAddr, o)], resLen := o.length } : Work)
     let Bad : Work := { status := 0x10, outs := [(j.seg0.outAddr, zeros j.seg0.outLen)], resLen := 0 }
     j.cop = none → (s.sd n).mode ∈ [2, 3, 5] → (s.sd n).flag R.JAD_CTL_HOST_EN = true → 1 ≤ a → a ≤ 6 → len < 2 ^ 40 →
     ∀ core, State.jadCore (s.sd n) a = some core →
      (Served s n { j with op := 0x500 } → digestLen a ≤ j.seg0.outLen → Runs (.jadHash n j)
        { job := { j with op := 0x500 }, core := core, slot := none, work := Out (digest a j.input) })
      ∧ (∀ c x c', Served s n { j with op := 0x501 } → (s.sd n).ctxFor j.fn (s.jobGen j) j.ctx = some c → (c.attr.alg = 8 ∨ c.attr.alg = 9) →
        digestLen a ≤ j.seg0.outLen → (s.sd n).release s.now j.env j.fn (s.jobGen j) j.ctx 4 3 true = (x, .inr c') → Runs (.jadHmacGen n j)
          { job := { j with op := 0x501 }, core := core, slot := some c'.idx, work := Out (hmac a c'.key j.input) })
      ∧ (∀ c x c', Served s n { j with op := 0x502 } → (s.sd n).ctxFor j.fn (s.jobGen j) j.ctx = some c → (c.attr.alg = 8 ∨ c.attr.alg = 9) →
        16 ≤ t → t ≤ digestLen a → t ≤ len → (s.sd n).release s.now j.env j.fn (s.jobGen j) j.ctx 8 3 true = (x, .inr c') →
        Runs (.jadHmacVerify n j) { job := { j with op := 0x502 }, core := core, slot := some c'.idx, work :=
          if (hmac a c'.key (j.input.take (len - t))).take t = j.input.drop (len - t) then Out [] else Bad }))
    ∧ ((s.sd n).halted = false → j.env.endOk = true → j.env.writeOk = true → j.cop = none →
      let Ends := fun (i : Instr) (w : Work) (least : Nat) (others : Nat → List TopRun) => ∃ t, exec i s = .next t ∧ (∀ m, m ≠ n → t.sd m = s.sd m)
        ∧ t.now = max s.now least ∧ t.mem = w.outs.foldl (fun m o => Mem.writeBytes m o.1 o.2) s.mem
        ∧ (t.sd n).eng.topRuns = others t.now ∧ (t.sd n).eng.jadRuns = []
        ∧ (∃ d ∈ (t.sd n).done, d.job = j ∧ d.status = w.status ∧ d.resLen = w.resLen ∧ d.ended = t.now)
        ∧ (∀ r c, (s.sd n).eng.topRuns.head? = some r → r.work.poison = true → (s.sd n).slot r.slot = some c → c.baseGen = r.base →
            ∃ c', (t.sd n).slot r.slot = some c' ∧ c'.poisoned = true ∧ c'.key = c.key ∧ c'.attr = { c.attr with usage := c.attr.usage &&& 61439 })
      let TopEnds := fun (r : TopRun) => Ends (.topazJobEnd n j.id) r.work
        (Strand.runEnd r.since r.mark r.done r.work.cycles ((s.sd n).isleMhz (12 + r.lane)))
      (∀ r, (s.sd n).eng.topRuns.head? = some r → (s.sd n).eng.jadRuns = [] → r.job = j → r.poisonAt = none → (s.sd n).eng.topQ = [] →
        (s.sd n).laneStalled r.lane = false →
        ((s.sd n).eng.topRuns = [r] → TopEnds r fun _ => [])
        ∧ (∀ q, (s.sd n).eng.topRuns = [r, q] → q.job.id ≠ j.id → q.job.op = 0x318 → q.slot = r.slot → q.base = r.base → q.poisonAt = none →
            r.work.poison = true → TopEnds r fun now => [{ q with poisonAt := some now }]))
      ∧ (∀ r, (s.sd n).eng.jadRuns = [r] → (s.sd n).eng.topRuns = [] → r.job = j → (s.sd n).eng.jadQ = [] →
        Ends (.jadeJobEnd n j.id) r.work (Strand.runEnd r.since r.mark r.done r.work.cycles ((s.sd n).isleMhz 15)) fun _ => []))
    ∧ (∀ lane, (s.sd n).halted = false → lane ∈ (s.sd n).activeLanes →
      (∃ t, exec (.topazReseed n lane true false) s = .next t ∧ OnlyStrand s t n ∧ (t.sd n).laneBlocks lane = 0 ∧ ((t.sd n).lane lane).stalled = false)
      ∧ (1048576 < (s.sd n).laneLoad lane → ((s.sd n).lane lane).stalled = false → ∃ t, exec (.topazReseed n lane false false) s = .next t
        ∧ OnlyStrand s t n ∧ (t.sd n).flag R.TOP_STATUS_RESEED_WAIT = true
        ∧ (t.sd n).get R.TOP_RESEED_LATE = min ((s.sd n).get R.TOP_RESEED_LATE + 1) (2 ^ 32 - 1))
      ∧ (∀ x r, (s.sd n).eng.topRuns = [r] → r.lane = lane → (s.sd n).eng.topQ = [] → ∃ t d, exec (.topazReseed n lane x true) s = .next t
        ∧ OnlyStrand s t n ∧ (t.sd n).eng.topRuns = [] ∧ (t.sd n).flag R.TOP_ERR_VALID = true
        ∧ d ∈ (t.sd n).done ∧ d.job = r.job ∧ d.status = 0x7F ∧ d.resLen = 0)))


/-! ### Beryl -/

/-- R283, R286 to R290, R294, R303: an accepted big-number job goes to an idle engine where no posting work waits; an engine that runs it
reaches its fixed count, at the engine's frequency, and the job ends with the result of its opcode; a shared secret for a QUORUM context is
made in CEREMONY alone. What a signature, a padding or a point check gives is open,
so the statement holds for each. -/
def Obligations.BigNumberJobs : Prop :=
  ∀ (s : State) (n : Fin 4) (j : Job) (c : Option Ctx),
    let Runs := fun (i : Instr) (op : Nat) (keyed : Bool) (need cycles : Nat) (f : Bytes → Nat → BerWork) =>
      let k : Job := { j with op := op }
      let at' := fun (r : BerRun) => Strand.runEnd r.since r.mark r.done cycles ((s.sd n).isleMhz (7 + r.eng))
      Served s n k → (s.sd n).mode ∈ [2, 3, 5] → (s.sd n).flag R.BER_CTL_HOST_EN = true → j.cop = none → need ≤ j.seg0.outLen →
      (if keyed = true then ∃ x, c = some x ∧ (s.sd n).ctxFor j.fn (s.jobGen k) j.ctx = some x
          ∧ (x.attr.alg = 0x10 → 512 * (s.sd n).get R.BER_CTL_RSA_MIN ≤ x.attr.keylen) else c = none) →
      (∀ e, (s.sd n).eng.berQ = [] → (s.sd n).berActive.find? (fun e => ((s.sd n).berRun e).isNone) = some e → (s.sd n).sealWaits = false →
        ∃ t r, exec i s = .next t ∧ OnlyStrand s t n ∧ (t.sd n).berRun e = some r ∧ r.job = k ∧ r.since = s.now
          ∧ (r.st = .wiping ↔ ((s.sd n).berEng e).owe = true ∨ ∃ o, ((s.sd n).berEng e).owner = some o ∧ o ≠ (j.fn, j.gen)))
      ∧ (∀ e r, (s.sd n).eng.berQ = [] → (s.sd n).berRun e = some r → r.st = .running → r.job = k → r.cycles = cycles → r.eng = e →
        r.len = 0 → r.prime = none → j.env.endOk = true → j.env.writeOk = true → op ≠ 0x430 → (∀ x, c = some x → (s.sd n).slot r.slot = some x ∧ r.key = x.key) →
        ∃ t, exec (.berylCountReached n e) s = .next t ∧ (∀ m, m ≠ n → t.sd m = s.sd m) ∧ t.now = max s.now (at' r)
          ∧ let w := f r.key r.nonce
            match w.secret with
            | none => t.mem = (if w.status = 0 then Mem.writeBytes s.mem j.seg0.outAddr w.out else s.mem) ∧ (t.sd n).berRun e = none
                ∧ ∃ d ∈ (t.sd n).done, d.job = k ∧ d.status = w.status ∧ d.resLen = (if w.status = 0 then w.out.length else 0)
            | some (a, key) => ∀ g, s.ownerGen n k a.owner = some g →
                t = ((s.upTo (at' r)).berLeave n r).placeAnswer n k { a with ownerGen := g } key false)
    let b := j.input
    let num := fun o l => beNat (sub b o l)
    let W := bits j.w6 0 16
    let X := bits j.w6 16 16
    let K := 8 * W
    let modOk := fun (m w : Nat) => 1 ≤ w ∧ w ≤ 256 ∧ m % 2 = 1 ∧ 2 ^ (64 * (w - 1)) ≤ m
    let one := decide (j.ctx ≠ 0)
    let sch := 0x10 + 2 ^ 8 * bits j.w6 0 8
    (b.length = 3 * K → modOk (num (2 * K) K) W → num 0 K < num (2 * K) K → num K K < num (2 * K) K →
      Runs (.berModmul n j) 0x400 false K (W * W / 2 + 208) fun _ _ => { out := toBE K (num 0 K * num K K % num (2 * K) K) })
    ∧ (b.length = 2 * K + 8 * X → 1 ≤ X → X ≤ 256 → modOk (num (K + 8 * X) K) W → num 0 K < num (K + 8 * X) K →
      Runs (.berModexp n j) 0x401 false K ((80 * X + 18) * (W * W / 2 + 8) + 400) fun _ _ =>
        { out := toBE K (num 0 K ^ num K (8 * X) % num (K + 8 * X) K) })
    ∧ (b.length = 2 * K → modOk (num K K) W → num 0 K < num K K →
      Runs (.berModinv n j) 0x402 false K (128 * W * ((W + 3) / 4 + 2) + 200) fun _ _ =>
        match modInverse W (num 0 K) (num K K) with | some i => { out := toBE K i } | none => { status := 0x2D })
    ∧ (∀ x h, c = some x → x.attr.alg = 0x10 → rsaHashLen (bits j.w6 4 4) = some h →
      let w := x.attr.keylen / 64
      let priv := 12 * w * w * w + 98 * w * w + 48 * w + 4896
      let pub := publicKey 0x10 x.attr.keylen x.key
      ((bits j.w6 0 4 = 1 ∨ bits j.w6 0 4 = 2) → b.length = h →
        Runs (.berRsaSign n j) 0x408 true (8 * w) priv fun key v => { out := (List.range (8 * w)).map (Config.signByte sch key b v) })
      ∧ ((bits j.w6 0 4 = 1 ∨ bits j.w6 0 4 = 2) → one = true → b.length = h + 8 * w → beNat (b.drop h) < beNat (pub.take (8 * w)) →
        Runs (.berRsaVerify n j) 0x409 one 0 (98 * (w * w / 2 + 8) + 400) fun _ _ =>
          if Config.verify sch pub (b.take h) (b.drop h) = true then {} else { status := 0x10 })
      ∧ (bits j.w6 0 4 = 3 → one = true → b.length + 2 * h + 2 ≤ 8 * w →
        Runs (.berRsaEncrypt n j) 0x40A one (8 * w) (98 * (w * w / 2 + 8) + 400) fun _ v =>
          { out := (List.range (8 * w)).map (Config.rsaByte sch pub (toBE h v ++ b)) })
      ∧ (bits j.w6 0 4 = 3 → b.length = 8 * w → beNat b < rsaModulus x.attr.keylen x.key → 2 * h + 2 ≤ 8 * w →
        Runs (.berRsaDecrypt n j) 0x40B true (8 * w - 2 * h - 2) priv fun key _ =>
          match Config.oaepOpen sch key b with | some m => { out := m.take (8 * w - 2 * h - 2) } | none => { status := 0x10 }))
    ∧ (∀ x, c = some x →
      let a := x.attr.alg
      (a ∈ [0x20, 0x21, 0x22] → 20 ≤ b.length → b.length ≤ 64 → Runs (.berEcdsaSign n j) 0x410 true (2 * fieldLen a) (signCycles a)
        fun key v => { out := (List.range (2 * fieldLen a)).map (Config.signByte a key b v) })
      ∧ (a ∈ [0x24, 0x25] → b.length ≤ 4096 → Runs (.berEddsaSign n j) 0x418 true (edSigLen a) (signCycles a + edExtra a b.length)
        fun key v => { out := (List.range (edSigLen a)).map (Config.signByte a key b v) })
      ∧ (let p := pointLen a
         let blk := Attr.parse (b.drop p)
         a ∈ [0x20, 0x21, 0x22, 0x23] → b.length = p + 32 → secretBlockOk blk (8 * fieldLen a) = true → (bit blk.flags 1 = true → (s.sd n).mode = 5) →
         Runs (.berEcdh n j) 0x420 true 4 (agreeCycles a) fun key _ => if Config.pointOk a (b.take p) = true
          then { secret := some (blk, secretKey ((List.range (fieldLen a)).map (Config.agreeByte a key (b.take p)))) } else { status := 0x2C })
      ∧ (let p := x.attr.keylen / 8
         let w := x.attr.keylen / 64
         let blk := Attr.parse (b.drop p)
         a = 0x11 → b.length = p + 32 → 2 ≤ num 0 p → num 0 p + 1 < Config.ffdhPrime x.key → secretBlockOk blk x.attr.keylen = true →
           (bit blk.flags 1 = true → (s.sd n).mode = 5) →
         Runs (.berFfdh n j) 0x421 true 4 ((80 * (w + 1) + 18) * (w * w / 2 + 8) + 600) fun key _ =>
          { secret := some (blk, secretKey ((List.range p).map (Config.agreeByte 0x11 key (b.take p)))) }))
    ∧ (∀ a pub r, curvePublic j c = some (a, pub, r) → pointLen a ≤ pub.length →
      (let f := fieldLen a
       let m := r.length - 2 * f
       a ∈ [0x20, 0x21, 0x22] → 2 * f + 20 ≤ r.length → m ≤ 64 → 1 ≤ beNat (sub r m f) → beNat (sub r m f) < curveOrder a →
       1 ≤ beNat (r.drop (m + f)) → beNat (r.drop (m + f)) < curveOrder a → Runs (.berEcdsaVerify n j) 0x411 one 0 (verifyCycles a) fun _ _ =>
        if Config.pointOk a pub = false then { status := 0x2C } else if Config.verify a pub (r.take m) (r.drop m) = true then {} else { status := 0x10 })
      ∧ (let m := r.length - edSigLen a
         a ∈ [0x24, 0x25] → edSigLen a ≤ r.length → m ≤ 4096 → Runs (.berEddsaVerify n j) 0x419 one 0 (verifyCycles a + edExtra a m) fun _ _ =>
        if Config.pointOk a pub = false then { status := 0x2C } else if Config.verify a pub (r.take m) (r.drop m) = true then {} else { status := 0x10 }))
    ∧ (∀ a, curveAlg (bits j.w6 0 4) = some a → b.length = pointLen a → Runs (.berPointCheck n j) 0x428 false 0 (pointCycles a) fun _ _ =>
        if Config.pointOk a b = true then {} else { status := 0x2C })
    ∧ (256 ≤ W → W ≤ 8192 → W % 64 = 0 → s.gateClosed n = false → Runs (.berPrimeGen n j) 0x430 false (W / 8) 0 fun _ _ => {})

/-- R291, R293, R295, R299, R300, R305: a wipe ends after 2,000 cycles; a start without entropy is counted once; a failed end check gives
no output; a prime search offers candidates until one is prime, or gives 0x2E at 65,535; the second prime of an RSA key must fit the first. -/
def Obligations.BerylEngineEvents : Prop :=
  ∀ (s : State) (n : Fin 4) (e : Nat) (r : BerRun), (s.sd n).berRun e = some r → r.eng = e →
    let Loads := r.job.env.endOk = true ∨ r.job.env.fault ≠ 4
    let search := fun (sp : BerSpec) => if sp.search = true then bits r.job.w6 0 16 else 0
    (r.st = .wiping → exec (.berylWipeDone n e) s = .next ((s.upTo (r.since + 2000)).up n fun st =>
      st.setBerRun { r with st := .loading, since := max s.now (r.since + 2000) }))
    ∧ (r.st = .loading → ∃ t, exec (.berylJobStart n e false) s = .next t ∧ OnlyStrand s t n
      ∧ (t.sd n).get R.BER_ENT_WAIT = min ((s.sd n).get R.BER_ENT_WAIT + b2n (!r.waited)) (2 ^ 32 - 1)
      ∧ (t.sd n).berRun e = some { r with waited := true })
    ∧ (r.st = .loading → berKeyed r.job = false → Loads → ∀ sp, berAnswer r.job none = .inr sp → sp.usage = none → ∃ t v, exec (.berylJobStart n e true) s = .next t
      ∧ OnlyStrand s t n ∧ (t.sd n).berRun e = some { r with
          st := .running, since := s.now, done := 0, cycles := sp.cycles, nonce := v, slot := 0, key := [], len := search sp })
    ∧ (r.st = .loading → berKeyed r.job = true → Loads → ∀ c c' x u sp, (s.sd n).ctxFor r.job.fn (s.jobGen r.job) r.job.ctx = some c →
      berAnswer r.job (some c) = .inr sp → sp.usage = some u → (s.sd n).release s.now r.job.env r.job.fn (s.jobGen r.job) r.job.ctx u 1 true = (x, .inr c') →
      ∃ t v, exec (.berylJobStart n e true) s = .next t ∧ OnlyStrand s t n ∧ (t.sd n).vault = x.vault
        ∧ (t.sd n).berRun e = some { r with
          st := .running, since := s.now, done := 0, cycles := sp.cycles, nonce := v, slot := c'.idx, key := c'.key, len := search sp })
    ∧ (r.st = .loading → Loads → r.job.op / 256 = 2 → ∀ alg len, s.keygenOf n r.job = some (alg, len) → ∃ t, exec (.berylJobStart n e true) s = .next t
      ∧ OnlyStrand s t n ∧ (t.sd n).berRun e = some { r with
          st := .running, since := s.now, done := 0, cycles := keygenCycles alg len, len := if alg = 0x10 then len / 2 else 0, two := alg == 0x10 })
    ∧ (r.st = .running → r.job.op ≠ 0x430 → (r.len = 0 ∨ r.prime.isSome = true) → r.job.env.endOk = false → (s.sd n).eng.berQ = [] → ∃ t d, exec (.berylCountReached n e) s = .next t
      ∧ OnlyStrand s t n ∧ (t.sd n).berRun e = none ∧ d ∈ (t.sd n).done ∧ d.job = r.job ∧ d.status = 0x2B ∧ d.resLen = 0
      ∧ (t.sd n).flag R.BER_ERR_VALID = true ∧ (t.sd n).get R.BER_INV_FAIL = min ((s.sd n).get R.BER_INV_FAIL + 1) (2 ^ 32 - 1))
    ∧ (r.st = .running → r.prime = none → 3 ≤ r.len →
      let fits := fun p => Config.primeOk p && ((r.first.map fun q => rsaPairOk (2 * r.len) q p).getD true)
      let next : Nat → BerRun := fun p =>
        if (fits p && r.two && r.first.isNone) = true then { r with first := some p, cands := 0, total := r.total + 1 }
        else { r with cands := r.cands + 1, total := r.total + 1, prime := if fits p = true then some p else none }
      let Tried := fun (Q : State → Nat → Prop) => ∃ t p, exec (.primeCandidate n e true) s = .next t ∧ OnlyStrand s t n ∧ p % 2 = 1
        ∧ 3 * 2 ^ (r.len - 2) ≤ p ∧ p < 2 ^ r.len ∧ Q t p
      (∃ t, exec (.primeCandidate n e false) s = .next t ∧ OnlyStrand s t n ∧ (t.sd n).berRun e = some r)
      ∧ (r.cands < 65534 → Tried fun t p => (t.sd n).berRun e = some (next p))
      ∧ (r.cands = 65534 → (s.sd n).eng.berQ = [] → Tried fun t p =>
          if fits p = true then (t.sd n).berRun e = some (next p)
          else (t.sd n).berRun e = none ∧ ∃ d ∈ (t.sd n).done, d.job = r.job ∧ d.status = 0x2E))
    ∧ (∀ p, r.st = .running → r.job.op = 0x430 → r.prime = some p → r.job.env.endOk = true → r.job.env.writeOk = true → r.job.cop = none →
      (s.sd n).eng.berQ = [] → 256 ≤ bits r.job.w6 0 16 → bits r.job.w6 0 16 ≤ 8192 → bits r.job.w6 0 16 % 64 = 0 → ∃ t d,
      exec (.berylCountReached n e) s = .next t ∧ t.mem = Mem.writeBytes s.mem r.job.seg0.outAddr (toBE (bits r.job.w6 0 16 / 8) p)
      ∧ (t.sd n).berRun e = none ∧ d ∈ (t.sd n).done ∧ d.job = r.job ∧ d.status = 0)

/-! ### Quartz -/

/-- R313, R315, R316, R318, R321, R322: blocks fill the pool and draws empty it; failures of the tests are counted until the key clears
them in CEREMONY; random bytes are open; a job served at once, or by a later block. -/
def Obligations.QuartzPoolTestsAndDraws : Prop :=
  ∀ (s : State) (n : Fin 4),
    ((s.sd n).mode ≠ 0 → (s.sd n).eng.qtzQ = [] → ∃ t, exec (.entropyBlockConditioned n) s = .next t ∧ OnlyStrand s t n
      ∧ (t.sd n).get R.QTZ_STATUS_LEVEL = min 4096 ((s.sd n).get R.QTZ_STATUS_LEVEL + 32)
      ∧ (t.sd n).flag R.QTZ_STATUS_VALID = decide (512 < min 4096 ((s.sd n).get R.QTZ_STATUS_LEVEL + 32)))
    ∧ (∀ src count, (s.sd n).sourceRuns src = true →
      (∃ t, exec (.rctFailure n src) s = .next t ∧ OnlyStrand s t n
        ∧ (t.sd n).get R.QTZ_FAIL_SRC_RCT src = min ((s.sd n).get R.QTZ_FAIL_SRC_RCT src + 1) (2 ^ 16 - 1)
        ∧ (t.sd n).get R.QTZ_FAIL_COUNT = min ((s.sd n).get R.QTZ_FAIL_COUNT + 1) (2 ^ 32 - 1))
      ∧ (count < (s.sd n).get R.QTZ_TEST_APT_CUTOFF → exec (.aptWindowEnd n src count) s = .next s)
      ∧ ((s.sd n).get R.QTZ_TEST_APT_CUTOFF ≤ count → ∃ t, exec (.aptWindowEnd n src count) s = .next t ∧ OnlyStrand s t n
        ∧ (t.sd n).get R.QTZ_FAIL_SRC_APT src = min ((s.sd n).get R.QTZ_FAIL_SRC_APT src + 1) (2 ^ 16 - 1)
        ∧ (t.sd n).get R.QTZ_FAIL_COUNT = min ((s.sd n).get R.QTZ_FAIL_COUNT + 1) (2 ^ 32 - 1)))
    ∧ (∀ c p, p ≤ 1 →
      ((s.sd n).flag R.QTZ_STATUS_VALID = true → ∃ t w, exec (.qtzDataRead n (.core n c p)) s = .next t ∧ OnlyStrand s t n ∧ t.resp = .word w
        ∧ (t.sd n).get R.QTZ_STATUS_LEVEL = (s.sd n).get R.QTZ_STATUS_LEVEL - 4)
      ∧ ((s.sd n).flag R.QTZ_STATUS_VALID = false → exec (.qtzDataRead n (.core n c p)) s =
          .next { s.up n (fun st => st.put R.QTZ_STATUS_UNDERRUN 1) with resp := .word 0 }))
    ∧ exec (.qtzDataRead n .manager) s = .next { s with resp := .error }
    ∧ (∀ who v, (s.sd n).mode = 5 → v % 2 ^ 16 = 0xC1EA → ∃ t, exec (.qtzFailClrWrite n who v) s = .next t ∧ OnlyStrand s t n
        ∧ (t.sd n).get R.QTZ_FAIL_COUNT = 0 ∧ (t.sd n).flag R.QTZ_STATUS_GATED = false
        ∧ ∀ k, k < 4 → (t.sd n).get R.QTZ_FAIL_SRC_RCT k = 0 ∧ (t.sd n).get R.QTZ_FAIL_SRC_APT k = 0)
    ∧ (∀ who v, (s.sd n).mode ≠ 5 → exec (.qtzFailClrWrite n who v) s = .next (s.up n fun st => st.violation who 0x800028))
    ∧ (∀ j : Job, let k : Job := { j with op := 0x900 }
      let len := bits j.w6 0 13
      (s.sd n).halted = false → j.cop = none → (len = 0 ∨ 4096 < len → exec (.qtzRandom n j) s = .next (s.fail n k 0x41)) ∧ (1 ≤ len → len ≤ 4096 →
      ((s.sd n).mode = 4 → exec (.qtzRandom n j) s = .next (s.fail n k 0x32))
      ∧ ((s.sd n).mode ∈ [0, 1, 6, 7] ∨ (s.sd n).mode ∈ [2, 3, 5] ∧ (s.sd n).flag R.QTZ_CTL_HOST_EN = false →
        exec (.qtzRandom n j) s = .next (s.fail n k 0x30))
      ∧ ((s.sd n).eng.qtzQ = [j] → (s.sd n).mode ≠ 0 → len ≤ min 4096 ((s.sd n).get R.QTZ_STATUS_LEVEL + 32) → j.env.writeOk = true →
        ∃ t out, exec (.entropyBlockConditioned n) s = .next t ∧ (∀ m, m ≠ n → t.sd m = s.sd m) ∧ out.length = len
          ∧ t.mem = Mem.writeBytes s.mem j.seg0.outAddr out ∧ (t.sd n).eng.qtzQ = [] ∧ ∃ d ∈ (t.sd n).done, d.job = j ∧ d.status = 0 ∧ d.resLen = len)
      ∧ ((s.sd n).mode ∈ [2, 3, 5] → (s.sd n).flag R.QTZ_CTL_HOST_EN = true → s.dupHits n 0x900 = false → len ≤ j.seg0.outLen → (s.sd n).eng.qtzQ = [] →
        (len ≤ (s.sd n).get R.QTZ_STATUS_LEVEL → j.env.writeOk = true → ∃ t out, exec (.qtzRandom n j) s = .next t ∧ (∀ m, m ≠ n → t.sd m = s.sd m)
          ∧ out.length = len ∧ t.mem = Mem.writeBytes s.mem j.seg0.outAddr out
          ∧ (t.sd n).get R.QTZ_STATUS_LEVEL = (s.sd n).get R.QTZ_STATUS_LEVEL - len ∧ ∃ d ∈ (t.sd n).done, d.job = k ∧ d.status = 0 ∧ d.resLen = len)
        ∧ ((s.sd n).get R.QTZ_STATUS_LEVEL < len → exec (.qtzRandom n j) s = .next (s.up n fun st =>
            (st.hold k).upEng fun e => { e with qtzQ := [k] })))))

/-! ### Functions -/

/-- R330, R368 to R371, R374, R375, R380, R387, R388: functions are created, given pools, queried, reset and removed; a creation, a reset
and a removal complete when they end, and what waited for its own end before is abandoned. -/
def Obligations.FunctionsCreatedResetAndRemoved : Prop :=
  ∀ (s : State) (n : Fin 4) (j : Job),
    let f := bits j.w6 0 8
    let g := s.fn f
    let Done := fun (t : State) (m : Fin 4) (i : Job) (status reason : Nat) => ∃ d ∈ (t.sd m).done, d.job.id = i.id ∧ d.status = status ∧ d.detail = reason
    let Aside := fun (t : State) => (∀ m, m ≠ n → t.sd m = s.sd m) ∧ t.mem = s.mem
    let Free := fun (k : Nat) => ∀ i ∈ s.jobsOf k, i.gen ≠ nextGen (s.fn k).gen
    let Fresh := fun (t : State) (k : Nat) => (s.fn k).job = none → Free k → (t.fn k).gen = nextGen (s.fn k).gen
    let Waits := fun (i : Instr) (st : FnSt) => ∃ t, exec i s = .next t ∧ Aside t ∧ (t.fn f).st = st ∧ (t.fn f).msix = []
      ∧ (t.fn f).job = some j ∧ (∃ k ∈ (t.sd n).taken, k.id = j.id) ∧ (t.sd n).vault.sweep = some (s.now + 4000000) ∧ Fresh t f
      ∧ t.rflag R.VF_PROG_VALID f = false ∧ ∀ i, g.job = some i → Done t n i 0x30 9
    (Served s n j → j.fn = 0 → 1 ≤ f → f ≤ 248 →
      (let p := Pool.parse j.input
       j.input.length = 32 → allZero j.input 0x11 15 = true →
        (g.st = .absent → g.job = none → s.vfEnabled f = true → s.poolFits n f p = true → ∃ t, exec (.vfCreate n j) s = .next t ∧ Aside t
          ∧ (t.fn f).home = n ∧ (t.fn f).pool = p
          ∧ t.rget R.VF_WEIGHT_W_TOP f = p.wTop ∧ t.rget R.VF_WEIGHT_W_JAD f = p.wJad ∧ t.rget R.VF_WEIGHT_W_BER f = p.wBer
          ∧ (∀ i, i < p.qcount → t.rflag R.HQ_SQ_CFG_MAPPED (n.val * 1024 + p.qbase + i) = false)
          ∧ (Free f → (t.fn f).st = .active ∧ (t.fn f).gen = nextGen g.gen ∧ (t.fn f).job = none ∧ Done t n j 0 0)
          ∧ (¬ Free f → (t.fn f).st = .absent ∧ (t.fn f).gen = g.gen ∧ (t.fn f).advance = true ∧ (t.fn f).job = some j))
        ∧ (g.st ≠ .absent → ∃ t, exec (.vfCreate n j) s = .next t ∧ Aside t ∧ Done t n j 0x30 1 ∧ t.fn f = g)
        ∧ (g.st ≠ .absent → g.home = n → s.poolFits n f p = true → s.mapsOutside g p = false → (s.sd n).post.batches = [] →
          ∃ t, exec (.vfSetPool n j) s = .next t ∧ Aside t ∧ (t.fn f).pool = p ∧ { t.fn f with pool := g.pool, past := g.past } = g ∧ Done t n j 0 0
            ∧ t.poolAt (s.now + 1) f = p))
      ∧ (g.st ≠ .absent → g.home = n →
        (40 ≤ j.seg0.outLen → exec (.vfQuery n j) s = .next (s.succeed n j (g.pool.block ++ toLE 1 (fnCode g.st) ++ toLE 1 g.gen
          ++ toLE 4 ((s.sd n).useOf f).1 ++ toLE 2 ((s.sd n).useOf f).2)))
        ∧ (g.st ≠ .removing → (4 ≤ j.seg0.outLen → Waits (.vfReset n j) .resetting) ∧ Waits (.vfRemove n j) .removing))
      ∧ (g.st ≠ .absent → g.home ≠ n → ∃ t, exec (.vfQuery n j) s = .next t ∧ Aside t ∧ Done t n j 0x30 3))
    ∧ (∀ k, let h := (s.fn k).home
      ((s.fn k).advance = false → (s.sd h).vault.sweep = none →
        let Settled := fun (t : State) => ∀ q ∈ s.ring.sqs, s.sqOwner q.id = k → q.state = .disabling → (t.sq q.id).state = .disabled
        ((s.fn k).st = .resetting → ∃ t, exec (.vfResetDone k) s = .next t ∧ (t.fn k).st = .active ∧ (t.fn k).gen = (s.fn k).gen
          ∧ (∀ m, m ≠ h → t.sd m = s.sd m) ∧ Settled t
          ∧ ((s.fn k).job = none → t.sd h = s.sd h ∧ t.mem = (s.settleQueues k).mem)
          ∧ ∀ i, (s.fn k).job = some i → i.cop = none → i.env.writeOk = true → (t.fn k).job = none ∧ Done t h i 0 0
              ∧ t.mem = Mem.writeBytes (s.settleQueues k).mem i.seg0.outAddr (toLE 4 (s.fn k).gen))
        ∧ ((s.fn k).st = .removing → ∃ t, exec (.vfRemoveDone k) s = .next t ∧ (t.fn k).st = .absent ∧ (t.fn k).pool = {} ∧ (t.fn k).gen = (s.fn k).gen
          ∧ (∀ m, m ≠ h → t.sd m = s.sd m) ∧ Settled t ∧ t.mem = (s.settleQueues k).mem
          ∧ (∀ i, (s.fn k).job = some i → (t.fn k).job = none ∧ Done t h i 0 0)
          ∧ ∀ i, i < (s.fn k).pool.qcount → t.rflag R.HQ_SQ_CFG_MAPPED (h.val * 1024 + (s.fn k).pool.qbase + i) = false))
      ∧ ((s.fn k).advance = true ∨ (s.sd h).vault.sweep.isSome = true → exec (.vfResetDone k) s = .next s ∧ exec (.vfRemoveDone k) s = .next s)
      ∧ ((s.fn k).advance = false → exec (.generationAdvance k) s = .next s)
      ∧ ((s.fn k).advance = true → Free k →
        ((s.fn k).st ≠ .absent ∨ (s.fn k).job = none → exec (.generationAdvance k) s =
          .next (s.setFn { s.fn k with gen := nextGen (s.fn k).gen, advance := false }))
        ∧ (∀ i, (s.fn k).st = .absent → (s.fn k).job = some i → ∃ t, exec (.generationAdvance k) s = .next t ∧ t.mem = s.mem
            ∧ (t.fn k).st = .active ∧ (t.fn k).gen = nextGen (s.fn k).gen ∧ (t.fn k).advance = false ∧ Done t h i 0 0)))
    ∧ (∀ k, k ≠ 0 → (s.fn k).st ≠ .absent → (s.fn k).st ≠ .removing → ∃ t, exec (.functionLevelReset k) s = .next t ∧ t.mem = s.mem
        ∧ (t.fn k).st = .resetting ∧ (t.sd (s.fn k).home).vault.sweep = some (s.now + 4000000) ∧ Fresh t k)
    ∧ (exec .conventionalReset s = exec (.functionLevelReset 0) s ∧ exec .hotReset s = exec (.functionLevelReset 0) s
        ∧ ∃ t, exec (.functionLevelReset 0) s = .next t ∧ t.mem = s.mem ∧ ∀ k, k ≠ 0 → (s.fn k).st ≠ .absent → (s.fn k).st ≠ .removing → (t.fn k).st = .resetting)
    ∧ (∀ on num, ∃ t, exec (.sriovVfDisable on num) s = .next t ∧ t.mem = s.mem ∧ t.ring.sriov = on ∧ t.ring.numVfs = min num 248
        ∧ t.rflag R.VF_STATUS_SRIOV_EN = on ∧ ∀ k, k ≠ 0 → k ≤ 248 → (s.fn k).st ≠ .absent → (s.fn k).st ≠ .removing →
          (t.fn k).st = (if on = true ∧ k ≤ num then (s.fn k).st else .removing))

/-- R378, R379, R382 to R386: a function is frozen, saved as an image, thawed, and restored from one; what an image's keys and
tags give is open, so the statement holds for both answers. -/
def Obligations.FunctionsFrozenSavedAndRestored : Prop :=
  ∀ (s : State) (n : Fin 4) (j : Job),
    let f := bits j.w6 0 8
    let g := s.fn f
    let Done := fun (t : State) (m : Fin 4) (i : Job) (status : Nat) => ∃ d ∈ (t.sd m).done, d.job.id = i.id ∧ d.status = status
    (Served s n j → j.fn = 0 → 1 ≤ f → f ≤ 248 → j.cop = none →
      (g.home = n →
        (g.st = .active → ∃ t, exec (.vfFreeze n j) s = .next t ∧ (∀ m, m ≠ n → t.sd m = s.sd m) ∧ t.mem = s.mem
          ∧ t.fn f = { g with st := .freezing, job := some j } ∧ (t.sd n).done = (s.sd n).done ∧ ∃ k ∈ (t.sd n).taken, k.id = j.id)
        ∧ (g.st = .frozen ∨ g.st = .saved → (s.sd n).mode ∈ [2, 3, 4] → 1 ≤ bits j.w6 8 24 → bits j.w6 8 24 ≤ 86400 → s.imageLen g ≤ j.seg0.outLen →
          ∀ x root, (s.sd n).rootRelease s.now j.env 1 = (x, some root) →
          ∃ t, exec (.vfSave n j) s = .next t ∧ (∀ m, m ≠ n → t.sd m = s.sd m) ∧ t.mem = s.mem ∧ (t.fn f).st = .saving ∧ (t.fn f).job = some j
          ∧ (t.fn f).image.take 8 = ascii "FNIM" ++ toLE 1 1 ++ toLE 1 n.val ++ toLE 1 f ++ zeros 1 ∧ (t.sd n).vault = x.vault
          ∧ t.rflag R.VF_PROG_VALID f = true ∧ t.rget R.VF_PROG_PERCENT f = 0)
        ∧ ((g.st = .frozen ∨ g.st = .saved ∧ bit j.w6 8 = true) → ∃ t, exec (.vfThaw n j) s = .next t ∧ (∀ m, m ≠ n → t.sd m = s.sd m) ∧ t.mem = s.mem
          ∧ t.fn f = { g with st := .active } ∧ Done t n j 0 ∧ ∀ q ∈ s.ring.sqs, s.sqOwner q.id = f → q.thaw = true →
              s.ring.sqs.filter (fun k => k.id == q.id) = [q] → (t.sq q.id).thaw = false
                ∧ (s.sqConfigOk q.id = true → (t.sq q.id).state = .enabled ∧ (t.sq q.id).head = q.head ∧ (t.sq q.id).next = q.head)
                ∧ ((t.sq q.id).state = .enabled ∨ (t.sq q.id).state = q.state ∧ t.rflag R.HQ_ERR_VALID = true))
        ∧ (g.st = .saved → bit j.w6 8 = false → ∃ t, exec (.vfThaw n j) s = .next t ∧ (∀ m, m ≠ n → t.sd m = s.sd m) ∧ t.fn f = g ∧ Done t n j 0x30))
      ∧ (g.st = .absent → g.job = none → (s.sd n).mode ∈ [2, 3] → 8 * (le j.input 0x44 4 + le j.input 0x48 4) ≤ j.seg0.outLen → s.vfEnabled f = true →
        ∀ x root, (s.sd n).rootRelease s.now j.env 1 = (x, some root) →
        let Gone := fun (status : Nat) => ∃ t, exec (.vfRestore n j) s = .next t ∧ (∀ m, m ≠ n → t.sd m = s.sd m) ∧ (t.fn f).st = .absent
          ∧ (t.fn f).job = none ∧ Done t n j status
        match (s.setSd n x).judgeHeader n j.input root with
        | .inl _ => (∃ t, exec (.vfRestore n j) s = .next t ∧ t.fn f = g) ∧ Gone 0x24
        | .inr key => match State.judgeSegments j.input key with
          | none => Gone 0x24
          | some _ => ∀ p, p = { Pool.parse (sub j.input 0x50 32) with qbase := bits j.w7 0 10 } →
            let ns := le j.input 0x42 2
            (s.poolFits n f p = false → Gone 0x30)
            ∧ (s.poolFits n f p = true → le j.input 0x44 4 = 0 →
              (x.writer = false → x.flag R.MIR_STATUS_PAIRED = false → Gone 0x50)
              ∧ (x.writer = true ∨ x.flag R.MIR_STATUS_PAIRED = true →
                ∃ t, exec (.vfRestore n j) s = .next t ∧ (∀ m, m ≠ n → t.sd m = s.sd m) ∧ t.mem = s.mem ∧ (t.fn f).st = .restoring ∧ (t.fn f).home = n
                  ∧ (t.fn f).pool = p ∧ (t.fn f).job = some j ∧ (t.fn f).image = sub j.input 8 16
                  ∧ (t.fn f).awaitMarks = (if x.flag R.MIR_STATUS_PAIRED = true then ns else 0)))))
    ∧ (∀ k i, (s.fn k).job = some i →
      ((s.fn k).st = .freezing → s.jobsOf k = [] → exec (.vfFreezeDone k) s =
          .next ((s.setFn { s.fn k with st := .frozen, job := none }).succeed (s.fn k).home i []))
      ∧ ((s.fn k).st = .saving → i.cop = none →
        (i.env.writeOk = true → ∃ t, exec (.vfSaveDone k true) s = .next t ∧ (t.fn k).st = .saved ∧ (t.fn k).imageOk = true
            ∧ t.mem = Mem.writeBytes s.mem i.seg0.outAddr (s.fn k).image ∧ t.rget R.VF_PROG_PERCENT k = 100 ∧ Done t (s.fn k).home i 0)
        ∧ ∃ t, exec (.vfSaveDone k false) s = .next t ∧ (t.fn k).st = .frozen ∧ t.mem = s.mem ∧ t.rflag R.VF_PROG_VALID k = false
            ∧ Done t (s.fn k).home i 0x40)
      ∧ ((s.fn k).st = .restoring → (s.fn k).awaitMarks = 0 → (s.fn k).advance = false → i.cop = none → i.env.writeOk = true →
        ∃ t, exec (.vfRestoreDone k) s = .next t
        ∧ (t.fn k).st = .frozen ∧ t.mem = Mem.writeBytes s.mem i.seg0.outAddr (s.fn k).map ∧ Done t (s.fn k).home i 0
        ∧ (t.sd (s.fn k).home).nv.restored.head? = some (s.fn k).image)
      ∧ ((s.fn k).st = .restoring → 0 < (s.fn k).awaitMarks ∨ (s.fn k).advance = true → exec (.vfRestoreDone k) s = .next s))

/-! ### Station links, the record port and Spinel -/

/-- R451, R461, R462, R465, R468, R469, R487, R496, R497: a SEALED link's handshake, session, polls and closing; a link is switched. -/
def Obligations.StationSessions : Prop :=
  ∀ (s : State) (n : Fin 4) (k : Nat), k < 64 →
    let l := (s.sd n).lk k
    let Goes := fun (c : Instr) (P : State → Link → Prop) => ∃ t, exec c s = .next t ∧ (∀ m, m ≠ n → t.sd m = s.sd m) ∧ t.mem = s.mem ∧ t.ring = s.ring
      ∧ P t ((t.sd n).lk k)
    let Hello := fun (t : State) (x : Link) => if ((s.sd n).binding k).isSome = true then x.st = .handshake ∧ x.finishSent = false ∧ x.hsAt = t.now
        ∧ x.hello.length = 100 ∧ x.hello.take 4 = toLE 1 1 ++ toLE 1 (s.sd n).id.val ++ toLE 2 ((s.sd n).linkNo k)
        ∧ (t.sd n).sent = (s.sd n).sent ++ [⟨.station k, 1, x.hello, Strand.slFrame (Strand.slHeader 1 2 100 0 ++ x.hello)⟩]
      else x.st = .failed ∧ (t.sd n).get R.SL_LINK_STAT_HS_CAUSE k = 5
    (∀ v, bit v 0 = true → (s.sd n).flag R.SL_LINK_CTL_ENABLE k = false → Goes (.slLinkEnableWrite n k v) fun t x =>
      x.st = .off ∧ (t.sd n).flag R.SL_LINK_CTL_ENABLE k = true)
    ∧ (∀ v, bit v 0 = false → Goes (.slLinkEnableWrite n k v) fun t x =>
      x.st = .off ∧ (t.sd n).flag R.SL_LINK_CTL_ENABLE k = false ∧ x.sends = [] ∧ x.receives = [] ∧ x.d2s = none ∧ x.s2d = none ∧ x.poll = none)
    ∧ (l.st = .live → (Goes (.slLinkCloseWrite n k) fun t x => x.st = .backoff ∧ x.sends = [] ∧ x.receives = [] ∧ x.d2s = none
        ∧ ∀ j ∈ l.sends ++ l.receives, ∃ d ∈ (t.sd n).done, d.job.id = j.id ∧ d.status = 0x63 ∧ d.resLen = 0)
      ∧ ∀ j, Served s n j → j.fn = 0 → bits j.w6 0 6 = k → Goes (.slClose n j) fun t x => x.st = .backoff ∧ ∃ d ∈ (t.sd n).done, d.job = j ∧ d.status = 0)
    ∧ ((s.sd n).linkMode k = 1 ∧ l.st ≠ .failed ∨ (s.sd n).linkMode k = 2 ∧ (l.st = .live ∨ l.st = .backoff) →
      Goes (.slTransceiverFault n k) fun t x => x.st = .failed ∧ x.sends = [] ∧ x.receives = []
        ∧ (∀ j ∈ l.sends ++ l.receives, ∃ d ∈ (t.sd n).done, d.job.id = j.id ∧ d.status = 0x63)
        ∧ (t.sd n).flag R.SL_ERR_VALID = true ∧ ((s.sd n).flag R.SL_ERR_VALID = false → (t.sd n).get R.SL_ERR_CODE = 3 ∧ (t.sd n).get R.SL_ERR_INFO = k))
    ∧ ((s.sd n).linkMode k = 2 →
      (l.st = .off → Goes (.linkHandshakeStart n k) fun t x => t.now = s.now ∧ Hello t x)
      ∧ (l.st = .backoff → Goes (.slBackoffElapsed n k) fun t x => t.now = max s.now l.backAt ∧ x.b = l.bNext ∧ Hello t x)
      ∧ (l.st = .handshake →
        (Goes (.slHandshakeTimeout n k) fun t x => t.now = max s.now (l.hsAt + 50000000) ∧ x.st = .backoff
          ∧ (t.sd n).get R.SL_LINK_STAT_HS_CAUSE k = (if l.bad = true then 2 else 1) ∧ x.backAt = l.hsAt + 50000000 + l.b)
        ∧ (l.finishSent = false → l.hsAt + 50000000 < s.now → ∀ p crc env, Goes (.slCertFrame n k crc p env) fun t x => x.st = .backoff
            ∧ (t.sd n).get R.SL_LINK_STAT_HS_CAUSE k = (if l.bad = true then 2 else 1))
        ∧ (l.finishSent = false → s.now ≤ l.hsAt + 50000000 → ∀ p env,
          (Goes (.slCertFrame n k false p env) fun t x => x = { l with bad := true } ∧ (t.sd n).sent = (s.sd n).sent)
          ∧ (p.length = 304 → ((s.sd n).certRefusal s.now k p ≠ 0 → Goes (.slCertFrame n k true p env) fun t x =>
                x.st = .backoff ∧ (t.sd n).get R.SL_LINK_STAT_HS_CAUSE k = (s.sd n).certRefusal s.now k p)
            ∧ ∀ y c, (s.sd n).release s.now env 0xFF 0 ((s.sd n).get R.SL_IDENT_CTX_CTX) (2 ^ 4) 1 true = (y, .inr c) → c.attr.alg = 0x20 → env.endOk = true →
              (s.sd n).certRefusal s.now k p = 0 → Goes (.slCertFrame n k true p env) fun t x =>
                x.st = .handshake ∧ x.finishSent = true ∧ x.stationId = le p 8 8 ∧ x.notAfter = le p 0x18 8 ∧ x.hsAt = s.now
                ∨ x.st = .backoff ∧ (t.sd n).get R.SL_LINK_STAT_HS_CAUSE k = 7)))
      ∧ (l.st = .live →
        (∀ key, l.polled = none → l.txCtr < 2 ^ 48 - 1 → (s.sd n).sessionKey l.poll 6 = some key →
          let h := Strand.slHeader 0x30 0 0 (l.txCtr + 1)
          Goes (.slPollDue n k) fun t x => t.now = max s.now l.nextPoll ∧ x.txCtr = l.txCtr + 1
          ∧ x.polled = some (t.now + 10000 * (s.sd n).get R.SL_LINK_TIME_REPLY_WAIT k)
          ∧ (t.sd n).sent = (s.sd n).sent ++
              [⟨.station k, 0x30, toLE 6 (l.txCtr + 1), Strand.slFrame (h ++ sub (bvBytes (Config.aesCmac key h)) 0 8)⟩])
        ∧ (∀ t0, l.polled = some t0 →
          (l.misses + 1 < (s.sd n).get R.SL_LINK_TIME_MISS_LIMIT k → Goes (.slPollMiss n k) fun t x => t.now = max s.now t0
            ∧ x = { l with polled := none, misses := l.misses + 1 })
          ∧ ((s.sd n).get R.SL_LINK_TIME_MISS_LIMIT k ≤ l.misses + 1 → Goes (.slPollMiss n k) fun t x => t.now = max s.now t0 ∧ x.st = .backoff))
        ∧ (l.txCtr < 2 ^ 48 - 65536 → l.rxCtr < 2 ^ 48 - 65536 → Goes (.slSessionLifeExpired n k) fun t x => x.st = .backoff
          ∧ t.now = max s.now (l.liveAt + 60000000000 * (s.sd n).get R.SL_CTL_SESSION_LIFE))
        ∧ (2 ^ 48 - 65536 ≤ l.txCtr ∨ 2 ^ 48 - 65536 ≤ l.rxCtr → Goes (.slSessionLifeExpired n k) fun t x => x.st = .backoff ∧ t.now = s.now)))

/-- R106, R458, R464, R466 to R472, R486, R487: protected frames that pass the checks do their work, those that fail are only counted,
and those whose tag fails set DISTRUST. What a tag check gives is open. -/
def Obligations.StationFrames : Prop :=
  ∀ (s : State) (n : Fin 4) (k : Nat) (f : SFrame) (env : JobEnv) (c : Ctx), (s.sd n).linkMode k = 2 →
    let l := (s.sd n).lk k
    let fine := f.crcOk = true ∧ f.flags ≤ 1 ∧ l.rxCtr < f.ctr
    let Frame := fun (i : Instr) (ty : Nat) (P : Bytes → State → Prop) => l.s2d.bind (s.sd n).slot = some c →
      (f.crcOk = false ∨ 1 < f.flags ∨ 1024 < f.cipher.length ∨ f.ctr ≤ l.rxCtr → exec i s = .next (s.up n fun st => st.bump R.SL_LINK_RX_BAD k))
      ∧ (fine → f.cipher.length ≤ 1024 → f.engineOk = false → exec i s = .next (s.up n fun st => st.slErr 1 k))
      ∧ (fine → f.cipher.length ≤ 1024 → f.engineOk = true → bit c.attr.dest 0 = false → exec i s = .next (s.up n fun st => st.slErr 2 k))
      ∧ (fine → f.cipher.length ≤ 1024 → f.engineOk = true → bit c.attr.dest 0 = true → ∃ t, exec i s = .next t ∧ (∀ m, m ≠ n → t.sd m = s.sd m) ∧ t.now = s.now ∧
        match gcmOpen c.key ((s.sd n).slIv k 1 f.ctr) (Strand.slHeader ty f.flags f.cipher.length f.ctr) f.cipher f.auth with
        | some p => ((t.sd n).lk k).misses = 0 ∧ ((t.sd n).lk k).rxCtr = f.ctr ∧ P p t
        | none => (t.sd n).flag R.SL_LINK_STAT_DISTRUST k = true ∧ ((t.sd n).lk k).st = .backoff)
    (l.st = .handshake → l.finishSent = true → s.now ≤ l.hsAt + 50000000 → Frame (.slReadyFrame n k f) 0x10 fun _ t => ((t.sd n).lk k).st = .live ∧ ((t.sd n).lk k).liveAt = s.now
        ∧ (t.sd n).get R.SL_HS_COUNT = min ((s.sd n).get R.SL_HS_COUNT + 1) (2 ^ 32 - 1))
    ∧ (l.st = .live →
      (Frame (.slApprovalFrame n k f env) 0x20 fun p t =>
        let st := s.sd n
        (st.flag R.PST_RELAY_CQ_VALID = false ∨ approvalOk p = false → (t.sd n).post.approvals = st.post.approvals)
        ∧ (st.post.approvals.length ≥ 16384 ∨ (∃ a ∈ st.post.approvals, a.removed = false ∧ a.ref = sub p 0 16) → (t.sd n).post.approvals = st.post.approvals)
        ∧ (∀ x pin, st.flag R.PST_RELAY_CQ_VALID = true → approvalOk p = true → st.post.approvals.length < 16384 →
            (∀ a ∈ st.post.approvals, a.removed = false → a.ref ≠ sub p 0 16) → approvalPin (((st.upLk k fun l => { l with rxCtr := f.ctr, polled := none, misses := 0 }).bump
              R.SL_LINK_RX_OK k).put R.SL_LINK_STAT_MISSES 0 k) s.now k p env = (x, .inr pin) → ∃ a ∈ (t.sd n).post.approvals, a.ref = sub p 0 16
              ∧ a.station = st.linkNo k ∧ a.live = false ∧ a.uses = le p 0x14 1 ∧ a.ccy = sub p 0x10 3
              ∧ a.expiry = st.deviceTime s.now + 1000000 * min (le p 0x16 2) (st.get R.PST_CFG_APPROVAL_LIFE)))
      ∧ (Frame (.slRecordFrame n k f) 0x21 fun p t => (t.sd n).fab.raw.length = (s.sd n).fab.raw.length
          + (if (s.sd n).relayFull = true then 0 else if p.length < 8 ∨ le p 4 2 = 0 ∨ 255 < le p 4 2 then 1 else le p 4 2))
      ∧ (Frame (.slHostDataFrame n k f) 0x23 fun p t => (l.receives = [] → ((t.sd n).lk k).plain = l.plain ++ [p])
          ∧ ∀ j, l.receives = [j] → l.sends = [] → j.env.writeOk = true → j.cop = none → p.length ≤ j.seg0.outLen → ((t.sd n).lk k).receives = []
            ∧ t.mem = Mem.writeBytes s.mem j.seg0.outAddr p ∧ ∃ d ∈ (t.sd n).done, d.job = j ∧ d.status = 0 ∧ d.resLen = p.length)
      ∧ (Frame (.slCloseFrame n k f) 0x3F fun _ t => ((t.sd n).lk k).st = .backoff)
      ∧ (∀ x, l.poll.bind (s.sd n).slot = some x → fine → f.cipher = [] → l.txCtr + l.notices.length + l.sends.length < 2 ^ 48 →
          ∃ t, exec (.slEmptyFrame n k f) s = .next t ∧ (∀ m, m ≠ n → t.sd m = s.sd m) ∧
          if sub (bvBytes (Config.aesCmac x.key (Strand.slHeader 0x31 f.flags 0 f.ctr))) 0 8 = f.auth
          then ((t.sd n).lk k).rxCtr = f.ctr ∧ ((t.sd n).lk k).sends = [] ∧ ((t.sd n).lk k).notices = [] ∧ ((t.sd n).lk k).st = .live
          else t = s.up n fun st => st.bump R.SL_LINK_RX_BAD k))

/-- R453, R454, R476, R477, R479, R484 to R487: PLAIN records and the link opcodes; the record port's transfers reach the Opal queue;
Spinel converts records, closes batches and presents them. -/
def Obligations.PlainRecordsPortAndSpinel : Prop :=
  ∀ (s : State) (n : Fin 4) (k : Nat),
    let st := s.sd n
    let l := st.lk k
    let Goes := fun (c : Instr) (P : State → Strand → Prop) => ∃ t, exec c s = .next t ∧ (∀ m, m ≠ n → t.sd m = s.sd m) ∧ P t (t.sd n)
    (st.linkMode k = 1 → l.st ≠ .failed →
      exec (.plainLineError n k) s = .next (s.up n fun st => st.bump R.SL_LINK_RX_BAD k)
      ∧ ∀ chars r, plainRecord st k chars = some r →
        (st.get R.SL_LINK_CFG_FORMAT k = 0 → l.receives = [] → Goes (.plainRecordReceived n k chars) fun _ x => (x.lk k).plain = l.plain ++ [r])
        ∧ (st.get R.SL_LINK_CFG_FORMAT k ≠ 0 → st.relayFull = false → Goes (.plainRecordReceived n k chars) fun _ x => x.fab.raw = st.fab.raw ++
            [{ link := some k, fmt := st.get R.SL_LINK_CFG_FORMAT k, batchNo := 0, data := r, fault := 0, last := false }]))
    ∧ (∀ j, Served s n j → j.fn = 0 → bits j.w6 0 6 = k →
      (st.linkMode k = 0 → exec (.slSend n j) s = .next (s.fail n j 0x64))
      ∧ (st.linkMode k = 1 → l.st = .failed → exec (.slSend n j) s = .next (s.fail n j 0x63))
      ∧ (st.linkMode k = 1 → l.st ≠ .failed → 1 ≤ j.input.length → j.input.length ≤ 4095 → Goes (.slSend n j) fun _ x =>
          x.sent = st.sent ++ [⟨.station k, 0, j.input, []⟩] ∧ ∃ d ∈ x.done, d.job = j ∧ d.status = 0)
      ∧ (st.linkMode k = 2 → l.st = .live → 1 ≤ j.input.length → j.input.length ≤ 1024 → Goes (.slSend n j) fun _ x => (x.lk k).sends = l.sends ++ [j])
      ∧ (st.linkMode k = 2 → l.st ≠ .live → exec (.slSend n j) s = .next (s.fail n j 0x63))
      ∧ (∀ p rest, st.linkMode k = 1 → l.st ≠ .failed → l.plain = p :: rest → 1024 ≤ j.seg0.outLen → p.length ≤ j.seg0.outLen → j.env.writeOk = true → j.cop = none →
          Goes (.slReceive n j) fun t x => (x.lk k).plain = rest ∧ t.mem = Mem.writeBytes s.mem j.seg0.outAddr p
            ∧ ∃ d ∈ x.done, d.job = j ∧ d.status = 0 ∧ d.resLen = p.length)
      ∧ (st.linkMode k = 1 → l.st ≠ .failed → l.plain = [] → 1024 ≤ j.seg0.outLen → Goes (.slReceive n j) fun _ x => (x.lk k).receives = l.receives ++ [j] ∧ x.done = st.done)
      ∧ (32 ≤ j.seg0.outLen → exec (.slQuery n j) s = .next (s.succeed n j (toLE 1 (st.linkState k) ++ toLE 1 (st.get R.SL_LINK_STAT_HS_CAUSE k)
          ++ zeros 6 ++ toLE 8 l.stationId ++ toLE 8 l.notAfter ++ toLE 6 l.txCtr ++ zeros 2))))
    ∧ (∀ d sor perr, st.halted = false → st.mode ∈ [2, 3, 4, 5] → st.flag R.RP_CTL_ENABLE = true → st.get R.RP_CFG_FORMAT ≠ 0 → d < 65536 →
      (st.fab.lowHalf = none → Goes (.recordPortTransfer n d sor perr) fun _ x =>
        x.fab.lowHalf = some { data := d, sor := sor, half := false, perr := perr, gap := false } ∧ x.fab.queue = st.fab.queue ∧ x.fab.lastStb = s.now)
      ∧ (∀ y, st.fab.lowHalf = some y →
        (sor = false → st.fab.queue.length < 8191 → Goes (.recordPortTransfer n d sor perr) fun _ x => x.fab.lowHalf = none
          ∧ x.fab.queue = st.fab.queue ++ [{ y with data := y.data + d * 65536, perr := y.perr || perr }] ∧ x.get R.OPL_LEVEL = st.fab.queue.length + 1)
        ∧ (sor = true → st.fab.queue.length < 8191 → Goes (.recordPortTransfer n d sor perr) fun _ x => x.fab.queue = st.fab.queue ++ [{ y with half := true }]
          ∧ x.fab.lowHalf = some { data := d, sor := true, half := false, perr := perr, gap := false })
        ∧ (sor = false → y.half = false → st.fab.queue.length = 8191 → Goes (.recordPortTransfer n d sor perr) fun _ x => x.fab.queue =
            st.fab.queue ++ [{ data := 2, sor := false, half := false, perr := false, gap := true }])))
    ∧ (∀ y, st.halted = false → st.fab.recOpen = true → st.fab.lowHalf = some y → st.fab.queue.length < 8191 → y.gap = false → Goes (.eorIdleExpired n) fun t x =>
        x.fab.queue = st.fab.queue ++ [{ y with half := true, eor := true }] ∧ x.fab.lowHalf = none ∧ x.fab.recOpen = false
        ∧ t.now = max s.now (st.fab.lastStb + 100 * st.get R.RP_CFG_EOR_IDLE))
    ∧ (st.linkRuns = true → (∀ g ∈ st.fab.forming, g.closing = false) →
      (∀ r rest len ce ue lrf, st.fab.raw = r :: rest → Goes (.spinelRecordConvert n false len ce ue lrf false) fun _ x => x.fab.raw = rest
        ∧ ∃ g, x.formingOf r.link r.batchNo = some g ∧ g.count = ((st.formingOf r.link r.batchNo).map (·.count)).getD 0 + 1 ∧ g.lastAt = s.now)
      ∧ (∀ y len ce lrf, st.fab.queue = [y] → y.sor = true → y.eor = true → y.gap = false → Goes (.spinelRecordConvert n true len ce 0 lrf false) fun _ x =>
        x.fab.queue = [] ∧ ∃ g, x.formingOf none 0 = some g ∧ g.count = ((st.formingOf none 0).map (·.count)).getD 0 + 1
          ∧ (y.perr = true → st.formingOf none 0 = none → g.cause = some (0, 0x61) ∧ g.recs = [])))
    ∧ (∀ g, st.fab.forming = [g] → st.linkRuns = true → st.relayFull = false → st.flag R.PST_RELAY_CQ_VALID = true →
      let Closed := fun (x : Strand) (t0 : Nat) => x.fab.forming = [] ∧ ∃ r, x.post.waits = st.post.waits ++ [.relay r] ∧ r.recs = g.recs ∧ r.cause = g.cause
        ∧ r.source = (if g.link.isNone then 1 else 2) ∧ r.closedAt = t0 ∧ r.header.length = 64 ∧ sub r.header 0 4 = ascii "LBAT" ∧ Hdr.count r.header = g.count % 65536
      (g.closing = true → Goes (.spinelBatchClose n) fun _ x => Closed x s.now)
      ∧ (∀ m, st.fmtOf g.fmt = some m → bit m.close 1 = true → 0 < g.count → Goes (.batchIdleExpired n g.link g.batchNo) fun t x =>
          t.now = max s.now (g.lastAt + 100000 * m.idle) ∧ Closed x t.now))
    ∧ (∀ r b, st.post.waits = [.relay r] → st.post.buffers = [b] → st.halted = false → (st.mode = 2 ∨ st.mode = 3) → r.cause.isSome = true →
        Goes (.relayBatchPresent n) fun _ x => x.post.waits = [] ∧ x.post.buffers = [] ∧ ∃ j, x.post.waiting = st.post.waiting ++ [(j, some r)]
          ∧ j.input = r.header ++ r.recs.flatten ∧ j.id = b.id)

/-! ### The card slots -/

/-- R504 to R509, R512 to R514, R522: the journal card comes, is initialised, paired, read and ejected, and goes. What XTS under the
card's keys gives is open. -/
def Obligations.JournalCardSlot : Prop :=
  ∀ (s : State) (n : Fin 4) (j : Job),
    let st := s.sd n
    let Goes := fun (c : Instr) (P : State → Strand → Prop) => ∃ t, exec c s = .next t ∧ (∀ m, m ≠ n → t.sd m = s.sd m) ∧ t.ring = s.ring ∧ P t (t.sd n)
    let Ends := fun (x : Strand) (status : Nat) => ∃ d ∈ x.done, d.job.id = j.id ∧ d.status = status
    (st.mode ≠ 0 → st.jc.inserted = false → exec (.jcCardInsert n) s =
      .next (s.up n fun x => x.upJc fun c => { c with inserted := true, debounceAt := some (s.now + 100000000) }))
    ∧ (∀ t0, st.jc.debounceAt = some t0 → st.jc.inserted = true → jcWorks st = true → Goes (.jcDebounceDone n) fun t x =>
        t.now = max s.now t0 ∧ x.jc = { st.jc with debounceAt := none, awaitInit := true } ∧ x.sent = st.sent ++ [⟨.journalCard, 0, [], []⟩])
    ∧ (jcWorks st = true → st.jc.awaitInit = true → ∀ v18 speed id no sectors wcount macOk again,
      (∀ code ident, 1 ≤ code → code < 8 → Goes (.jcInitComplete n code v18 false speed true ident sectors wcount macOk again) fun _ x =>
        x.jc = { st.jc with awaitInit := false } ∧ x.flag R.JC_ERR_VALID = true ∧ x.get R.JC_STATUS_SPEED = st.get R.JC_STATUS_SPEED
        ∧ (st.flag R.JC_ERR_VALID = false → x.get R.JC_ERR_CODE = code))
      ∧ (Goes (.jcInitComplete n 0 v18 false speed true none sectors wcount macOk again) fun _ x => x.flag R.JC_STATUS_PRESENT = true
        ∧ x.flag R.JC_STATUS_JARTEX = false ∧ x.jc.sectors = sectors ∧ x.jc.awaitInit = false ∧ x.flag R.JC_STATUS_V18 = v18
        ∧ x.get R.JC_STATUS_SPEED = min (min speed (min 4 (st.get R.JC_CTL_SPEED_MAX))) (if v18 = true then 4 else 1))
      ∧ (st.nv.pair = some (fit 16 id, no) → wcount < 2 ^ 32 → (State.cardMac st).isSome = true →
        (∀ w e, st.jc.anchorUnc = some (w, e) → w < wcount) →
        (Goes (.jcInitComplete n 0 v18 false speed true (some (id, no)) sectors wcount true again) fun _ x =>
          x.flag R.JC_STATUS_PRESENT = true ∧ x.flag R.JC_STATUS_JARTEX = true ∧ x.flag R.JC_STATUS_PAIRED = true
          ∧ x.flag R.JC_STATUS_ANCHORING = true ∧ State.cardRuns x = (st.mode != 1) ∧ x.get R.JC_WCOUNT = wcount
          ∧ x.jc.ringLen = (sectors - 2048) / 2048 * 2048)
        ∧ Goes (.jcInitComplete n 0 v18 false speed true (some (id, no)) sectors wcount false again) fun _ x =>
          x.flag R.JC_STATUS_PRESENT = true ∧ x.flag R.JC_STATUS_PAIRED = false ∧ x.flag R.JC_ERR_VALID = true)
      ∧ (st.nv.pair = none ∨ State.cardMac st = none → Goes (.jcInitComplete n 0 v18 false speed true (some (id, no)) sectors wcount macOk again) fun _ x =>
        x.flag R.JC_STATUS_PRESENT = true ∧ x.flag R.JC_STATUS_JARTEX = true ∧ x.flag R.JC_STATUS_PAIRED = false ∧ State.cardRuns x = false))
    ∧ (st.mode ≠ 0 → ∀ phase anchor started, Goes (.jcCardRemove n phase anchor started) fun _ x => x.flag R.JC_STATUS_PRESENT = false
        ∧ x.flag R.JC_STATUS_PAIRED = false ∧ State.cardRuns x = false ∧ x.jc.inserted = false
        ∧ (State.cardRuns st = true → phase = 3 → anchor = false → st.headRun ≠ [] → (∀ e ∈ st.headRun, e.no ∈ x.jc.missed)
          ∧ (st.jc.extents.length < 16 → ∃ e ∈ x.jc.extents, e.count = st.headRun.length)))
    ∧ (st.flag R.JC_STATUS_PRESENT = true → jcWorks st = true → (Goes (.jcBusyTimeout n) fun _ x => x.flag R.JC_STATUS_PRESENT = false
        ∧ x.jc.awaitInit = true ∧ x.flag R.JC_ERR_VALID = true)
      ∧ (3 ≤ st.get R.JC_STATUS_SPEED → ∀ ok, Goes (.jcRetuneDue n false ok) fun t x => t.now = max s.now st.jc.retuneAt
        ∧ x.jc.retuneAt = t.now + 60000000000 * st.get R.JC_CTL_RETUNE ∧ x.sent = st.sent ++ [⟨.journalCard, 19, [], []⟩]
        ∧ x.get R.JC_STATUS_SPEED = (if ok = true then st.get R.JC_STATUS_SPEED else 2))
      ∧ (3 ≤ st.get R.JC_STATUS_SPEED → Goes (.jcRetuneDue n true true) fun t x => t.now = s.now ∧ x.flag R.JC_ERR_VALID = true
        ∧ x.get R.JC_CRC_ERR = min (st.get R.JC_CRC_ERR + 3) (2 ^ 32 - 1)))
    ∧ (Served s n j → j.fn = 0 → ∀ wcount, wcount < 2 ^ 32 →
      (st.flag R.JC_STATUS_PRESENT = false → exec (.jcCounter n j wcount true) s = .next (s.fail n j 0x66)
        ∧ exec (.jcEject n j 0 wcount true) s = .next (s.fail n j 0x66) ∧ exec (.jcHeads n j [] [] true) s = .next (s.fail n j 0x66))
      ∧ (st.mode ≠ 5 ∨ st.cc.pairPermit = false → exec (.jcPair n j 0 wcount) s = .next (s.fail n j 0x30))
      ∧ (st.flag R.JC_STATUS_PRESENT = true → j.cop = none → j.env.writeOk = true →
        (∀ y k, st.mode = 5 → st.cc.pairPermit = true → st.flag R.JC_STATUS_JARTEX = true → 18 ≤ j.seg0.outLen →
          Strand.deriveCardKeys { st with cc := { st.cc with pairPermit := false } } s.now j.env (fit 16 st.jc.cardId) ((st.nv.pairNo + 1) % 65536)
            = (y, .inr k) →
          (Goes (.jcPair n j 0 wcount) fun t x => x.nv.pair = some (fit 16 st.jc.cardId, (st.nv.pairNo + 1) % 65536) ∧ x.cc.pairPermit = false
            ∧ x.flag R.JC_STATUS_PAIRED = true ∧ x.flag R.JC_STATUS_ANCHORING = true ∧ x.get R.JC_WCOUNT = wcount ∧ x.jc.extents = [] ∧ Ends x 0
            ∧ x.jnl.headNo = 0 ∧ x.nv.distrust = false
            ∧ t.mem = Mem.writeBytes s.mem j.seg0.outAddr (fit 16 st.jc.cardId ++ toLE 2 ((st.nv.pairNo + 1) % 65536)))
          ∧ ∀ r, r ≠ 0 → Goes (.jcPair n j r wcount) fun t x => x.nv.pair = y.nv.pair ∧ x.cc.pairPermit = y.cc.pairPermit ∧ Ends x 0x69 ∧ t.mem = s.mem
              ∧ x.flag R.JC_ERR_VALID = true)
        ∧ (st.flag R.JC_STATUS_PAIRED = true → 8 ≤ j.seg0.outLen → (Goes (.jcCounter n j wcount true) fun t x => x.get R.JC_WCOUNT = wcount ∧ Ends x 0
            ∧ t.mem = Mem.writeBytes s.mem j.seg0.outAddr (toLE 4 wcount ++ toLE 4 (0xFFFFFFFF - wcount)))
          ∧ Goes (.jcCounter n j wcount false) fun _ x => x.get R.JC_WCOUNT = st.get R.JC_WCOUNT ∧ x.flag R.JC_ERR_VALID = true ∧ Ends x 0x69)
        ∧ (State.cardRuns st = true → st.jnl.headNo ≠ 0 → Goes (.jcEject n j 0 wcount true) fun _ x => x.flag R.JC_STATUS_PRESENT = false
            ∧ x.jnl.anchorNo = st.jnl.headNo ∧ x.get R.JC_WCOUNT = wcount ∧ Ends x 0)
        ∧ (State.cardRuns st = false ∨ st.jnl.headNo = 0 → ∀ r m, Goes (.jcEject n j r wcount m) fun _ x => x.flag R.JC_STATUS_PRESENT = false
            ∧ x.jnl = st.jnl ∧ Ends x 0)
        ∧ (∀ a b y z sectors anchor macOk, st.flag R.JC_STATUS_PAIRED = true → 1 ≤ j.w6 → j.w6 ≤ j.w7 → State.cardKeys st = some (a, b) →
          st.jc.kX1.bind st.slot = some y → st.jc.kX2.bind st.slot = some z → y.poisoned = false → z.poisoned = false → st.nv.distrust = false →
          512 * (j.w7 + 1 - j.w6) ≤ j.seg0.outLen →
          let plain := (List.range sectors.length).map fun i => xtsCrypt false a b 512 (State.headSector st (j.w6 + i)) 1 (fit 512 (sectors.getD i []))
          Goes (.jcHeads n j sectors anchor macOk) fun t x => t.mem = Mem.writeBytes s.mem j.seg0.outAddr (plain.take (j.w7 + 1 - j.w6)).flatten
            ∧ if macOk = true ∧ headsChain j.w6 none (le anchor 16 8) (sub anchor 40 32) (plain.map fun p => { head := p, body := none }) = true
                ∧ j.w7 + 1 - j.w6 ≤ plain.length ∧ j.w6 ≤ le anchor 16 8 + 1 ∧ le anchor 16 8 < j.w6 + plain.length
              then Ends x 0 ∧ x.vault = st.vault ∧ x.nv.distrust = false
              else Ends x 1 ∧ x.flag R.JC_STATUS_DISTRUST = true ∧ x.nv.distrust = true)
        ∧ (∀ sectors anchor macOk, st.flag R.JC_STATUS_PAIRED = true → 1 ≤ j.w6 → j.w6 ≤ j.w7 → st.nv.distrust = true →
            exec (.jcHeads n j sectors anchor macOk) s = .next (s.fail n j 0x21))))

/-- R56, R515, R516, R518 to R522: an order is opened, the custodian card's session runs step by step, an approval is recorded, the
order takes effect at its quorum, or lapses. Whether a certificate or a signature verifies is open. -/
def Obligations.CustodianCardSlotAndOrders : Prop :=
  ∀ (s : State) (n : Fin 4) (j : Job),
    let st := s.sd n
    let Goes := fun (c : Instr) (P : State → Strand → Prop) => ∃ t, exec c s = .next t ∧ (∀ m, m ≠ n → t.sd m = s.sd m) ∧ P t (t.sd n)
    let Ends := fun (x : Strand) (status : Nat) => ∃ d ∈ x.done, d.job.id = j.id ∧ d.status = status
    (st.halted = false → st.mode ≠ 0 → s.dupHits n j.op = false → j.env.readOk = true → j.fn = 0 →
      let b := j.input
      let kind := le b 0 1
      (∀ r, b.length = 64 → allZero b 1 3 = true → le b 4 4 = 0 → allZero b 25 7 = true → 4 ≤ j.seg0.outLen → j.env.writeOk = true → j.cop = none →
        st.cc.order = none → st.quorum.rules.find? (·.order == kind) = some r →
        (sub b 8 16 = fit 16 s.ring.ident.deviceId → le b 24 1 = n.val → s.orderAccepted n kind = true → Goes (.ccOrder n j) fun t x =>
          let no := (st.nv.orderNo + 1) % 2 ^ 32
          x.cc.order = some { kind := kind, no := no, block := sub b 0 4 ++ toLE 4 no ++ b.drop 8, m := if kind = 7 then 1 else r.m
                              groups := r.groups, held := [], deadline := s.now + 60000000000 * st.get R.CC_CTL_ORDER_LIFE }
          ∧ x.nv.orderNo = no ∧ x.get R.CC_ORDER_NO = no ∧ x.get R.CC_APPROVALS_STATE = 1 ∧ Ends x 0
          ∧ t.mem = Mem.writeBytes s.mem j.seg0.outAddr (toLE 4 no))
        ∧ (s.orderAccepted n kind = false → Goes (.ccOrder n j) fun _ x => x.cc = st.cc ∧ Ends x 0x6A))
      ∧ (∀ y c0 c, st.zeroised = false → b.length = 16 → st.ctxFor 0xFF 0 j.ctx = some c0 → 1 ≤ c0.attr.alg → c0.attr.alg ≤ 3 →
        (st.custodianActive s.now).release s.now j.env 0xFF 0 j.ctx (2 ^ 9) 0 true = (y, .inr c) → Goes (.ccPin n j) fun _ x =>
          match Config.pinOpen 4 c.key b [] with
          | some d => if d.length < 4 ∨ d.length > 12 then Ends x 0x41 ∧ x.cc = y.cc
              else Ends x 0 ∧ (y.cc.waitUntil = none → x.cc = { y.cc with pin := some (pinBlock2 d, s.now + 60000000000) })
                ∧ ∀ t0, y.cc.waitUntil = some t0 → x.cc.step = .verify ∧ x.cc.pin = none ∧ x.cc.waitUntil = none
                  ∧ ∃ w, x.sent = y.sent ++ [⟨.custodianCard, 0x20, [0x00, 0x20, 0x00, 0x80, 0x08] ++ pinBlock2 d, w⟩]
          | none => Ends x 0x41 ∧ x.cc = y.cc)
      ∧ (10 ≤ j.seg0.outLen → exec (.ccOrderQ n j) s = .next ((s.up n fun x => x.custodianActive s.now).succeed n j
          (toLE 1 (if st.cc.order.isSome then 1 else if st.cc.effected then 2 else 0) ++ zeros 3 ++ toLE 4 (st.get R.CC_ORDER_NO)
            ++ toLE 1 (st.get R.CC_APPROVALS_HELD) ++ toLE 1 (st.get R.CC_APPROVALS_M))))
      ∧ (Goes (.ccCancel n j) fun _ x => x.cc.order = none ∧ Ends x 0 ∧ (st.cc.order.isSome = true → x.get R.CC_APPROVALS_HELD = 0))
      ∧ (st.mode ≠ 5 → ∀ agree o, ∃ d, exec (.ccClose n j agree o) s = .next d ∧ Ends (d.sd n) 0x30)
      ∧ (st.mode = 5 → s.life = 1 ∨ s.life = 3 → (Goes (.ccClose n j true none) fun _ x => x.mode = st.servingMode ∧ Ends x 0
            ∧ x.flag R.CC_STATUS_QUORUM = false ∧ x.cc.openers = [])
          ∧ Goes (.ccClose n j false none) fun _ x => x.mode = 5 ∧ Ends x 0 ∧ x.retry.isSome = true)
      ∧ (st.mode = 5 → s.life = 2 → Goes (.ccClose n j true none) fun _ x => x.mode = 5 ∧ Ends x 0)
      ∧ (∀ d, let i := s.ring.ident
         let k := i.ownerDigests.length
         st.mode = 5 → k < 8 →
          (s.life = 3 → Goes (.ccClose n j true (some d)) fun t _ => t.ring.ident.ownerDigests = i.ownerDigests ++ [(k, d)]
            ∧ t.ring.ident.revoked = (if k = 0 then i.revoked else i.revoked ++ [k - 1]) ∧ t.ring.ident.constellation = i.constellation)
          ∧ (s.life = 2 → s.ring.rsFailed = false → Goes (.ccClose n j true (some d)) fun t _ =>
            t.ring.ident.ownerDigests = i.ownerDigests ++ [(k, d)] ∧ t.ring.ident.constellation = st.accepted.map (fun b => sub b 0x18 8))))
    ∧ (ccRuns st = true → ∀ cls atr, 1 ≤ cls → cls ≤ 2 → (Goes (.ccCardInsert n cls true atr) fun _ x => x.flag R.CC_STATUS_ACTIVE = true
          ∧ x.flag R.CC_STATUS_PRESENT = true ∧ x.get R.CC_STATUS_CLASS = cls ∧ x.ceremonyBeat = s.now
          ∧ x.cc.step = (if st.cc.order.isSome = true then .select else .idle)
          ∧ x.cc.t1.ifsc = atr.ifsc ∧ x.cc.t1.crc = atr.crc)
        ∧ (Goes (.ccCardInsert n cls false atr) fun _ x => x.flag R.CC_STATUS_PRESENT = true ∧ x.flag R.CC_ERR_VALID = true ∧ x.cc = st.cc)
        ∧ Goes (.ccCardRemove n) fun _ x => x.flag R.CC_STATUS_PRESENT = false ∧ x.flag R.CC_STATUS_ACTIVE = false ∧ x.cc.step = .idle
          ∧ x.cc.order = st.cc.order)
    ∧ (ccRuns st = true → st.flag R.CC_STATUS_ACTIVE = true →
      (st.cc.retries < 2 → Goes (.t1BlockTimeout n) fun _ x => x.cc = { st.cc with retries := st.cc.retries + 1 }
          ∧ x.get R.CC_T1_RETRY = min (st.get R.CC_T1_RETRY + 1) (2 ^ 32 - 1))
      ∧ (2 ≤ st.cc.retries → st.cc.resyncs < 3 → Goes (.t1BlockTimeout n) fun _ x =>
          x.cc = { st.cc with retries := 0, resyncs := st.cc.resyncs + 1, t1 := { st.cc.t1 with ns := false, nr := false } }
          ∧ x.get R.CC_T1_RETRY = min (st.get R.CC_T1_RETRY + 1) (2 ^ 32 - 1))
      ∧ (2 ≤ st.cc.retries → 3 ≤ st.cc.resyncs → Goes (.t1BlockTimeout n) fun _ x => x.flag R.CC_STATUS_ACTIVE = false ∧ x.cc.step = .over)
      ∧ (∀ o data, st.cc.order = some o →
        (∀ sw agree, Goes (.ccApduResponse n data sw agree true) fun _ x => x.cc.step = .over ∧ x.cc.ended = 0x6B ∧ x.cc.order = some o)
        ∧ (∀ sw agree, st.cc.step = .select → sw ≠ 0x9000 → Goes (.ccApduResponse n data sw agree false) fun _ x => x.cc.step = .over ∧ x.cc.ended = 0x6B
            ∧ x.flag R.CC_ERR_VALID = true ∧ x.cc.order = some o)
        ∧ (∀ agree, st.cc.step = .select → Goes (.ccApduResponse n data 0x9000 agree false) fun _ x => x.cc.step = .getData
            ∧ ∃ w, x.sent = st.sent ++ [⟨.custodianCard, 0xCA, [0x80, 0xCA, 0x00, 0x01], w⟩])
        ∧ (∀ agree, st.cc.step = .getData → st.cc.pin = none → Goes (.ccApduResponse n data 0x9000 agree false) fun _ x =>
            if st.custodianOk s.now o data = true then x.cc.step = .verify ∧ x.cc.custodian = le data 8 8 ∧ x.cc.cardKey = sub data 0x20 64
              ∧ x.cc.waitUntil = some (s.now + 60000000000) ∧ x.flag R.CC_STATUS_CUSTODIAN_OK = true
            else x.cc.step = .over ∧ x.cc.ended = 0x6B)
        ∧ (∀ sw agree, st.cc.step = .verify → st.cc.waitUntil = none → sw / 16 = 0x63C → Goes (.ccApduResponse n data sw agree false) fun _ x =>
            x.cc.step = .over ∧ x.cc.ended = 0x6C)
        ∧ (∀ agree, st.cc.step = .verify → st.cc.waitUntil = none → Goes (.ccApduResponse n data 0x9000 agree false) fun _ x => x.cc.step = .auth
            ∧ x.cc.challenge.length = 32 ∧ ∃ w, x.sent = st.sent ++ [⟨.custodianCard, 0x88, [0x00, 0x88, 0x00, 0x00] ++ x.cc.challenge
              ++ bvBytes (Config.sha256 o.block), w⟩])
        ∧ (∀ agree, st.cc.step = .auth → o.held.length + 1 < 16 → o.kind = 6 → st.mode = 5 → Goes (.ccApduResponse n data 0x9000 agree false) fun _ x =>
            if Config.verify 0x20 st.cc.cardKey (signedText 0x20 (st.cc.challenge ++ bvBytes (Config.sha256 o.block))) data = true then
              if o.held.length + 1 < o.m then x.cc.order = some { o with held := o.held ++ [st.cc.custodian] }
                ∧ x.get R.CC_APPROVALS_HELD = o.held.length + 1 ∧ x.cc.pairPermit = st.cc.pairPermit
              else x.cc.order = none ∧ x.cc.effected = true ∧ x.cc.pairPermit = true
            else x.cc.step = .over ∧ x.cc.ended = 0x6B ∧ x.cc.order = some o)
        ∧ (∀ agree, st.cc.step = .auth → o.kind = 1 → st.mode = 2 → st.batchOpen = false → o.m ≤ o.held.length + 1 →
            Goes (.ccApduResponse n data 0x9000 agree false) fun _ x =>
            (Config.verify 0x20 st.cc.cardKey (signedText 0x20 (st.cc.challenge ++ bvBytes (Config.sha256 o.block))) data = true → x.mode = 5
              ∧ x.get R.CHT_MODE_CAUSE = 7 ∧ x.get R.CHT_MODE_PREV_MODE = 2 ∧ x.flag R.CC_STATUS_QUORUM = true
              ∧ x.cc.openers = o.held ++ [st.cc.custodian] ∧ x.links = []))))
    ∧ (∀ p t0, st.cc.pin = some (p, t0) → exec (.ccPinLapse n) s = .next ((s.upTo t0).up n fun x => x.upCc fun c => { c with pin := none }))
    ∧ (∀ t0, st.cc.waitUntil = some t0 → Goes (.ccPinWaitExpired n) fun t x => t.now = max s.now t0 ∧ x.cc.step = .over ∧ x.cc.ended = 0x6C
        ∧ x.cc.waitUntil = none ∧ x.sent = st.sent)
    ∧ (∀ o, st.cc.order = some o → Goes (.orderLifeExpired n) fun t x => t.now = max s.now o.deadline ∧ x.cc.order = none ∧ x.get R.CC_APPROVALS_HELD = 0)

/-! ### The Yunatil tag and the Agate flash -/

/-- R535, R536, R538, R541, R543 to R550: a reader's commands on a live tag, and the host interface. A draw of the tag's jitter source is
open, and so is what an HMAC gives. -/
def Obligations.TagFieldAndHostCommands : Prop :=
  ∀ (s : State), s.ring.ident.tagFused = false → s.ring.tfFailed = false → s.ring.tag.st ≠ .killed →
    let g := s.ring.tag
    let Goes := fun (c : Instr) (P : State → Tag → Prop) => ∃ t, exec c s = .next t ∧ (∀ m, t.sd m = s.sd m) ∧ t.mem = s.mem ∧ t.now = s.now ∧ P t t.ring.tag
    let Asks := fun (c : Instr) (P : State → Tag → Prop) => Goes c fun t x => (s.ring.power = true →
        t.rget R.TAG_FIELD_CMDS = min (s.rget R.TAG_FIELD_CMDS + 1) (2 ^ 32 - 1)) ∧ P t x
    let Says := fun (x : Tag) (b : Bytes) => x.replies = g.replies ++ [b ++ toLE 2 (crc16 b).toNat]
    (s.rflag R.TAG_CTL_IRQ_FIELD = false ∨ s.ring.power = false → Goes .tagFieldOn fun t x => x.st = (if g.st = .off then .ready else g.st)
        ∧ x.fieldDet = (if s.ring.power = true then s.rflag R.TAG_CTL_FDET_EN else g.fdet)
        ∧ t.rflag R.TAG_STATUS_FIELD = true)
    ∧ (Goes .tagFieldLost fun t x => x.st = .off ∧ x.h = 0 ∧ x.slot = 0 ∧ x.fieldDet = false ∧ x.owned = false ∧ x.blocks = g.blocks
        ∧ t.rflag R.TAG_STATUS_FIELD = false)
    ∧ (∀ q, q ≤ 8 → g.st ∈ [.ready, .arbitrate, .reply, .acknowledged] → Asks (.tagRound q) fun _ x => 1 ≤ x.h ∧ x.h ≤ 65535 ∧ x.slot < 2 ^ q
        ∧ (x.slot = 0 → x.st = .reply ∧ Says x (toLE 2 x.h)) ∧ (x.slot ≠ 0 → x.st = .arbitrate ∧ x.replies = g.replies))
    ∧ (∀ k, g.st = .arbitrate → g.slot = k + 1 → Asks .tagNext fun _ x => x.slot = k ∧ (k = 0 → x.st = .reply ∧ Says x (toLE 2 g.h))
        ∧ (k ≠ 0 → x.st = .arbitrate ∧ x.replies = g.replies))
    ∧ (g.st = .reply → (Asks .tagNext fun _ x => x = { g with st := .ready }) ∧ (Asks .tagNak fun _ x => x = { g with st := .ready })
      ∧ (Asks (.tagAck g.h) fun _ x => x.st = .acknowledged ∧ x.owned = true ∧ Says x (fit 12 g.uid ++ sub s.tagBlock0 2 1
          ++ toLE 1 (b2n g.secret.isSome + 2 * b2n s.ring.power)))
      ∧ ∀ h, h ≠ g.h → Asks (.tagAck h) fun _ x => x = { g with st := .ready })
    ∧ (g.st = .acknowledged → Asks .tagNak fun _ x => x = { g with st := .ready })
    ∧ (g.st = .acknowledged → ∀ nonce block data mac, nonce.length = 16 → data.length = 16 → mac.length = 8 →
      (∀ a k, 1 ≤ k → k ≤ 8 → a + k ≤ 256 → Asks (.tagRead g.h a k) fun t x => x.owned = true ∧ t.rflag R.TAG_STATUS_OWNED = true ∧ x.st = .acknowledged
          ∧ Says x (0 :: ((List.range k).map fun i => s.tagBlock (a + i)).flatten))
      ∧ (Asks (.tagState g.h) fun _ x => Says x (0 :: toLE 1 s.tagStateByte))
      ∧ (g.secret = none → Asks (.tagChallenge g.h nonce) fun _ x => Says x ([3] ++ toLE 1 s.tagStateByte ++ zeros 16))
      ∧ (∀ k, g.secret = some k → Asks (.tagChallenge g.h nonce) fun _ x => x.owned = true ∧ Says x ([0] ++ toLE 1 s.tagStateByte
          ++ (bvBytes (Config.hmac256 k (fit 16 nonce ++ fit 12 g.uid ++ s.tagBlock 0 ++ s.tagBlock 4 ++ s.tagBlock 5 ++ s.tagBlock 6 ++ s.tagBlock 7
            ++ toLE 1 s.tagStateByte))).take 16))
      ∧ (s.rflag R.TAG_CTL_NOTE_EN = false → ∀ ok, Asks (.tagNoteWrite g.h block data mac ok) fun _ x => Says x (toLE 1 4 ++ toLE 4 g.noteCount)
          ∧ x.blocks = g.blocks)
      ∧ (∀ k, s.rflag R.TAG_CTL_NOTE_EN = true → 16 ≤ block → block ≤ 63 → g.secret = some k → Asks (.tagNoteWrite g.h block data mac true) fun t x =>
          if (bvBytes (Config.hmac256 k ([0x08] ++ fit 12 g.uid ++ toLE 1 block ++ fit 16 data ++ toLE 4 g.noteCount))).take 8 = mac
          then x.noteCount = (g.noteCount + 1) % 2 ^ 32 ∧ t.tagBlock block = fit 16 data ∧ Says x (toLE 1 0 ++ toLE 4 x.noteCount)
          else x.noteCount = g.noteCount ∧ x.blocks = g.blocks ∧ Says x (toLE 1 2 ++ toLE 4 g.noteCount))
      ∧ (Asks (.tagQuiet g.h) fun _ x => x.st = .quiet ∧ Says x [0])
      ∧ ∀ h, h ≠ g.h → exec (.tagQuiet h) s = .next s ∧ exec (.tagState h) s = .next s ∧ exec (.tagRead h 0 1) s = .next s
          ∧ exec (.tagChallenge h nonce) s = .next s ∧ exec (.tagNoteWrite h block data mac true) s = .next s)
    ∧ (Goes .tagFieldAccessEnd fun t x => x.owned = false ∧ t.rflag R.TAG_STATUS_OWNED = false ∧ ∀ p, g.prog = some p → x.prog = some { p with abandoned := false })
    ∧ (s.ring.power = true → ∀ (n : Fin 4) (c p : Nat),
      (g.owned = false → g.prog = none →
        (∀ ok, Goes (.tagHostRead .manager ok) fun t x => x = g ∧ (ok = false → t.rflag R.TAG_ERR_VALID = true)
          ∧ ∀ k, k < 4 → t.rget R.TAG_RDATA k = le (s.tagBlock (s.rget R.TAG_ADDR_BLOCK)) (4 * k) 4)
        ∧ (64 ≤ s.rget R.TAG_ADDR_BLOCK ∨ 16 ≤ s.rget R.TAG_ADDR_BLOCK ∧ s.anyCeremony = true → Goes (.tagHostWrite .manager) fun t x => t.rflag R.TAG_STATUS_WIP = true ∧ ∃ d, x.prog = some d
            ∧ d.block = s.rget R.TAG_ADDR_BLOCK ∧ d.abandoned = false
            ∧ d.data = toLE 4 (s.rget R.TAG_WDATA 0) ++ toLE 4 (s.rget R.TAG_WDATA 1) ++ toLE 4 (s.rget R.TAG_WDATA 2) ++ toLE 4 (s.rget R.TAG_WDATA 3))
        ∧ (s.rget R.TAG_ADDR_BLOCK < 16 ∨ s.rget R.TAG_ADDR_BLOCK < 64 ∧ s.anyCeremony = false → Goes (.tagHostWrite .manager) fun t x => x = g ∧ t.rflag R.TAG_ERR_VALID = true))
      ∧ (g.owned = true ∨ g.prog.isSome = true → (∀ ok, Goes (.tagHostRead .manager ok) fun t x => x = g ∧ t.rflag R.TAG_STATUS_BUSY = true)
          ∧ Goes (.tagHostWrite .manager) fun t x => x = g ∧ t.rflag R.TAG_STATUS_BUSY = true)
      ∧ (∀ d, g.prog = some d → d.abandoned = false → 8 ≤ d.block →
          (Goes (.tagHostProgramDone true) fun t x => x.prog = none ∧ t.tagBlock d.block = fit 16 d.data ∧ t.rflag R.TAG_STATUS_WIP = false)
          ∧ Goes (.tagHostProgramDone false) fun t x => x = { g with prog := none } ∧ t.rflag R.TAG_ERR_VALID = true)
      ∧ (s.anyCeremony = true → g.secret = none → Goes (.tagSecretCommit .manager 0x5A) fun t x => x.secret = some g.staged ∧ x.staged = zeros 32
          ∧ t.rflag R.TAG_STATUS_SECRET_SET = true)
      ∧ (g.secret.isSome = true → Goes (.tagSecretCommit .manager 0x5A) fun t x => x = g ∧ t.rflag R.TAG_ERR_VALID = true)
      ∧ ((s.sd n).mode = 5 → Goes (.tagKill n (.core n c 0) 0x4B true) fun t x => x.st = .killed ∧ t.rflag R.TAG_STATUS_KILLED = true)
      ∧ ((s.sd n).mode ≠ 5 → Goes (.tagKill n (.core n c p) 0x4B true) fun t x => x = g ∧ t.rflag R.TAG_ERR_VALID = true))

/-- R556, R557, R560 to R564, R570 to R573: Warden's flash commands. A program's words read back, with one flipped bit corrected where
decoding says so; an erase opens a ledger record, and when it verifies, the block is blank and ERASED_OK. -/
def Obligations.AgateFlashCommands : Prop :=
  ∀ (s : State) (n : Fin 4) (c : Nat), (s.sd n).mode ≠ 0 → (s.sd n).halted = false →
    let st := s.sd n
    let f := st.nv.flash
    let a := st.get R.AGT_ADDR_ADDR
    let i := a / 65536
    let w := 8192 * f.physOf i + 64 * (a / 512 % 128)
    let who : Requester := .core n c 0
    let Goes := fun (k : Instr) (P : Strand → Prop) => ∃ t, exec k s = .next t ∧ OnlyStrand s t n ∧ t.now = s.now ∧ P (t.sd n)
    exec (.agtRead n .manager 0 []) s = .next (s.up n fun x => x.violation .manager 0xF00008)
    ∧ (st.agt.prog = none →
      (i < 8 ∨ 1464 ≤ i → i < 15397 → f.openOn i = false → ∀ noise, Goes (.agtRead n who 0 [(a / 8 % 64, noise)]) fun x => x.nv.flash = f ∧
          match Ecc.decode (Flash.cell f.data (w + a / 8 % 64) ^^^ BitVec.ofNat 72 noise) with
          | (d, 0) => x.pbuf 0 = d ∧ x.get R.AGT_RESULT_CODE = 0 ∧ x.get R.AGT_RESULT_CORRECTED = 0
          | (d, 1) => x.pbuf 0 = d ∧ x.get R.AGT_RESULT_CODE = 0 ∧ x.get R.AGT_RESULT_CORRECTED = 1
              ∧ x.get R.AGT_CE = min (st.get R.AGT_CE + 1) (2 ^ 32 - 1)
          | _ => x.get R.AGT_RESULT_CODE = 8 ∧ x.get R.AGT_RESULT_WORD = a / 8 % 64 ∧ x.flag R.AGT_ERR_VALID = true
              ∧ x.get R.AGT_UE = min (st.get R.AGT_UE + 1) (2 ^ 32 - 1))
      ∧ (8 ≤ i → i < 1400 → Goes (.agtRead n who 0 []) fun x => x.nv.flash = f ∧ x.vault = st.vault)
      ∧ (1400 ≤ i → i < 1464 → f.openOn i = false → ∀ r b, st.nv.evlog = [(r, b)] → r % 131072 = 2048 * (i - 1400) + a / 32 % 2048 →
          Goes (.agtRead n who 0 []) fun x => x.nv.flash = f ∧ x.pbuf 0 = BitVec.ofNat 64 (le b (8 * (a / 8 % 4)) 8) ∧ x.get R.AGT_RESULT_CODE = 0)
      ∧ (let ws := (List.range 64).filter fun k => bit (st.get R.AGT_MASK_LO_MASK + 2 ^ 32 * st.get R.AGT_MASK_HI_MASK) k
         i < 15397 → (f.classOf i = 1 ∨ f.classOf i = 2) → (∀ k ∈ ws, Ecc.passes (Flash.cell f.data (w + k)) (Ecc.word (st.pbuf k)) = true) →
         Goes (.agtProgram n who) fun x => x.nv.flash = f ∧ x.flag R.AGT_STATUS_BUSY = true
           ∧ x.agt.prog = some ⟨i, f.physOf i, ws.map fun k => (64 * (a / 512 % 128) + k, st.pbuf k)⟩)
      ∧ (i < 15397 → f.classOf i = 3 → Goes (.agtProgram n who) fun x => x.nv = st.nv ∧ x.agt = st.agt ∧ x.get R.AGT_RESULT_CODE = 2)
      ∧ (15397 ≤ i → Goes (.agtProgram n who) fun x => x.nv = st.nv ∧ x.get R.AGT_RESULT_CODE = 5)
      ∧ (st.agt.erase = none → a % 65536 < 15397 → 0 < f.room → Goes (.agtErase n who true) fun x =>
          x.agt.erase = some { no := f.nextRec, phys := f.physOf (a % 65536), logical := a % 65536 } ∧ x.nv.flash.classOf (a % 65536) = 3
          ∧ x.flag R.AGT_STATUS_ERASE_OPEN = true ∧ x.nv.flash.data = f.data
          ∧ x.nv.flash.ledger = f.ledger ++ [{ no := f.nextRec, phys := f.physOf (a % 65536), logical := a % 65536, time := st.deviceTime s.now }])
      ∧ (st.agt.erase = none → a % 65536 < 15397 → 0 < f.room → Goes (.agtErase n who false) fun x =>
          x.agt = st.agt ∧ x.get R.AGT_RESULT_CODE = 6 ∧ x.nv.flash.data = f.data ∧ x.nv.flash.ledger.length = f.ledger.length + 1)
      ∧ (a % 65536 < 15397 → f.openOn (a % 65536) = false → Goes (.agtReadHdr n who) fun x => x.get R.AGT_RESULT_CLASS = f.classOf (a % 65536) ∧ x.get R.AGT_RESULT_CODE = 0
          ∧ x.pbuf 0 = (Ecc.decode (Flash.cell f.heads (8 * f.physOf (a % 65536)))).1))
    ∧ (∀ p, st.agt.prog = some p → st.agt.erase = none → p.phys = f.physOf p.logical → (p.words.map (·.1)).Nodup →
      (Goes (.agtProgramDone n true) fun x => x.agt.prog = none ∧ x.get R.AGT_RESULT_CODE = 0
        ∧ (∀ k ∈ p.words, Flash.cell x.nv.flash.data (8192 * p.phys + k.1) = Ecc.word k.2)
        ∧ (∀ k, (∀ q ∈ p.words, k ≠ 8192 * p.phys + q.1) → Flash.cell x.nv.flash.data k = Flash.cell f.data k)
        ∧ (f.classOf p.logical = 1 ∨ f.classOf p.logical = 2 → x.nv.flash.classOf p.logical = 2))
      ∧ Goes (.agtProgramDone n false) fun x => x.agt.prog = none ∧ x.get R.AGT_RESULT_CODE = 6 ∧ p.phys ∈ x.nv.flash.bad)
    ∧ (∀ e, st.agt.erase = some e → e.suspended = false → e.phys = f.physOf e.logical → e.phys ∉ f.bad →
      (Goes (.agtEraseDone n true true) fun x => x.agt.erase = none ∧ x.nv.flash.classOf e.logical = 1 ∧ x.get R.AGT_RESULT_CODE = (if e.drew = true then 7 else 0)
        ∧ (∀ k, k < 8192 → Flash.cell x.nv.flash.data (8192 * e.phys + k) = BitVec.allOnes 72)
        ∧ (∀ k, k / 8192 ≠ e.phys → Flash.cell x.nv.flash.data k = Flash.cell f.data k))
      ∧ (f.drawn < 983 → Goes (.agtEraseDone n false true) fun x => e.phys ∈ x.nv.flash.retired ∧ x.nv.flash.physOf e.logical = 15401 + f.drawn
          ∧ x.get R.AGT_RESULT_CODE = st.get R.AGT_RESULT_CODE ∧ ∃ r, x.agt.erase = some r ∧ r.phys = 15401 + f.drawn ∧ r.drew = true)
      ∧ (983 ≤ f.drawn → f.freed = [] → Goes (.agtEraseDone n false true) fun x => x.agt.erase = none ∧ x.get R.AGT_RESULT_CODE = 9
          ∧ x.flag R.AGT_STATUS_SPARE_OUT = true))
    ∧ (∀ e, st.agt.erase = some e → st.agt.prog = none ∨ st.flag R.AGT_CTL_SUSP_PROG = false → Goes (.agtEraseResume n) fun x => x.agt.erase = some { e with suspended := false } ∧ x.flag R.AGT_STATUS_SUSPENDED = false)
    ∧ (∀ p k, st.flag R.AGT_SCRUB_CFG_EN = true → st.agt = {} →
      let next := if st.flag R.AGT_SCRUB_PROG_VALID = true then st.get R.AGT_SCRUB_PROG_POSITION % 16384 else 0
      (p ≠ next → exec (.scrubBlockRead n p k []) s = .next s)
      ∧ (p = next → k ≤ st.get R.AGT_SCRUB_CFG_REFRESH → Goes (.scrubBlockRead n p k []) fun x =>
        x.nv = st.nv ∧ x.get R.AGT_CE = min (st.get R.AGT_CE + k) (2 ^ 32 - 1) ∧ x.get R.AGT_SCRUB_PROG_POSITION = p + 1
        ∧ x.get R.AGT_SCRUB_PROG_PERCENT = 100 * (p + 1) / 16384))

/-! ### The sentinel, the islands, the package -/

/-- R25, R580 to R603: detector reports and their windows, the alarm and its response, the erase, Vigil, injected events, the event log, the
cell. What the hash gives for a record's CHECK is open. -/
def Obligations.SentinelEventsAlarmsAndErase : Prop :=
  ∀ (s : State) (n frm : Fin 4) (src i v det : Nat),
    let x := s.sd n
    let j := x.jsp
    let Goes := fun (c : Instr) (P : State → Strand → Prop) => ∃ t, exec c s = .next t ∧ P t (t.sd n)
    let Alone := fun (c : Instr) (P : State → Strand → Prop) => Goes c fun t y => Aside s t n ∧ P t y
    let Off := fun (k : Nat) => bit (x.get R.JSP_FUSE_OFF_FUSED) k = true
    let Is := fun (f : Firing) (k d : Nat) => f.src = k ∧ f.det = d ∧ f.rank = x.get R.JSP_SRC_CFG_RANK k
    let Rises := fun (y : Strand) (k : Nat) => y.get R.JSP_SRC_CNT_EVENTS k = min (x.get R.JSP_SRC_CNT_EVENTS k + 1) 65535
    -- R582 to R585: both detectors make one event, one alone also DETECTOR_DISAGREE; a window holds a firing back until N events
    (x.mode ≠ 0 → 1 ≤ src → src ≤ 11 → (src = 9 → x.get R.JSP_CTL_TAMP_EN ≠ 0) → ¬ Off src →
      (x.windowed = false ∨ (x.get R.JSP_SRC_CFG_N src ≤ 1 ∧ 0 < x.get R.JSP_SRC_CFG_W src) →
        Goes (.detectorReport n src 3 i v) fun t y => t.mem = s.mem ∧ t.now = s.now ∧ Rises y src ∧ ∃ f, Is f src 3 ∧ f.reading = v
          ∧ y.jsp.alarm = j.alarm ++ [f] ∧ y.jsp.events.head? = some f)
      ∧ (x.windowed = true → 2 ≤ x.get R.JSP_SRC_CFG_N src → j.hist.find? (·.1 == src) = none →
        Goes (.detectorReport n src 3 i v) fun _ y => Rises y src ∧ y.jsp.alarm = j.alarm ∧ ∃ f, Is f src 3 ∧ y.jsp.events.head? = some f)
      ∧ (x.windowed = false → ¬ Off 13 → (det = 1 ∨ det = 2) → Goes (.detectorReport n src det i v) fun _ y => ∃ f g, Is f src det
          ∧ Is g 13 (src * 256 + det) ∧ y.jsp.alarm = j.alarm ++ [f, g]))
    ∧ (∀ ch, exec (.detectorReport n src 0 i v ch) s = .next s)
    -- what fails in an island itself is recorded too, R609, R635
    ∧ (∀ ch, x.mode ≠ 0 → i ≤ 20 → ch ≤ 255 → x.flag R.ISL_ERR_VALID = false → x.flag R.JSP_ERR_VALID = false → (det = 1 ∨ det = 2 ∨ det = 3) → ¬ Off src →
      (src = 4 ∨ src = 5 ∨ src = 14 → Goes (.detectorReport n src det i v (some ch)) fun _ y => Rises y src ∧ y.flag R.ISL_ERR_VALID = true
          ∧ y.get R.ISL_ERR_CODE = (if src = 4 then 1 else if src = 5 then 2 else 4) ∧ y.get R.ISL_ERR_INFO_ISLAND = i)
      ∧ (src = 14 → i = 6 → Goes (.detectorReport n src det i v none) fun _ y => y.get R.JSP_ERR_CODE = 5 ∧ y.flag R.JSP_ERR_VALID = true
          ∧ y.get R.ISL_ERR_CODE = x.get R.ISL_ERR_CODE))
    -- R603: an injected event
    ∧ (x.mode ≠ 0 → ∀ c : Fin 4, bits v 24 8 = 0xA6 → 1 ≤ bits v 0 8 → bits v 0 8 ≤ 14 → bits v 8 2 ≠ 0 → ¬ Off (bits v 0 8) →
      (s.life ≤ 1 → x.windowed = false → Alone (.jspInjectWrite n (.core n c 0) v) fun _ y => ∃ f l, Is f (bits v 0 8) (bits v 8 2 + 4)
          ∧ y.jsp.alarm = j.alarm ++ f :: l)
      ∧ (2 ≤ s.life → Alone (.jspInjectWrite n (.core n c 0) v) fun _ y => Rises y (bits v 0 8) ∧ y.jsp.alarm = j.alarm ∧ ∃ f,
          Is f (bits v 0 8) (bits v 8 2 + 4) ∧ y.jsp.logQ = j.logQ ++ [{ f := f, applied := 0, first := true }])
      ∧ exec (.jspInjectWrite n (.core n c 1) v) s = .next s)
    -- R25, R591: a request wire
    ∧ (x.mode ≠ 0 → ¬ Off 15 → (s.sd frm).jsp.wires.contains n.val = true → Alone (.eraseRequestReceived n frm) fun _ y => ∃ f,
        f.src = 15 ∧ f.rank = 4 ∧ f.reading = frm.val ∧ y.jsp.alarm = j.alarm ++ [f])
    ∧ ((s.sd frm).jsp.wires.contains n.val = false → exec (.eraseRequestReceived n frm) s = .next s)
    -- R588 to R591: the alarm
    ∧ (x.mode ≠ 0 → ∀ fs, j.alarm = fs → fs ≠ [] → (∀ f ∈ fs, f.note = false ∧ f.rank ≤ 5) → Goes (.alarmDecision n) fun t y => t.now = max s.now (j.alarmAt + 1000)
        ∧ ((∀ f ∈ fs, f.src = 13 ∨ 20 < f.island ∨ Strand.kindOf f.island = 0) ∨ x.eng.topQ = [] ∧ x.eng.berQ = [] → y.jsp.alarm = [])
        ∧ y.get R.JSP_LAST_RANK = fs.foldl (fun m f => max m f.rank) 0
        ∧ y.jsp.logQ = j.logQ ++ fs.zipIdx.map fun p => { f := p.1, applied := fs.foldl (fun m f => max m f.rank) 0, first := p.2 == 0 })
    ∧ (x.mode ≠ 0 → x.mode < 6 → x.effective = 0 → x.zeroised = false → j.lineSince = none → ∀ f, j.alarm = [f] → f.note = false → f.rank ≤ 5 → f.src ≤ 15 →
        Goes (.alarmDecision n) fun t y => y.get R.JSP_LAST_SOURCE = f.src
        ∧ (2 ≤ f.rank → f.src ≠ 13 → f.island ≤ 20 → Strand.kindOf f.island ≠ 0 → y.fenced.contains f.island = true)
        ∧ (j.erase = none →
          (f.rank = 0 → y.jsp.throttleUntil = j.throttleUntil ∧ y.halted = x.halted ∧ y.jsp.erase = none ∧ y.fenced = x.fenced)
          ∧ (f.rank = 1 → y.flag R.JSP_STATUS_THROTTLED = true ∧ y.fenced = x.fenced
            ∧ y.jsp.throttleUntil = some (t.now + 1000000000 * x.get R.JSP_CTL_THROTTLE_S))
          ∧ (f.rank = 2 → f.src ≠ 13 → f.island > 20 ∨ Strand.kindOf f.island = 0 → y.halted = true)
          ∧ (f.rank = 3 → y.halted = true ∧ y.jsp.erase = none)
          ∧ (f.rank = 4 → y.jsp.erase = some ⟨if f.src = 15 then 3 else 1, f.src, if f.src = 15 then f.reading else 0, 0⟩
            ∧ y.jsp.wires = j.wires ∧ t.rget R.RNG_ERASE_WIRES = s.rget R.RNG_ERASE_WIRES)
          ∧ (f.rank = 5 → y.jsp.erase = some ⟨2, f.src, if f.src = 15 then f.reading else 0, 0⟩
            ∧ (∀ b : Fin 4, y.jsp.wires.contains b.val = true ↔ b ≠ n) ∧ (s.ring.rsFailed = true → t.rget R.RNG_ERASE_WIRES = s.rget R.RNG_ERASE_WIRES)
            ∧ (s.ring.rsFailed = false → ∀ b : Fin 4, b ≠ n → bit (t.rget R.RNG_ERASE_WIRES) (4 * n.val + b.val) = true))))
    ∧ (j.alarm = [] → exec (.alarmDecision n) s = .next s)
    ∧ (∀ w, j.throttleUntil = some w → Alone (.throttleExpired n) fun t y => t.now = max s.now w ∧ y.jsp.throttleUntil = none
        ∧ y.flag R.JSP_STATUS_THROTTLED = false ∧ ∀ k, k < 5 → y.get R.ISL_CLK_MHZ k = 1200 * (20 - x.get R.ISL_AGE_STEP k) / 20)
    ∧ (j.throttleUntil = none → exec (.throttleExpired n) s = .next s)
    -- R592, R593: the erase; a mismatch asks again, and a third is overruled
    ∧ (∀ e, j.erase = some e → e.cause ≤ 5 → e.cause ≠ 4 → e.src ≤ 15 → x.mode ≠ 0 → x.mode ≠ 7 →
        let Erased := fun (t : State) (y : Strand) => y.mode = 6 ∧ y.nv.latch = true ∧ y.nv.roots = [] ∧ y.vault = {} ∧ y.zeroised = true
          ∧ y.post.batches = [] ∧ y.quar = [] ∧ y.keyBus = none ∧ y.links = [] ∧ y.jsp.erase = none ∧ y.jsp.lineSince = some s.now ∧ t.mem = s.mem
          ∧ y.get R.JSP_ERASE_CAUSE = e.cause ∧ y.get R.JSP_ERASE_SOURCE = e.src
        ∀ cut,
        (Goes (.eraseDecision n true cut) fun t y => Erased t y ∧ (e.tries ≤ 2 → y.get R.JSP_ERASE_TRIES = e.tries + 1))
        ∧ (e.tries < 2 → Alone (.eraseDecision n false cut) fun _ y => y.mode = x.mode ∧ y.nv = x.nv ∧ y.jsp.erase = some { e with tries := e.tries + 1 } ∧ Rises y 12)
        ∧ (e.tries = 2 → Goes (.eraseDecision n false cut) fun t y => Erased t y ∧ y.get R.JSP_ERASE_TRIES = 3))
    ∧ (j.erase = none → ∀ agree cut, exec (.eraseDecision n agree cut) s = .next s)
    ∧ (∀ w, j.lineSince = some w → x.halted = true ∨ x.measure = [] → Alone (.eraseLineRelease n) fun t y => t.now = max s.now (w + 10000)
        ∧ y.jsp.lineSince = none ∧ ∀ o, 0xA01000 ≤ o → o < 0xA02000 → y.rd o = strandReset o)
    ∧ (∀ w, j.lineSince = some w → Goes (.eraseLineRelease n) fun _ y => y.jsp.lineSince = none)
    ∧ (j.lineSince = none → exec (.eraseLineRelease n) s = .next s)
    -- R595 to R597: Vigil
    ∧ (x.mode = 0 → 2000 ≤ v →
      Alone (.vigilSample n v []) (fun t y => y.jsp.sample = none ∧ y.nv = x.nv ∧ t.now = s.now)
      ∧ (x.nv.vigilTamp = 0 → Alone (.vigilSample n v [(9, 3)]) fun _ y => y.jsp.sample = none ∧ y.nv = x.nv)
      ∧ (src ∈ [1, 2, 3, 6] → ¬ Off src → (det = 1 ∨ det = 2 ∨ det = 3) →
        (Alone (.vigilSample n v [(src, det)]) fun _ y => y.jsp.sample = some ([(src, det)], s.now) ∧ y.nv = x.nv)
        ∧ ∀ w, j.sample = some ([(src, det)], w) →
          (Alone (.vigilSampleRepeat n v []) fun t y => y.jsp.sample = none ∧ y.nv = x.nv ∧ t.now = max s.now (w + 1000000))
          ∧ (x.nv.vigil.length < 16 → Goes (.vigilSampleRepeat n v [(src, 3)]) fun t y =>
            y.nv.vigil = x.nv.vigil ++ [⟨src, 3, State.vigilRank x src, x.deviceTime t.now⟩] ∧ t.mem = s.mem
            ∧ (State.vigilRank x src ≤ 3 → y.nv.roots = x.nv.roots ∧ y.nv.latch = x.nv.latch)
            ∧ (State.vigilRank x src = 4 → y.nv.roots = [] ∧ y.nv.latch = true)
            ∧ (State.vigilRank x src = 5 → ∀ m, (t.sd m).nv.roots = [] ∧ (t.sd m).nv.latch = true))
          ∧ (x.nv.vigil.length < 15 → Goes (.vigilSampleRepeat n v [(src, 1)]) fun _ y => ∃ a b, y.nv.vigil = x.nv.vigil ++ [a, b] ∧ a.src = src ∧ b.src = 13)))
    ∧ (v < 2000 → exec (.vigilSample n v [(src, det)]) s = .next s)
    ∧ (j.sample = none → exec (.vigilSampleRepeat n v [(src, det)]) s = .next s)
    -- R602: the event log
    ∧ (x.mode ≠ 0 → ∀ r rest, j.logQ = r :: rest →
      (x.nv.evlog.length < 131072 → Alone (.eventLogWrite n true) fun _ y => y.jsp.logQ = rest ∧ y.nv.evSeq = (x.nv.evSeq + 1) % 2 ^ 32
        ∧ ∃ b, y.nv.evlog = x.nv.evlog ++ [(x.nv.evSeq, b)] ∧ b.length = 32 ∧ b.take 5 = toLE 4 x.nv.evSeq ++ toLE 1 r.f.src)
      ∧ (131072 ≤ x.nv.evlog.length → Alone (.eventLogWrite n true) fun _ y => ∃ b, y.nv.evlog = x.nv.evlog.drop 2048 ++ [(x.nv.evSeq, b)])
      ∧ (∀ chainOk, Alone (.eventLogWrite n false chainOk) fun _ y => y.jsp.logQ = j.logQ ∧ y.nv = x.nv ∧ y.flag R.JSP_ERR_VALID = true)
      ∧ (x.flag R.JSP_ERR_VALID = false → ∀ ok, Alone (.eventLogWrite n ok false) fun _ y => y.flag R.JSP_ERR_VALID = true ∧ y.get R.JSP_ERR_CODE = 4
          ∧ (ok = true → y.jsp.logQ = rest)))
    -- R601, R663: the cell window and the crystal
    ∧ (∀ w, j.window = some w → v < 4096 → Goes (.cellWindowClose n v) fun t y => y.jsp.window = none ∧ y.flag R.JSP_CELL_WINDOW_OPEN = false
        ∧ y.get R.JSP_CELL_VBAT = v ∧ t.now = (if x.mode = 5 then max s.now w else s.now) ∧ (v ≠ 0 → y.jsp.events = j.events)
        ∧ (v = 0 → ¬ Off 10 → ∃ f, f.src = 10 ∧ f.note = false ∧ y.jsp.events.head? = some f))
    ∧ Goes .crystalStop fun t _ => t.ring.xtalStopped = true ∧ t = { s with ring := { s.ring with xtalStopped := true } }

/-- R305, R310, R394, R434, R592, R613 to R617, R622 to R631: gradients, aging, fencing, spare swaps, the snapshot; R65, R67, R583, R585,
R668: the package, its fuses and the probe session. -/
def Obligations.IslandsSparesSnapshotsAndPackage : Prop :=
  ∀ (s : State) (n c : Fin 4) (i k a b va vb det v : Nat),
    let x := s.sd n
    let Goes := fun (c : Instr) (P : State → Strand → Prop) => ∃ t, exec c s = .next t ∧ P t (t.sd n)
    let Alone := fun (c : Instr) (P : State → Strand → Prop) => Goes c fun t y => OnlyStrand s t n ∧ P t y
    let Asked := fun (y : Strand) (r : SwapReq) => y.hlt.cur = some r ∧ y.hlt.st = 1
    -- R616, R617: a pair of islands
    (x.mode ≠ 0 → a ≤ 20 → b ≤ 20 → a ≠ b → x.fenced.contains a = false → x.fenced.contains b = false → 1 ≤ k → k ≤ 3 → va < 1024 → vb < 1024 →
      (k = 1 → ∀ sa sb, Alone (.gradientCheck n k a b va vb det (sa, sb)) fun _ y => y.get R.ISL_SUP_MV a = va ∧ y.get R.ISL_SUP_MV b = vb
          ∧ y.get R.ISL_SUP_SETPOINT a = setpoint sa ∧ y.get R.ISL_SUP_SETPOINT b = setpoint sb)
      ∧ (k = 2 → Alone (.gradientCheck n k a b va vb det) fun _ y => y.get R.ISL_TEMP_TEMP a = va ∧ y.get R.ISL_TEMP_TEMP b = vb)
      ∧ (k = 3 → Alone (.gradientCheck n k a b va vb det) fun _ y => y.get R.ISL_CLK_MHZ a = va ∧ y.get R.ISL_CLK_MHZ b = vb)
      ∧ let Past := if k = 1 then 180 < Machine.dist va vb else if k = 2 then 300 < Machine.dist va vb else a ≠ 17 ∧ b ≠ 17 ∧ (10 * va < vb ∨ 10 * vb < va)
        (¬ Past → Alone (.gradientCheck n k a b va vb 3) fun _ y => y.jsp = x.jsp ∧ y.get R.ISL_GRAD_COUNT = x.get R.ISL_GRAD_COUNT)
        ∧ (Past → bit (x.get R.JSP_FUSE_OFF_FUSED) 11 = false → Alone (.gradientCheck n k a b va vb 3) fun _ y => y.get R.ISL_GRAD_ISLAND_A = a
          ∧ y.get R.ISL_GRAD_ISLAND_B = b ∧ y.get R.ISL_GRAD_KIND = k ∧ y.flag R.ISL_STATUS_GRAD_SEEN = true
          ∧ y.get R.ISL_GRAD_COUNT = min (x.get R.ISL_GRAD_COUNT + 1) 65535
          ∧ ∃ f, y.jsp.events.head? = some f ∧ f.src = 11 ∧ (f.island = a ∨ f.island = b)))
    ∧ (a ≤ 20 → x.fenced.contains a = true → exec (.gradientCheck n k a b va vb det) s = .next s)
    -- a pair of the ring: temperature alone
    ∧ (x.mode ≠ 0 → 24 ≤ a → a ≤ 26 → 24 ≤ b → b ≤ 26 → k ≠ 2 → exec (.gradientCheck n k a b va vb det) s = .next s)
    ∧ (x.mode ≠ 0 → 24 ≤ a → a ≤ 26 → 24 ≤ b → b ≤ 26 → 300 < Machine.dist va vb → Alone (.gradientCheck n 2 a b va vb 3) fun _ y =>
        y.get R.ISL_GRAD_ISLAND_A = a ∧ y.get R.ISL_GRAD_ISLAND_B = b ∧ y.get R.ISL_GRAD_KIND = 2)
    -- R626: aging
    ∧ (x.mode ≠ 0 → i ≤ 20 → x.fenced.contains i = false → v < x.get R.HLT_CTL_AGE_MIN → v < 256 →
      (Strand.kindOf i ≠ 0 → x.flag R.HLT_CTL_AUTO_AGE = true → x.spareOf (Strand.kindOf i) = true → x.hlt.cur = none →
        Alone (.agingWorn n i v) fun _ y => y.flag R.ISL_AGE_WORN i = true ∧ y.get R.ISL_AGE_MARGIN i = v ∧ Asked y ⟨Strand.kindOf i, i, 0, 0⟩)
      ∧ (Strand.kindOf i = 0 → x.get R.ISL_AGE_STEP i < 4 → Alone (.agingWorn n i v) fun _ y => y.get R.ISL_AGE_STEP i = x.get R.ISL_AGE_STEP i + 1
        ∧ y.get R.ISL_CLK_MHZ i = setMhz i * (19 - x.get R.ISL_AGE_STEP i) / 20 / (if Strand.throttled i = true ∧ x.flag R.JSP_STATUS_THROTTLED = true then 2 else 1)
        ∧ y.hlt = x.hlt ∧ y.jsp.alarm = x.jsp.alarm ∧ ∃ r, y.jsp.logQ = x.jsp.logQ ++ [r] ∧ r.f.src = 14 ∧ r.f.island = i ∧ r.f.note = true)
      ∧ (Strand.kindOf i = 0 → 4 ≤ x.get R.ISL_AGE_STEP i → Alone (.agingWorn n i v) fun _ y => ∃ f, y.jsp.alarm = x.jsp.alarm ++ [f] ∧ f.src = 14 ∧ f.rank = 2
        ∧ f.island = i))
    ∧ (x.get R.HLT_CTL_AGE_MIN ≤ v → exec (.agingWorn n i v) s = .next s)
    ∧ (x.mode ≠ 0 → i ≤ 20 → x.fenced.contains i = false → x.flag R.ISL_ERR_VALID = false → Alone (.agingWorn n i v false) fun _ y =>
        y.get R.ISL_ERR_CODE = 3 ∧ y.get R.ISL_ERR_INFO_ISLAND = i ∧ y.hlt = x.hlt ∧ y.get R.ISL_AGE_STEP i = x.get R.ISL_AGE_STEP i)
    -- R592, R628 to R631: a swap
    ∧ (x.halted = false →
      (x.mode ≠ 0 → bits v 24 8 = 0x5C →
        let r : SwapReq := ⟨bits v 0 4, bits v 4 5, bits v 9 13, 0⟩
        (r.kind = 0 ∨ 5 < r.kind ∨ (r.kind ≤ 3 ∧ Strand.kindOf r.island ≠ r.kind) ∨ (r.kind = 4 ∧ 8192 ≤ r.row) ∨ (r.kind = 5 ∧ 20 < r.island) → Alone (.hltSwapWrite n v) fun _ y => y.hlt = x.hlt ∧ y.flag R.HLT_ERR_VALID = true)
        ∧ (r.kind ≠ 0 → r.kind ≤ 5 → (r.kind ≤ 3 → Strand.kindOf r.island = r.kind) → (r.kind = 4 → r.row < 8192) → (r.kind = 5 → r.island ≤ 20) →
            x.spareOf r.kind = true →
            (x.hlt.cur = none → Alone (.hltSwapWrite n v) fun _ y => Asked y r)
            ∧ (∀ q, x.hlt.cur = some q → x.hlt.queue.length < 16 → Alone (.hltSwapWrite n v) fun _ y => y.hlt = { x.hlt with queue := x.hlt.queue ++ [r] })
            ∧ (∀ q, x.hlt.cur = some q → 16 ≤ x.hlt.queue.length → Alone (.hltSwapWrite n v) fun _ y => y.hlt = x.hlt ∧ y.flag R.HLT_ERR_VALID = true)))
      ∧ ∀ r, x.hlt.cur = some r →
        (x.hlt.st = 1 → x.swapBoundary r = true →
          (Alone (.swapDecision n true) fun _ y => y.hlt.st = 3 ∧ y.hlt.cur = some r ∧ y.fenced = x.fenced)
          ∧ (r.misses = 0 → Alone (.swapDecision n false) fun _ y => y.hlt.cur = some { r with misses := 1 } ∧ y.hlt.st = 1)
          ∧ (r.misses ≠ 0 → Alone (.swapDecision n false) fun _ y => y.hlt.out.contains r.kind = true ∧ y.flag R.HLT_STATUS_ABANDONED = true))
        ∧ (x.hlt.st = 1 → x.swapBoundary r = false → ∀ agree, exec (.swapDecision n agree) s = .next s)
        ∧ (x.hlt.st ≠ 3 → ∀ ok, exec (.swapMoveDone n ok) s = .next s)
        ∧ (x.hlt.st = 3 → Alone (.swapMoveDone n false) fun _ y => y.flag R.HLT_STATUS_ABANDONED = true ∧ (x.flag R.HLT_ERR_VALID = false → y.get R.HLT_ERR_CODE = 2)
          ∧ (x.hlt.queue = [] → y.hlt.cur = none) ∧ y.fenced = x.fenced ∧ y.nv.rowsUsed = x.nv.rowsUsed ∧ y.nv.pairsUsed = x.nv.pairsUsed)
        ∧ (x.hlt.st = 3 → Goes (.swapMoveDone n) fun t y => t.mem = s.mem
          ∧ (x.hlt.queue = [] → 2 ≤ r.kind → y.hlt.cur = none ∧ y.hlt.st = 0)
          ∧ (r.kind = 2 ∨ r.kind = 3 → y.fenced.contains r.island = true)
          ∧ (r.kind = 2 → y.get R.BER_STATUS_SPARE = 7)
          ∧ (r.kind = 1 → ∀ c, x.logicalOf r.island = some c → x.fenced.contains r.island = false → y.phys c.val = x.get R.GAR_STATUS_SPARE ∧ y.get R.GAR_STATUS_SPARE = 7
              ∧ (y.core c).running = true ∧ (y.core c).ilines = [] ∧ (y.core c).dlines = [] ∧ y.fenced.contains r.island = true)
          ∧ (r.kind = 4 → y.nv.rowsUsed = x.nv.rowsUsed + 1)
          ∧ (r.kind = 5 → y.nv.pairsUsed = x.nv.pairsUsed + 1)))
    ∧ (bits v 24 8 ≠ 0x5C → exec (.hltSwapWrite n v) s = .next s)
    -- R305, R310: an engine fenced by its check codes
    ∧ (∀ key, x.mode ≠ 0 → i < 5 → x.fenced.contains (7 + i) = false → Goes (.berylFence n i key) fun t y => t.mem = s.mem ∧ y.fenced.contains (7 + i) = true
        ∧ y.berRun i = none ∧ (x.flag R.BER_ERR_VALID = false → y.get R.BER_ERR_CODE = (if key then 1 else 2) ∧ y.get R.BER_ERR_INFO_ENGINE = i)
        ∧ ∀ r, x.berRun i = some r → r.job.cop = none → x.halted = false → ∃ d ∈ y.done, d.job.id = r.job.id ∧ d.status = 0x7F)
    ∧ (∀ key, 5 ≤ i ∨ x.fenced.contains (7 + i) = true → exec (.berylFence n i key) s = .next s)
    -- R622 to R625: the snapshot
    ∧ (let Begun := fun (x y : Strand) (src : Nat) => (x.snap = none → y.snap = some {} ∧ y.flag R.SNP_STATUS_HELD = true ∧ y.flag R.SNP_STATUS_DONE = false
          ∧ y.get R.SNP_STATUS_SOURCE = src)
        ∧ (x.snap ≠ none → y.snap = x.snap ∧ y.get R.SNP_STATUS_MISSED = min (x.get R.SNP_STATUS_MISSED + 1) 255)
      (Alone (.snpTrigger n (.core n c 0)) fun _ y => Begun x y 3)
      ∧ (Alone (.snpRelease n (.core n c 0)) fun _ y => y.snap = none ∧ y.flag R.SNP_STATUS_HELD = false)
      ∧ exec (.snpTrigger n (.core n c 1)) s = .next { s with resp := .error } ∧ exec (.snpRelease n (.core n c 1)) s = .next { s with resp := .error }
      ∧ (bits v 24 8 = 0x53 → s.ring.rsFailed = false → Goes (.rngSnapWrite .manager v) fun t _ => t.mem = s.mem ∧ ∀ m, if bit v (s.sd m).id.val = true then Begun (s.sd m) (t.sd m) 2 else t.sd m = s.sd m)
      ∧ (s.ring.power = true → 20 ≤ i → Goes (.snapInEdge i) fun t _ => t.mem = s.mem ∧ ∀ m, if (s.sd m).flag R.SNP_CTL_SNAP_IN_EN = true ∧ (s.sd m).mode ≠ 0
          then Begun (s.sd m) (t.sd m) 1 else t.sd m = s.sd m))
    ∧ (bits v 24 8 ≠ 0x53 ∨ s.ring.rsFailed = true → exec (.rngSnapWrite .manager v) s = .next s)
    ∧ (i < 20 → exec (.snapInEdge i) s = .next s)
    ∧ (∀ items quiet,
      (x.snap = none → exec (.snapshotToken n i k items quiet) s = .next s)
      ∧ (∀ kb, 20 < i → i < 24 ∨ 26 < i → exec (.snapshotToken n i k items quiet kb) s = .next s)
      ∧ (∀ q, x.snap = some q → 24 ≤ i → i ≤ 26 → x.fenced.contains i = false → (∀ z ∈ q.islands, z.code ≠ i) → Alone (.snapshotToken n i k items false) fun _ y =>
          if (i = 24 ∧ s.ring.hpFailed = true) ∨ (i = 25 ∧ s.ring.tfFailed = true) ∨ (i = 26 ∧ s.ring.rsFailed = true)
          then y.snap = x.snap ∧ bit (y.get R.SNP_ABSENT_RING) (i - 24) = true
          else ∃ z, z.code = i ∧ z.words = islandWords s n i ∧ y.snap = some { q with islands := q.islands ++ [z] })
      ∧ ∀ q, x.snap = some q → i ≤ 20 →
        (x.fenced.contains i = true → Alone (.snapshotToken n i k items false) fun _ y => y.snap = x.snap ∧ bit (y.get R.SNP_ABSENT_ISLANDS) i = true)
        ∧ (x.fenced.contains i = false → (∀ z ∈ q.islands, z.code ≠ i) → Alone (.snapshotToken n i k items false) fun _ y => ∃ z, z.code = i ∧ z.words = islandWords s n i
            ∧ y.snap = some { q with islands := q.islands ++ [z] })
        ∧ (x.fenced.contains i = false → (∃ z ∈ q.islands, z.code = i) → (∀ z ∈ q.chans, ¬ (z.island = i ∧ z.chan = k)) →
            (Alone (.snapshotToken n i k items false) fun _ y => y.snap = some { q with chans := q.chans ++ [⟨i, k, true, items.take 4⟩] })
            ∧ Alone (.snapshotToken n i k items false true) fun _ y => y.snap = some { q with chans := q.chans ++ [⟨i, k, true, (items.take 4).map fun _ => []⟩] })
        ∧ ((∀ m, m < 21 → m = i ∨ x.fenced.contains m = true ∨ ∃ z ∈ q.islands, z.code = m) →
            Alone (.snapshotToken n i k items true) fun _ y => y.flag R.SNP_STATUS_DONE = true))
    -- the package
    ∧ (s.ring.power = true →
      (∀ h : Int, Goes (.thermNThreshold h) fun t _ => t = { s with ring := { s.ring with thermLow := if h > 1000 then true else if h < 950 then false else s.ring.thermLow } })
      ∧ (s.ring.rsFailed = false → i ≤ 20000 → Goes (.supplyGlitch i) fun t _ => t.strands = s.strands ∧ t.mem = s.mem
          ∧ t.rget R.RNG_SUP_GLITCH = min (s.rget R.RNG_SUP_GLITCH + 1) (2 ^ 32 - 1))
      ∧ (∀ digest rk, s.ring.rsFailed = false → s.lifeInvalid = false →
        (s.life = 0 → Goes (.makerLifecycleProgram digest rk true) fun t _ => t.life = 1 ∧ t.ring.ident.makerDigest = digest ∧ t.ring.ident.returnDigest = rk)
        ∧ (s.life = 1 → Goes (.makerLifecycleProgram digest rk true) fun t _ => t.life = 2 ∧ t.ring.ident.makerDigest = s.ring.ident.makerDigest)
        ∧ (s.life ≤ 1 → Goes (.makerLifecycleProgram digest rk false) fun t y => t.ring = s.ring ∧ t.mem = s.mem
            ∧ (x.halted = false → y.get R.JSP_SRC_CNT_EVENTS 12 = min (x.get R.JSP_SRC_CNT_EVENTS 12 + 1) 65535))
        ∧ (2 ≤ s.life → ∀ agree, exec (.makerLifecycleProgram digest rk agree) s = .next s))
      ∧ (s.life = 1 → i ∈ [2, 3, 7, 8, 9, 10] → Goes (.sourceFuseOff i) fun t _ => t.ring.ident.sourceOff = s.ring.ident.sourceOff ||| 2 ^ i
          ∧ ∀ m, bit ((t.sd m).get R.JSP_FUSE_OFF_FUSED) i = true))
    ∧ (s.life ≠ 1 → exec (.sourceFuseOff i) s = .next s)
    ∧ (s.debugReach = true → Goes (.testProbeSession true) fun t _ => t.mem = s.mem ∧ ∀ m, (s.sd m).mode ≠ 0 → (t.sd m).flag R.JSP_STATUS_TEST = true)
    ∧ (s.debugReach = false → exec (.testProbeSession true) s = .next s)
    ∧ Goes (.testProbeSession false) fun t _ => ∀ m, (s.sd m).mode ≠ 0 → (t.sd m).flag R.JSP_STATUS_TEST = false

/-! ### The block as a whole -/

/-- A step runs the command at the front of the queue with the queue's rest; with none waiting, the block idles for one nanosecond (log
entry 34: the model's choice). -/
def Obligations.StepRunsTheFrontCommand : Prop :=
  (∀ (c : Instr) (rest : List Instr) (s : State), s.pending = c :: rest → step s = exec c { s with pending := rest })
  ∧ ∀ s : State, s.pending = [] → step s = .next { s with now := s.now + 1 }

/-- R20, R37, R51, R67, R73: right after reset no command waits, every strand is in CHARTER and not HALTED, nothing is admitted, the fuses read
BLANK, every memory is empty, and the canonical form holds. -/
def Obligations.ResetState : Prop :=
  let s := State.reset
  s.pending = [] ∧ s.mem = [] ∧ s.life = 0 ∧ s.lifeInvalid = false ∧ s.ring.power = true ∧ Canonical s
    ∧ ∀ n : Fin 4, (s.sd n).id = n ∧ (s.sd n).mode = 1 ∧ (s.sd n).halted = false ∧ (s.sd n).nv.roots = [] ∧ (s.sd n).post.batches = []
      ∧ (s.sd n).links = [] ∧ (s.sd n).taken = [] ∧ (s.sd n).jsp.alarm = [] ∧ (s.sd n).snap = none
      ∧ ∀ c : Fin 4, (s.core n c).running = false ∧ (s.core n c).bank = 0

/-- No command stops the block, and no command reaches the queue: the commands that wait behind it stay as they are, in order. -/
def Obligations.EveryCommandCompletesAndLeavesTheQueue : Prop :=
  ∀ (c : Instr) (s : State), ∃ t, exec c s = .next t ∧ t.pending = s.pending

/-- Every step keeps the canonical form of host memory, of each strand's work SRAM, of its flash array and of the register files: addresses strictly rising, and
no cell listed that holds what an unlisted one reads as. So equal contents are equal data, whichever commands wrote them. -/
def Obligations.StepsKeepTheCanonicalForm : Prop :=
  ∀ (s t : State), Canonical s → step s = .next t → Canonical t

/-- R68: no step clears a fuse, so the life-cycle state only advances; a code with a 1 above a 0 decodes as SCRAPPED and sets
CHT_LIFECYCLE.INVALID. -/
def Obligations.LifecycleOnlyAdvances : Prop :=
  (∀ (s t : State), step s = .next t →
    let f := s.ring.ident.life
    let g := t.ring.ident.life
    f.a ||| g.a = g.a ∧ f.b ||| g.b = g.b ∧ f.c ||| g.c = g.c ∧ s.life ≤ t.life)
  ∧ ∀ (s : State) (i j : Nat), i < j → j < 6 → bit s.lifeCode j = true → bit s.lifeCode i = false → s.life = 5 ∧ s.lifeInvalid = true
    ∧ ∀ n : Fin 4, R.CHT_LIFECYCLE_STATE.ofWord (s.strandWord n R.CHT_LIFECYCLE_STATE.off) = 5
      ∧ R.CHT_LIFECYCLE_INVALID.ofWord (s.strandWord n R.CHT_LIFECYCLE_INVALID.off) = 1
end

