-- ==== Sys2Proof/Laws/Flash.lean ====
section
/-! SUPPORT. The flash array: what a word reads after another is written, that every change keeps the canonical form, and that a stored
word reads back clean. -/

namespace Sys2Proof.Machine
open Sys2Proof

theorem Flash.cell_cons (c : Nat × BitVec 72) (r : FlashCells) (y : Nat) :
    Flash.cell (c :: r) y = if c.1 = y then c.2 else Flash.cell r y := by
  by_cases h : c.1 = y <;> simp [Flash.cell, h]

theorem Flash.cell_insertCell {l : FlashCells} {k : Nat} (w : BitVec 72) (y : Nat) (h : ∀ c ∈ l, c.1 ≠ k) :
    Flash.cell (Flash.insertCell l k w) y = if y = k then w else Flash.cell l y := by
  induction l with
  | nil => rw [insertCell, cell_cons]; grind
  | cons c r ih =>
    have h0 := h c (by simp)
    have ih := ih fun d hd => h d (by simp [hd])
    simp only [insertCell]
    split
    · rw [cell_cons]; grind
    · rw [cell_cons, ih, cell_cons]; grind

theorem Flash.cell_filter_ne (l : FlashCells) (k y : Nat) (h : y ≠ k) :
    Flash.cell (l.filter fun c => c.1 != k) y = Flash.cell l y := by
  induction l with
  | nil => rfl
  | cons c r ih =>
    rw [List.filter_cons]
    split
    · rw [cell_cons, cell_cons, ih]
    · rw [cell_cons, ih]; simp_all; grind

theorem Flash.cell_filter_self (l : FlashCells) (k : Nat) : Flash.cell (l.filter fun c => c.1 != k) k = BitVec.allOnes 72 := by
  have : (l.filter fun c => c.1 != k).find? (·.1 == k) = none := by simp
  simp [Flash.cell, this]

/-- A read after a write of a word. -/
theorem Flash.cell_setCell (l : FlashCells) (k y : Nat) (w : BitVec 72) :
    Flash.cell (Flash.setCell l k w) y = if y = k then w else Flash.cell l y := by
  simp only [Flash.setCell]
  split
  · next hw =>
    split
    · next hy => subst hy hw; exact cell_filter_self l y
    · next hy => exact cell_filter_ne l k y hy
  · rw [cell_insertCell w y (by simp)]
    split
    · rfl
    · next hy => exact cell_filter_ne l k y hy

theorem Flash.cellsFrom_le {lo lo' : Nat} {l : FlashCells} (h : Flash.cellsFrom lo l = true) (hl : lo' ≤ lo) :
    Flash.cellsFrom lo' l = true := by
  cases l with
  | nil => rfl
  | cons c r =>
    simp only [cellsFrom, Bool.and_eq_true, decide_eq_true_eq] at h ⊢
    exact ⟨⟨Nat.le_trans hl h.1.1, h.1.2⟩, h.2⟩

/-- Dropping words keeps the canonical form. -/
theorem Flash.cellsFrom_filter {lo : Nat} {l : FlashCells} (f : Nat × BitVec 72 → Bool) (h : Flash.cellsFrom lo l = true) :
    Flash.cellsFrom lo (l.filter f) = true := by
  induction l generalizing lo with
  | nil => rfl
  | cons c r ih =>
    simp only [cellsFrom, Bool.and_eq_true, decide_eq_true_eq] at h
    simp only [List.filter_cons]
    split
    · simp only [cellsFrom, Bool.and_eq_true, decide_eq_true_eq]; exact ⟨h.1, ih h.2⟩
    · exact ih (cellsFrom_le h.2 (by omega))

theorem Flash.cellsFrom_insertCell {lo k : Nat} {l : FlashCells} {w : BitVec 72} (h : Flash.cellsFrom lo l = true) (hk : lo ≤ k)
    (hn : ∀ c ∈ l, c.1 ≠ k) (hw : w ≠ BitVec.allOnes 72) : Flash.cellsFrom lo (Flash.insertCell l k w) = true := by
  induction l generalizing lo with
  | nil => simpa [insertCell, cellsFrom, hk] using hw
  | cons c r ih =>
    have h0 := hn c (by simp)
    simp only [cellsFrom, Bool.and_eq_true, decide_eq_true_eq] at h
    simp only [insertCell]
    split
    · simp only [cellsFrom, Bool.and_eq_true, decide_eq_true_eq]
      exact ⟨⟨hk, hw⟩, ⟨by omega, h.1.2⟩, h.2⟩
    · simp only [cellsFrom, Bool.and_eq_true, decide_eq_true_eq]
      exact ⟨h.1, ih h.2 (by omega) fun d hd => hn d (by simp [hd])⟩

/-- Writing a word keeps the canonical form. -/
theorem Flash.cellsFrom_setCell {l : FlashCells} (k : Nat) (w : BitVec 72) (h : Flash.cellsFrom 0 l = true) :
    Flash.cellsFrom 0 (Flash.setCell l k w) = true := by
  simp only [setCell]
  split
  · exact cellsFrom_filter _ h
  · exact cellsFrom_insertCell (cellsFrom_filter _ h) (Nat.zero_le k) (by simp) ‹_›

theorem Flash.wf_iff (f : Flash) : f.wf = true ↔ Flash.cellsFrom 0 f.data = true ∧ Flash.cellsFrom 0 f.heads = true := by
  simp [Flash.wf]

/-- Blanking a physical block keeps the canonical form. -/
theorem Flash.wf_blank {f : Flash} (p : Nat) (h : f.wf = true) : (f.blank p).wf = true := by
  rw [wf_iff] at h ⊢
  exact ⟨cellsFrom_filter _ h.1, cellsFrom_filter _ h.2⟩

/-- Erasing a physical block keeps the canonical form. -/
theorem Flash.wf_erased {f : Flash} (p i : Nat) (state : BitVec 64) (h : f.wf = true) : (f.erased p i state).wf = true := by
  have hb := (wf_iff _).1 (wf_blank p h)
  exact (wf_iff _).2 ⟨hb.1, cellsFrom_setCell _ _ (cellsFrom_setCell _ _ hb.2)⟩

/-- Remapping or closing records does not touch the array. -/
theorem Flash.wf_remap {f : Flash} (i p : Nat) (h : f.wf = true) : (f.remap i p).wf = true := h

theorem Flash.wf_close {f : Flash} (i : Nat) (h : f.wf = true) : (f.close i).wf = true := h

/-! ### Check bytes -/

/-- Whether a check byte has an odd number of ones. -/
def Ecc.odd8 (x : BitVec 8) : Bool :=
  x.getLsbD 0 ^^ x.getLsbD 1 ^^ x.getLsbD 2 ^^ x.getLsbD 3 ^^ x.getLsbD 4 ^^ x.getLsbD 5 ^^ x.getLsbD 6 ^^ x.getLsbD 7

/-- Whether so many data bits from a place on have an odd number of ones. -/
def Ecc.oddFrom (d : BitVec 64) : Nat → Nat → Bool
  | _, 0 => false
  | i, n + 1 => d.getLsbD i ^^ Ecc.oddFrom d (i + 1) n

theorem Ecc.odd8_xor (a b : BitVec 8) : odd8 (a ^^^ b) = (odd8 a ^^ odd8 b) := by
  have sw : ∀ p q r s : Bool, ((p ^^ q) ^^ (r ^^ s)) = ((p ^^ r) ^^ (q ^^ s)) := by decide
  simp only [odd8, BitVec.getLsbD_xor]
  rw [sw _ _ (a.getLsbD 1), sw _ _ (a.getLsbD 2), sw _ _ (a.getLsbD 3), sw _ _ (a.getLsbD 4), sw _ _ (a.getLsbD 5), sw _ _ (a.getLsbD 6),
    sw _ _ (a.getLsbD 7)]

theorem Ecc.odd8_col : ∀ p ∈ places, odd8 (col p) = true := by decide +kernel

theorem Ecc.odd8_fold (d : BitVec 64) (i : Nat) (l : List Nat) (h : ∀ p ∈ l, odd8 (col p) = true) :
    (odd8 (fold d i l) ^^ oddFrom d i l.length) = (l.length % 2 == 1) := by
  induction l generalizing i with
  | nil => simp only [fold]; rfl
  | cons p r ih =>
    have ih := ih (i + 1) fun q hq => h q (by simp [hq])
    have hp := h p (by simp)
    have step : (odd8 (fold d i (p :: r)) ^^ oddFrom d i (p :: r).length)
        = !(odd8 (fold d (i + 1) r) ^^ oddFrom d (i + 1) r.length) := by
      rw [fold, odd8_xor, List.length_cons, oddFrom]
      have h0 : odd8 0#8 = false := rfl
      cases d.getLsbD i <;> simp [hp, h0]
    rw [step, ih, List.length_cons]
    rcases Nat.mod_two_eq_zero_or_one r.length with e | e <;> simp [e, Nat.add_mod]

theorem Ecc.odd_sum (f : Nat → Bool) (l : List Nat) : ((l.map fun k => b2n (f k)).sum % 2 == 1) = l.foldr (fun k b => f k ^^ b) false := by
  induction l with
  | nil => rfl
  | cons k r ih =>
    rw [List.map_cons, List.sum_cons, List.foldr_cons, ← ih]
    generalize (r.map fun k => b2n (f k)).sum = x
    cases f k <;> rcases Nat.mod_two_eq_zero_or_one x with e | e <;> simp [b2n, e, Nat.add_mod]

theorem Ecc.foldr_oddFrom (d : BitVec 64) (n i : Nat) (b : Bool) :
    (List.range' i n).foldr (fun k b => d.getLsbD k ^^ b) b = (oddFrom d i n ^^ b) := by
  induction n generalizing i with
  | zero => simp [oddFrom]
  | succ n ih => simp [List.range'_succ, oddFrom, ih]

theorem Ecc.parity_word (d : BitVec 64) : parity (word d) = false := by
  have e : parity (word d) = (oddFrom d 0 64 ^^ odd8 (check d)) := by
    rw [parity, odd_sum]
    have hr : List.range 72 = List.range' 0 64 ++ (List.range 8).map (64 + ·) := by decide
    rw [hr, List.foldr_append]
    have h1 : (List.map (fun x => 64 + x) (List.range 8)).foldr (fun k b => (word d).getLsbD k ^^ b) false = odd8 (check d) := by
      simp only [List.range, List.range.loop, List.map, List.foldr, odd8, word, BitVec.getLsbD_append]
      simp
    rw [h1, ← foldr_oddFrom]
    refine List.foldr_ext _ _ _ ?_
    intro k hk b
    have : k < 64 := by simpa using hk
    simp only [word, BitVec.getLsbD_append, this, if_true]
  have hl : places.length = 64 := by decide +kernel
  have hf := odd8_fold d 0 places odd8_col
  rw [hl] at hf
  rw [e, check, odd8_xor, Bool.xor_comm (odd8 0xFF), ← Bool.xor_assoc, Bool.xor_comm (oddFrom d 0 64), hf]
  rfl

/-- A stored word reads back clean. -/
theorem Ecc.decode_word (d : BitVec 64) : decode (word d) = (d, 0) := by
  have h1 : (word d).setWidth 64 = d := by
    apply BitVec.eq_of_getLsbD_eq; intro i hi
    simp only [word, BitVec.getLsbD_setWidth, BitVec.getLsbD_append, hi, decide_true, Bool.true_and, if_true]
  have h2 : ((word d) >>> 64).setWidth 8 = check d := by
    apply BitVec.eq_of_getLsbD_eq; intro i hi
    simp only [word, BitVec.getLsbD_setWidth, BitVec.getLsbD_ushiftRight, BitVec.getLsbD_append, hi]
    simp
  simp [decode, parity_word, h1, h2]

end Sys2Proof.Machine
end

