-- ==== Sys2Proof/Laws/State.lean ====
section
/-! SUPPORT. What the updates of the state leave alone and what they set: one lemma per field per update, true by unfolding
the record. -/

namespace Sys2Proof.Machine
open Sys2Proof

namespace Strand

@[simp] theorem wr_id (st : Strand) (o : Nat) (w : Word) : (st.wr o w).id = st.id := rfl
@[simp] theorem put_id (st : Strand) (f : Fld) (v k : Nat) : (st.put f v k).id = st.id := rfl
@[simp] theorem add_id (st : Strand) (f : Fld) (v k : Nat) : (st.add f v k).id = st.id := rfl
@[simp] theorem bump_id (st : Strand) (f : Fld) (k : Nat) : (st.bump f k).id = st.id := rfl
@[simp] theorem wr_nv (st : Strand) (o : Nat) (w : Word) : (st.wr o w).nv = st.nv := rfl
@[simp] theorem put_nv (st : Strand) (f : Fld) (v k : Nat) : (st.put f v k).nv = st.nv := rfl
@[simp] theorem add_nv (st : Strand) (f : Fld) (v k : Nat) : (st.add f v k).nv = st.nv := rfl
@[simp] theorem bump_nv (st : Strand) (f : Fld) (k : Nat) : (st.bump f k).nv = st.nv := rfl
@[simp] theorem wr_staged (st : Strand) (o : Nat) (w : Word) : (st.wr o w).staged = st.staged := rfl
@[simp] theorem put_staged (st : Strand) (f : Fld) (v k : Nat) : (st.put f v k).staged = st.staged := rfl
@[simp] theorem add_staged (st : Strand) (f : Fld) (v k : Nat) : (st.add f v k).staged = st.staged := rfl
@[simp] theorem bump_staged (st : Strand) (f : Fld) (k : Nat) : (st.bump f k).staged = st.staged := rfl
@[simp] theorem wr_hiLatch (st : Strand) (o : Nat) (w : Word) : (st.wr o w).hiLatch = st.hiLatch := rfl
@[simp] theorem put_hiLatch (st : Strand) (f : Fld) (v k : Nat) : (st.put f v k).hiLatch = st.hiLatch := rfl
@[simp] theorem add_hiLatch (st : Strand) (f : Fld) (v k : Nat) : (st.add f v k).hiLatch = st.hiLatch := rfl
@[simp] theorem bump_hiLatch (st : Strand) (f : Fld) (k : Nat) : (st.bump f k).hiLatch = st.hiLatch := rfl
@[simp] theorem wr_draws (st : Strand) (o : Nat) (w : Word) : (st.wr o w).draws = st.draws := rfl
@[simp] theorem put_draws (st : Strand) (f : Fld) (v k : Nat) : (st.put f v k).draws = st.draws := rfl
@[simp] theorem add_draws (st : Strand) (f : Fld) (v k : Nat) : (st.add f v k).draws = st.draws := rfl
@[simp] theorem bump_draws (st : Strand) (f : Fld) (k : Nat) : (st.bump f k).draws = st.draws := rfl
@[simp] theorem wr_accepted (st : Strand) (o : Nat) (w : Word) : (st.wr o w).accepted = st.accepted := rfl
@[simp] theorem put_accepted (st : Strand) (f : Fld) (v k : Nat) : (st.put f v k).accepted = st.accepted := rfl
@[simp] theorem add_accepted (st : Strand) (f : Fld) (v k : Nat) : (st.add f v k).accepted = st.accepted := rfl
@[simp] theorem bump_accepted (st : Strand) (f : Fld) (k : Nat) : (st.bump f k).accepted = st.accepted := rfl
@[simp] theorem wr_startedAt (st : Strand) (o : Nat) (w : Word) : (st.wr o w).startedAt = st.startedAt := rfl
@[simp] theorem put_startedAt (st : Strand) (f : Fld) (v k : Nat) : (st.put f v k).startedAt = st.startedAt := rfl
@[simp] theorem add_startedAt (st : Strand) (f : Fld) (v k : Nat) : (st.add f v k).startedAt = st.startedAt := rfl
@[simp] theorem bump_startedAt (st : Strand) (f : Fld) (k : Nat) : (st.bump f k).startedAt = st.startedAt := rfl
@[simp] theorem wr_pairDue (st : Strand) (o : Nat) (w : Word) : (st.wr o w).pairDue = st.pairDue := rfl
@[simp] theorem put_pairDue (st : Strand) (f : Fld) (v k : Nat) : (st.put f v k).pairDue = st.pairDue := rfl
@[simp] theorem add_pairDue (st : Strand) (f : Fld) (v k : Nat) : (st.add f v k).pairDue = st.pairDue := rfl
@[simp] theorem bump_pairDue (st : Strand) (f : Fld) (k : Nat) : (st.bump f k).pairDue = st.pairDue := rfl
@[simp] theorem wr_retry (st : Strand) (o : Nat) (w : Word) : (st.wr o w).retry = st.retry := rfl
@[simp] theorem put_retry (st : Strand) (f : Fld) (v k : Nat) : (st.put f v k).retry = st.retry := rfl
@[simp] theorem add_retry (st : Strand) (f : Fld) (v k : Nat) : (st.add f v k).retry = st.retry := rfl
@[simp] theorem bump_retry (st : Strand) (f : Fld) (k : Nat) : (st.bump f k).retry = st.retry := rfl
@[simp] theorem wr_freezeOpen (st : Strand) (o : Nat) (w : Word) : (st.wr o w).freezeOpen = st.freezeOpen := rfl
@[simp] theorem put_freezeOpen (st : Strand) (f : Fld) (v k : Nat) : (st.put f v k).freezeOpen = st.freezeOpen := rfl
@[simp] theorem add_freezeOpen (st : Strand) (f : Fld) (v k : Nat) : (st.add f v k).freezeOpen = st.freezeOpen := rfl
@[simp] theorem bump_freezeOpen (st : Strand) (f : Fld) (k : Nat) : (st.bump f k).freezeOpen = st.freezeOpen := rfl
@[simp] theorem wr_ceremonyBeat (st : Strand) (o : Nat) (w : Word) : (st.wr o w).ceremonyBeat = st.ceremonyBeat := rfl
@[simp] theorem put_ceremonyBeat (st : Strand) (f : Fld) (v k : Nat) : (st.put f v k).ceremonyBeat = st.ceremonyBeat := rfl
@[simp] theorem add_ceremonyBeat (st : Strand) (f : Fld) (v k : Nat) : (st.add f v k).ceremonyBeat = st.ceremonyBeat := rfl
@[simp] theorem bump_ceremonyBeat (st : Strand) (f : Fld) (k : Nat) : (st.bump f k).ceremonyBeat = st.ceremonyBeat := rfl
@[simp] theorem wr_newOwner (st : Strand) (o : Nat) (w : Word) : (st.wr o w).newOwner = st.newOwner := rfl
@[simp] theorem put_newOwner (st : Strand) (f : Fld) (v k : Nat) : (st.put f v k).newOwner = st.newOwner := rfl
@[simp] theorem add_newOwner (st : Strand) (f : Fld) (v k : Nat) : (st.add f v k).newOwner = st.newOwner := rfl
@[simp] theorem bump_newOwner (st : Strand) (f : Fld) (k : Nat) : (st.bump f k).newOwner = st.newOwner := rfl
@[simp] theorem wr_chkAt (st : Strand) (o : Nat) (w : Word) : (st.wr o w).chkAt = st.chkAt := rfl
@[simp] theorem put_chkAt (st : Strand) (f : Fld) (v k : Nat) : (st.put f v k).chkAt = st.chkAt := rfl
@[simp] theorem add_chkAt (st : Strand) (f : Fld) (v k : Nat) : (st.add f v k).chkAt = st.chkAt := rfl
@[simp] theorem bump_chkAt (st : Strand) (f : Fld) (k : Nat) : (st.bump f k).chkAt = st.chkAt := rfl
@[simp] theorem wr_post (st : Strand) (o : Nat) (w : Word) : (st.wr o w).post = st.post := rfl
@[simp] theorem put_post (st : Strand) (f : Fld) (v k : Nat) : (st.put f v k).post = st.post := rfl
@[simp] theorem add_post (st : Strand) (f : Fld) (v k : Nat) : (st.add f v k).post = st.post := rfl
@[simp] theorem bump_post (st : Strand) (f : Fld) (k : Nat) : (st.bump f k).post = st.post := rfl
@[simp] theorem wr_taken (st : Strand) (o : Nat) (w : Word) : (st.wr o w).taken = st.taken := rfl
@[simp] theorem put_taken (st : Strand) (f : Fld) (v k : Nat) : (st.put f v k).taken = st.taken := rfl
@[simp] theorem add_taken (st : Strand) (f : Fld) (v k : Nat) : (st.add f v k).taken = st.taken := rfl
@[simp] theorem bump_taken (st : Strand) (f : Fld) (k : Nat) : (st.bump f k).taken = st.taken := rfl
@[simp] theorem wr_done (st : Strand) (o : Nat) (w : Word) : (st.wr o w).done = st.done := rfl
@[simp] theorem put_done (st : Strand) (f : Fld) (v k : Nat) : (st.put f v k).done = st.done := rfl
@[simp] theorem add_done (st : Strand) (f : Fld) (v k : Nat) : (st.add f v k).done = st.done := rfl
@[simp] theorem bump_done (st : Strand) (f : Fld) (k : Nat) : (st.bump f k).done = st.done := rfl
@[simp] theorem wr_vault (st : Strand) (o : Nat) (w : Word) : (st.wr o w).vault = st.vault := rfl
@[simp] theorem put_vault (st : Strand) (f : Fld) (v k : Nat) : (st.put f v k).vault = st.vault := rfl
@[simp] theorem add_vault (st : Strand) (f : Fld) (v k : Nat) : (st.add f v k).vault = st.vault := rfl
@[simp] theorem bump_vault (st : Strand) (f : Fld) (k : Nat) : (st.bump f k).vault = st.vault := rfl
@[simp] theorem wr_eng (st : Strand) (o : Nat) (w : Word) : (st.wr o w).eng = st.eng := rfl
@[simp] theorem put_eng (st : Strand) (f : Fld) (v k : Nat) : (st.put f v k).eng = st.eng := rfl
@[simp] theorem add_eng (st : Strand) (f : Fld) (v k : Nat) : (st.add f v k).eng = st.eng := rfl
@[simp] theorem bump_eng (st : Strand) (f : Fld) (k : Nat) : (st.bump f k).eng = st.eng := rfl
@[simp] theorem wr_jnl (st : Strand) (o : Nat) (w : Word) : (st.wr o w).jnl = st.jnl := rfl
@[simp] theorem put_jnl (st : Strand) (f : Fld) (v k : Nat) : (st.put f v k).jnl = st.jnl := rfl
@[simp] theorem add_jnl (st : Strand) (f : Fld) (v k : Nat) : (st.add f v k).jnl = st.jnl := rfl
@[simp] theorem bump_jnl (st : Strand) (f : Fld) (k : Nat) : (st.bump f k).jnl = st.jnl := rfl
@[simp] theorem wr_mir (st : Strand) (o : Nat) (w : Word) : (st.wr o w).mir = st.mir := rfl
@[simp] theorem put_mir (st : Strand) (f : Fld) (v k : Nat) : (st.put f v k).mir = st.mir := rfl
@[simp] theorem add_mir (st : Strand) (f : Fld) (v k : Nat) : (st.add f v k).mir = st.mir := rfl
@[simp] theorem bump_mir (st : Strand) (f : Fld) (k : Nat) : (st.bump f k).mir = st.mir := rfl
@[simp] theorem wr_stations (st : Strand) (o : Nat) (w : Word) : (st.wr o w).stations = st.stations := rfl
@[simp] theorem put_stations (st : Strand) (f : Fld) (v k : Nat) : (st.put f v k).stations = st.stations := rfl
@[simp] theorem add_stations (st : Strand) (f : Fld) (v k : Nat) : (st.add f v k).stations = st.stations := rfl
@[simp] theorem bump_stations (st : Strand) (f : Fld) (k : Nat) : (st.bump f k).stations = st.stations := rfl
@[simp] theorem wr_links (st : Strand) (o : Nat) (w : Word) : (st.wr o w).links = st.links := rfl
@[simp] theorem put_links (st : Strand) (f : Fld) (v k : Nat) : (st.put f v k).links = st.links := rfl
@[simp] theorem add_links (st : Strand) (f : Fld) (v k : Nat) : (st.add f v k).links = st.links := rfl
@[simp] theorem bump_links (st : Strand) (f : Fld) (k : Nat) : (st.bump f k).links = st.links := rfl
@[simp] theorem wr_fab (st : Strand) (o : Nat) (w : Word) : (st.wr o w).fab = st.fab := rfl
@[simp] theorem put_fab (st : Strand) (f : Fld) (v k : Nat) : (st.put f v k).fab = st.fab := rfl
@[simp] theorem add_fab (st : Strand) (f : Fld) (v k : Nat) : (st.add f v k).fab = st.fab := rfl
@[simp] theorem bump_fab (st : Strand) (f : Fld) (k : Nat) : (st.bump f k).fab = st.fab := rfl
@[simp] theorem wr_jc (st : Strand) (o : Nat) (w : Word) : (st.wr o w).jc = st.jc := rfl
@[simp] theorem put_jc (st : Strand) (f : Fld) (v k : Nat) : (st.put f v k).jc = st.jc := rfl
@[simp] theorem add_jc (st : Strand) (f : Fld) (v k : Nat) : (st.add f v k).jc = st.jc := rfl
@[simp] theorem bump_jc (st : Strand) (f : Fld) (k : Nat) : (st.bump f k).jc = st.jc := rfl
@[simp] theorem wr_quorum (st : Strand) (o : Nat) (w : Word) : (st.wr o w).quorum = st.quorum := rfl
@[simp] theorem put_quorum (st : Strand) (f : Fld) (v k : Nat) : (st.put f v k).quorum = st.quorum := rfl
@[simp] theorem add_quorum (st : Strand) (f : Fld) (v k : Nat) : (st.add f v k).quorum = st.quorum := rfl
@[simp] theorem bump_quorum (st : Strand) (f : Fld) (k : Nat) : (st.bump f k).quorum = st.quorum := rfl
@[simp] theorem wr_cc (st : Strand) (o : Nat) (w : Word) : (st.wr o w).cc = st.cc := rfl
@[simp] theorem put_cc (st : Strand) (f : Fld) (v k : Nat) : (st.put f v k).cc = st.cc := rfl
@[simp] theorem add_cc (st : Strand) (f : Fld) (v k : Nat) : (st.add f v k).cc = st.cc := rfl
@[simp] theorem bump_cc (st : Strand) (f : Fld) (k : Nat) : (st.bump f k).cc = st.cc := rfl
@[simp] theorem wr_sent (st : Strand) (o : Nat) (w : Word) : (st.wr o w).sent = st.sent := rfl
@[simp] theorem put_sent (st : Strand) (f : Fld) (v k : Nat) : (st.put f v k).sent = st.sent := rfl
@[simp] theorem add_sent (st : Strand) (f : Fld) (v k : Nat) : (st.add f v k).sent = st.sent := rfl
@[simp] theorem bump_sent (st : Strand) (f : Fld) (k : Nat) : (st.bump f k).sent = st.sent := rfl
@[simp] theorem wr_jsp (st : Strand) (o : Nat) (w : Word) : (st.wr o w).jsp = st.jsp := rfl
@[simp] theorem put_jsp (st : Strand) (f : Fld) (v k : Nat) : (st.put f v k).jsp = st.jsp := rfl
@[simp] theorem add_jsp (st : Strand) (f : Fld) (v k : Nat) : (st.add f v k).jsp = st.jsp := rfl
@[simp] theorem bump_jsp (st : Strand) (f : Fld) (k : Nat) : (st.bump f k).jsp = st.jsp := rfl
@[simp] theorem wr_fenced (st : Strand) (o : Nat) (w : Word) : (st.wr o w).fenced = st.fenced := rfl
@[simp] theorem put_fenced (st : Strand) (f : Fld) (v k : Nat) : (st.put f v k).fenced = st.fenced := rfl
@[simp] theorem add_fenced (st : Strand) (f : Fld) (v k : Nat) : (st.add f v k).fenced = st.fenced := rfl
@[simp] theorem bump_fenced (st : Strand) (f : Fld) (k : Nat) : (st.bump f k).fenced = st.fenced := rfl
@[simp] theorem wr_keyBus (st : Strand) (o : Nat) (w : Word) : (st.wr o w).keyBus = st.keyBus := rfl
@[simp] theorem put_keyBus (st : Strand) (f : Fld) (v k : Nat) : (st.put f v k).keyBus = st.keyBus := rfl
@[simp] theorem add_keyBus (st : Strand) (f : Fld) (v k : Nat) : (st.add f v k).keyBus = st.keyBus := rfl
@[simp] theorem bump_keyBus (st : Strand) (f : Fld) (k : Nat) : (st.bump f k).keyBus = st.keyBus := rfl
@[simp] theorem wr_measure (st : Strand) (o : Nat) (w : Word) : (st.wr o w).measure = st.measure := rfl
@[simp] theorem put_measure (st : Strand) (f : Fld) (v k : Nat) : (st.put f v k).measure = st.measure := rfl
@[simp] theorem add_measure (st : Strand) (f : Fld) (v k : Nat) : (st.add f v k).measure = st.measure := rfl
@[simp] theorem bump_measure (st : Strand) (f : Fld) (k : Nat) : (st.bump f k).measure = st.measure := rfl
@[simp] theorem wr_cores (st : Strand) (o : Nat) (w : Word) : (st.wr o w).cores = st.cores := rfl
@[simp] theorem put_cores (st : Strand) (f : Fld) (v k : Nat) : (st.put f v k).cores = st.cores := rfl
@[simp] theorem add_cores (st : Strand) (f : Fld) (v k : Nat) : (st.add f v k).cores = st.cores := rfl
@[simp] theorem bump_cores (st : Strand) (f : Fld) (k : Nat) : (st.bump f k).cores = st.cores := rfl
@[simp] theorem wr_sram (st : Strand) (o : Nat) (w : Word) : (st.wr o w).sram = st.sram := rfl
@[simp] theorem put_sram (st : Strand) (f : Fld) (v k : Nat) : (st.put f v k).sram = st.sram := rfl
@[simp] theorem add_sram (st : Strand) (f : Fld) (v k : Nat) : (st.add f v k).sram = st.sram := rfl
@[simp] theorem bump_sram (st : Strand) (f : Fld) (k : Nat) : (st.bump f k).sram = st.sram := rfl
@[simp] theorem wr_quar (st : Strand) (o : Nat) (w : Word) : (st.wr o w).quar = st.quar := rfl
@[simp] theorem put_quar (st : Strand) (f : Fld) (v k : Nat) : (st.put f v k).quar = st.quar := rfl
@[simp] theorem add_quar (st : Strand) (f : Fld) (v k : Nat) : (st.add f v k).quar = st.quar := rfl
@[simp] theorem bump_quar (st : Strand) (f : Fld) (k : Nat) : (st.bump f k).quar = st.quar := rfl
@[simp] theorem wr_sramBad (st : Strand) (o : Nat) (w : Word) : (st.wr o w).sramBad = st.sramBad := rfl
@[simp] theorem put_sramBad (st : Strand) (f : Fld) (v k : Nat) : (st.put f v k).sramBad = st.sramBad := rfl
@[simp] theorem add_sramBad (st : Strand) (f : Fld) (v k : Nat) : (st.add f v k).sramBad = st.sramBad := rfl
@[simp] theorem bump_sramBad (st : Strand) (f : Fld) (k : Nat) : (st.bump f k).sramBad = st.sramBad := rfl
@[simp] theorem wr_dupBad (st : Strand) (o : Nat) (w : Word) : (st.wr o w).dupBad = st.dupBad := rfl
@[simp] theorem put_dupBad (st : Strand) (f : Fld) (v k : Nat) : (st.put f v k).dupBad = st.dupBad := rfl
@[simp] theorem add_dupBad (st : Strand) (f : Fld) (v k : Nat) : (st.add f v k).dupBad = st.dupBad := rfl
@[simp] theorem bump_dupBad (st : Strand) (f : Fld) (k : Nat) : (st.bump f k).dupBad = st.dupBad := rfl
@[simp] theorem wr_hlt (st : Strand) (o : Nat) (w : Word) : (st.wr o w).hlt = st.hlt := rfl
@[simp] theorem put_hlt (st : Strand) (f : Fld) (v k : Nat) : (st.put f v k).hlt = st.hlt := rfl
@[simp] theorem add_hlt (st : Strand) (f : Fld) (v k : Nat) : (st.add f v k).hlt = st.hlt := rfl
@[simp] theorem bump_hlt (st : Strand) (f : Fld) (k : Nat) : (st.bump f k).hlt = st.hlt := rfl
@[simp] theorem wr_snap (st : Strand) (o : Nat) (w : Word) : (st.wr o w).snap = st.snap := rfl
@[simp] theorem put_snap (st : Strand) (f : Fld) (v k : Nat) : (st.put f v k).snap = st.snap := rfl
@[simp] theorem add_snap (st : Strand) (f : Fld) (v k : Nat) : (st.add f v k).snap = st.snap := rfl
@[simp] theorem bump_snap (st : Strand) (f : Fld) (k : Nat) : (st.bump f k).snap = st.snap := rfl
@[simp] theorem wr_agt (st : Strand) (o : Nat) (w : Word) : (st.wr o w).agt = st.agt := rfl
@[simp] theorem put_agt (st : Strand) (f : Fld) (v k : Nat) : (st.put f v k).agt = st.agt := rfl
@[simp] theorem add_agt (st : Strand) (f : Fld) (v k : Nat) : (st.add f v k).agt = st.agt := rfl
@[simp] theorem bump_agt (st : Strand) (f : Fld) (k : Nat) : (st.bump f k).agt = st.agt := rfl
@[simp] theorem wr_bootVdt (st : Strand) (o : Nat) (w : Word) : (st.wr o w).bootVdt = st.bootVdt := rfl
@[simp] theorem put_bootVdt (st : Strand) (f : Fld) (v k : Nat) : (st.put f v k).bootVdt = st.bootVdt := rfl
@[simp] theorem add_bootVdt (st : Strand) (f : Fld) (v k : Nat) : (st.add f v k).bootVdt = st.bootVdt := rfl
@[simp] theorem bump_bootVdt (st : Strand) (f : Fld) (k : Nat) : (st.bump f k).bootVdt = st.bootVdt := rfl
@[simp] theorem wr_ipend (st : Strand) (o : Nat) (w : Word) : (st.wr o w).ipend = st.ipend := rfl
@[simp] theorem put_ipend (st : Strand) (f : Fld) (v k : Nat) : (st.put f v k).ipend = st.ipend := rfl
@[simp] theorem add_ipend (st : Strand) (f : Fld) (v k : Nat) : (st.add f v k).ipend = st.ipend := rfl
@[simp] theorem bump_ipend (st : Strand) (f : Fld) (k : Nat) : (st.bump f k).ipend = st.ipend := rfl
@[simp] theorem wr_nmi (st : Strand) (o : Nat) (w : Word) : (st.wr o w).nmi = st.nmi := rfl
@[simp] theorem put_nmi (st : Strand) (f : Fld) (v k : Nat) : (st.put f v k).nmi = st.nmi := rfl
@[simp] theorem add_nmi (st : Strand) (f : Fld) (v k : Nat) : (st.add f v k).nmi = st.nmi := rfl
@[simp] theorem bump_nmi (st : Strand) (f : Fld) (k : Nat) : (st.bump f k).nmi = st.nmi := rfl
@[simp] theorem setCore_id (st : Strand) (c : Fin 4) (x : Core) : (st.setCore c x).id = st.id := rfl
@[simp] theorem setCore_nv (st : Strand) (c : Fin 4) (x : Core) : (st.setCore c x).nv = st.nv := rfl
@[simp] theorem setCore_regs (st : Strand) (c : Fin 4) (x : Core) : (st.setCore c x).regs = st.regs := rfl
@[simp] theorem setCore_staged (st : Strand) (c : Fin 4) (x : Core) : (st.setCore c x).staged = st.staged := rfl
@[simp] theorem setCore_hiLatch (st : Strand) (c : Fin 4) (x : Core) : (st.setCore c x).hiLatch = st.hiLatch := rfl
@[simp] theorem setCore_draws (st : Strand) (c : Fin 4) (x : Core) : (st.setCore c x).draws = st.draws := rfl
@[simp] theorem setCore_accepted (st : Strand) (c : Fin 4) (x : Core) : (st.setCore c x).accepted = st.accepted := rfl
@[simp] theorem setCore_startedAt (st : Strand) (c : Fin 4) (x : Core) : (st.setCore c x).startedAt = st.startedAt := rfl
@[simp] theorem setCore_pairDue (st : Strand) (c : Fin 4) (x : Core) : (st.setCore c x).pairDue = st.pairDue := rfl
@[simp] theorem setCore_retry (st : Strand) (c : Fin 4) (x : Core) : (st.setCore c x).retry = st.retry := rfl
@[simp] theorem setCore_freezeOpen (st : Strand) (c : Fin 4) (x : Core) : (st.setCore c x).freezeOpen = st.freezeOpen := rfl
@[simp] theorem setCore_ceremonyBeat (st : Strand) (c : Fin 4) (x : Core) : (st.setCore c x).ceremonyBeat = st.ceremonyBeat := rfl
@[simp] theorem setCore_newOwner (st : Strand) (c : Fin 4) (x : Core) : (st.setCore c x).newOwner = st.newOwner := rfl
@[simp] theorem setCore_chkAt (st : Strand) (c : Fin 4) (x : Core) : (st.setCore c x).chkAt = st.chkAt := rfl
@[simp] theorem setCore_post (st : Strand) (c : Fin 4) (x : Core) : (st.setCore c x).post = st.post := rfl
@[simp] theorem setCore_taken (st : Strand) (c : Fin 4) (x : Core) : (st.setCore c x).taken = st.taken := rfl
@[simp] theorem setCore_done (st : Strand) (c : Fin 4) (x : Core) : (st.setCore c x).done = st.done := rfl
@[simp] theorem setCore_vault (st : Strand) (c : Fin 4) (x : Core) : (st.setCore c x).vault = st.vault := rfl
@[simp] theorem setCore_eng (st : Strand) (c : Fin 4) (x : Core) : (st.setCore c x).eng = st.eng := rfl
@[simp] theorem setCore_jnl (st : Strand) (c : Fin 4) (x : Core) : (st.setCore c x).jnl = st.jnl := rfl
@[simp] theorem setCore_mir (st : Strand) (c : Fin 4) (x : Core) : (st.setCore c x).mir = st.mir := rfl
@[simp] theorem setCore_stations (st : Strand) (c : Fin 4) (x : Core) : (st.setCore c x).stations = st.stations := rfl
@[simp] theorem setCore_links (st : Strand) (c : Fin 4) (x : Core) : (st.setCore c x).links = st.links := rfl
@[simp] theorem setCore_fab (st : Strand) (c : Fin 4) (x : Core) : (st.setCore c x).fab = st.fab := rfl
@[simp] theorem setCore_jc (st : Strand) (c : Fin 4) (x : Core) : (st.setCore c x).jc = st.jc := rfl
@[simp] theorem setCore_quorum (st : Strand) (c : Fin 4) (x : Core) : (st.setCore c x).quorum = st.quorum := rfl
@[simp] theorem setCore_cc (st : Strand) (c : Fin 4) (x : Core) : (st.setCore c x).cc = st.cc := rfl
@[simp] theorem setCore_sent (st : Strand) (c : Fin 4) (x : Core) : (st.setCore c x).sent = st.sent := rfl
@[simp] theorem setCore_jsp (st : Strand) (c : Fin 4) (x : Core) : (st.setCore c x).jsp = st.jsp := rfl
@[simp] theorem setCore_fenced (st : Strand) (c : Fin 4) (x : Core) : (st.setCore c x).fenced = st.fenced := rfl
@[simp] theorem setCore_keyBus (st : Strand) (c : Fin 4) (x : Core) : (st.setCore c x).keyBus = st.keyBus := rfl
@[simp] theorem setCore_measure (st : Strand) (c : Fin 4) (x : Core) : (st.setCore c x).measure = st.measure := rfl
@[simp] theorem setCore_sram (st : Strand) (c : Fin 4) (x : Core) : (st.setCore c x).sram = st.sram := rfl
@[simp] theorem setCore_quar (st : Strand) (c : Fin 4) (x : Core) : (st.setCore c x).quar = st.quar := rfl
@[simp] theorem setCore_sramBad (st : Strand) (c : Fin 4) (x : Core) : (st.setCore c x).sramBad = st.sramBad := rfl
@[simp] theorem setCore_dupBad (st : Strand) (c : Fin 4) (x : Core) : (st.setCore c x).dupBad = st.dupBad := rfl
@[simp] theorem setCore_hlt (st : Strand) (c : Fin 4) (x : Core) : (st.setCore c x).hlt = st.hlt := rfl
@[simp] theorem setCore_snap (st : Strand) (c : Fin 4) (x : Core) : (st.setCore c x).snap = st.snap := rfl
@[simp] theorem setCore_agt (st : Strand) (c : Fin 4) (x : Core) : (st.setCore c x).agt = st.agt := rfl
@[simp] theorem setCore_bootVdt (st : Strand) (c : Fin 4) (x : Core) : (st.setCore c x).bootVdt = st.bootVdt := rfl
@[simp] theorem setCore_ipend (st : Strand) (c : Fin 4) (x : Core) : (st.setCore c x).ipend = st.ipend := rfl
@[simp] theorem setCore_nmi (st : Strand) (c : Fin 4) (x : Core) : (st.setCore c x).nmi = st.nmi := rfl

@[simp] theorem core_setCore_same (st : Strand) (c : Fin 4) (x : Core) : (st.setCore c x).core c = x := by
  simp [core, setCore]

theorem core_setCore_other (st : Strand) {c d : Fin 4} (x : Core) (h : d ≠ c) : (st.setCore c x).core d = st.core d := by
  have : c.val ≠ d.val := fun e => h (Fin.ext e.symm)
  simp [core, setCore, Vector.getElem_set_ne, this]

@[simp] theorem setCore_setCore (st : Strand) (c : Fin 4) (x y : Core) : (st.setCore c x).setCore c y = st.setCore c y := by
  unfold setCore
  simp only [Strand.mk.injEq, and_true, true_and]
  ext i hi
  by_cases e : c.val = i
  · subst e; simp
  · simp [Vector.getElem_set_ne, e]

@[simp] theorem setCore_core (st : Strand) (c : Fin 4) : st.setCore c (st.core c) = st := by
  unfold setCore core
  simp

end Strand

namespace State

@[simp] theorem setSd_now (s : State) (n : Fin 4) (st : Strand) : (s.setSd n st).now = s.now := rfl
@[simp] theorem up_now (s : State) (n : Fin 4) (g : Strand → Strand) : (s.up n g).now = s.now := rfl
@[simp] theorem upAll_now (s : State) (g : Strand → Strand) : (s.upAll g).now = s.now := rfl
@[simp] theorem setSd_ring (s : State) (n : Fin 4) (st : Strand) : (s.setSd n st).ring = s.ring := rfl
@[simp] theorem up_ring (s : State) (n : Fin 4) (g : Strand → Strand) : (s.up n g).ring = s.ring := rfl
@[simp] theorem upAll_ring (s : State) (g : Strand → Strand) : (s.upAll g).ring = s.ring := rfl
@[simp] theorem setSd_mem (s : State) (n : Fin 4) (st : Strand) : (s.setSd n st).mem = s.mem := rfl
@[simp] theorem up_mem (s : State) (n : Fin 4) (g : Strand → Strand) : (s.up n g).mem = s.mem := rfl
@[simp] theorem upAll_mem (s : State) (g : Strand → Strand) : (s.upAll g).mem = s.mem := rfl
@[simp] theorem setSd_resp (s : State) (n : Fin 4) (st : Strand) : (s.setSd n st).resp = s.resp := rfl
@[simp] theorem up_resp (s : State) (n : Fin 4) (g : Strand → Strand) : (s.up n g).resp = s.resp := rfl
@[simp] theorem upAll_resp (s : State) (g : Strand → Strand) : (s.upAll g).resp = s.resp := rfl
@[simp] theorem setSd_pending (s : State) (n : Fin 4) (st : Strand) : (s.setSd n st).pending = s.pending := rfl
@[simp] theorem up_pending (s : State) (n : Fin 4) (g : Strand → Strand) : (s.up n g).pending = s.pending := rfl
@[simp] theorem upAll_pending (s : State) (g : Strand → Strand) : (s.upAll g).pending = s.pending := rfl
@[simp] theorem upR_now (s : State) (g : Ring → Ring) : (s.upR g).now = s.now := rfl
@[simp] theorem rwr_now (s : State) (o : Nat) (w : Word) : (s.rwr o w).now = s.now := rfl
@[simp] theorem rput_now (s : State) (f : Fld) (v k : Nat) : (s.rput f v k).now = s.now := rfl
@[simp] theorem radd_now (s : State) (f : Fld) (v k : Nat) : (s.radd f v k).now = s.now := rfl
@[simp] theorem rbump_now (s : State) (f : Fld) (k : Nat) : (s.rbump f k).now = s.now := rfl
@[simp] theorem setFn_now (s : State) (x : Fn) : (s.setFn x).now = s.now := rfl
@[simp] theorem setSq_now (s : State) (x : Sq) : (s.setSq x).now = s.now := rfl
@[simp] theorem setCq_now (s : State) (x : Cq) : (s.setCq x).now = s.now := rfl
@[simp] theorem upTo_ring (s : State) (t : Nat) : (s.upTo t).ring = s.ring := rfl
@[simp] theorem upR_mem (s : State) (g : Ring → Ring) : (s.upR g).mem = s.mem := rfl
@[simp] theorem rwr_mem (s : State) (o : Nat) (w : Word) : (s.rwr o w).mem = s.mem := rfl
@[simp] theorem rput_mem (s : State) (f : Fld) (v k : Nat) : (s.rput f v k).mem = s.mem := rfl
@[simp] theorem radd_mem (s : State) (f : Fld) (v k : Nat) : (s.radd f v k).mem = s.mem := rfl
@[simp] theorem rbump_mem (s : State) (f : Fld) (k : Nat) : (s.rbump f k).mem = s.mem := rfl
@[simp] theorem setFn_mem (s : State) (x : Fn) : (s.setFn x).mem = s.mem := rfl
@[simp] theorem setSq_mem (s : State) (x : Sq) : (s.setSq x).mem = s.mem := rfl
@[simp] theorem setCq_mem (s : State) (x : Cq) : (s.setCq x).mem = s.mem := rfl
@[simp] theorem upTo_mem (s : State) (t : Nat) : (s.upTo t).mem = s.mem := rfl
@[simp] theorem upR_resp (s : State) (g : Ring → Ring) : (s.upR g).resp = s.resp := rfl
@[simp] theorem rwr_resp (s : State) (o : Nat) (w : Word) : (s.rwr o w).resp = s.resp := rfl
@[simp] theorem rput_resp (s : State) (f : Fld) (v k : Nat) : (s.rput f v k).resp = s.resp := rfl
@[simp] theorem radd_resp (s : State) (f : Fld) (v k : Nat) : (s.radd f v k).resp = s.resp := rfl
@[simp] theorem rbump_resp (s : State) (f : Fld) (k : Nat) : (s.rbump f k).resp = s.resp := rfl
@[simp] theorem setFn_resp (s : State) (x : Fn) : (s.setFn x).resp = s.resp := rfl
@[simp] theorem setSq_resp (s : State) (x : Sq) : (s.setSq x).resp = s.resp := rfl
@[simp] theorem setCq_resp (s : State) (x : Cq) : (s.setCq x).resp = s.resp := rfl
@[simp] theorem upTo_resp (s : State) (t : Nat) : (s.upTo t).resp = s.resp := rfl
@[simp] theorem upR_pending (s : State) (g : Ring → Ring) : (s.upR g).pending = s.pending := rfl
@[simp] theorem rwr_pending (s : State) (o : Nat) (w : Word) : (s.rwr o w).pending = s.pending := rfl
@[simp] theorem rput_pending (s : State) (f : Fld) (v k : Nat) : (s.rput f v k).pending = s.pending := rfl
@[simp] theorem radd_pending (s : State) (f : Fld) (v k : Nat) : (s.radd f v k).pending = s.pending := rfl
@[simp] theorem rbump_pending (s : State) (f : Fld) (k : Nat) : (s.rbump f k).pending = s.pending := rfl
@[simp] theorem setFn_pending (s : State) (x : Fn) : (s.setFn x).pending = s.pending := rfl
@[simp] theorem setSq_pending (s : State) (x : Sq) : (s.setSq x).pending = s.pending := rfl
@[simp] theorem setCq_pending (s : State) (x : Cq) : (s.setCq x).pending = s.pending := rfl
@[simp] theorem upTo_pending (s : State) (t : Nat) : (s.upTo t).pending = s.pending := rfl
@[simp] theorem upR_sd (s : State) (g : Ring → Ring) (n : Fin 4) : (s.upR g).sd n = s.sd n := rfl
@[simp] theorem rwr_sd (s : State) (o : Nat) (w : Word) (n : Fin 4) : (s.rwr o w).sd n = s.sd n := rfl
@[simp] theorem rput_sd (s : State) (f : Fld) (v k : Nat) (n : Fin 4) : (s.rput f v k).sd n = s.sd n := rfl
@[simp] theorem radd_sd (s : State) (f : Fld) (v k : Nat) (n : Fin 4) : (s.radd f v k).sd n = s.sd n := rfl
@[simp] theorem rbump_sd (s : State) (f : Fld) (k : Nat) (n : Fin 4) : (s.rbump f k).sd n = s.sd n := rfl
@[simp] theorem setFn_sd (s : State) (x : Fn) (n : Fin 4) : (s.setFn x).sd n = s.sd n := rfl
@[simp] theorem setSq_sd (s : State) (x : Sq) (n : Fin 4) : (s.setSq x).sd n = s.sd n := rfl
@[simp] theorem setCq_sd (s : State) (x : Cq) (n : Fin 4) : (s.setCq x).sd n = s.sd n := rfl
@[simp] theorem upTo_sd (s : State) (t : Nat) (n : Fin 4) : (s.upTo t).sd n = s.sd n := rfl
@[simp] theorem rwr_ring_staged (s : State) (o : Nat) (w : Word) : (s.rwr o w).ring.staged = s.ring.staged := rfl
@[simp] theorem rwr_ring_ident (s : State) (o : Nat) (w : Word) : (s.rwr o w).ring.ident = s.ring.ident := rfl
@[simp] theorem rwr_ring_power (s : State) (o : Nat) (w : Word) : (s.rwr o w).ring.power = s.ring.power := rfl
@[simp] theorem rwr_ring_hpFailed (s : State) (o : Nat) (w : Word) : (s.rwr o w).ring.hpFailed = s.ring.hpFailed := rfl
@[simp] theorem rwr_ring_tfFailed (s : State) (o : Nat) (w : Word) : (s.rwr o w).ring.tfFailed = s.ring.tfFailed := rfl
@[simp] theorem rwr_ring_rsFailed (s : State) (o : Nat) (w : Word) : (s.rwr o w).ring.rsFailed = s.ring.rsFailed := rfl
@[simp] theorem rwr_ring_refBad (s : State) (o : Nat) (w : Word) : (s.rwr o w).ring.refBad = s.ring.refBad := rfl
@[simp] theorem rwr_ring_debugOpen (s : State) (o : Nat) (w : Word) : (s.rwr o w).ring.debugOpen = s.ring.debugOpen := rfl
@[simp] theorem rwr_ring_challenge (s : State) (o : Nat) (w : Word) : (s.rwr o w).ring.challenge = s.ring.challenge := rfl
@[simp] theorem rwr_ring_scrapChallenge (s : State) (o : Nat) (w : Word) : (s.rwr o w).ring.scrapChallenge = s.ring.scrapChallenge := rfl
@[simp] theorem rwr_ring_wrongDebug (s : State) (o : Nat) (w : Word) : (s.rwr o w).ring.wrongDebug = s.ring.wrongDebug := rfl
@[simp] theorem rwr_ring_wrongScrap (s : State) (o : Nat) (w : Word) : (s.rwr o w).ring.wrongScrap = s.ring.wrongScrap := rfl
@[simp] theorem rwr_ring_retainPend (s : State) (o : Nat) (w : Word) : (s.rwr o w).ring.retainPend = s.ring.retainPend := rfl
@[simp] theorem rwr_ring_govSection (s : State) (o : Nat) (w : Word) : (s.rwr o w).ring.govSection = s.ring.govSection := rfl
@[simp] theorem rwr_ring_sriov (s : State) (o : Nat) (w : Word) : (s.rwr o w).ring.sriov = s.ring.sriov := rfl
@[simp] theorem rwr_ring_numVfs (s : State) (o : Nat) (w : Word) : (s.rwr o w).ring.numVfs = s.ring.numVfs := rfl
@[simp] theorem rwr_ring_sqs (s : State) (o : Nat) (w : Word) : (s.rwr o w).ring.sqs = s.ring.sqs := rfl
@[simp] theorem rwr_ring_cqs (s : State) (o : Nat) (w : Word) : (s.rwr o w).ring.cqs = s.ring.cqs := rfl
@[simp] theorem rwr_ring_fns (s : State) (o : Nat) (w : Word) : (s.rwr o w).ring.fns = s.ring.fns := rfl
@[simp] theorem rwr_ring_jobSeq (s : State) (o : Nat) (w : Word) : (s.rwr o w).ring.jobSeq = s.ring.jobSeq := rfl
@[simp] theorem rwr_ring_scheds (s : State) (o : Nat) (w : Word) : (s.rwr o w).ring.scheds = s.ring.scheds := rfl
@[simp] theorem rwr_ring_tag (s : State) (o : Nat) (w : Word) : (s.rwr o w).ring.tag = s.ring.tag := rfl
@[simp] theorem rwr_ring_thermLow (s : State) (o : Nat) (w : Word) : (s.rwr o w).ring.thermLow = s.ring.thermLow := rfl
@[simp] theorem rwr_ring_xtalStopped (s : State) (o : Nat) (w : Word) : (s.rwr o w).ring.xtalStopped = s.ring.xtalStopped := rfl
@[simp] theorem rwr_ring_cell (s : State) (o : Nat) (w : Word) : (s.rwr o w).ring.cell = s.ring.cell := rfl

@[simp] theorem upR_ring (s : State) (g : Ring → Ring) : (s.upR g).ring = g s.ring := rfl
@[simp] theorem upTo_now (s : State) (t : Nat) : (s.upTo t).now = max s.now t := rfl

@[simp] theorem sd_setSd_same (s : State) (n : Fin 4) (st : Strand) : (s.setSd n st).sd n = st := by
  simp [sd, setSd]

theorem sd_setSd_other (s : State) {n m : Fin 4} (st : Strand) (h : m ≠ n) : (s.setSd n st).sd m = s.sd m := by
  have : n.val ≠ m.val := fun e => h (Fin.ext e.symm)
  simp [sd, setSd, Vector.getElem_set_ne, this]

@[simp] theorem sd_up_same (s : State) (n : Fin 4) (g : Strand → Strand) : (s.up n g).sd n = g (s.sd n) := sd_setSd_same ..

theorem sd_up_other (s : State) {n m : Fin 4} (g : Strand → Strand) (h : m ≠ n) : (s.up n g).sd m = s.sd m := sd_setSd_other _ _ h

@[simp] theorem sd_upAll (s : State) (g : Strand → Strand) (n : Fin 4) : (s.upAll g).sd n = g (s.sd n) := by
  simp [sd, upAll]

@[simp] theorem setSd_setSd (s : State) (n : Fin 4) (a b : Strand) : (s.setSd n a).setSd n b = s.setSd n b := by
  unfold setSd
  simp only [State.mk.injEq, and_true, true_and]
  ext i hi
  by_cases e : n.val = i
  · subst e; simp
  · simp [Vector.getElem_set_ne, e]

@[simp] theorem setSd_sd (s : State) (n : Fin 4) : s.setSd n (s.sd n) = s := by
  unfold setSd sd
  simp

@[simp] theorem up_up (s : State) (n : Fin 4) (g h : Strand → Strand) : (s.up n g).up n h = s.up n fun st => h (g st) := by
  simp [up]

@[simp] theorem up_setSd (s : State) (n : Fin 4) (st : Strand) (g : Strand → Strand) : (s.setSd n st).up n g = s.setSd n (g st) := by
  simp [up]

end State

end Sys2Proof.Machine
end

