-- ==== Sys2Proof/Laws/Garnet.lean ====
section
/-! SUPPORT. What the shared steps of the Garnet instructions do. -/

namespace Sys2Proof.Machine
open Sys2Proof

namespace State

theorem core_eq (s : State) (n c : Fin 4) : s.core n c = (s.sd n).core c := rfl

@[simp] theorem sd_upCore (s : State) (n c : Fin 4) (f : Core → Core) :
    (s.upCore n c f).sd n = (s.sd n).setCore c (f ((s.sd n).core c)) := by
  simp [upCore]

@[simp] theorem core_upCore (s : State) (n c : Fin 4) (f : Core → Core) : (s.upCore n c f).core n c = f (s.core n c) := by
  simp [core]

@[simp] theorem upCore_upCore (s : State) (n c : Fin 4) (f g : Core → Core) :
    (s.upCore n c f).upCore n c g = s.upCore n c fun x => g (f x) := by
  simp [upCore]

@[simp] theorem ended_upCore (s : State) (n c : Fin 4) (f g : Core → Core) :
    (s.upCore n c f).ended n c g = s.ended n c fun x => g (f x) := by
  unfold ended
  rw [upCore_upCore]
  rfl

@[simp] theorem retire_upCore (s : State) (n c : Fin 4) (f g : Core → Core) :
    (s.upCore n c f).retire n c g = s.retire n c fun x => g (f x) := ended_upCore ..

/-- Two changes of one core agree where they agree on the core as it stands. -/
theorem upCore_congr (s : State) (n c : Fin 4) {f g : Core → Core} (h : f (s.core n c) = g (s.core n c)) :
    s.upCore n c f = s.upCore n c g := by
  unfold upCore up
  rw [core_eq] at h
  simp only [h]

/-- A read that meets no error leaves the strand alone but for the lines that the core's cache holds and the errors in them. -/
theorem cacheRead_clean (st : Strand) (c : Fin 4) (keep : Bool) {a size : Nat} (he : (st.core c).lineError false (a / 32) = none)
    (hw : (st.sramRead a size).isSome = true) :
    ∃ l u, st.cacheRead c false keep a size = (st.setCore c { st.core c with ilines := l, upsets := u }, 0) := by
  have hs : (st, 0) = (st.setCore c { st.core c with ilines := (st.core c).ilines, upsets := (st.core c).upsets }, 0) :=
    congrArg (·, 0) (Strand.setCore_core st c).symm
  unfold Strand.cacheRead
  simp only [he, hw, Bool.false_eq_true, if_false, if_true]
  split
  · exact ⟨_, _, hs⟩
  · cases keep
    · exact ⟨_, _, (congrArg (·, 0) (Strand.setCore_core st c)).trans hs⟩
    · exact ⟨_, _, rfl⟩

/-- An instruction whose fetch is permitted, whole and without error does its work. -/
theorem instr_of_fetch (s : State) (n c : Fin 4) (work : Core → State → State) (h1 : (s.core n c).running = true)
    (h2 : (s.core n c).waiting = false) (h3 : (s.sd n).halted = false)
    (h4 : (s.sd n).mpuCheck c (s.core n c).priv 0 (s.core n c).pc.toNat 4 = none)
    (h5 : ((s.sd n).sramRead (s.core n c).pc.toNat 4).isSome = true)
    (h6 : (s.core n c).lineError false ((s.core n c).pc.toNat / 32) = none) :
    ∃ l u, s.instr n c work = work (s.core n c) (s.upCore n c fun x => { x with ilines := l, upsets := u }) := by
  rw [core_eq] at *
  obtain ⟨l, u, hl⟩ := cacheRead_clean (s.sd n) c ((s.sd n).cacheable c ((s.sd n).core c).pc.toNat) h6 h5
  refine ⟨l, u, ?_⟩
  unfold instr
  dsimp only
  rw [if_neg (by simp [h1, h2, h3]), h4]
  dsimp only
  rw [hl]
  rfl

/-- An instruction of a core that is stopped, waits, or lies in a HALTED strand changes nothing. -/
theorem instr_stopped (s : State) (n c : Fin 4) (work : Core → State → State)
    (h : (s.core n c).running = false ∨ (s.core n c).waiting = true ∨ (s.sd n).halted = true) : s.instr n c work = s := by
  rw [core_eq] at h
  unfold instr
  simp only []
  rw [if_pos]
  rcases h with h | h | h <;> simp [h]

end State

namespace Core

@[simp] theorem reg_zero (x : Core) (k : Fin 4) : x.reg k 0 = 0 := rfl

theorem reg_setReg_same (x : Core) (k : Fin 4) {r : Fin 32} (w : Word) (h : r ≠ 0) : (x.setReg k r w).reg k r = w := by
  simp [reg, setReg, h]

@[simp] theorem setReg_zero (x : Core) (k : Fin 4) (w : Word) : x.setReg k 0 w = x := rfl

end Core

end Sys2Proof.Machine
end

