-- ==== Sys2Proof/Laws/Mem.lean ====
section
/-! SUPPORT. Memory: a write leaves other places alone, a read after it gives the value, and every write keeps the canonical
form. -/

namespace Sys2Proof.Machine.Mem
open Sys2Proof

theorem wfFrom_le {lo lo' : Nat} {m : List Host.Cell} (h : wfFrom lo m = true) (hl : lo' ≤ lo) : wfFrom lo' m = true := by
  cases m with
  | nil => rfl
  | cons p r =>
    simp only [wfFrom, Bool.and_eq_true, decide_eq_true_eq] at h ⊢
    exact ⟨⟨Nat.le_trans hl h.1.1, h.1.2⟩, h.2⟩

theorem read_filter (m : List Host.Cell) (x y : Nat) :
    read (m.filter fun (c : Host.Cell) => c.1 != x) y = if y = x then 0 else read m y := by
  induction m with
  | nil => simp [read]
  | cons p r ih =>
    by_cases h : p.1 = x
    · simp only [List.filter_cons, h, bne_self_eq_false, Bool.false_eq_true, if_false, ih, read]
      split <;> simp_all
    · simp only [List.filter_cons, bne_iff_ne, ne_eq, h, not_false_eq_true, if_true, read, ih]
      grind

theorem read_insert {m : List Host.Cell} {x : Nat} (v : Byte) (y : Nat) (h : ∀ c ∈ m, c.1 ≠ x) :
    read (insert m x v) y = if y = x then v else read m y := by
  induction m with
  | nil => simp [insert, read]
  | cons p r ih =>
    have h0 := h p (by simp)
    have ih := ih fun c hc => h c (by simp [hc])
    simp only [insert]
    split
    · simp [read]
    · simp only [read, ih]; grind

/-- A read after a write. -/
theorem read_write (m : List Host.Cell) (x y : Nat) (v : Byte) : read (write m x v) y = if y = x then v else read m y := by
  simp only [write]
  split
  · rename_i h; rw [read_filter]; split <;> simp_all
  · rw [read_insert _ _ (by simp), read_filter]; split <;> simp_all

theorem read_write_same (m : List Host.Cell) (x : Nat) (v : Byte) : read (write m x v) x = v := by simp [read_write]

theorem read_write_other {m : List Host.Cell} {x y : Nat} (v : Byte) (h : y ≠ x) : read (write m x v) y = read m y := by
  simp [read_write, h]

theorem wfFrom_filter {lo : Nat} {m : List Host.Cell} (f : Host.Cell → Bool) (h : wfFrom lo m = true) :
    wfFrom lo (m.filter f) = true := by
  induction m generalizing lo with
  | nil => rfl
  | cons p r ih =>
    simp only [wfFrom, Bool.and_eq_true, decide_eq_true_eq] at h
    simp only [List.filter_cons]
    split
    · simp only [wfFrom, Bool.and_eq_true, decide_eq_true_eq]; exact ⟨h.1, ih h.2⟩
    · exact ih (wfFrom_le h.2 (by omega))

theorem wfFrom_insert {lo : Nat} {m : List Host.Cell} {x : Nat} {v : Byte} (h : wfFrom lo m = true) (hx : lo ≤ x)
    (hn : ∀ c ∈ m, c.1 ≠ x) (hv : v ≠ 0) : wfFrom lo (insert m x v) = true := by
  induction m generalizing lo with
  | nil => simpa [insert, wfFrom, hx] using hv
  | cons p r ih =>
    have h0 := hn p (by simp)
    simp only [wfFrom, Bool.and_eq_true, decide_eq_true_eq] at h
    simp only [insert]
    split
    · simp only [wfFrom, Bool.and_eq_true, decide_eq_true_eq]
      exact ⟨⟨hx, hv⟩, ⟨by omega, h.1.2⟩, h.2⟩
    · simp only [wfFrom, Bool.and_eq_true, decide_eq_true_eq]
      exact ⟨h.1, ih h.2 (by omega) fun c hc => hn c (by simp [hc])⟩

/-- A byte store keeps the canonical form. -/
theorem wf_write {m : List Host.Cell} (x : Nat) (v : Byte) (h : wf m = true) : wf (write m x v) = true := by
  simp only [write]
  split
  · exact wfFrom_filter _ h
  · exact wfFrom_insert (wfFrom_filter _ h) (Nat.zero_le x) (by simp) ‹_›

/-- A store of a byte string keeps the canonical form. -/
theorem wf_writeBytes {m : List Host.Cell} (x : Nat) (b : Bytes) (h : wf m = true) : wf (writeBytes m x b) = true := by
  induction b generalizing m x with
  | nil => exact h
  | cons v r ih => exact ih _ (wf_write x v h)

/-- A store of a byte string leaves every byte outside it alone. -/
theorem read_writeBytes_outside {m : List Host.Cell} {x y : Nat} (b : Bytes) (h : y < x ∨ x + b.length ≤ y) :
    read (writeBytes m x b) y = read m y := by
  induction b generalizing m x with
  | nil => rfl
  | cons v r ih =>
    simp only [List.length_cons] at h
    rw [writeBytes, ih (by omega), read_write_other v (by omega)]

/-- A read inside a stored byte string gives its byte. -/
theorem read_writeBytes_inside (m : List Host.Cell) {x : Nat} (b : Bytes) {k : Nat} (hk : k < b.length) :
    read (writeBytes m x b) (x + k) = b[k] := by
  induction b generalizing m x k with
  | nil => simp at hk
  | cons v r ih =>
    cases k with
    | zero =>
      have := read_writeBytes_outside (m := write m x v) (x := x + 1) (y := x) r (by omega)
      simpa [writeBytes, read_write_same] using this
    | succ k =>
      rw [writeBytes, show x + (k + 1) = x + 1 + k by omega]
      simpa using ih (write m x v) (by simpa using hk)

/-- What is read back after a store of a byte string is that string. -/
theorem readBytes_writeBytes (m : List Host.Cell) (x : Nat) (b : Bytes) : readBytes (writeBytes m x b) x b.length = b := by
  induction b generalizing m x with
  | nil => rfl
  | cons v r ih =>
    simp only [List.length_cons, writeBytes, readBytes]
    rw [ih, read_writeBytes_outside r (by omega), read_write_same]

@[simp] theorem readBytes_length (m : List Host.Cell) (x n : Nat) : (readBytes m x n).length = n := by
  induction n generalizing x with
  | zero => rfl
  | succ n ih => simp [readBytes, ih]

end Sys2Proof.Machine.Mem
end

