-- ==== Sys2Proof/Laws/Regs.lean ====
section
/-! SUPPORT. Register files and fields: reads after writes, and the canonical form. -/

namespace Sys2Proof.Machine
open Sys2Proof

namespace RegFile

theorem wfFrom_le {d : Nat → Word} {lo lo' : Nat} {r : RegFile} (h : wfFrom d lo r = true) (hl : lo' ≤ lo) :
    wfFrom d lo' r = true := by
  cases r with
  | nil => rfl
  | cons p r =>
    simp only [wfFrom, Bool.and_eq_true, decide_eq_true_eq] at h ⊢
    exact ⟨⟨Nat.le_trans hl h.1.1, h.1.2⟩, h.2⟩

theorem read_filter (d : Nat → Word) (r : RegFile) (o p : Nat) :
    read d (r.filter fun (q : Nat × Word) => q.1 != o) p = if p = o then d o else read d r p := by
  induction r with
  | nil => simp only [List.filter_nil, read]; split <;> simp_all
  | cons q r ih =>
    by_cases h : q.1 = o
    · simp only [List.filter_cons, h, bne_self_eq_false, Bool.false_eq_true, if_false, ih, read]
      split <;> simp_all
    · simp only [List.filter_cons, bne_iff_ne, ne_eq, h, not_false_eq_true, if_true, read, ih]
      grind

theorem read_insert {d : Nat → Word} {r : RegFile} {o : Nat} (v : Word) (p : Nat) (h : ∀ q ∈ r, q.1 ≠ o) :
    read d (insert r o v) p = if p = o then v else read d r p := by
  induction r with
  | nil => simp [insert, read]
  | cons q r ih =>
    have h0 := h q (by simp)
    have ih := ih fun c hc => h c (by simp [hc])
    simp only [insert]
    split
    · simp [read]
    · simp only [read, ih]; grind

/-- A read after a write. -/
theorem read_write (d : Nat → Word) (r : RegFile) (o p : Nat) (v : Word) :
    read d (write d r o v) p = if p = o then v else read d r p := by
  simp only [write]
  split
  · rename_i h; rw [read_filter]; split <;> simp_all
  · rw [read_insert _ _ (by simp), read_filter]; split <;> simp_all

theorem wfFrom_filter {d : Nat → Word} {lo : Nat} {r : RegFile} (f : Nat × Word → Bool) (h : wfFrom d lo r = true) :
    wfFrom d lo (r.filter f) = true := by
  induction r generalizing lo with
  | nil => rfl
  | cons p r ih =>
    simp only [wfFrom, Bool.and_eq_true, decide_eq_true_eq] at h
    simp only [List.filter_cons]
    split
    · simp only [wfFrom, Bool.and_eq_true, decide_eq_true_eq]; exact ⟨h.1, ih h.2⟩
    · exact ih (wfFrom_le h.2 (by omega))

theorem wfFrom_insert {d : Nat → Word} {lo : Nat} {r : RegFile} {o : Nat} {v : Word} (h : wfFrom d lo r = true) (ho : lo ≤ o)
    (hn : ∀ c ∈ r, c.1 ≠ o) (hv : v ≠ d o) : wfFrom d lo (insert r o v) = true := by
  induction r generalizing lo with
  | nil => simpa [insert, wfFrom, ho] using hv
  | cons p r ih =>
    have h0 := hn p (by simp)
    simp only [wfFrom, Bool.and_eq_true, decide_eq_true_eq] at h
    simp only [insert]
    split
    · simp only [wfFrom, Bool.and_eq_true, decide_eq_true_eq]
      exact ⟨⟨ho, hv⟩, ⟨by omega, h.1.2⟩, h.2⟩
    · simp only [wfFrom, Bool.and_eq_true, decide_eq_true_eq]
      exact ⟨h.1, ih h.2 (by omega) fun c hc => hn c (by simp [hc])⟩

/-- A write keeps the canonical form. -/
theorem wf_write {d : Nat → Word} {r : RegFile} (o : Nat) (v : Word) (h : wf d r = true) : wf d (write d r o v) = true := by
  simp only [write]
  split
  · exact wfFrom_filter _ h
  · exact wfFrom_insert (wfFrom_filter _ h) (Nat.zero_le o) (by simp) ‹_›

end RegFile

namespace Fld

theorem intoWord_toNat (f : Fld) (w : Word) (v : Nat) (hf : f.lo + f.width ≤ 32) :
    (f.intoWord w v).toNat = w.toNat % 2 ^ f.lo + (v % 2 ^ f.width) * 2 ^ f.lo + w.toNat / 2 ^ (f.lo + f.width) * 2 ^ (f.lo + f.width) := by
  have hp : (2 : Nat) ^ (f.lo + f.width) = 2 ^ f.lo * 2 ^ f.width := Nat.pow_add ..
  have h1 := Nat.div_add_mod w.toNat (2 ^ f.lo)
  have h2 := Nat.div_add_mod (w.toNat / 2 ^ f.lo) (2 ^ f.width)
  rw [Nat.div_div_eq_div_mul, ← hp] at h2
  have h3 : w.toNat = w.toNat % 2 ^ f.lo + f.ofWord w * 2 ^ f.lo + w.toNat / 2 ^ (f.lo + f.width) * 2 ^ (f.lo + f.width) := by
    unfold Fld.ofWord
    calc w.toNat = 2 ^ f.lo * (w.toNat / 2 ^ f.lo) + w.toNat % 2 ^ f.lo := h1.symm
      _ = 2 ^ f.lo * (2 ^ f.width * (w.toNat / 2 ^ (f.lo + f.width)) + w.toNat / 2 ^ f.lo % 2 ^ f.width) + w.toNat % 2 ^ f.lo := by rw [h2]
      _ = _ := by rw [hp]; ring
  have ha : w.toNat % 2 ^ f.lo < 2 ^ f.lo := Nat.mod_lt _ (by positivity)
  have hv : v % 2 ^ f.width < 2 ^ f.width := Nat.mod_lt _ (by positivity)
  have hlt : w.toNat % 2 ^ f.lo + (v % 2 ^ f.width) * 2 ^ f.lo + w.toNat / 2 ^ (f.lo + f.width) * 2 ^ (f.lo + f.width) < 2 ^ 32 := by
    have e : (2 : Nat) ^ 32 = 2 ^ (f.lo + f.width) * 2 ^ (32 - (f.lo + f.width)) := by rw [← Nat.pow_add]; congr 1; omega
    have hc : w.toNat / 2 ^ (f.lo + f.width) < 2 ^ (32 - (f.lo + f.width)) := by
      apply Nat.div_lt_of_lt_mul; rw [← e]; exact w.isLt
    have hb : w.toNat % 2 ^ f.lo + (v % 2 ^ f.width) * 2 ^ f.lo < 2 ^ (f.lo + f.width) := by
      rw [hp]
      calc _ < 2 ^ f.lo + (v % 2 ^ f.width) * 2 ^ f.lo := by omega
        _ = (v % 2 ^ f.width + 1) * 2 ^ f.lo := by ring
        _ ≤ 2 ^ f.width * 2 ^ f.lo := Nat.mul_le_mul_right _ hv
        _ = _ := Nat.mul_comm ..
    rw [e]
    calc _ < 2 ^ (f.lo + f.width) + w.toNat / 2 ^ (f.lo + f.width) * 2 ^ (f.lo + f.width) := by omega
      _ = (w.toNat / 2 ^ (f.lo + f.width) + 1) * 2 ^ (f.lo + f.width) := by ring
      _ ≤ 2 ^ (32 - (f.lo + f.width)) * 2 ^ (f.lo + f.width) := Nat.mul_le_mul_right _ hc
      _ = _ := Nat.mul_comm ..
  have hs : w.toNat - f.ofWord w * 2 ^ f.lo = w.toNat % 2 ^ f.lo + w.toNat / 2 ^ (f.lo + f.width) * 2 ^ (f.lo + f.width) := by
    generalize f.ofWord w * 2 ^ f.lo = x at *
    generalize w.toNat / 2 ^ (f.lo + f.width) * 2 ^ (f.lo + f.width) = y at *
    omega
  unfold Fld.intoWord
  rw [BitVec.toNat_ofNat, hs, Nat.mod_eq_of_lt (by omega)]
  omega

/-- A field reads back what was put into it, cut to its width. -/
theorem ofWord_intoWord (f : Fld) (w : Word) (v : Nat) (hf : f.lo + f.width ≤ 32) : f.ofWord (f.intoWord w v) = v % 2 ^ f.width := by
  have hp : (2 : Nat) ^ (f.lo + f.width) = 2 ^ f.lo * 2 ^ f.width := Nat.pow_add ..
  have ha : w.toNat % 2 ^ f.lo < 2 ^ f.lo := Nat.mod_lt _ (by positivity)
  unfold Fld.ofWord
  rw [intoWord_toNat f w v hf, hp]
  rw [show w.toNat % 2 ^ f.lo + v % 2 ^ f.width * 2 ^ f.lo + w.toNat / (2 ^ f.lo * 2 ^ f.width) * (2 ^ f.lo * 2 ^ f.width)
    = w.toNat % 2 ^ f.lo + 2 ^ f.lo * (v % 2 ^ f.width + 2 ^ f.width * (w.toNat / (2 ^ f.lo * 2 ^ f.width))) by ring]
  rw [Nat.add_mul_div_left _ _ (by positivity), Nat.div_eq_of_lt ha, Nat.zero_add, Nat.add_mul_mod_self_left, Nat.mod_mod]

end Fld

namespace Strand

/-- Every register file of a strand is canonical. -/
def RegsWf (st : Strand) : Prop := RegFile.wf strandReset st.regs = true

@[simp] theorem rd_wr_same (st : Strand) (o : Nat) (w : Word) : (st.wr o w).rd o = w := by
  simp [rd, wr, RegFile.read_write]

theorem rd_wr (st : Strand) (o p : Nat) (w : Word) : (st.wr o w).rd p = if p = o then w else st.rd p :=
  RegFile.read_write ..

theorem rd_wr_other (st : Strand) {o p : Nat} (w : Word) (h : p ≠ o) : (st.wr o w).rd p = st.rd p := by simp [rd_wr, h]

theorem wr_regsWf {st : Strand} (h : st.RegsWf) (o : Nat) (w : Word) : (st.wr o w).RegsWf := RegFile.wf_write o w h

theorem put_regsWf {st : Strand} (h : st.RegsWf) (f : Fld) (v k : Nat) : (st.put f v k).RegsWf := wr_regsWf h _ _

/-- A field reads back what was put into it. -/
theorem get_put_same (st : Strand) (f : Fld) (v k : Nat) (hf : f.lo + f.width ≤ 32) :
    (st.put f v k).get f k = v % 2 ^ f.width := by
  unfold Strand.get Strand.put
  rw [rd_wr_same, Fld.ofWord_intoWord f _ v hf]

/-- A field of another register is not changed. -/
theorem get_put_other (st : Strand) {f g : Fld} {k l : Nat} (v : Nat) (h : g.at l ≠ f.at k) : (st.put f v k).get g l = st.get g l := by
  unfold Strand.get Strand.put
  rw [rd_wr_other st _ h]

end Strand

end Sys2Proof.Machine
end

