-- ==== Sys2Proof/Laws/Ops.lean ====
section
/-! SUPPORT. The shared operations: for each, what it can do, said once; the lemmas about a command cite these. -/

namespace Sys2Proof.Machine
open Sys2Proof

/-! ### Fields and error records of a strand -/

namespace Strand

/-- A block's first fault is held and raises the block's vector, where it has one; a later one counts. -/
theorem noteErr_first {st : Strand} {valid : Fld} (h : st.flag valid = false) (code ovf : Fld) (c : Nat) (info : Strand → Strand) :
    st.noteErr valid code ovf c info = (match (info ((st.put valid 1).put code c)).errVector valid.off with
      | some (v, core) => (info ((st.put valid 1).put code c)).vector v core
      | none => info ((st.put valid 1).put code c)) := by
  unfold noteErr; exact if_neg (by simp [h])

theorem noteErr_later {st : Strand} {valid : Fld} (h : st.flag valid = true) (code ovf : Fld) (c : Nat) (info : Strand → Strand) :
    st.noteErr valid code ovf c info = st.bump ovf := by simp [noteErr, h]

theorem add_regsWf {st : Strand} (h : st.RegsWf) (f : Fld) (v k : Nat) : (st.add f v k).RegsWf := wr_regsWf h _ _

theorem bump_regsWf {st : Strand} (h : st.RegsWf) (f : Fld) (k : Nat) : (st.bump f k).RegsWf := add_regsWf h f 1 k

/-- The form rests on the register file alone. -/
theorem regsWf_congr {a b : Strand} (h : b.RegsWf) (e : a.regs = b.regs) : a.RegsWf := by unfold RegsWf at *; rw [e]; exact h

theorem snap_regsWf {st : Strand} (h : st.RegsWf) (x : Option Snap) : Strand.RegsWf { st with snap := x } := h

theorem ipend_regsWf {st : Strand} (h : st.RegsWf) (x : Vector Nat 4) : Strand.RegsWf { st with ipend := x } := h

/-- A snapshot begins where none is held, or the trigger counts as missed; the register file keeps its form. -/
theorem snapTrigger_regsWf {st : Strand} (h : st.RegsWf) (source : Nat) : (st.snapTrigger source).RegsWf := by
  unfold snapTrigger
  split
  · exact bump_regsWf h _ _
  · extract_lets no x y
    have hx : x.RegsWf := put_regsWf (put_regsWf (put_regsWf h _ _ _) _ _ _) _ _ _
    have hy : y.RegsWf := put_regsWf (put_regsWf (put_regsWf hx _ _ _) _ _ _) _ _ _
    exact snap_regsWf hy _

theorem vector_regsWf {st : Strand} (h : st.RegsWf) (v core : Nat) : (st.vector v core).RegsWf := by
  simp only [vector]
  by_cases hc : core < 4
  · simp only [hc, dite_true]
    split
    · exact snapTrigger_regsWf (ipend_regsWf h _) 5
    · exact regsWf_congr h rfl
  · simp only [hc, dite_false]
    split
    · exact snapTrigger_regsWf h 5
    · exact h

/-- A fault record keeps the register file's form where its information does. -/
theorem noteErr_regsWf {st : Strand} (h : st.RegsWf) (valid code ovf : Fld) (c : Nat) {info : Strand → Strand}
    (hi : ∀ x : Strand, x.RegsWf → (info x).RegsWf) : (st.noteErr valid code ovf c info).RegsWf := by
  have hp := hi _ (put_regsWf (put_regsWf h valid 1 0) code c 0)
  unfold noteErr; split
  · exact bump_regsWf h _ _
  · dsimp only
    split
    · exact vector_regsWf hp _ _
    · exact hp

/-! ### Sentinel events -/

/-- A firing joins the alarm: of the sentinel's state, only the alarm and its time change. -/
theorem fire_jsp (st : Strand) (t : Nat) (f : Firing) :
    (st.fire t f).jsp = { st.jsp with alarm := st.jsp.alarm ++ [f], alarmAt := if st.jsp.alarm.isEmpty then t else st.jsp.alarmAt } := rfl

theorem fire_regsWf {st : Strand} (h : st.RegsWf) (t : Nat) (f : Firing) : (st.fire t f).RegsWf := bump_regsWf h _ _

theorem countEvent_regs (st : Strand) (t src det island reading : Nat) :
    (st.countEvent t src det island reading).regs = (st.bump R.JSP_SRC_CNT_EVENTS src).regs
      ∨ (st.countEvent t src det island reading).regs = ((st.bump R.JSP_SRC_CNT_EVENTS src).bump R.JSP_SRC_CNT_FIRINGS src).regs := by
  have hs : ∀ x : Strand, (x.firingOf t src det island reading).src = src := fun _ => rfl
  unfold countEvent
  dsimp only
  split
  · exact .inl rfl
  · split
    · split
      · exact .inr rfl
      · exact .inl rfl
    · exact .inr rfl

/-- One event of a source counts it, and counts a firing where it fires; no other register changes. -/
theorem countEvent_regsWf {st : Strand} (h : st.RegsWf) (t src det island reading : Nat) : (st.countEvent t src det island reading).RegsWf := by
  have hb := bump_regsWf h R.JSP_SRC_CNT_EVENTS src
  obtain e | e := countEvent_regs st t src det island reading
  · exact regsWf_congr hb e
  · exact regsWf_congr (bump_regsWf hb _ _) e

theorem event_regsWf {st : Strand} (h : st.RegsWf) (t src det island reading : Nat) : (st.event t src det island reading).RegsWf := by
  simp only [event]; split
  · exact countEvent_regsWf (countEvent_regsWf h _ _ _ _ _) _ _ _ _ _
  · exact countEvent_regsWf h _ _ _ _ _

theorem setMode_regsWf {st : Strand} (h : st.RegsWf) (m cause : Nat) : (st.setMode m cause).RegsWf := by
  have hp := put_regsWf (put_regsWf (put_regsWf h R.CHT_MODE_PREV_MODE st.mode 0) R.CHT_MODE_MODE m 0) R.CHT_MODE_CAUSE cause 0
  simp only [setMode, tagModeUpdate]; split <;> exact hp

/-! ### Outcomes of jobs -/

/-- Recording an outcome touches the strand's job lists and nothing else of it. -/
theorem finish_eq (st : Strand) (t : Nat) (j : Job) (records status resLen detail : Nat) (counts : List (Fld × Nat)) :
    ∃ taken d, st.finish t j records status resLen detail counts = { st with taken := taken, done := st.done.filter (fun d => d.job.id != j.id) ++ [d] }
      ∧ d.job = j ∧ d.status = status ∧ d.resLen = resLen ∧ d.detail = detail ∧ d.ended = t
      ∧ (taken = st.taken ∨ taken = st.taken ++ [j]) := by
  refine ⟨_, _, rfl, rfl, rfl, rfl, rfl, rfl, ?_⟩
  split <;> simp

@[simp] theorem finish_regs (st : Strand) (t : Nat) (j : Job) (r x l d : Nat) (k : List (Fld × Nat)) : (st.finish t j r x l d k).regs = st.regs := rfl
@[simp] theorem finish_nv (st : Strand) (t : Nat) (j : Job) (r x l d : Nat) (k : List (Fld × Nat)) : (st.finish t j r x l d k).nv = st.nv := rfl
@[simp] theorem finish_sram (st : Strand) (t : Nat) (j : Job) (r x l d : Nat) (k : List (Fld × Nat)) : (st.finish t j r x l d k).sram = st.sram := rfl
@[simp] theorem finish_vault (st : Strand) (t : Nat) (j : Job) (r x l d : Nat) (k : List (Fld × Nat)) : (st.finish t j r x l d k).vault = st.vault := rfl
@[simp] theorem finish_jnl (st : Strand) (t : Nat) (j : Job) (r x l d : Nat) (k : List (Fld × Nat)) : (st.finish t j r x l d k).jnl = st.jnl := rfl
@[simp] theorem finish_eng (st : Strand) (t : Nat) (j : Job) (r x l d : Nat) (k : List (Fld × Nat)) : (st.finish t j r x l d k).eng = st.eng := rfl
@[simp] theorem finish_post (st : Strand) (t : Nat) (j : Job) (r x l d : Nat) (k : List (Fld × Nat)) : (st.finish t j r x l d k).post = st.post := rfl

/-! ### Keys -/

/-- What becomes of a transfer, R33: it arrives, or its shares are gone and the vault records it. -/
theorem deliver_cases (st : Strand) (env : JobEnv) (idx receiver : Nat) (key : Bytes) :
    (env.transferOk = true ∧ env.destOk = true ∧ st.deliver env idx receiver key = (st.transfer receiver key, true))
    ∨ ((env.transferOk = false ∨ env.destOk = false) ∧ st.deliver env idx receiver key
        = (({ st.transfer receiver key with keyBus := none } : Strand).onxErr (if env.transferOk then 2 else 1) idx receiver, false)) := by
  unfold deliver
  cases ht : env.transferOk <;> cases hd : env.destOk <;> simp

/-- Everything a key release can answer: no such key, a check refused, a decision that disagrees, a transfer that fails, or the key. -/
theorem release_cases (st : Strand) (t : Nat) (env : JobEnv) (fn gen h usage dest : Nat) (limits : Bool) :
    (st.ctxFor fn gen h = none ∧ st.release t env fn gen h usage dest limits = (st.bump R.ONX_ABSENT, .inl 0x22))
    ∨ ∃ c, st.ctxFor fn gen h = some c ∧
      (st.release t env fn gen h usage dest limits = (st.bump R.ONX_DENIED, .inl 0x21)
      ∨ (env.agree = false ∧ st.release t env fn gen h usage dest limits = ((st.onxErr 3 c.idx (receiverCode dest)).mismatch t, .inl 0x7F))
      ∨ (env.agree = true ∧ usage &&& c.attr.usage = usage ∧ bit c.attr.dest dest = true
          ∧ ∃ c', c' = { (if limits then chargeUse c else c) with lastRelease := t }
            ∧ ((((st.putCtx c').deliver env c.idx (receiverCode dest) c'.key).2 = true ∧ st.release t env fn gen h usage dest limits
                = (((st.putCtx c').deliver env c.idx (receiverCode dest) c'.key).1, .inr c'))
              ∨ (((st.putCtx c').deliver env c.idx (receiverCode dest) c'.key).2 = false ∧ st.release t env fn gen h usage dest limits
                = (((st.putCtx c').deliver env c.idx (receiverCode dest) c'.key).1, .inl 0x7F))))) := by
  unfold release
  cases hc : st.ctxFor fn gen h with
  | none => exact .inl ⟨rfl, rfl⟩
  | some c =>
    refine .inr ⟨c, rfl, ?_⟩
    simp only
    split
    · exact .inl rfl
    · next hn =>
      simp only [not_or, not_not] at hn
      cases ha : env.agree
      · exact .inr (.inl ⟨rfl, by simp⟩)
      · refine .inr (.inr ⟨rfl, hn.1, hn.2.1, _, rfl, ?_⟩)
        simp only [Bool.not_true, Bool.false_eq_true, if_false]
        generalize ({ (if limits then chargeUse c else c) with lastRelease := t } : Ctx) = c'
        generalize (st.putCtx c').deliver env c.idx (receiverCode dest) _ = r
        obtain ⟨x, b⟩ := r
        cases b
        · exact .inr ⟨rfl, rfl⟩
        · exact .inl ⟨rfl, rfl⟩

/-- A counter reservation answers the counter and moves it, or exhausts the context. -/
theorem drawCounter_some {st : Strand} {c : Ctx} {k : Nat} (h : c.attr.counter + k ≤ 0xFFFFFFFFFFFFFFFF) :
    st.drawCounter c k = (st.putCtx { c with attr := { c.attr with counter := c.attr.counter + k } }, some c.attr.counter) := by
  simp [drawCounter, Nat.not_lt.mpr h]

theorem drawCounter_none {st : Strand} {c : Ctx} {k : Nat} (h : 0xFFFFFFFFFFFFFFFF < c.attr.counter + k) :
    st.drawCounter c k = (st.putCtx { c with attr := { c.attr with counter := 0xFFFFFFFFFFFFFFFF } }, none) := by
  simp [drawCounter, h]

@[simp] theorem setCtx_regs (st : Strand) (c : Ctx) : (st.setCtx c).regs = st.regs := rfl

@[simp] theorem putCtx_regs (st : Strand) (c : Ctx) : (st.putCtx c).regs = st.regs := by
  unfold putCtx syncPersist; split <;> rfl

@[simp] theorem putCtx_sram (st : Strand) (c : Ctx) : (st.putCtx c).sram = st.sram := by
  unfold putCtx syncPersist; split <;> rfl

@[simp] theorem putCtx_flash (st : Strand) (c : Ctx) : (st.putCtx c).nv.flash = st.nv.flash := by
  unfold putCtx syncPersist; split <;> rfl

end Strand

/-! ### Jobs -/

namespace State

@[simp] theorem fail_mem (s : State) (n : Fin 4) (j : Job) (x d : Nat) : (s.fail n j x d).mem = s.mem := by unfold fail; split <;> rfl
@[simp] theorem fail_pending (s : State) (n : Fin 4) (j : Job) (x d : Nat) : (s.fail n j x d).pending = s.pending := by unfold fail; split <;> rfl
@[simp] theorem fail_now (s : State) (n : Fin 4) (j : Job) (x d : Nat) : (s.fail n j x d).now = s.now := by unfold fail; split <;> rfl
@[simp] theorem fail_ring (s : State) (n : Fin 4) (j : Job) (x d : Nat) : (s.fail n j x d).ring = s.ring := by unfold fail; split <;> rfl

/-- A job that fails has its outcome recorded on its strand. -/
theorem sd_fail_same {j : Job} (h : Strand.isBatch j = false) (s : State) (n : Fin 4) (x d : Nat) :
    (s.fail n j x d).sd n = (s.sd n).finish s.now j 0 x 0 d := by simp [fail, h]

/-- A posting job that fails before its intake takes the end of the Parse before it as its origin, R142. -/
theorem sd_fail_batch {j : Job} (h : Strand.isBatch j = true) (s : State) (n : Fin 4) (x d : Nat) :
    (s.fail n j x d).sd n = (s.sd n).finishEarly s.now j (Strand.recordCount j) x d := by simp [fail, h]

theorem sd_fail_other (s : State) {n m : Fin 4} (j : Job) (x d : Nat) (h : m ≠ n) : (s.fail n j x d).sd m = s.sd m := by
  unfold fail; split <;> exact sd_up_other _ _ h

@[simp] theorem hqErr_mem (s : State) (c q i f : Nat) : (s.hqErr c q i f).mem = s.mem := by unfold hqErr rnoteErr; split <;> rfl
@[simp] theorem hqErr_pending (s : State) (c q i f : Nat) : (s.hqErr c q i f).pending = s.pending := by unfold hqErr rnoteErr; split <;> rfl
@[simp] theorem hqErr_now (s : State) (c q i f : Nat) : (s.hqErr c q i f).now = s.now := by unfold hqErr rnoteErr; split <;> rfl
@[simp] theorem hqErr_ident (s : State) (c q i f : Nat) : (s.hqErr c q i f).ring.ident = s.ring.ident := by unfold hqErr rnoteErr; split <;> rfl
@[simp] theorem hqErr_sd (s : State) (c q i f : Nat) (n : Fin 4) : (s.hqErr c q i f).sd n = s.sd n := by unfold hqErr rnoteErr; split <;> rfl

/-- A host job's output goes to host memory and nowhere else. -/
theorem writeJob_host {s : State} {j : Job} (h : j.cop = none) (n : Fin 4) (a : Nat) (b : Bytes) :
    s.writeJob n j a b = { s with mem := Mem.writeBytes s.mem a b } := by simp [writeJob, h]

/-- A coprocessor job's output goes to the strand's work SRAM; host memory stays. -/
theorem writeJob_cop {s : State} {j : Job} (h : j.cop.isSome = true) (n : Fin 4) (a : Nat) (b : Bytes) :
    (s.writeJob n j a b).mem = s.mem ∧ ((s.writeJob n j a b).sd n).sram = Mem.writeBytes (s.sd n).sram a b
      ∧ ∀ m, m ≠ n → (s.writeJob n j a b).sd m = s.sd m := by
  have : j.cop.isNone = false := by cases hj : j.cop <;> simp_all
  simp only [writeJob, this, Bool.false_eq_true, if_false]
  exact ⟨rfl, by rw [sd_up_same], fun m hm => sd_up_other _ _ hm⟩

/-- A job output keeps host memory in its canonical form. -/
theorem writeJob_wf {s : State} (h : Mem.wf s.mem = true) (n : Fin 4) (j : Job) (a : Nat) (b : Bytes) : Mem.wf (s.writeJob n j a b).mem = true := by
  unfold writeJob; split
  · exact Mem.wf_writeBytes a b h
  · exact h

@[simp] theorem writeJob_now (s : State) (n : Fin 4) (j : Job) (a : Nat) (b : Bytes) : (s.writeJob n j a b).now = s.now := by unfold writeJob; split <;> rfl
@[simp] theorem writeJob_pending (s : State) (n : Fin 4) (j : Job) (a : Nat) (b : Bytes) : (s.writeJob n j a b).pending = s.pending := by
  unfold writeJob; split <;> rfl
@[simp] theorem writeJob_ring (s : State) (n : Fin 4) (j : Job) (a : Nat) (b : Bytes) : (s.writeJob n j a b).ring = s.ring := by
  unfold writeJob; split <;> rfl

/-- A job that succeeds writes its result and has its outcome recorded. -/
theorem succeed_ok {s : State} {j : Job} {out : Bytes} (h : (j.env.writeOk || out.isEmpty) = true) (n : Fin 4) (detail status : Nat) :
    s.succeed n j out detail status
      = (s.writeJob n j j.seg0.outAddr out).up n fun st => st.finish s.now j 0 status out.length detail := by simp [succeed, h]

/-- An output that cannot be written ends the job with 0x40. -/
theorem succeed_error {s : State} {j : Job} {out : Bytes} (h : (j.env.writeOk || out.isEmpty) = false) (n : Fin 4) (detail status : Nat) :
    s.succeed n j out detail status = (s.hqErr 3 j.sq 0 j.fn).fail n j 0x40 (2 * 2 ^ 16) := by simp [succeed, h]

@[simp] theorem succeed_pending (s : State) (n : Fin 4) (j : Job) (out : Bytes) (d x : Nat) : (s.succeed n j out d x).pending = s.pending := by
  unfold succeed; split <;> simp

@[simp] theorem succeed_now (s : State) (n : Fin 4) (j : Job) (out : Bytes) (d x : Nat) : (s.succeed n j out d x).now = s.now := by
  unfold succeed; split <;> simp

@[simp] theorem succeed_ident (s : State) (n : Fin 4) (j : Job) (out : Bytes) (d x : Nat) : (s.succeed n j out d x).ring.ident = s.ring.ident := by
  unfold succeed; split <;> simp

theorem succeed_wf {s : State} (h : Mem.wf s.mem = true) (n : Fin 4) (j : Job) (out : Bytes) (d x : Nat) : Mem.wf (s.succeed n j out d x).mem = true := by
  unfold succeed; split
  · simpa using writeJob_wf h n j _ out
  · simpa using h

/-- Everything that can become of a job before its own work: whatever holds of each of these answers holds of `runJob`. -/
theorem runJob_ind {P : State → Prop} {s : State} {n : Fin 4} {j : Job} {work : State → State}
    (halted : (s.sd n).halted = true → P s)
    (gone : (s.sd n).mode = 6 ∨ (s.sd n).mode = 7 → namesContext j = true → P (s.fail n j 0x60))
    (off : (s.sd n).mode ≤ 1 → P (s.fail n j 0x30))
    (dup : s.dupHits n j.op = true → P (s.fail n j 0x7F))
    (unread : j.env.readOk = false → P ((s.hqErr 2 j.sq 0 j.fn).fail n j 0x40 (1 * 2 ^ 16)))
    (served : (s.sd n).halted = false → 2 ≤ (s.sd n).mode → s.dupHits n j.op = false → j.env.readOk = true → P (work s)) :
    P (s.runJob n j work) := by
  unfold runJob
  split
  · next h => exact halted h
  · next h =>
    split
    · next h' => exact gone h'.1 h'.2
    · split
      · next h' => exact off h'
      · next h' =>
        split
        · next h'' => exact dup h''
        · next h'' =>
          cases hr : j.env.readOk
          · simpa using unread hr
          · simpa using served (by simpa using h) (by omega) (by simpa using h'') hr

/-- A job that a strand serves does its own work. -/
theorem runJob_served {s : State} {n : Fin 4} {j : Job} (h1 : (s.sd n).halted = false) (h2 : 2 ≤ (s.sd n).mode)
    (h3 : namesContext j = true → (s.sd n).mode < 6) (h4 : s.dupHits n j.op = false)
    (h5 : j.env.readOk = true) (work : State → State) : s.runJob n j work = work s := by
  unfold runJob
  have h6 : ¬ (((s.sd n).mode = 6 ∨ (s.sd n).mode = 7) ∧ namesContext j = true) := fun h => by have := h3 h.2; omega
  simp [h1, h4, h5, h6, Nat.not_le.mpr h2]

/-- A result that fits its output area lets the job go on; one that does not ends it with 0x41. -/
theorem room_fits {s : State} {j : Job} {need : Nat} (h : need ≤ j.seg0.outLen) (n : Fin 4) (work : State → State) :
    s.room n j need work = work s := by simp [room, Nat.not_lt.mpr h]

theorem room_short {s : State} {j : Job} {need : Nat} (h : j.seg0.outLen < need) (n : Fin 4) (work : State → State) :
    s.room n j need work = s.fail n j 0x41 := by simp [room, h]

end State

end Sys2Proof.Machine
end

