-- ==== Sys2Proof/Tests/Slice0.lean ====
section
/-! SUPPORT. The model's own tests: a state and operands that meet the hypotheses of each statement, ill-formed commands that the checks
refuse, and small results worked out by hand from the spec. -/

open Sys2Proof Sys2Proof.Machine Sys2Proof.Claims

namespace Sys2Proof.Tests

set_option maxRecDepth 20000
set_option Elab.async false

/-! ### Small states -/

/-- Strand 0 changed in the reset state. -/
def on (f : Strand → Strand) : State := State.reset.up 0 f

/-- Strand 0 in a mode. -/
def inMode (m : Nat) : State := on fun st => st.put R.CHT_MODE_MODE m

/-- The device with a life-cycle code in all three copies. -/
def lifed (s : State) (k : Nat) : State := s.upR fun r => { r with ident := { r.ident with life := ⟨k, k, k⟩ } }

/-- Logical core 0 of strand 0 runs. -/
def garnet : State := State.reset.upCore 0 0 fun x => { x with running := true }

/-- It runs with a register set. -/
def garnetWith (r : Fin 32) (w : Word) : State := garnet.upCore 0 0 fun x => x.setG r w

/-- A valid descriptor of a vector, entering a bank at 0x100, P0. -/
def descBytes (bank : Nat) : Bytes := [0, 1, 0, 0, 0, 0, 0, 0, 0] ++ toLE 1 bank ++ [1, 0, 0, 0, 0, 0]

/-- Descriptors for the vectors 1 (bank 3), 9, 10 and 16 (bank 1). -/
def vectored : State :=
  let m := Mem.writeBytes (Mem.writeBytes [] 16 (descBytes 3)) 144 (descBytes 1)
  let m := Mem.writeBytes (Mem.writeBytes m 160 (descBytes 1)) 256 (descBytes 1)
  garnet.up 0 fun st => { st with sram := m }

/-- A core of strand 0 that holds a ticket. -/
def ticketed : State := garnet.upCore 0 0 fun x => { x with tickets := [⟨1, 0, 0, { id := 7, cop := some 0 }, 0, none⟩] }

/-! ### The hypotheses of the statements are met -/

theorem test_meets_GarnetRegisterResults : Fetches garnet 0 0 ∧ (31 : Fin 32).val + (0 : Fin 32).val + 1 ≤ 32 := by
  unfold Fetches MayFetch; decide +kernel
theorem test_meets_GarnetLoadResults : Fetches garnet 0 0 ∧ 0x7FFF8 = ((garnet.core 0 0).g 0 + (0xFFF8 : BitVec 16).signExtend 32).toNat % 2 ^ 19
    ∧ 0 = ((garnet.core 0 0).g 0 + (0 : BitVec 16).signExtend 32).toNat ∧ 0 % 8 = 0 ∧ Strand.inSram 0 = true
    ∧ (garnet.sd 0).mpuCheck 0 (garnet.core 0 0).priv 1 0 8 = none ∧ (garnet.sd 0).sramRead 0 8 = some (zeros 8) := by
  unfold Fetches MayFetch; decide +kernel
theorem test_meets_GarnetStoreResults : (garnet.sd 0).mpuCheck 0 (garnet.core 0 0).priv 2 0 8 = none ∧ (4 : Fin 32).val % 2 = 0 := by decide +kernel
theorem test_meets_GarnetControlFlow : ((garnet.core 0 0).g 0 + (8 : BitVec 16).signExtend 32).toNat % 4 = 0 := by decide +kernel
theorem test_meets_GarnetTraps : Fetches vectored 0 0 ∧ (vectored.core 0 0).bank = 0 ∧ (vectored.sd 0).descriptor 0 9 = some ⟨0x100, 0, 0, 1, 1, 0⟩
    ∧ (vectored.sd 0).descriptor 0 10 = some ⟨0x100, 0, 0, 1, 1, 0⟩ ∧ (⟨0x100, 0, 0, 1, 1, 0⟩ : Desc).ok 9 1 = true
    ∧ (⟨0x100, 0, 0, 1, 1, 0⟩ : Desc).ok 10 1 = true ∧ bit 1 1 = false ∧ (vectored.core 0 0).priv ≤ 1 := by
  unfold Fetches MayFetch; decide +kernel
theorem test_meets_GarnetEret : let s := garnet.upCore 0 0 fun x => { x with bank := 1 }
    Fetches s 0 0 ∧ (s.core 0 0).bank = 1 ∧ ((s.core 0 0).esr[(1 : Fin 4)]).toNat % 4 = 0 ∧ bankReach (s.core 0 0) (bankOf 3) = true := by
  unfold Fetches MayFetch; decide +kernel
theorem test_meets_GarnetControlRegisters : crListed 0xC = true ∧ crReadable 0xC 0 = true ∧ (garnet.core 0 0).priv = 0 := by decide +kernel
theorem test_meets_GarnetCoprocessors : let d := toLE 4 1 ++ toLE 2 0 ++ toLE 2 0x500 ++ zeros 56
    (garnet.sd 0).majorFault 0x3B = 0 ∧ (garnet.sd 0).sramRead 0 64 = some (zeros 64) ∧ (ticketed.core 0 0).tickets.length = 1
    ∧ garnet.badRange 0 0 0 0 (garnet.copJob 0 0 d) = none ∧ State.reservedSet d = false ∧ State.unitOps 3 (garnet.copJob 0 0 d).op = true
    ∧ ((garnet.sd 0).sramRead (garnet.copJob 0 0 d).seg0.inAddr (garnet.copJob 0 0 d).seg0.inLen).isSome = true := by decide +kernel
theorem test_meets_GarnetFabric : let s := garnet.up 0 fun st => { st with accepted := some [], fab := { decls := [{ major := 0x3C, fn11 := 1, cycles := 1 }] } }
    (s.core 0 0).priv ≤ (s.sd 0).get R.GAR_CTL_FABRIC_PRIV ∧ (s.sd 0).majorFault 0x3C = 0
    ∧ ((s.sd 0).fab.decls.any fun d => d.major == 0x3C && d.fn11 == 1) = true := by decide +kernel
theorem test_meets_GarnetTickets : (ticketed.sd 0).halted = false
    ∧ ((ticketed.core 0 0).tickets.find? fun t => t.num == 1 && t.ended.isNone) = some ⟨1, 0, 0, { id := 7, cop := some 0 }, 0, none⟩
    ∧ (ticketed.sd 0).mpuCheck 0 0 3 0 32 = none ∧ (ticketed.sd 0).mpuCheck 0 0 3 0x90000000 32 ≠ none := by decide +kernel
theorem test_meets_GarnetInterrupt : let s := vectored.up 0 fun st => { (st.setCore 0 { st.core 0 with ie := true, imask := 2 ^ 16 }) with ipend := st.ipend.set 0 (2 ^ 16) }
    (s.core 0 0).ie = true ∧ (s.sd 0).nmi[(0 : Fin 4)] = false ∧ (s.sd 0).firstVector 0 = some 16
    ∧ (s.sd 0).descriptor 0 16 = some ⟨0x100, 0, 0, 1, 1, 0⟩ ∧ (⟨0x100, 0, 0, 1, 1, 0⟩ : Desc).ok 16 1 = true ∧ (s.sd 0).wakes 0 = true
    ∧ (s.sd 0).coreMhz 0 ≠ 0 := by decide +kernel
theorem test_meets_GarnetNmi : let s := vectored.up 0 fun st => { st with nmi := st.nmi.set 0 true }
    (s.core 0 0).bank ≠ 3 ∧ (s.sd 0).nmi[(0 : Fin 4)] = true ∧ (s.sd 0).descriptor 0 1 = some ⟨0x100, 0, 0, 3, 1, 0⟩
    ∧ (⟨0x100, 0, 0, 3, 1, 0⟩ : Desc).ok 1 3 = true := by decide +kernel
theorem test_meets_RefusedRegisterAccesses : State.reset.ring.power = true ∧ Place.of .manager 0x60000000 = .hole ∧ (garnet.core 0 0).running = true
    ∧ (strandNo 0) = 0 ∧ 0x40000001 % 4 ≠ 0 := by decide +kernel
theorem test_meets_RegisterReadsAnswer : let s := on fun st => { st with hiLatch := [(0x10001C, 5)] }
    Place.of .manager 0x40100018 = .strand 0 0x100018 ∧ Place.of .manager 0x4010001C = .strand 0 0x10001C ∧ reaches .manager 0 0x100018 = true
    ∧ 0x100018 ∈ loRegs ∧ 0x100000 ∉ loRegs ∧ (s.sd 0).hiLatch.find? (fun x => x.1 == 0x10001C) = some (0x10001C, 5)
    ∧ (s.sd 0).hiLatch.find? (fun x => x.1 == 0x100018) = none := by decide +kernel
theorem test_meets_BoundaryField : let s := on fun st => st.wr 0x100004 1
    (s.sd 0).halted = false ∧ (s.sd 0).mode ≠ 0 ∧ (s.sd 0).hiLatch = [] ∧ 0x100004 ∉ (s.sd 0).dupBad ∧ (2 : Word).toNat % 2 ^ 16 = 2
    ∧ (s.sd 0).rd 0x100004 = BitVec.ofNat 32 1 := by decide +kernel
theorem test_meets_RegisterWrites : ((inMode 2).sd 0).mode ≠ 1 ∧ (7 : Word) ≠ ((inMode 2).sd 0).rd 0x100008 ∧ (State.reset.sd 0).mode = 1 ∧ bit 1 0 = true
    ∧ duplicated 0 = true := by decide +kernel

/-! Start, modes, the ring. -/

theorem test_meets_MainPower : State.reset.ring.power = true ∧ (State.reset.upR fun r => { r with power := false }).ring.power = false
    ∧ (State.reset.sd 0).id.val ∈ [0] := by decide +kernel
theorem test_meets_StartOfAStrand : (State.reset.sd 0).mode = 1 ∧ (State.reset.sd 0).halted = false ∧ (State.reset.sd 0).get R.CHT_START_STATUS_STEP = 0
    ∧ (State.reset.sd 0).nv.latch = false ∧ (State.reset.sd 0).nv.quarantine = false ∧ (State.reset.sd 0).canaryBad 0 = false
    ∧ (State.reset.sd 0).nv.returnRec = false ∧ (State.reset.sd 0).nv.retCharter = none ∧ (State.reset.sd 0).markValid = false
    ∧ State.reset.life = 0 ∧ (lifed State.reset 1).life = 1 ∧ (lifed State.reset 7).life = 3 ∧ (lifed State.reset 15).life = 4
    ∧ (lifed State.reset 31).life = 5 ∧ (State.reset.sd 0).canaryBad 5 = false := by decide +kernel
theorem test_meets_StartLatched : let s := on fun st => { st with nv := { st.nv with latch := true } }
    (s.sd 0).nv.latch = true ∧ (s.sd 0).markValid = false ∧ (s.sd 0).nv.returnRec = false := by decide +kernel
theorem test_meets_Serving : let s := on fun st => { st.put R.CHT_MODE_MODE 4 with retry := some (.thaw, 9), pairDue := some 5, freezeOpen := true }
    (s.sd 0).halted = false ∧ (s.sd 0).pairDue = some 5 ∧ (lifed s 1).life = 1 ∧ (s.sd 0).mode = 4 ∧ (s.sd 0).retry = some (.thaw, 9)
    ∧ (s.sd 0).chkAt = none ∧ (s.sd 0).freezeOpen = true ∧ (s.sd 0).post.batches = [] ∧ ((inMode 5).sd 0).mode = 5 ∧ ((inMode 4).sd 0).retry = none
    ∧ ((inMode 3).sd 0).mode = 3 := by decide +kernel
theorem test_meets_MakerChallenges : let s := (lifed State.reset 15).upR fun r => { r with challenge := some [1], scrapChallenge := some [2], debugOpen := true, retainPend := [⟨0, 0, 1⟩] }
    s.life = 4 ∧ s.ring.challenge = some [1] ∧ s.ring.scrapChallenge = some [2] ∧ s.ring.wrongScrap < 3 ∧ s.ring.rsFailed = false
    ∧ s.rget R.RNG_STATUS_RS_REF = (0 : Fin 4).val ∧ (1 : Fin 4).val ∉ s.ring.refBad ∧ s.ring.retainPend = [⟨0, 0, 1⟩]
    ∧ (lifed State.reset 15).ring.debugOpen = false ∧ (∀ j : Fin 4, j < 1 → j = 0 ∨ j.val ∈ s.ring.refBad) := by decide +kernel

/-! Posting. -/

/-- A batch past intake. -/
def aBatch : Batch := { order := 0, job := { id := 3, op := 0x100 }, relay := none, check := false, header := zeros 64, recs := [zeros 176], authz := false,
                        sealAlg := 0, sealCtx := 0, spec := false }

/-- Strand 0 in SERVICE with that batch, as `f` has it. -/
def posting (f : Batch → Batch) : State := (inMode 2).up 0 fun st => st.upPost fun p => { p with batches := [f aBatch], nextOrder := 1 }

theorem test_meets_PostingIntake : let s := (inMode 2).up 0 fun st => st.upPost fun p => { p with waiting := [({ op := 0x100 }, none)] }
    (s.sd 0).halted = false ∧ (s.sd 0).post.waiting = ({ op := 0x100 }, none) :: [] ∧ ((s.sd 0).post.batches.filter fun b => !b.posted).length < 16
    ∧ ({ op := 0x100 } : Job).env.readOk = true := by decide +kernel
theorem test_meets_QuarantineSlot : let s := posting id
    (s.sd 0).post.batches.find? (fun b => b.slot.isNone && !b.posted) = some aBatch ∧ (s.sd 0).freeSlot = some 0 := by decide +kernel
theorem test_meets_RecordCheck : let s := posting id
    (s.sd 0).batch 0 = some aBatch ∧ aBatch.phase = .checking ∧ aBatch.parsed < aBatch.recs.length ∧ (s.sd 0).mustWait aBatch = false := by decide +kernel
theorem test_meets_BatchDecision : let b := { aBatch with parsed := 1 }
    b.parsed = b.recs.length ∧ b.decision = none ∧ Strand.unbalanced b.cur = none ∧ Strand.unbalanced [⟨[], 0, 1, 0⟩] = some 0
    ∧ ((posting fun _ => b).sd 0).batch 0 = some b := by decide +kernel
theorem test_meets_CommitAndHold : let b := { aBatch with parsed := 1, decision := some 0 }
    let s := (posting fun _ => b).up 0 fun st => st.put R.MIR_ROLE_ROLE 1
    (s.sd 0).batch 0 = some b ∧ (s.sd 0).writer = true ∧ b.decision.isSome = true ∧ ({ b with phase := .committed } : Batch).ended = false
    ∧ (∀ c ∈ (s.sd 0).post.batches, c.order < b.order → c.phase ≠ .checking) := by decide +kernel
theorem test_meets_CompletionPosting : let d : Done := ⟨{ id := 3, fn := 0 }, 0, 0, 0, 0, 0, 10, none, []⟩
    let s := ((inMode 2).up 0 fun st => { st with done := [d] }).rput R.HQ_STATUS_LINK_UP 1
    (s.sd 0).halted = false ∧ s.rflag R.HQ_STATUS_LINK_UP = true ∧ s.ring.hpFailed = false ∧ earliest (s.sd 0).done = some d
    ∧ (s.fn 0).gen = d.job.gen ∧ (s.fn 0).st ≠ .absent := by decide +kernel

/-- Strand 0 in SERVICE serves an ordinary job. -/
theorem test_meets_Served : Served (inMode 2) 0 { op := 0x400 } ∧ VaultServed (inMode 2) 0 { op := 0x200 } := by
  unfold VaultServed Served; decide +kernel

theorem test_meets_Approvals : let a : Approval := ⟨0, zeros 16, 1, [], 0, 1, 100, false, false, none⟩
    let s := (inMode 2).up 0 fun st => st.upPost fun p => { p with approvals := [a] }
    (s.sd 0).approval (zeros 16) 1 = some a ∧ a.live = false ∧ (s.sd 0).deviceTime s.now < a.expiry ∧ (s.sd 0).post.waits = []
    ∧ s.rget R.HQ_CQ_CFG_OWNER ((s.sd 0).get R.PST_RELAY_CQ_QUEUE) = 0 ∧ (zeros 16 ++ [1, 0]).length = 18 := by decide +kernel

/-! The host port. -/

/-- A submission queue of strand 0 with one whole entry waiting, mapped to the physical function, on completion queue 0. -/
def queued : State :=
  let e := toLE 4 9 ++ toLE 2 (2 ^ 15 + 2 ^ 14) ++ toLE 2 0 ++ zeros 56
  let s := { inMode 2 with mem := Mem.writeBytes [] 0x1000 e }
  let s := ((s.rput R.HQ_STATUS_LINK_UP 1).rput R.HQ_CTL_FETCH_EN 1).rput R.HQ_SQ_CFG_MAPPED 1
  let s := ((s.rput R.HQ_SQ_CFG_SIZE_LOG2 4).rput R.HQ_CQ_CFG_MAPPED 1).rput R.HQ_CQ_CFG_SIZE_LOG2 4
  let s := (s.rput R.HQ_SQ_BASE_LO_BASE_LO 1).rput R.HQ_SQ_SCHED_WEIGHT 1
  s.upR fun r => { r with sqs := [{ id := 0, state := .enabled, tail := 1 }], cqs := [{ id := 0, enabled := true }] }

theorem test_meets_EntryTake : let q : Sq := { id := 0, state := .enabled, tail := 1 }
    let s := queued
    s.strandSqs 0 = [q] ∧ s.sq 0 = q ∧ s.ring.scheds[(0 : Fin 4)] = {} ∧ s.eligible q = true ∧ s.rget R.HQ_SQ_SCHED_WEIGHT 0 ≠ 0 ∧ q.chain = none := by
  decide +kernel
theorem test_meets_EntryTakeEntry : let e := queued.entryAt { id := 0, state := .enabled, tail := 1 } 0
    bit (State.w0 e) 47 = true ∧ bit (State.w0 e) 46 = true ∧ State.reservedSet e = false ∧ bits (State.w0 e) 48 16 < 0xA00
    ∧ queued.cqUsable (queued.cqNamed 0 (State.w0 e)) (queued.sqOwner 0) = true := by decide +kernel
theorem test_meets_Doorbells : queued.rflag R.HQ_SQ_CFG_MAPPED 0 = true ∧ queued.pageReaches .manager 0 (queued.sqOwner 0) = true ∧ queued.sqSize 0 = 16
    ∧ (15 + 16 - 1) % 16 ≤ (0 + 16 - 1 + 16 - 1) % 16 ∧ queued.rflag R.HQ_CQ_CFG_MAPPED 0 = true ∧ queued.cqSize 0 = 16
    ∧ queued.rflag R.HQ_SQ_CFG_MAPPED 1 = false ∧ queued.rflag R.HQ_CQ_CFG_MAPPED 1 = false ∧ (queued.sq 0).state = .enabled
    ∧ (State.reset.sq 0).state = .disabled ∧ State.reset.sqConfigOk 0 = false ∧ (queued.cq 0).reserved = 0 := by decide +kernel
theorem test_meets_QueueEnable : let s := ((queued.rput R.HQ_SQ_HPUB_LO_HPUB_LO 0x400).upR fun r => { r with sqs := [] }).rput R.HQ_SQ_CFG_OWNER 0
    (s.sq 0).state = .disabled ∧ s.sqConfigOk 0 = true := by decide +kernel
theorem test_meets_HostPortEvents : let s := queued.upR fun r => { r with
      sqs := [{ id := 0, state := .enabled, tail := 1, chain := some ⟨[zeros 64], 0, 1⟩, pubDue := some 4 }], cqs := [{ id := 0, timer := some 5 }] }
    (s.sq 0).chain = some ⟨[zeros 64], 0, 1⟩ ∧ ((s.sq 0).next + (s.sq 0).cache.length) % s.sqSize 0 ≠ (s.sq 0).tail ∧ (s.cq 0).timer = some 5
    ∧ (s.sq 0).pubDue = some 4 := by decide +kernel

/-! The journal and the mirror. -/

/-- An entry of number 1 with an empty body. -/
def anEntry : Entry := { head := toLE 8 0 ++ toLE 8 1 ++ zeros 496, body := none }

/-- Strand 0 in SERVICE with a journal store of 64 MiB and the entry waiting for it. -/
def journalling : State := (inMode 2).up 0 fun st =>
  { (st.put R.JNL_CTL_STORE_EN 1) with jnl := { st.jnl with store := some { base := 0x10000, len := 67108864, ptr := 0x8000 }, storeQ := [anEntry.no], buf := [anEntry] } }

theorem test_meets_JournalClock : Served (inMode 5) 0 { op := 0x0B } ∧ ((inMode 5).sd 0).mode = 5 ∧ bits 100 0 8 ≤ 100 ∧ 100 < bits 155 0 8 ∧ bits 155 0 8 < 156
    ∧ Served (inMode 2) 0 { op := 0x0B } ∧ ((inMode 2).sd 0).mode ≠ 5 := by
  unfold Served; decide +kernel
theorem test_meets_StoreWrite : let s := journalling
    (s.sd 0).halted = false ∧ (s.sd 0).flag R.JNL_CTL_STORE_EN = true ∧ (s.sd 0).jnl.store = some { base := 0x10000, len := 67108864, ptr := 0x8000 }
    ∧ (s.sd 0).jnl.storeQ = anEntry.no :: [] ∧ (s.sd 0).jnl.buf.find? (fun e => e.no == anEntry.no) = some anEntry ∧ (s.sd 0).jnl.rolling = none
    ∧ ({ base := 0x10000, len := 67108864, ptr := 0x8000 } : Store).placeFor anEntry.bytes.length = some (0, anEntry.bytes.length) := by decide +kernel
theorem test_meets_CardWrite : let s := journalling.up 0 fun st =>
      { (st.put R.JC_STATUS_PAIRED 1).put R.JC_STATUS_ANCHORING 1 with jnl := { st.jnl with headNo := 1 }, jc := { st.jc with missed := [anEntry.no] } }
    State.cardRuns (s.sd 0) = true ∧ (s.sd 0).flag R.JC_STATUS_ANCHORING = true ∧ (s.sd 0).jnl.headNo ≠ 0
    ∧ ((s.sd 0).jnl.buf.filter fun e => decide (e.no > (s.sd 0).jnl.headNo) || (s.sd 0).jc.missed.contains e.no) = [anEntry] := by decide +kernel
theorem test_meets_JournalStore : 67108864 % 1048576 = 0 ∧ 67108863 < 67108864 ∧ (let x : Store := { base := 0, len := 67108864, ptr := 0 }
    x.next = 0 ∧ 0 < x.len ∧ x.limit (journalling.sd 0).blocked = x.used) ∧ (State.reset.sd 0).jnl.store = none
    ∧ ({ e := anEntry } : SupEnt).returned = false := by decide +kernel
theorem test_meets_JournalReading : let s := (inMode 2).up 0 fun st => { st with jnl := { st.jnl with buf := [anEntry], index := [anEntry] } }
    Served s 0 { op := 0x0B } ∧ (toLE 2 anEntry.submitter ++ toLE 8 anEntry.batchId ++ zeros 2).length = 12 ∧ s.submitterOk 0 0 anEntry.submitter = true
    ∧ (s.sd 0).writer = false ∧ (s.sd 0).entryBody s.mem anEntry.no = some anEntry ∧ le anEntry.head 7 1 = 0
    ∧ ((s.sd 0).jnl.index.filter fun e => e.submitter == anEntry.submitter && e.batchId == anEntry.batchId).getLast? = some anEntry
    ∧ (s.sd 0).entryBody s.mem 999 = none := by
  unfold Served; decide +kernel
theorem test_meets_RoleOpcodes : let s := (inMode 5).up 0 fun st => { (st.put R.MIR_ROLE_ROLE 1).put R.MIR_STATUS_PAIRED 1 with jnl := { st.jnl with s := { st.jnl.s with isOpen := true } } }
    Served s 0 { op := 0x0B } ∧ (s.sd 0).writer = true ∧ (s.sd 0).flag R.MIR_STATUS_PAIRED = true ∧ (s.sd 0).post.batches = []
    ∧ (s.sd 0).jnl.s.cur.no ≤ (s.sd 0).jnl.acked ∧ (s.sd 0).solo = false ∧ (s.sd 0).jnl.s.isOpen = true ∧ ((inMode 2).sd 0).writer = false
    ∧ ((inMode 2).sd 0).flag R.MIR_STATUS_PAIRED = false ∧ ((inMode 2).sd 0).flag R.MIR_SOLO_POLICY_POLICY = false := by
  unfold Served; decide +kernel
theorem test_meets_GulsisLink : let s := (inMode 2).up 0 fun st => (st.put R.MIR_CTL_ENABLE 1).put R.MIR_STATUS_LINKED 1
    (s.sd 0).pairable = true ∧ (s.sd 0).mir.step = .down ∧ (s.sd 0).mir.fails < 3 ∧ (s.sd 0).flag R.MIR_STATUS_LINKED = true ∧ (s.sd 0).mir.retryAt = none
    ∧ ({} : GFrame).ctr ≤ (s.sd 0).mir.rxCtr ∧ ((s.up 0 fun st => st.upMir fun m => { m with step := .hello, retryAt := some 4 }).sd 0).mir.step = .hello
    ∧ ((s.up 0 fun st => st.upMir fun m => { m with step := .attest }).sd 0).pairable = true := by decide +kernel
theorem test_meets_MirrorFrames : (State.reset.sd 0).jnl.rolling = none := by decide +kernel
theorem test_meets_MirrorTimers : let s := (inMode 2).up 0 fun st =>
      { ((st.put R.MIR_ROLE_ROLE 1).put R.MIR_STATUS_LINKED 1).put R.MIR_STATUS_LEASE 1 with
        mir := { step := .paired, keyTx := some 1, nakAt := some 3, roll := some ([], 2), marks := [⟨[], 1, 0⟩], leaseAt := some 7 }
        jnl := { st.jnl with s := { st.jnl.s with cur := { no := 2 } } } }
    (s.sd 0).writer = true ∧ (s.sd 0).mir.keyTx.isSome = true ∧ (s.sd 0).jnl.acked < (s.sd 0).jnl.s.cur.no ∧ (s.sd 0).mir.nakAt = some 3
    ∧ (s.sd 0).mir.roll = some ([], 2) ∧ (s.sd 0).mir.step = .paired ∧ (s.sd 0).flag R.MIR_STATUS_LINKED = true ∧ (s.sd 0).mir.txCtr < 2 ^ 64 - 1
    ∧ (s.sd 0).leaseHeld = true ∧ (s.sd 0).mir.leaseAt = some 7 ∧ (s.sd 0).mir.marks = ⟨[], 1, 0⟩ :: [] := by decide +kernel
theorem test_meets_KeeperTimers : let s := (inMode 5).up 0 fun st =>
      { ((st.put R.MIR_SOLO_POLICY_POLICY 1).put R.MIR_CTL_AUTO_TAKEOVER 1).put R.MIR_STATUS_LEASE 1 with mir := { step := .paired, lastRx := 5, lostAt := some 6 } }
    (s.sd 0).writer = false ∧ s.now < (s.sd 0).mir.lastRx + 10000000 ∧ (s.sd 0).mir.leaseTx < (s.sd 0).mir.lastRx ∧ (s.sd 0).leaseHeld = true
    ∧ (s.sd 0).mir.lostAt = some 6 ∧ (s.sd 0).flag R.MIR_SOLO_POLICY_POLICY = true ∧ (s.sd 0).flag R.MIR_CTL_AUTO_TAKEOVER = true
    ∧ (s.sd 0).solo = false ∧ (s.sd 0).fork = false ∧ Served s 0 { op := 0x0B } := by
  unfold Served; decide +kernel

/-! The vault and the engines. -/

/-- The attributes of an AES-128 key of the physical function that every receiver may use ten times. -/
def anAttr : Attr := ⟨1, 127, 0x1FFF, 0x10, 0, 1, 128, 10, 0, 0⟩

/-- A context in slot 5, generation 1. -/
def aCtx (f : Ctx → Ctx) : Ctx := f { idx := 5, attr := anAttr, key := zeros 16, baseGen := 1, curGen := 1 }

/-- Strand 0 in a mode with that context; Topaz, Jade and Beryl serve host jobs on lanes and engines 0 and 1. -/
def vaulted (m : Nat) (f : Ctx → Ctx) : State := (inMode m).up 0 fun st =>
  let st := ((st.put R.TOP_CTL_HOST_EN 1).put R.JAD_CTL_HOST_EN 1).put R.BER_CTL_HOST_EN 1
  let st := (st.put R.TOP_STATUS_LANE_A 0).put R.TOP_STATUS_LANE_B 1
  { st with vault := { st.vault with ctxs := [aCtx f] } }

/-- Its handle. -/
def handle : Nat := mkHandle 0 1 5

/-- An attribute block of an AES-128 key with no flags. -/
def attrBytes : Bytes := [1, 1, 1, 0, 0, 0, 0, 0] ++ toLE 2 128 ++ [0, 0] ++ toLE 4 10 ++ zeros 16

theorem test_meets_VaultCreation : let a := Attr.parse attrBytes
    attrBytes.length = 32 ∧ a.ok = true ∧ le attrBytes 0xA 2 = 0 ∧ a.owner = 0 ∧ a.flags = 0 ∧ asym a.alg = false ∧ largeNeed a.alg a.keylen = 0
    ∧ (vaulted 2 id).gateClosed 0 = false ∧ bit 1 0 = true ∧ ((vaulted 2 id).sd 0).freeHead = some 0 ∧ VaultServed (vaulted 2 id) 0 { op := 0x200 }
    ∧ VaultServed (vaulted 5 id) 0 { op := 0x200 } := by
  unfold VaultServed Served; decide +kernel
theorem test_meets_VaultContext : let j : Job := { op := 0x200, ctx := handle }
    (vaulted 2 id).vaultCtx 0 j j.ctx = some (aCtx id) ∧ bit anAttr.flags 1 = false ∧ bit anAttr.flags 4 = true
    ∧ (vaulted 2 id).vaultCtx 0 j 0 = none ∧ setAttrStatus anAttr { anAttr with usesLeft := 9 } = 0 ∧ setAttrStatus anAttr { anAttr with usesLeft := 11 } ≠ 0
    ∧ asym 0x20 = true ∧ asym anAttr.alg = false ∧ 32 ≤ (zeros 32).length := by decide +kernel
theorem test_meets_Attest : ((vaulted 2 id).up 0 fun st => st.put R.ONX_CTL_ATTEST_EN 1).sd 0 |>.flag R.ONX_CTL_ATTEST_EN := by decide +kernel
theorem test_meets_VaultBlobs : let s := (vaulted 2 fun c => { c with attr := { anAttr with flags := 4, usesLeft := 0xFFFFFFFF } }).up 0 fun st =>
      { st.put R.ONX_CTL_SPILL_EN 1 with nv := { st.nv with vault := { st.nv.vault with live := [3] } } }
    let b := ascii "OB" ++ [1, 0, 0] ++ zeros 15 ++ toLE 8 3 ++ zeros 36
    (s.sd 0).flag R.ONX_CTL_SPILL_EN = true ∧ ((strandBlobKey (s.sd 0) b).map (·.2)) = some true
    ∧ ((strandBlobKey (State.reset.sd 0) b).map (·.2)) = some false ∧ (s.sd 0).nv.vault.renewing = false
    ∧ ((spillNumber (s.sd 0) (aCtx id)).map (·.1)) = some 0 ∧ (((s.sd 0).nextIv 0).map (·.1)).isSome = true ∧ bit 4 2 = true ∧ bit 8 2 = false := by decide +kernel
theorem test_meets_KeyReplacement : let x : Succ := { key := zeros 16, usesLeft := 1, expiry := 0, counter := 0, check := zeros 3, verified := true, imported := false, hidden := 1, large := [] }
    let j : Job := { op := 0x200, ctx := handle }
    (vaulted 2 fun c => { c with succ := some x }).vaultCtx 0 j j.ctx = some (aCtx fun c => { c with succ := some x }) ∧ (aCtx id).succ = none
    ∧ ((vaulted 2 id).sd 0).staged' < 256 ∧ genSpan (aCtx id) < 128 ∧ largeNeed anAttr.alg anAttr.keylen = 0 := by decide +kernel
theorem test_meets_RootsAndReleases : let s := (vaulted 5 id).up 0 fun st =>
      { st.put R.ONX_STATUS_MIRROR_OPEN 1 with quorum := { st.quorum with kek := some 5 }, vault := { st.vault with sweep := some 3 }, nv := { st.nv with vault := { st.nv.vault with attestDraw := 1 } } }
    let j : Job := { op := 0x200, ctx := handle }
    16 ≤ bits 16 0 6 ∧ (s.sd 0).quorum.kek.bind (s.sd 0).slot = some (aCtx id) ∧ (s.sd 0).nv.vault.attestDraw ≠ 0
    ∧ (s.sd 0).flag R.ONX_STATUS_MIRROR_OPEN = true ∧ (s.sd 0).ctxFor 0 (s.jobGen j) handle = some (aCtx id) ∧ (s.sd 0).ctxFor 0 1 0 = none
    ∧ (s.sd 0).expired s.now (aCtx id) = false ∧ (s.sd 0).vault.sweep = some 3 ∧ VaultServed s 0 j ∧ bit anAttr.usage 0 = true ∧ bit anAttr.dest 0 = true := by
  unfold VaultServed Served; decide +kernel
theorem test_meets_CipherJobs : let s := vaulted 2 id
    let k : Job := { op := 0x310, ctx := handle, segs := [{ inLen := 16, data := zeros 16, outLen := 64 }] }
    Served s 0 k ∧ (s.sd 0).mode ∈ [2, 3, 5] ∧ (s.sd 0).flag R.TOP_CTL_HOST_EN = true ∧ (s.sd 0).ctxFor 0 (s.jobGen k) k.ctx = some (aCtx id)
    ∧ anyCipher 1 = true ∧ isAes 1 = true ∧ isTdea 1 = false ∧ (s.sd 0).laneFor true = some 0 ∧ (s.sd 0).laneFor false = some 0 := by
  unfold Served; decide +kernel
theorem test_meets_CipherRelease : let r := ((vaulted 2 id).sd 0).release 0 {} 0 1 handle 1025 0 true
    r.2.isRight = true ∧ (r.1.drawCounter (aCtx id) 1).2 = some 0 := by decide +kernel
theorem test_meets_Streams : let s := (vaulted 2 fun c => { c with poisoned := true }).up 0 fun st => st.upEng fun e =>
      { e with topRuns := [{ job := { op := 0x318 }, lane := 0, serial := false, slot := 5, work := { status := 0, outs := [], resLen := 0 } }] }
    (s.sd 0).eng.topQ = [] ∧ (s.sd 0).slot 5 = some (aCtx fun c => { c with poisoned := true }) ∧ (s.sd 0).eng.topRuns.length = 1
    ∧ (s.sd 0).laneStalled 0 = false ∧ (s.sd 0).eng.jadRuns = [] := by decide +kernel
theorem test_meets_HashJobs : let s := vaulted 2 fun c => { c with attr := { anAttr with alg := 8 } }
    (s.sd 0).flag R.JAD_CTL_HOST_EN = true ∧ State.jadCore (s.sd 0) 1 = some 0 ∧ State.jadCore (s.sd 0) 6 = some 2 ∧ Served s 0 { op := 0x500 }
    ∧ (((s.sd 0).ctxFor 0 1 handle).map (·.attr.alg)) = some 8 ∧ 0 ∈ (s.sd 0).activeLanes ∧ 16 ≤ digestLen 1 := by
  unfold Served; decide +kernel
theorem test_meets_HashRelease : (((vaulted 2 fun c => { c with attr := { anAttr with alg := 8 } }).sd 0).release 0 {} 0 1 handle 4 3 true).2.isRight = true := by
  decide +kernel
theorem test_meets_LaneStall : let s := (vaulted 2 id).up 0 fun st => st.setLane { num := 0, blocks := 1048576 }
    1048576 ≤ (s.sd 0).laneBlocks 0 ∧ (s.sd 0).flag R.TOP_STATUS_RESEED_WAIT = false ∧ 0 ∈ (s.sd 0).activeLanes := by decide +kernel

/-- A job on Beryl engine 0. -/
def berylRun (f : BerRun → BerRun) : BerRun := f { job := { id := 4, op := 0x400 }, eng := 0, st := .loading, since := 0 }

/-- Strand 0 in SERVICE with that job. -/
def beryl (f : BerRun → BerRun) : State := (vaulted 2 id).up 0 fun st => st.upEng fun e => { e with berRuns := [berylRun f] }

theorem test_meets_BigNumberJobs : let s := vaulted 2 fun c => { c with attr := { anAttr with alg := 0x20 } }
    Served s 0 { op := 0x400 } ∧ (s.sd 0).flag R.BER_CTL_HOST_EN = true ∧ (s.sd 0).eng.berQ = [] ∧ (s.sd 0).sealWaits = false
    ∧ ((s.sd 0).berActive.find? fun e => ((s.sd 0).berRun e).isNone).isSome = true ∧ (((s.sd 0).ctxFor 0 1 handle).map (·.attr.alg)) = some 0x20
    ∧ beNat (sub (zeros 16 ++ zeros 7 ++ [3]) 16 8) % 2 = 1 ∧ 2 ^ (64 * (1 - 1)) ≤ 3 := by
  unfold Served; decide +kernel
theorem test_meets_RsaAndCurves : rsaHashLen 1 = some 32 ∧ curveAlg 1 = some 0x20 ∧ 20 ≤ (zeros 32).length ∧ fieldLen 0x20 = 32 ∧ 256 ≤ bits 256 0 16
    ∧ 256 % 64 = 0 ∧ ((beryl id).sd 0).berRun 0 = some (berylRun id) := by decide +kernel
theorem test_meets_BerylEngineEvents : (berylRun id).st = .loading ∧ berKeyed (berylRun id).job = false ∧ berKeyed { op := 0x408 } = true
    ∧ ((beryl fun r => { r with st := .wiping }).sd 0).berRun 0 = some (berylRun fun r => { r with st := .wiping })
    ∧ ((beryl fun r => { r with st := .running, job := { r.job with op := 0x430, w6 := 256 }, prime := some 3 }).sd 0).eng.berQ = []
    ∧ (berylRun fun r => { r with st := .running, cands := 65534 }).cands = 65534 ∧ 3 ≤ bits 256 0 16 := by decide +kernel
theorem test_meets_Quartz : let s := (inMode 5).up 0 fun st => ((st.put R.QTZ_CTL_SRC_EN 1).put R.QTZ_STATUS_VALID 1).put R.QTZ_CTL_HOST_EN 1
    (s.sd 0).mode ≠ 0 ∧ (s.sd 0).eng.qtzQ = [] ∧ (s.sd 0).sourceRuns 0 = true ∧ (s.sd 0).get R.QTZ_TEST_APT_CUTOFF ≤ 1023
    ∧ (s.sd 0).flag R.QTZ_STATUS_VALID = true ∧ 0xFFFFC1EA % 2 ^ 16 = 0xC1EA ∧ (s.sd 0).flag R.QTZ_CTL_HOST_EN = true ∧ s.dupHits 0 0x900 = false
    ∧ (s.sd 0).get R.QTZ_STATUS_LEVEL < 1 ∧ (State.reset.sd 0).flag R.QTZ_STATUS_VALID = false ∧ ((inMode 4).sd 0).mode = 4 := by decide +kernel

/-- Function 1 of strand 0 as `f` has it, in SERVICE, with two virtual functions enabled. -/
def withFn (f : Fn → Fn) : State := (inMode 2).upR fun r => { r with sriov := true, numVfs := 2, fns := [{ num := 0, st := .active }, f { num := 1, st := .active }] }

theorem test_meets_Functions : let j : Job := { op := 0x20, w6 := 1 }
    Served (withFn id) 0 j ∧ 1 ≤ bits j.w6 0 8 ∧ (zeros 32).length = 32 ∧ allZero (zeros 32) 0x11 15 = true ∧ ((withFn id).fn 2).st = .absent
    ∧ (withFn id).vfEnabled 2 = true ∧ ((withFn id).fn 1).st ≠ .absent ∧ ((withFn id).fn 1).home = 0 ∧ ((withFn id).fn 1).advance = false
    ∧ ((withFn fun g => { g with advance := true }).fn 1).advance = true ∧ ((withFn fun g => { g with home := 1 }).fn 1).home ≠ 0
    ∧ ((withFn fun g => { g with st := .resetting }).fn 1).st = .resetting ∧ ((withFn fun g => { g with st := .removing }).fn 1).st = .removing
    ∧ (withFn id).jobsOf 1 = [] := by
  unfold Served; decide +kernel
theorem test_meets_FunctionPools : let p := Pool.parse (toLE 2 0 ++ toLE 2 4 ++ toLE 4 1 ++ zeros 6 ++ [1, 1, 1] ++ zeros 15)
    (withFn id).poolFits 0 2 p = true ∧ (withFn id).mapsOutside { num := 1 } p = false := by decide +kernel
theorem test_meets_FunctionImages : let j : Job := { op := 0x20, w6 := 1 + 256 * 86400 }
    bits j.w6 0 8 = 1 ∧ 1 ≤ bits j.w6 8 24 ∧ bits j.w6 8 24 ≤ 86400 ∧ ((withFn fun g => { g with st := .frozen }).fn 1).st = .frozen
    ∧ ((withFn fun g => { g with st := .saved }).fn 1).st = .saved ∧ bit 0x100 8 = true ∧ bit j.w6 8 = false
    ∧ ((withFn fun g => { g with st := .freezing, job := some j }).fn 1).job = some j
    ∧ ((withFn fun g => { g with st := .restoring, job := some j }).fn 1).awaitMarks = 0
    ∧ ((withFn fun g => { g with st := .saving, job := some j }).fn 1).st = .saving := by decide +kernel

/-! Stations, the record port and Spinel. -/

/-- Link 0 of strand 0 in a mode of R451, as `f` has it. -/
def linked (mode : Nat) (f : Link → Link) : State := (inMode 2).up 0 fun st =>
  { ((st.put R.SL_LINK_CTL_ENABLE 1).put R.SL_LINK_CFG_MODE mode) with links := [f { num := 0 }] }

theorem test_meets_Stations : let l := fun (f : Link → Link) => ((linked 2 f).sd 0).lk 0
    ((linked 2 id).sd 0).linkMode 0 = 2 ∧ (l id).st = .off ∧ ((linked 1 id).sd 0).linkMode 0 = 1 ∧ (l fun l => { l with st := .handshake }).finishSent = false
    ∧ ((on fun st => st.put R.SL_LINK_CTL_ENABLE 0).sd 0).flag R.SL_LINK_CTL_ENABLE 0 = false ∧ (zeros 304).length = 304
    ∧ (l fun l => { l with st := .live, polled := some 3 }).polled = some 3 ∧ Served (linked 2 id) 0 { op := 0x701 }
    ∧ 1 < ((linked 2 id).sd 0).get R.SL_LINK_TIME_MISS_LIMIT 0 ∧ 2 ^ 48 - 65536 ≤ (l fun l => { l with txCtr := 2 ^ 48 - 65536 }).txCtr := by
  unfold Served; decide +kernel
theorem test_meets_StationFrames : let s := (linked 2 fun l => { l with st := .live, s2d := some 5, poll := some 5 }).up 0 fun st => { st with vault := { st.vault with ctxs := [aCtx id] } }
    ((s.sd 0).lk 0).s2d.bind (s.sd 0).slot = some (aCtx id) ∧ ((s.sd 0).lk 0).poll.bind (s.sd 0).slot = some (aCtx id)
    ∧ ({ ctr := 1 } : SFrame).crcOk = true ∧ ({ ctr := 1 } : SFrame).flags ≤ 1 ∧ ((s.sd 0).lk 0).rxCtr < ({ ctr := 1 } : SFrame).ctr
    ∧ ({} : SFrame).ctr ≤ ((s.sd 0).lk 0).rxCtr ∧ (s.sd 0).relayFull = false := by decide +kernel
theorem test_meets_PlainRecords : let s := linked 1 id
    (plainRecord ((s.sd 0).put R.SL_LINK_FMT_DELIM 2) 0 [0, 1, 7]).isSome = true ∧ (s.sd 0).get R.SL_LINK_CFG_FORMAT 0 = 0 ∧ ((s.sd 0).lk 0).receives = []
    ∧ ((s.sd 0).lk 0).plain = [] ∧ (s.sd 0).linkRuns = true := by decide +kernel
theorem test_meets_RecordPort : let y : OSlot := { data := 1, sor := true, half := false, perr := false, gap := false, eor := true }
    let s := (linked 1 id).up 0 fun st => { ((st.put R.RP_CTL_ENABLE 1).put R.RP_CFG_FORMAT 1).put R.PST_RELAY_CQ_VALID 1 with
      fab := { st.fab with lowHalf := some y, recOpen := true, queue := [y], raw := [⟨some 0, 1, 0, [], 0, false⟩], forming := [⟨none, 1, 0, [], 1, none, 0, false⟩]
                           fmts := [⟨1, 3, 0, 2, 0, 5, 0, []⟩] } }
    (s.sd 0).flag R.RP_CTL_ENABLE = true ∧ (s.sd 0).get R.RP_CFG_FORMAT ≠ 0 ∧ (s.sd 0).fab.lowHalf = some y ∧ (s.sd 0).fab.queue.length < 8191
    ∧ (s.sd 0).linkRuns = true ∧ (∀ g ∈ (s.sd 0).fab.forming, g.closing = false) ∧ (s.sd 0).flag R.PST_RELAY_CQ_VALID = true
    ∧ (s.sd 0).relayFull = false ∧ (s.sd 0).fmtOf 1 = some ⟨1, 3, 0, 2, 0, 5, 0, []⟩ ∧ bit 2 1 = true := by decide +kernel
theorem test_meets_RelayPresent : let r : Relay := ⟨1, 0, 0, zeros 64, [], some (0, 0x61), 0, false⟩
    let s := (inMode 2).up 0 fun st => st.upPost fun p => { p with waits := [.relay r], buffers := [{ id := 8 }] }
    (s.sd 0).post.waits = [.relay r] ∧ (s.sd 0).post.buffers = [{ id := 8 }] ∧ r.cause.isSome = true := by decide +kernel

/-! Cards, the tag, flash. -/

/-- Strand 0 in a mode with the journal card present and paired. -/
def carded (m : Nat) (f : Jc → Jc) : State := (inMode m).up 0 fun st =>
  (((st.put R.JC_STATUS_PRESENT 1).put R.JC_STATUS_PAIRED 1).put R.JC_STATUS_JARTEX 1).upJc f

theorem test_meets_JournalCard : let s := carded 2 fun c => { c with inserted := true, debounceAt := some 5, awaitInit := true }
    (State.reset.sd 0).jc.inserted = false ∧ (s.sd 0).jc.debounceAt = some 5 ∧ (s.sd 0).jc.inserted = true ∧ jcWorks (s.sd 0) = true
    ∧ (s.sd 0).jc.awaitInit = true ∧ (s.sd 0).nv.pair = none ∧ (s.sd 0).flag R.JC_STATUS_PRESENT = true ∧ Served s 0 { op := 0x0B }
    ∧ (State.reset.sd 0).flag R.JC_STATUS_PRESENT = false ∧ State.cardRuns (s.sd 0) = true
    ∧ ((s.up 0 fun st => { st with nv := { st.nv with pair := some (zeros 16, 3) } }).sd 0).nv.pair = some (fit 16 [], 3)
    ∧ ((s.up 0 fun st => { st with jnl := { st.jnl with headNo := 1 } }).sd 0).jnl.headNo ≠ 0 ∧ (s.sd 0).cc.pairPermit = false
    ∧ 3 ≤ ((s.up 0 fun st => st.put R.JC_STATUS_SPEED 3).sd 0).get R.JC_STATUS_SPEED := by
  unfold Served; decide +kernel
theorem test_meets_JournalCardKeys : let s := (carded 5 fun c => { c with kX1 := some 5, kX2 := some 5 }).up 0 fun st => { st with vault := { st.vault with ctxs := [aCtx id] } }
    State.cardKeys (s.sd 0) = some (zeros 16, zeros 16) ∧ (s.sd 0).jc.kX1.bind (s.sd 0).slot = some (aCtx id) ∧ (aCtx id).poisoned = false := by decide +kernel
theorem test_meets_PairDerives : let s := (carded 5 id).up 0 fun st => st.upCc fun c => { c with pairPermit := true }
    (s.sd 0).mode = 5 ∧ (s.sd 0).cc.pairPermit = true ∧ (s.sd 0).flag R.JC_STATUS_JARTEX = true := by decide +kernel

/-- An order of kind 6 that one approval meets. -/
def anOrder : Order := { kind := 6, no := 1, block := zeros 64, m := 1, groups := 0, held := [], deadline := 9 }

/-- Strand 0 in a mode with that order and a custodian card at a step of its session. -/
def ordered (m : Nat) (f : Cc → Cc) : State := (inMode m).up 0 fun st => (st.put R.CC_STATUS_ACTIVE 1).upCc fun c => f { c with order := some anOrder }

theorem test_meets_Orders : let s := (inMode 2).up 0 fun st => { st with quorum := { rules := [⟨1, 2, 0⟩] } }
    let b := [1, 0, 0, 0] ++ zeros 4 ++ zeros 16 ++ zeros 40
    b.length = 64 ∧ allZero b 1 3 = true ∧ le b 4 4 = 0 ∧ allZero b 25 7 = true ∧ (s.sd 0).cc.order = none
    ∧ (s.sd 0).quorum.rules.find? (·.order == le b 0 1) = some ⟨1, 2, 0⟩ ∧ sub b 8 16 = fit 16 s.ring.ident.deviceId ∧ le b 24 1 = 0
    ∧ s.orderAccepted 0 1 = true ∧ s.orderAccepted 0 3 = false ∧ s.dupHits 0 0x0B = false ∧ (s.sd 0).cc.waitUntil = none := by decide +kernel
theorem test_meets_CustodianCard : let s := ordered 5 fun c => { c with step := .auth, pin := some ([], 4), waitUntil := some 6 }
    ccRuns (s.sd 0) = true ∧ (s.sd 0).flag R.CC_STATUS_ACTIVE = true ∧ (s.sd 0).cc.retries < 2 ∧ (s.sd 0).cc.order = some anOrder ∧ (s.sd 0).cc.step = .auth
    ∧ anOrder.held.length + 1 < 16 ∧ anOrder.m ≤ anOrder.held.length + 1 ∧ (s.sd 0).cc.pin = some ([], 4) ∧ (s.sd 0).cc.waitUntil = some 6 ∧ 0x63C2 / 16 = 0x63C
    ∧ ((ordered 2 id).sd 0).mode = 2 ∧ ((ordered 2 id).sd 0).batchOpen = false ∧ (s.sd 0).newOwner = none
    ∧ 2 ≤ ((ordered 2 fun c => { c with retries := 2, resyncs := 3 }).sd 0).cc.retries := by decide +kernel

/-- The tag in a state. -/
def tagged (x : TagSt) : State := State.reset.upTag fun t => { t with st := x, slot := 1, h := 7 }

theorem test_meets_Tag : (tagged .reply).ring.ident.tagFused = false ∧ (tagged .reply).ring.tfFailed = false ∧ (tagged .reply).ring.tag.st ≠ .killed
    ∧ (tagged .ready).ring.tag.st ∈ [TagSt.ready, .arbitrate, .reply, .acknowledged] ∧ (tagged .arbitrate).ring.tag.slot = 0 + 1
    ∧ (tagged .acknowledged).ring.tag.secret = none ∧ 248 + 8 ≤ 256 ∧ ((tagged .reply).rput R.TAG_CTL_NOTE_EN 0).rflag R.TAG_CTL_NOTE_EN = false ∧ (8 : Nat) ≠ (tagged .reply).ring.tag.h
    ∧ (tagged .reply).rflag R.TAG_CTL_IRQ_FIELD = false := by decide +kernel
theorem test_meets_TagHost : let s := (inMode 5).upTag fun t => { t with prog := some ⟨8, zeros 16, false⟩ }
    s.ring.power = true ∧ (tagged .ready).ring.tag.owned = false ∧ (tagged .ready).ring.tag.prog = none ∧ s.ring.tag.prog = some ⟨8, zeros 16, false⟩
    ∧ s.anyCeremony = true ∧ s.ring.tag.secret = none ∧ (State.reset.rput R.TAG_ADDR_BLOCK 64).rget R.TAG_ADDR_BLOCK = 64
    ∧ State.reset.rget R.TAG_ADDR_BLOCK < 16 := by decide +kernel
theorem test_meets_Flash : let s := inMode 2
    (s.sd 0).mode ≠ 0 ∧ (s.sd 0).halted = false ∧ (s.sd 0).agt.prog = none ∧ (s.sd 0).get R.AGT_ADDR_ADDR / 65536 < 15397 ∧ (s.sd 0).agt.erase = none
    ∧ 0 < (s.sd 0).nv.flash.room ∧ { (s.sd 0).nv.flash with heads := [(32, Ecc.word Flash.erasedOk)] }.classOf 0 = 1 ∧ (s.sd 0).nv.flash.drawn < 983
    ∧ ((s.up 0 fun st => st.put R.AGT_ADDR_ADDR (1400 * 65536 + 40)).sd 0).get R.AGT_ADDR_ADDR / 65536 = 1400
    ∧ (1 : Nat) % 131072 = 2048 * (1400 - 1400) + (1400 * 65536 + 40) / 32 % 2048 := by decide +kernel
theorem test_meets_FlashEnds : let s := (inMode 2).up 0 fun st => { st with agt := { prog := some ⟨3, 7, [(0, 5)]⟩, erase := some ⟨0, 8, 4, false, false⟩ } }
    (s.sd 0).agt.prog = some ⟨3, 7, [(0, 5)]⟩ ∧ 7 = (s.sd 0).nv.flash.physOf 3 ∧ (s.sd 0).agt.erase = some ⟨0, 8, 4, false, false⟩
    ∧ 8 = (s.sd 0).nv.flash.physOf 4 ∧ 8 ∉ (s.sd 0).nv.flash.bad ∧ ([(0, (5 : BitVec 64))].map (·.1)).Nodup := by decide +kernel
theorem test_meets_Scrub : let s := (inMode 2).up 0 fun st => st.put R.AGT_SCRUB_CFG_EN 1
    (s.sd 0).flag R.AGT_SCRUB_CFG_EN = true ∧ (s.sd 0).agt = {} ∧ 0 ≤ (s.sd 0).get R.AGT_SCRUB_CFG_REFRESH := by decide +kernel

/-! The sentinel, the islands, the package. -/

/-- Strand 0 in a mode with its sentinel as `f` has it. -/
def watched (m : Nat) (f : Jsp → Jsp) : State := (inMode m).up 0 fun st => st.upJsp f

/-- A firing of a rank. -/
def firing (src rank island : Nat) : Firing := ⟨src, 3, island, 0, rank, false, 2, 0⟩

theorem test_meets_Detectors : let s := inMode 2
    (s.sd 0).mode ≠ 0 ∧ bit ((s.sd 0).get R.JSP_FUSE_OFF_FUSED) 1 = false ∧ (s.sd 0).windowed = true ∧ (State.reset.sd 0).windowed = false
    ∧ 2 ≤ ((s.up 0 fun st => st.put R.JSP_SRC_CFG_N 2 1).sd 0).get R.JSP_SRC_CFG_N 1 ∧ (s.sd 0).jsp.hist.find? (·.1 == 1) = none
    ∧ bits 0xA6000301 24 8 = 0xA6 ∧ bits 0xA6000301 0 8 = 1 ∧ bits 0xA6000301 8 2 = 3 ∧ s.life ≤ 1 ∧ (lifed s 7).life = 3
    ∧ bit ((s.rput R.RNG_ERASE_WIRES 2).rget R.RNG_ERASE_WIRES) 1 = true := by decide +kernel
theorem test_meets_Alarms : let s := fun (r : Nat) => watched 2 fun j => { j with alarm := [firing 2 r 7] }
    ((s 4).sd 0).jsp.alarm = [firing 2 4 7] ∧ (∀ f ∈ [firing 2 4 7], f.note = false ∧ f.rank ≤ 5) ∧ ((s 5).sd 0).effective = 0 ∧ ((s 2).sd 0).zeroised = false
    ∧ ((s 1).sd 0).jsp.lineSince = none ∧ ((s 3).sd 0).jsp.erase = none ∧ Strand.kindOf 7 ≠ 0 ∧ Strand.kindOf 5 = 0
    ∧ ((watched 2 fun j => { j with throttleUntil := some 8 }).sd 0).jsp.throttleUntil = some 8 := by decide +kernel
theorem test_meets_Erase : let e : EraseTry := ⟨1, 2, 0, 2⟩
    let s := watched 2 fun j => { j with erase := some e, lineSince := some 4 }
    (s.sd 0).jsp.erase = some e ∧ e.cause ≤ 5 ∧ e.cause ≠ 4 ∧ (s.sd 0).mode ≠ 0 ∧ (s.sd 0).mode ≠ 7 ∧ e.tries = 2 ∧ (s.sd 0).jsp.lineSince = some 4
    ∧ (s.sd 0).measure = [] := by decide +kernel
theorem test_meets_Vigil : let s := watched 0 fun j => { j with sample := some ([(1, 3)], 5), logQ := [⟨firing 1 4 0, 4, true⟩], window := some 9 }
    (s.sd 0).mode = 0 ∧ 1 ∈ [1, 2, 3, 6] ∧ (s.sd 0).jsp.sample = some ([(1, 3)], 5) ∧ (s.sd 0).nv.vigil.length < 15 ∧ (s.sd 0).jsp.window = some 9
    ∧ (s.sd 0).jsp.logQ = ⟨firing 1 4 0, 4, true⟩ :: [] ∧ (s.sd 0).nv.evlog.length < 131072 := by decide +kernel
theorem test_meets_Gradients : Machine.dist 900 719 = 181 ∧ Machine.dist 700 1001 = 301 ∧ 10 * 99 < 1000 ∧ ((inMode 2).sd 0).fenced.contains 3 = false
    ∧ (((inMode 2).up 0 fun st => { st with fenced := [3] }).sd 0).fenced.contains 3 = true := by decide +kernel
theorem test_meets_Aging : let s := (inMode 2).up 0 fun st => st.put R.ISL_AGE_STEP 4 5
    0 < ((s.up 0 fun st => st.put R.HLT_CTL_AGE_MIN 1).sd 0).get R.HLT_CTL_AGE_MIN ∧ 4 ≤ (s.sd 0).get R.ISL_AGE_STEP 5 ∧ (s.sd 0).get R.ISL_AGE_STEP 6 < 4
    ∧ (s.sd 0).spareOf 4 = true ∧ (s.sd 0).hlt.cur = none ∧ ((s.up 0 fun st => st.put R.HLT_CTL_AUTO_AGE 1).sd 0).flag R.HLT_CTL_AUTO_AGE = true := by decide +kernel
theorem test_meets_Swaps : let r : SwapReq := ⟨4, 0, 5, 0⟩
    let s := (inMode 2).up 0 fun st => { st with hlt := { cur := some r, st := 1 } }
    bits (0x5C000000 + 4 + 512 * 5) 24 8 = 0x5C ∧ bits (0x5C000000 + 4 + 512 * 5) 9 13 = 5 ∧ (s.sd 0).spareOf 4 = true ∧ (s.sd 0).hlt.cur = some r
    ∧ (s.sd 0).swapBoundary r = true ∧ (s.sd 0).hlt.queue.length < 16 ∧ (s.sd 0).halted = false ∧ ((beryl id).sd 0).swapBoundary ⟨2, 7, 0, 0⟩ = false := by decide +kernel
theorem test_meets_FenceAndSnapshot : let s := (inMode 2).up 0 fun st => { st.put R.SNP_CTL_SNAP_IN_EN 1 with snap := some { islands := [⟨3, 0, []⟩] } }
    (s.sd 0).fenced.contains 7 = false ∧ (s.sd 0).flag R.BER_ERR_VALID = false ∧ (s.sd 0).snap = some { islands := [⟨3, 0, []⟩] }
    ∧ bits 0x53000001 24 8 = 0x53 ∧ bit 0x53000001 (s.sd 0).id.val = true ∧ (s.sd 0).flag R.SNP_CTL_SNAP_IN_EN = true ∧ (State.reset.sd 0).snap = none := by decide +kernel
theorem test_meets_Package : State.reset.ring.power = true ∧ State.reset.ring.rsFailed = false ∧ State.reset.lifeInvalid = false ∧ State.reset.life = 0
    ∧ (lifed State.reset 1).life = 1 ∧ (lifed State.reset 3).life = 2 ∧ State.reset.debugReach = true ∧ (lifed State.reset 7).debugReach = false
    ∧ (10 : Nat) ∈ [2, 3, 7, 8, 9, 10] := by decide +kernel
theorem test_meets_LifecycleInvalid : let s := lifed State.reset 2
    bit s.lifeCode 1 = true ∧ bit s.lifeCode 0 = false ∧ s.life = 5 ∧ s.lifeInvalid = true := by decide +kernel

/-! The seal. -/

/-- Strand 0 as writer with a committed batch whose seal Beryl engine 0 prepared, and the seal key of the device in slot 5. -/
def sealing (f : Batch → Batch) : State := (vaulted 2 fun c => { c with attr := { anAttr with owner := 0xFF } }).up 0 fun st =>
  (st.put R.MIR_ROLE_ROLE 1).upPost fun p => { p with batches := [f { aBatch with sealCtx := handle, slot := some 0, parsed := 1, entryNo := 1 }], nextOrder := 1 }

theorem test_meets_SealingFormsTheEntry : let b := { aBatch with sealCtx := handle, slot := some 0, parsed := 1, entryNo := 1, phase := .committed, prep := some 1 }
    let s := sealing fun b => { b with phase := .committed, prep := some 1 }
    (s.sd 0).halted = false ∧ (s.sd 0).batch b.order = some b ∧ b.check = false ∧ b.fails = [] ∧ (s.sd 0).writer = true
    ∧ (((s.sd 0).berSeal s.now 0 100).map fun x => (x.1.release s.now b.job.env 0xFF 0 b.sealCtx (2 ^ 4) 1 false).2.isRight) = some true
    ∧ ((((sealing fun b => { b with spec := true }).sd 0).batch 0).map fun b => (b.phase, b.spec, b.prep)) = some (.checking, true, none) := by
  decide +kernel

/-! ### The block as a whole -/

theorem test_meets_StepRunsTheFrontCommand : { State.reset with pending := [.wfiWake 0 0] }.pending = .wfiWake 0 0 :: [] ∧ State.reset.pending = [] := by
  decide +kernel
theorem test_meets_StepsKeepTheCanonicalForm : Canonical State.reset := by unfold Canonical; decide +kernel
theorem test_meets_LifecycleOnlyAdvances : bit (lifed State.reset 2).lifeCode 1 = true ∧ bit (lifed State.reset 2).lifeCode 0 = false := by decide +kernel

/-! ### Well-formed commands -/

theorem test_wf_address : (Instr.registerWrite (.vf 248) 0x100 5).wf = true ∧ (Instr.registerWrite (.vf 249) 0x100 5).wf = false
    ∧ (Instr.registerWrite .manager 0x102 5).wf = false ∧ (Instr.registerWrite (.core 0 4 0) 0x100 5).wf = false := by decide +kernel
theorem test_wf_misaligned : (Instr.misalignedRegisterAccess .manager 0x101 4 false).wf = true ∧ (Instr.misalignedRegisterAccess .manager 0x100 4 false).wf = false
    ∧ (Instr.misalignedRegisterAccess .manager 0x100 3 false).wf = false := by decide +kernel
theorem test_wf_number : (Instr.tagRound 255).wf = true ∧ (Instr.tagRound 256).wf = false ∧ (Instr.gulsisLinkTrained 0 1).wf = true
    ∧ (Instr.gulsisLinkTrained 0 3).wf = false ∧ (Instr.sourceFuseOff 0).wf = false := by decide +kernel
theorem test_wf_job : (Instr.mgtNop 0 { op := 0 }).wf = true ∧ (Instr.mgtNop 0 { op := 0x10000 }).wf = false ∧ (Instr.mgtNop 0 { op := 0, gen := 0 }).wf = false := by
  decide +kernel

/-! ### Results worked out by hand -/

/-- The one core's registers after a command on the state with g1 and g2 set. -/
def gAfter (a b : Word) (c : Instr) : List Word :=
  match exec c ((garnetWith 1 a).upCore 0 0 fun x => x.setG 2 b) with
  | .next t => [(t.core 0 0).g 3, (t.core 0 0).pc]
  | _ => []

/-- R402: −2 × 3 has the high half of −6; unsigned it is 2. -/
theorem test_garnet_products : (gAfter 0xFFFFFFFE 3 (.gMulh 0 0 3 1 2 0)).head? = some 0xFFFFFFFF ∧ (gAfter 0xFFFFFFFE 3 (.gMulhu 0 0 3 1 2 0)).head? = some 2
    ∧ (gAfter 0xFFFFFFFE 3 (.gMul 0 0 3 1 2 0)).head? = some 0xFFFFFFFA := by decide +kernel
/-- R402: a divisor of zero gives all ones and the dividend. -/
theorem test_garnet_divisor_zero : (gAfter 7 0 (.gDivu 0 0 3 1 2 0)).head? = some 0xFFFFFFFF ∧ (gAfter 7 0 (.gRemu 0 0 3 1 2 0)).head? = some 7
    ∧ (gAfter 7 2 (.gDivu 0 0 3 1 2 0)).head? = some 3 := by decide +kernel
/-- R402: shifts take five bits of the amount; a rotation by 4; the sign of a right shift; leading zeros of 0 are 32. -/
theorem test_garnet_shifts : (gAfter 1 33 (.gSll 0 0 3 1 2 0)).head? = some 2 ∧ (gAfter 0x12345678 4 (.gRotr 0 0 3 1 2 0)).head? = some 0x81234567
    ∧ (gAfter 0x80000000 4 (.gSra 0 0 3 1 2 0)).head? = some 0xF8000000 ∧ (gAfter 0 0 (.gClz 0 0 3 1 0 0)).head? = some 32 := by decide +kernel
/-- R402: a field of 8 bits from bit 4, zero- and sign-extended, and inserted at bit 4. -/
theorem test_garnet_fields : (gAfter 0x00000F50 0 (.gBfx 0 0 3 1 4 7)).head? = some 0xF5 ∧ (gAfter 0x00000F50 0 (.gBfxs 0 0 3 1 4 7)).head? = some 0xFFFFFFF5
    ∧ (gAfter 0xABC 0 (.gBfi 0 0 3 1 4 7)).head? = some 0xBC0 := by decide +kernel

/-- R556, R559: the STATE words of the flash header keep the check byte 0xFF, and one flipped bit of a word is put right. -/
theorem test_flash_headers : Ecc.check (BitVec.allOnes 64) = 0xFF ∧ Ecc.check Flash.erasedOk = 0xFF ∧ Ecc.check Flash.inUse = 0xFF
    ∧ Ecc.passes (Ecc.word Flash.erasedOk) (Ecc.word Flash.inUse) = true ∧ Ecc.passes (Ecc.word Flash.inUse) (Ecc.word Flash.erasedOk) = false
    ∧ Ecc.decode (Ecc.word 0x0123456789ABCDEF ^^^ 0x20) = (0x0123456789ABCDEF, 1) ∧ (Ecc.decode (Ecc.word 0x0123456789ABCDEF ^^^ 0x30)).2 = 2 := by decide +kernel

/-- Chapter 0, after R18: a scrub that has covered 1,536 of 16,384 blocks reads 0x8900_0600. -/
theorem test_scrub_progress : (match exec (.scrubBlockRead 0 1535 0 []) ((inMode 2).up 0 fun st => (st.put R.AGT_SCRUB_CFG_EN 1).progress 0xF00034 9 1535) with
    | .next t => t.strandWord 0 0xF00034 | _ => 0) = 0x89000600 := by decide +kernel

/-- A step takes one command from the front of the queue. -/
theorem test_step_takes_the_front : (match step { State.reset with pending := [.gulsisLinkTrained 0 1, .tagRound 3] } with
    | .next t => t.pending | _ => []) = [.tagRound 3] := by decide +kernel

/-! Further clauses of the statements above: each premise at a boundary. -/

/-- A running core that holds line 0 with an error, and a register with a wrong parity. -/
def upset (hard : Bool) : State := garnet.upCore 0 0 fun x => { x with ilines := [0], upsets := [.line false 0 hard, .reg 0 5] }

theorem test_meets_GarnetErrors : ((upset false).core 0 0).lineError false 0 = some false ∧ ((upset true).core 0 0).lineError false 0 = some true
    ∧ ((upset true).core 0 0).parityBad ((upset true).core 0 0).bank 5 = true ∧ (garnet.core 0 0).lineError false 0 = none
    ∧ (garnet.core 0 0).lineError true (0x7FFF8 / 32) = none ∧ (((upset true).up 0 fun st => { st with sramBad := [0] }).sd 0).sramRead 0 4 = none
    ∧ ((garnet.core 0 0).esr[(2 : Fin 4)]).toNat % 4 < 2 := by decide +kernel
theorem test_meets_GarnetErrorsFetch : MayFetch (upset false) 0 0 ∧ MayFetch (upset true) 0 0 := by unfold MayFetch; decide +kernel
theorem test_meets_BusErrors : let b : BusEnv := { discarded := true }
    b.discarded = true ∧ ({} : BusEnv).discarded = false ∧ ({ parityOk := false } : BusEnv).parityOk = false ∧ duplicated 0x100004 = false
    ∧ reaches .manager 0 0x100004 = true ∧ Place.of .manager 0x40100004 = .strand 0 0x100004 ∧ 0x40000002 % 2 = 0 ∧ (garnet.core 0 0).running = true
    ∧ (State.reset.core 0 0).running = false := by decide +kernel
theorem test_meets_StartWithTornImages : let s := on fun st => { st with nv := { st.nv with flash := { st.nv.flash with ledger := [⟨0, 12, 8, 0, false, false⟩, ⟨1, 540, 536, 0, false, false⟩] } } }
    (∃ i ∈ (s.sd 0).nv.flash.incomplete, 8 ≤ i ∧ i < 8 + 528) ∧ (∃ i ∈ (s.sd 0).nv.flash.incomplete, 536 ≤ i ∧ i < 536 + 528) := by decide +kernel
theorem test_meets_ServingMore : (lifed (inMode 5) 3).life = 2 ∧ ((lifed (inMode 5) 3).sd 0).retry = none ∧ ((inMode 4).sd 0).chkAt = none
    ∧ State.reset.ring.wrongDebug < 3 := by decide +kernel
theorem test_meets_RecordFaults : let s := posting id
    ((s.sd 0).parseStatus aBatch (aBatch.recs.getD 0 []) 0).1 ≠ 0 ∧ aBatch.relay = none ∧ aBatch.spec = false
    ∧ reported [⟨2, 1, 0, 0x41, 0, false⟩] = some ⟨2, 1, 0, 0x41, 0, false⟩ := by decide +kernel
theorem test_meets_SlotClearing : let q : QSlot := { num := 0, order := 0, mask := none, zeroAt := some 9, free := true }
    let s := (posting id).up 0 fun st => st.upPost fun p => { p with slots := [q] }
    (s.sd 0).post.slots.find? (fun x => x.num == 0) = some q ∧ q.zeroAt = some 9 ∧ (aBatch.phase = .checking) := by decide +kernel
theorem test_meets_RefusedSeal : let s := (sealing fun b => { b with phase := .committed, prep := some 1 }).up 0 fun st => { st with vault := {} }
    (((s.sd 0).releaseLate s.now {} 0xFF 0 handle (2 ^ 4) 1 false).2.2.isLeft) = true
    ∧ (match ((s.sd 0).releaseLate s.now {} 0xFF 0 handle (2 ^ 4) 1 false).2.2 with | .inl e => e | .inr _ => 0x7F) ≠ 0x7F := by decide +kernel
theorem test_meets_ApprovalsMore : let a : Approval := ⟨0, zeros 16, 1, [], 0, 1, 0, false, false, none⟩
    let s := (inMode 2).up 0 fun st => (st.put R.PST_CTL_PIN_FMT0 1).upPost fun p => { p with approvals := [a] }
    a.expiry ≤ (s.sd 0).deviceTime s.now ∧ pinAllowed (s.sd 0) 0 4 = true ∧ pinAllowed (s.sd 0) 4 0 = false ∧ pinAllowed (s.sd 0) 4 4 = true
    ∧ pinKeyOk 4 1 = true ∧ pinKeyOk 0 1 = false ∧ s.submitterOk 0 0 5 = true ∧ s.submitterOk 0 3 5 = false
    ∧ s.rget R.HQ_CQ_CFG_OWNER ((s.sd 0).get R.PST_RELAY_CQ_QUEUE) ≠ 3 := by decide +kernel
theorem test_meets_PinKeys : let s := vaulted 2 fun c => { c with attr := { anAttr with usesLeft := 9 } }
    ((s.sd 0).release 0 {} 0 1 handle (2 ^ 9) 0 true).2.isRight = true
    ∧ ((((s.sd 0).release 0 {} 0 1 handle (2 ^ 9) 0 true).1).release 0 {} 0 1 handle (2 ^ 9) 0 true).2.isRight = true := by decide +kernel
theorem test_meets_CompletionTimes : ((State.reset.sd 0).cadEntry 0x300).exempt = false ∧ Served (inMode 2) 0 { op := 0x300 } := by
  unfold Served; decide +kernel
theorem test_meets_RefusedEntries : let e := toLE 4 9 ++ toLE 2 (2 ^ 15 + 2 ^ 14)
    State.reservedSet (e ++ toLE 2 0 ++ zeros 56) = false ∧ bits (State.w0 (e ++ toLE 2 0 ++ zeros 56)) 48 16 ∈ State.opcodes
    ∧ 0xA00 ≤ bits (State.w0 (e ++ toLE 2 0xA00 ++ zeros 56)) 48 16 ∧ bits (State.w0 (e ++ toLE 2 0x1FF ++ zeros 56)) 48 16 ∉ State.opcodes
    ∧ State.reservedSet (e ++ toLE 2 0 ++ zeros 36 ++ [1] ++ zeros 19) = true ∧ State.reset.cqUsable 0 0 = false := by decide +kernel
theorem test_meets_Discarding : let s := queued.upR fun r => { r with sqs := [{ id := 0, state := .disabling, tail := 1, pubDue := some 4 }] }
    s.portUp = true ∧ s.portServes 0 = true ∧ (s.sq 0).state = .disabling ∧ (s.sq 0).pubDue = some 4 ∧ State.reset.portUp = false
    ∧ State.reset.portServes 0 = false ∧ mayControl .manager 0 = true ∧ mayControl (.vf 1) 0 = false ∧ (queued.cq 0).enabled = true := by decide +kernel
theorem test_meets_InputReads : let j : Job := { id := 4, op := 0x300 }
    let s := (inMode 2).up 0 fun st => { st with taken := [j] }
    j ∈ (s.sd 0).taken ∧ (∀ k ∈ (s.sd 0).taken, k.id = j.id → k = j) ∧ ((s.sd 0).done.any fun d => d.job.id == j.id) = false := by decide +kernel
theorem test_meets_StoredEntries : let ent : StoreEnt := { no := anEntry.no, off := 0, len := anEntry.bytes.length, sup := false }
    let x : Store := { base := 0x10000, len := 67108864, ptr := 0x8000, used := anEntry.bytes.length, ents := [ent] }
    let s := { journalling with mem := Mem.writeBytes [] 0x10000 anEntry.bytes }
    let s := s.up 0 fun st => { st with jnl := { st.jnl with store := some x, rolling := none } }
    ((s.sd 0).storeEntry s.mem anEntry.no).isSome = true ∧ (s.sd 0).storeEntry s.mem 7 = none := by decide +kernel
theorem test_meets_Rollover : let s := (inMode 5).up 0 fun st => { st.put R.MIR_ROLE_ROLE 1 with jnl := { st.jnl with s := { st.jnl.s with isOpen := true } } }
    (s.sd 0).writer = true ∧ (s.sd 0).solo = false ∧ (s.sd 0).jnl.s.isOpen = true ∧ (s.sd 0).jnl.s.cur.no ≤ (s.sd 0).jnl.acked ∧ (s.sd 0).batchOpen = false := by
  decide +kernel
theorem test_meets_ForkDecision : let s := (inMode 5).up 0 fun st => st.put R.MIR_STATUS_FORK 1
    (s.sd 0).fork = true ∧ (s.sd 0).mode = 5 ∧ ((inMode 5).sd 0).fork = false := by decide +kernel
theorem test_meets_Heartbeat : let s := (vaulted 2 id).up 0 fun st =>
      { (st.put R.MIR_ROLE_ROLE 1).put R.MIR_STATUS_LINKED 1 with mir := { step := .paired, keyTx := some 5 } }
    ((s.sd 0).sessionKey (s.sd 0).mir.keyTx 4).isSome = true ∧ (s.sd 0).flag R.MIR_STATUS_LINKED = true ∧ (s.sd 0).mir.step = .paired := by decide +kernel
theorem test_meets_RootRelease : let s := (vaulted 5 id).up 0 fun st => st.setRoot 16 5
    ((s.sd 0).rootRelease s.now {} 16).2.isSome = true ∧ ((s.sd 0).rootRelease s.now { transferOk := false } 16).2 = none
    ∧ (s.sd 0).zeroised = false := by decide +kernel
theorem test_meets_ImportRelease : let s := (vaulted 5 fun c => { c with attr := { anAttr with flags := 2 } }).up 0 fun st => { st with quorum := { st.quorum with kek := some 5 } }
    bit ((aCtx fun c => { c with attr := { anAttr with flags := 2 } }).attr.flags) 1 = true
    ∧ ((s.sd 0).quorum.kek.bind (s.sd 0).slot).isSome = true
    ∧ ((s.sd 0).release s.now {} 0 1 ((s.sd 0).handle (aCtx fun c => { c with attr := { anAttr with flags := 2 } })) (2 ^ 7) 0 true).2.isRight = true := by decide +kernel
theorem test_meets_CommitCut : ({ cut := true } : JobEnv).cut = true ∧ bit ({ anAttr with flags := 1 } : Attr).flags 0 = true ∧ nextGen 255 = 1 := by decide +kernel
theorem test_meets_PoisonedStreams : let w := fun (p : Bool) => ({ status := 1, outs := [], resLen := 0, poison := p } : Work)
    let q := fun (i : Nat) (p : Bool) => ({ job := { id := i, op := 0x318 }, lane := i, serial := false, slot := 5, base := 1, work := w p } : TopRun)
    let s := (vaulted 2 id).up 0 fun st => st.upEng fun e => { e with topRuns := [q 0 true, q 1 false] }
    (s.sd 0).eng.topRuns = [q 0 true, q 1 false] ∧ (q 1 false).job.op = 0x318 ∧ (q 1 false).slot = (q 0 true).slot ∧ (q 1 false).poisonAt = none
    ∧ (s.sd 0).laneStalled 0 = false := by decide +kernel
theorem test_meets_LaneLoad : let s := (vaulted 2 id).up 0 fun st => st.setLane { num := 0, blocks := 1048577 }
    1048576 < (s.sd 0).laneLoad 0 ∧ ((s.sd 0).lane 0).stalled = false := by decide +kernel
theorem test_meets_Keygen : let j : Job := { op := 0x200, segs := [{ inLen := 32, data := [0x20, 1, 1, 0, 0, 0, 0, 0] ++ toLE 2 256 ++ [0, 0] ++ toLE 4 10 ++ zeros 16, outLen := 4 }] }
    (vaulted 2 id).keygenOf 0 j = some (0x20, 256) ∧ (vaulted 2 id).keygenOf 0 { op := 0x400 } = none ∧ 0x200 / 256 = 2 := by decide +kernel
theorem test_meets_SecretBlock : secretBlockOk { anAttr with alg := 8, keylen := 256 } (8 * fieldLen 0x20) = true
    ∧ bit ({ anAttr with flags := 2 } : Attr).flags 1 = true := by decide +kernel
theorem test_meets_TagHolder : (State.reset.upTag fun t => { t with owned := true }).ring.tag.owned = true ∧ (inMode 5).anyCeremony = true
    ∧ (inMode 2).anyCeremony = false ∧ ((State.reset.rput R.TAG_ADDR_BLOCK 16).rget R.TAG_ADDR_BLOCK) = 16 := by decide +kernel
theorem test_meets_ScrubOrder : let s := (inMode 2).up 0 fun st => (st.put R.AGT_SCRUB_CFG_EN 1).progress 0xF00034 9 1535
    (s.sd 0).flag R.AGT_SCRUB_PROG_VALID = true ∧ (s.sd 0).get R.AGT_SCRUB_PROG_POSITION % 16384 = 1535 ∧ (s.sd 0).agt = {} := by decide +kernel
theorem test_meets_Wires : let s := watched 2 fun j => { j with wires := [1] }
    (s.sd 0).jsp.wires.contains (1 : Fin 4).val = true ∧ (s.sd 0).jsp.wires.contains (2 : Fin 4).val = false ∧ ((inMode 2).sd 0).jsp.wires = [] := by decide +kernel
theorem test_meets_RingGradients : ((inMode 2).sd 0).mode ≠ 0 ∧ 300 < Machine.dist 700 1001 ∧ ¬ 300 < Machine.dist 700 1000 ∧ ¬ 180 < Machine.dist 900 720
    ∧ ((inMode 2).sd 0).flag R.ISL_ERR_VALID = false := by decide +kernel
theorem test_meets_SwapsMore : let s := (inMode 2).up 0 fun st => { st.put R.GAR_MAP_MAP 0x7770 with hlt := { cur := some ⟨1, 0, 0, 0⟩, st := 3 } }
    (s.sd 0).logicalOf 0 = some 0 ∧ (s.sd 0).fenced.contains 0 = false ∧ (s.sd 0).hlt.st = 3 ∧ (s.sd 0).hlt.queue = [] := by decide +kernel

end Sys2Proof.Tests
end

section
/-! SUPPORT. Register accesses: what the fabric does to one, what a refusal answers, and which accesses are refused (R5, R429, R436, R437). -/

namespace Sys2Proof.Machine
open Sys2Proof

/-! ### The commands of register accesses, by their meanings -/

theorem exec_registerWrite (who : Requester) (a : Nat) (v : Word) (bus : BusEnv) (s : State) :
    exec (.registerWrite who a v bus) s = execRegisterWrite who a v s bus := rfl

theorem exec_loRegisterRead (who : Requester) (a : Nat) (bus : BusEnv) (s : State) :
    exec (.loRegisterRead who a bus) s = execLoRegisterRead who a s bus := rfl

theorem exec_misalignedRegisterAccess (who : Requester) (a size : Nat) (wr : Bool) (s : State) :
    exec (.misalignedRegisterAccess who a size wr) s = execMisalignedRegisterAccess who a size wr s := rfl

theorem exec_registerWrite_aligned (who : Requester) {a : Nat} (v : Word) (bus : BusEnv) (s : State) (ha : a % 4 = 0) :
    exec (.registerWrite who a v bus) s = .next (s.crossing who a bus false fun s => s.regWrite who a v) :=
  if_pos ha

theorem exec_loRegisterRead_aligned (who : Requester) {a : Nat} (bus : BusEnv) (s : State) (ha : a % 4 = 0) :
    exec (.loRegisterRead who a bus) s = .next (s.crossing who a bus true fun s => s.regRead who a) :=
  if_pos ha

/-- An access that is not an aligned one of 32 bits is refused as soon as the ring has power. -/
theorem exec_misaligned_refused (who : Requester) {a size : Nat} (wr : Bool) {s : State} (hp : s.ring.power = true)
    (h : ¬ (size = 4 ∧ a % 4 = 0)) :
    exec (.misalignedRegisterAccess who a size wr) s = .next (s.refuseAccess who a size 5 wr) := by
  rw [exec_misalignedRegisterAccess, execMisalignedRegisterAccess, if_neg (by simp [h, hp])]

namespace State

/-- The answer of an access is no part of a strand. -/
@[simp] theorem sd_answered (s : State) (r : Resp) (n : Fin 4) : ({ s with resp := r } : State).sd n = s.sd n := rfl

/-! ### Refusals -/

/-- A refusal changes the answer alone where no running core asked. -/
theorem refuseAccess_no_core {s : State} {who : Requester} (a size cause : Nat) (wr : Bool)
    (h : ∀ n c p, who = .core n c p → ((s.sd n).core (strandNo c)).running = false) :
    s.refuseAccess who a size cause wr = { s with resp := .error } := by
  cases who with
  | manager => rfl
  | vf f => rfl
  | core n c p => exact if_pos (by simpa using h n c p rfl)

/-- A running core whose address is not aligned to its access takes vector 7. -/
theorem refuseAccess_unaligned {s : State} {n : Fin 4} {c p a size : Nat} (cause : Nat) (wr : Bool)
    (hr : ((s.sd n).core (strandNo c)).running = true) (hs : size ≠ 0) (ha : a % size ≠ 0) :
    s.refuseAccess (.core n c p) a size cause wr
      = ({ s with resp := .error } : State).fault n (strandNo c) 7 (if wr then 2 else 1) (BitVec.ofNat 32 a) :=
  (if_neg (by simpa using hr)).trans (if_pos ⟨hs, ha⟩)

/-- A running core whose address is aligned to its access takes the MPU fault. -/
theorem refuseAccess_aligned {s : State} {n : Fin 4} {c p a size : Nat} (cause : Nat) (wr : Bool)
    (hr : ((s.sd n).core (strandNo c)).running = true) (ha : size = 0 ∨ a % size = 0) :
    s.refuseAccess (.core n c p) a size cause wr
      = ({ s with resp := .error } : State).mpuFault n (strandNo c) p (if wr then 2 else 1) cause 0x3F a size :=
  (if_neg (by simpa using hr)).trans (if_neg (by rintro ⟨hs, hn⟩; exact ha.elim hs hn))

/-! ### Holes -/

theorem crossing_hole (s : State) {who : Requester} {a : Nat} (bus : BusEnv) (isRead : Bool) (work : State → State)
    (h : Place.of who a = .hole) : s.crossing who a bus isRead work = work s := by simp [crossing, h]

theorem regWrite_hole {s : State} {who : Requester} {a : Nat} (v : Word) (hp : s.ring.power = true) (h : Place.of who a = .hole) :
    s.regWrite who a v = s.refuseAccess who a 4 4 true := by simp [regWrite, hp, h]

theorem regRead_hole {s : State} {who : Requester} {a : Nat} (hp : s.ring.power = true) (h : Place.of who a = .hole) :
    s.regRead who a = s.refuseAccess who a 4 4 false := by simp [regRead, hp, h]

/-! ### The fabric, R437 -/

section
variable {s : State} {who : Requester} {a off : Nat} {n : Fin 4} {bus : BusEnv} (hp : s.ring.power = true)
  (h : Place.of who a = .strand n off)
include hp h

/-- A beat that is lost is counted and answered with an error. -/
theorem crossing_discarded (isRead : Bool) (work : State → State) (hd : bus.discarded = true) :
    s.crossing who a bus isRead work = (s.up n fun st => st.bump R.MPU_BUS_UE).errorResponse who a := by
  simp [crossing, h, hp, hd]

/-- A read whose parity is wrong gives no value. -/
theorem crossing_parity (work : State → State) (hd : bus.discarded = false) (hb : bus.parityOk = false) (hdup : duplicated off = false)
    (hr : reaches who n off = true) :
    s.crossing who a bus true work
      = ((if bus.corrected then s.up n fun st => st.bump R.MPU_BUS_CE else s).up n fun st => st.bump R.MPU_BUS_UE).errorResponse who a := by
  simp [crossing, h, hp, hd, hb, hdup, hr]

/-- Any other access goes on; a corrected beat is counted. -/
theorem crossing_whole (isRead : Bool) (work : State → State) (hd : bus.discarded = false)
    (hb : isRead = false ∨ bus.parityOk = true ∨ duplicated off = true) :
    s.crossing who a bus isRead work = work (if bus.corrected then s.up n fun st => st.bump R.MPU_BUS_CE else s) := by
  rcases hb with hb | hb | hb <;> simp [crossing, h, hp, hd, hb]

end

/-- Nothing goes wrong on the fabric where nothing is said. -/
theorem crossing_clean (s : State) (who : Requester) (a : Nat) (isRead : Bool) (work : State → State) :
    s.crossing who a {} isRead work = work s := by
  unfold crossing
  split
  · split
    · rfl
    · simp
  · rfl

end State

/-! ### The statement -/

/-- Settles O9: by what a refusal answers and what the fabric does to an access. -/
theorem refusedRegisterAccesses : Obligations.RefusedRegisterAccesses := by
  unfold Obligations.RefusedRegisterAccesses
  intro s who a size wr v bus hp e
  refine ⟨fun hq => ⟨fun hm => ?_, fun ha hh => ⟨?_, ?_⟩⟩, ?_, fun n off ha hpl => ⟨fun hd => ⟨?_, ?_⟩, fun hd => ?_⟩⟩
  · rw [exec_misaligned_refused who wr hp hm, State.refuseAccess_no_core a size 5 wr hq]
  · rw [exec_registerWrite_aligned who v bus s ha, State.crossing_hole s bus false _ hh, State.regWrite_hole v hp hh,
      State.refuseAccess_no_core a 4 4 true hq]
  · rw [exec_loRegisterRead_aligned who bus s ha, State.crossing_hole s bus true _ hh, State.regRead_hole hp hh,
      State.refuseAccess_no_core a 4 4 false hq]
  · rintro n c p rfl hr
    refine ⟨fun hs hm => ?_, fun hs hm => ?_, fun ha hh => ⟨?_, ?_⟩⟩
    · rw [exec_misaligned_refused _ wr hp (by rintro ⟨rfl, h⟩; exact hm h), State.refuseAccess_unaligned 5 wr hr hs hm]
    · rw [exec_misaligned_refused _ wr hp (fun h => hs h.1), State.refuseAccess_aligned 5 wr hr hm]
    · rw [exec_registerWrite_aligned _ v bus s ha, State.crossing_hole s bus false _ hh, State.regWrite_hole v hp hh,
        State.refuseAccess_aligned 4 true hr (.inr ha)]
      rfl
    · rw [exec_loRegisterRead_aligned _ bus s ha, State.crossing_hole s bus true _ hh, State.regRead_hole hp hh,
        State.refuseAccess_aligned 4 false hr (.inr ha)]
      rfl
  · rw [exec_registerWrite_aligned who v bus s ha, State.crossing_discarded hp hpl false _ hd]
  · rw [exec_loRegisterRead_aligned who bus s ha, State.crossing_discarded hp hpl true _ hd]
  · refine ⟨?_, fun hb => ?_, fun hb hdup hr => ?_⟩
    · rw [exec_registerWrite_aligned who v bus s ha, State.crossing_whole hp hpl false _ hd (.inl rfl),
        exec_registerWrite_aligned who v {} _ ha, State.crossing_clean]
    · rw [exec_loRegisterRead_aligned who bus s ha, State.crossing_whole hp hpl true _ hd (.inr hb),
        exec_loRegisterRead_aligned who {} _ ha, State.crossing_clean]
    · rw [exec_loRegisterRead_aligned who bus s ha, State.crossing_parity hp hpl _ hd hb hdup hr]

end Sys2Proof.Machine
end


section
/-! SUPPORT. Fields of a word that share no bit; what a register write does, field by field and register by register (R6 to R14). -/

namespace Sys2Proof.Machine
open Sys2Proof

/-! ### Fields -/

namespace Fld

/-- Two fields of a word that share no bit. -/
def apart (f g : Fld) : Bool := decide (f.lo + f.width ≤ g.lo) || decide (g.lo + g.width ≤ f.lo)

theorem apart_comm (f g : Fld) : f.apart g = g.apart f := Bool.or_comm ..

/-- Below a field a word is as before. -/
theorem intoWord_mod (f : Fld) (w : Word) (v : Nat) (hf : f.lo + f.width ≤ 32) :
    (f.intoWord w v).toNat % 2 ^ f.lo = w.toNat % 2 ^ f.lo := by
  rw [intoWord_toNat f w v hf, Nat.pow_add, Nat.add_assoc, Nat.mul_comm (2 ^ f.lo) (2 ^ f.width), ← Nat.mul_assoc, ← Nat.add_mul,
    Nat.add_mul_mod_self_right, Nat.mod_mod]

/-- Above a field a word is as before. -/
theorem intoWord_div (f : Fld) (w : Word) (v : Nat) (hf : f.lo + f.width ≤ 32) :
    (f.intoWord w v).toNat / 2 ^ (f.lo + f.width) = w.toNat / 2 ^ (f.lo + f.width) := by
  have hlow : w.toNat % 2 ^ f.lo + v % 2 ^ f.width * 2 ^ f.lo < 2 ^ (f.lo + f.width) := by
    calc w.toNat % 2 ^ f.lo + v % 2 ^ f.width * 2 ^ f.lo
        < 2 ^ f.lo + v % 2 ^ f.width * 2 ^ f.lo := Nat.add_lt_add_right (Nat.mod_lt _ (by positivity)) _
      _ = (v % 2 ^ f.width + 1) * 2 ^ f.lo := by ring
      _ ≤ 2 ^ f.width * 2 ^ f.lo := Nat.mul_le_mul_right _ (Nat.mod_lt _ (by positivity))
      _ = 2 ^ (f.lo + f.width) := by rw [Nat.pow_add, Nat.mul_comm]
  rw [intoWord_toNat f w v hf, Nat.add_mul_div_right _ _ (by positivity), Nat.div_eq_of_lt hlow, Nat.zero_add]

/-- A field reads as before after another that shares no bit with it is replaced. -/
theorem ofWord_intoWord_apart {f g : Fld} (w : Word) (v : Nat) (hf : f.lo + f.width ≤ 32) (h : f.apart g = true) :
    g.ofWord (f.intoWord w v) = g.ofWord w := by
  unfold ofWord
  simp only [apart, Bool.or_eq_true, decide_eq_true_eq] at h
  obtain hg | hg := h
  · have hd : ∀ x, x / 2 ^ g.lo = x / 2 ^ (f.lo + f.width) / 2 ^ (g.lo - (f.lo + f.width)) := fun x => by
      rw [Nat.div_div_eq_div_mul, ← Nat.pow_add, Nat.add_sub_cancel' hg]
    rw [hd, intoWord_div f w v hf, ← hd]
  · have hd : ∀ x, x / 2 ^ g.lo % 2 ^ g.width = x % 2 ^ f.lo % 2 ^ (g.lo + g.width) / 2 ^ g.lo := fun x => by
      rw [Nat.mod_mod_of_dvd _ (Nat.pow_dvd_pow 2 hg), Nat.pow_add, Nat.mod_mul_right_div_self]
    rw [hd, intoWord_mod f w v hf, ← hd]

/-- A field as wide as the word is the word. -/
theorem ofWord_whole {f : Fld} (hlo : f.lo = 0) (hw : f.width = 32) (w : Word) : f.ofWord w = w.toNat := by
  simp [ofWord, hlo, hw, Nat.mod_eq_of_lt w.isLt]

theorem intoWord_whole {f : Fld} (hlo : f.lo = 0) (hw : f.width = 32) (w v : Word) : f.intoWord w v.toNat = v := by
  apply BitVec.eq_of_toNat_eq
  rw [← ofWord_whole hlo hw, ofWord_intoWord f w _ (by omega), hw, Nat.mod_eq_of_lt v.isLt]

end Fld

/-- The rows of a register table: fields inside the word, of which no two share a bit. -/
def FieldsApart (l : List FieldDef) : Prop :=
  (∀ f ∈ l, f.lo + f.width ≤ 32) ∧ l.Pairwise fun f g => (f.fld 0).apart (g.fld 0) = true

namespace Strand

theorem rd_congr {a b : Strand} (h : a.regs = b.regs) (p : Nat) : a.rd p = b.rd p := by unfold rd; rw [h]

theorem rd_put_other (st : Strand) {f : Fld} {k p : Nat} (v : Nat) (h : p ≠ f.at k) : (st.put f v k).rd p = st.rd p := rd_wr_other st _ h

theorem rd_bump_other (st : Strand) {f : Fld} {k p : Nat} (h : p ≠ f.at k) : (st.bump f k).rd p = st.rd p := rd_put_other st _ h

/-- A field of the same register that shares no bit is not changed. -/
theorem get_put_apart (st : Strand) {f g : Fld} {k l : Nat} (v : Nat) (he : g.at l = f.at k) (hf : f.lo + f.width ≤ 32)
    (h : f.apart g = true) : (st.put f v k).get g l = st.get g l := by
  unfold Strand.get Strand.put
  rw [he, rd_wr_same, Fld.ofWord_intoWord_apart _ _ hf h]

/-- A counter rises and saturates. -/
theorem get_add_same (st : Strand) (f : Fld) (n k : Nat) (hf : f.lo + f.width ≤ 32) :
    (st.add f n k).get f k = min (st.get f k + n) (2 ^ f.width - 1) := by
  have : 0 < 2 ^ f.width := by positivity
  rw [add, get_put_same st f _ k hf, Nat.mod_eq_of_lt (by omega)]

theorem get_add_other (st : Strand) {f g : Fld} {k l : Nat} (n : Nat) (h : g.at l ≠ f.at k) : (st.add f n k).get g l = st.get g l :=
  get_put_other st _ h

/-! ### The fields of a write -/

@[simp] theorem retainRun_regs (st : Strand) (who : Requester) (o : Nat) (f : FieldDef) (x : Nat) : (st.retainRun who o f x).regs = st.regs := by
  unfold retainRun; split <;> rfl
@[simp] theorem retainRun_hiLatch (st : Strand) (who : Requester) (o : Nat) (f : FieldDef) (x : Nat) :
    (st.retainRun who o f x).hiLatch = st.hiLatch := by unfold retainRun; split <;> rfl
@[simp] theorem retainRun_dupBad (st : Strand) (who : Requester) (o : Nat) (f : FieldDef) (x : Nat) :
    (st.retainRun who o f x).dupBad = st.dupBad := by unfold retainRun; split <;> rfl

@[simp] theorem stage_regs (st : Strand) (who : Requester) (o : Nat) (f : FieldDef) (x : Nat) : (st.stage who o f x).regs = st.regs := by
  simp only [stage]; split <;> simp
@[simp] theorem stage_hiLatch (st : Strand) (who : Requester) (o : Nat) (f : FieldDef) (x : Nat) : (st.stage who o f x).hiLatch = st.hiLatch := by
  simp only [stage]; split <;> simp
@[simp] theorem stage_dupBad (st : Strand) (who : Requester) (o : Nat) (f : FieldDef) (x : Nat) : (st.stage who o f x).dupBad = st.dupBad := by
  simp only [stage]; split <;> simp

/-- A value other than the one in effect is staged behind every other staged value. -/
theorem stage_staged (st : Strand) (who : Requester) (o : Nat) (f : FieldDef) (x : Nat)
    (h : (f.fld o).ofWord (st.rd o) ≠ f.norm.apply x % 2 ^ f.width) :
    ∃ rest, (st.stage who o f x).staged = rest ++ [⟨o, f.lo, f.norm.apply x % 2 ^ f.width⟩] := by
  refine ⟨st.staged.filter fun y => !(y.off == o && y.lo == f.lo), ?_⟩
  simp only [stage]
  rw [rd_congr (retainRun_regs st who o f _) o, if_neg h]

/-- A field of a write leaves the register file alone, or replaces its own bits of its own register. -/
theorem writeField_regs (st : Strand) (who : Requester) (o : Nat) (v : Word) (f : FieldDef) :
    (st.writeField who o v f).1.regs = st.regs
      ∨ ∃ x, (st.writeField who o v f).1.regs = (st.wr o ((f.fld o).intoWord (st.rd o) x)).regs := by
  obtain ⟨lo, width, cls, acc, src, val, norm⟩ := f
  cases acc with
  | ro => exact .inl rfl
  | wo => exact .inl rfl
  | w1s => exact .inl rfl
  | w1c =>
    simp only [writeField]
    split
    · exact .inl rfl
    · exact .inr ⟨0, rfl⟩
  | rw =>
    cases cls with
    | none => exact .inr ⟨_, rfl⟩
    | s =>
      simp only [writeField]
      split
      · exact .inl rfl
      · split
        · exact .inr ⟨_, rfl⟩
        · exact .inl rfl
    | b => exact .inl (stage_regs ..)
    | l => exact .inr ⟨_, retainRun_regs ..⟩

theorem rd_writeField_other (st : Strand) (who : Requester) {o p : Nat} (v : Word) (f : FieldDef) (h : p ≠ o) :
    (st.writeField who o v f).1.rd p = st.rd p := by
  obtain e | ⟨x, e⟩ := writeField_regs st who o v f
  · exact rd_congr e p
  · rw [rd_congr e p, rd_wr_other st _ h]

/-- A field of a write leaves the fields that share no bit with it. -/
theorem ofWord_writeField_apart (st : Strand) (who : Requester) (o : Nat) (v : Word) {f : FieldDef} {g : Fld} (hf : f.lo + f.width ≤ 32)
    (h : (f.fld o).apart g = true) : g.ofWord ((st.writeField who o v f).1.rd o) = g.ofWord (st.rd o) := by
  obtain e | ⟨x, e⟩ := writeField_regs st who o v f
  · rw [rd_congr e o]
  · rw [rd_congr e o, rd_wr_same]; exact Fld.ofWord_intoWord_apart _ _ hf h

/-- A Live field takes the value written at once, R14. -/
theorem ofWord_writeField_live (st : Strand) (who : Requester) (o : Nat) (v : Word) {f : FieldDef} (hf : f.lo + f.width ≤ 32)
    (ha : f.acc = .rw) (hc : f.cls = .l) : (f.fld o).ofWord ((st.writeField who o v f).1.rd o) = (f.fld o).ofWord v := by
  simp only [writeField, ha, hc]
  rw [rd_congr (retainRun_regs ..) o, rd_wr_same, Fld.ofWord_intoWord _ _ _ hf]
  exact Nat.mod_mod _ _

theorem writeFields_cons (st : Strand) (who : Requester) (o : Nat) (v : Word) (f : FieldDef) (r : List FieldDef) :
    st.writeFields who o v (f :: r) = (((st.writeField who o v f).1.writeFields who o v r).1,
      (st.writeField who o v f).2 || ((st.writeField who o v f).1.writeFields who o v r).2) := rfl

theorem rd_writeFields_other (st : Strand) (who : Requester) {o p : Nat} (v : Word) (l : List FieldDef) (h : p ≠ o) :
    (st.writeFields who o v l).1.rd p = st.rd p := by
  induction l generalizing st with
  | nil => rfl
  | cons f r ih => rw [writeFields_cons, ih, rd_writeField_other st who v f h]

theorem ofWord_writeFields_apart (st : Strand) (who : Requester) (o : Nat) (v : Word) {l : List FieldDef} {g : Fld}
    (h : ∀ f ∈ l, f.lo + f.width ≤ 32 ∧ (f.fld o).apart g = true) :
    g.ofWord ((st.writeFields who o v l).1.rd o) = g.ofWord (st.rd o) := by
  induction l generalizing st with
  | nil => rfl
  | cons f r ih =>
    obtain ⟨hf, hg⟩ := h f (by simp)
    rw [writeFields_cons, ih _ fun x hx => h x (by simp [hx]), ofWord_writeField_apart st who o v hf hg]

/-- A Live field of a register reads as written behind the whole write, R14. -/
theorem ofWord_writeFields_live (st : Strand) (who : Requester) (o : Nat) (v : Word) {l : List FieldDef} {f : FieldDef} (hl : FieldsApart l)
    (hf : f ∈ l) (ha : f.acc = .rw) (hc : f.cls = .l) : (f.fld o).ofWord ((st.writeFields who o v l).1.rd o) = (f.fld o).ofWord v := by
  obtain ⟨h32, hpair⟩ := hl
  induction l generalizing st with
  | nil => simp at hf
  | cons g r ih =>
    obtain ⟨hg, hr⟩ := List.pairwise_cons.mp hpair
    rw [writeFields_cons]
    obtain rfl | hf := List.mem_cons.mp hf
    · rw [ofWord_writeFields_apart (g := f.fld o) _ who o v fun x hx => ⟨h32 x (by simp [hx]), (Fld.apart_comm ..).trans (hg x hx)⟩]
      exact ofWord_writeField_live st who o v (h32 f (by simp)) ha hc
    · exact ih _ hf (fun x hx => h32 x (by simp [hx])) hr

/-- Only a Start-fixed field is ever refused, R11. -/
theorem writeField_taken (st : Strand) (who : Requester) (o : Nat) (v : Word) {f : FieldDef} (h : f.cls ≠ .s) :
    (st.writeField who o v f).2 = false := by
  unfold writeField
  dsimp only
  split
  case h_6 hc => exact absurd hc h
  all_goals rfl

/-- A register without a Start-fixed field refuses nothing. -/
theorem writeFields_taken (st : Strand) (who : Requester) (o : Nat) (v : Word) {l : List FieldDef} (h : ∀ f ∈ l, f.cls ≠ .s) :
    (st.writeFields who o v l).2 = false := by
  induction l generalizing st with
  | nil => rfl
  | cons f r ih =>
    rw [writeFields_cons, writeField_taken st who o v (h f (by simp)), ih _ fun x hx => h x (by simp [hx])]; rfl

end Strand

/-! ### The "reads as" rules -/

/-- A word whose fields are all as their rules have them is its own normal form. -/
theorem RegMap.normal_fixed {d : RegDef} {w : Nat} (h : ∀ f ∈ d.fields, f.norm.apply (bits w f.lo f.width) = bits w f.lo f.width) :
    d.normal w = w := by
  unfold RegDef.normal
  generalize d.fields = l at h
  induction l with
  | nil => rfl
  | cons f r ih =>
    have hx : bits w f.lo f.width % 2 ^ f.width = bits w f.lo f.width := Nat.mod_mod _ _
    have hle : bits w f.lo f.width * 2 ^ f.lo ≤ w :=
      (Nat.mul_le_mul_right _ (Nat.mod_le _ _)).trans (Nat.div_mul_le_self w _)
    rw [List.foldl_cons]
    dsimp only
    rw [h f (by simp), hx, Nat.sub_add_cancel hle]
    exact ih fun g hg => h g (by simp [hg])

/-- No block but SL, RP and JSP has a rule over several fields of a word. -/
theorem strandNormal_fixed {o w : Nat} {d : RegDef} (hd : RegMap.strandReg o = some d)
    (ho : o / 0x100000 ≠ 11 ∧ o / 0x100000 ≠ 12 ∧ o / 0x100000 ≠ 16)
    (h : ∀ f ∈ d.fields, f.norm.apply (bits w f.lo f.width) = bits w f.lo f.width) : strandNormal o w = w := by
  have h1 : ¬ (0x1000100 ≤ o ∧ o < 0x1000180 ∧ o % 8 = 0) := by omega
  have h2 : ¬ (0xB01000 ≤ o ∧ o < 0xB01800 ∧ o % 32 = 0) := by omega
  have h3 : ¬ o = 0xC00024 := by omega
  simp only [strandNormal, hd, h1, h2, h3, if_false]
  exact RegMap.normal_fixed h

/-- A register of plain fields reads as its word. -/
theorem strandNormal_plain {o : Nat} (w : Nat) {d : RegDef} (hd : RegMap.strandReg o = some d)
    (ho : o / 0x100000 ≠ 11 ∧ o / 0x100000 ≠ 12 ∧ o / 0x100000 ≠ 16) (h : ∀ f ∈ d.fields, f.norm = .id) : strandNormal o w = w :=
  strandNormal_fixed hd ho fun f hf => by rw [h f hf]; rfl

namespace Strand

/-- A word that is its own normal form is written back as it is. -/
theorem rd_wr_normal (st : Strand) {o : Nat} (h : strandNormal o (st.rd o).toNat = (st.rd o).toNat) (p : Nat) :
    (st.wr o (BitVec.ofNat 32 (strandNormal o (st.rd o).toNat))).rd p = st.rd p := by
  rw [h, BitVec.ofNat_toNat, BitVec.setWidth_eq, rd_wr]
  split
  · next e => rw [e]
  · rfl

/-! ### The whole write of a register -/

section
variable {st : Strand} {who : Requester} {o : Nat} {v : Word} {d : RegDef} (hd : RegMap.strandReg o = some d)
  (hm : o ≠ 0x300000 ∧ o ≠ 0x30000C)
include hd hm

/-- A write of which nothing is refused, to a register that is no error record. -/
theorem writeReg_taken (hr : recordInfo o = none) (hw : (st.writeFields who o v d.fields).2 = false) :
    st.writeReg who o v = ((st.writeFields who o v d.fields).1.wr o
      (BitVec.ofNat 32 (strandNormal o ((st.writeFields who o v d.fields).1.rd o).toNat))).settle (o / 0x100000) := by
  simp [writeReg, hd, hr, hw, settleMirror, hm]

/-- A write with a refused field is recorded, R11. -/
theorem writeReg_refused (hr : recordInfo o = none) (hw : (st.writeFields who o v d.fields).2 = true) :
    st.writeReg who o v = ((((st.writeFields who o v d.fields).1.wr o
      (BitVec.ofNat 32 (strandNormal o ((st.writeFields who o v d.fields).1.rd o).toNat))).put R.CHT_STATUS_S_REFUSED 1).violation who o).settle
        (o / 0x100000) := by
  simp [writeReg, hd, hr, hw, settleMirror, hm]

/-- VALID of an error record clears the record and what stands behind it, R79. -/
theorem writeReg_record {l : List Nat} (hr : recordInfo o = some l) (hv : bit v.toNat 0 = true)
    (hw : (st.writeFields who o v d.fields).2 = false) :
    st.writeReg who o v = ((o :: l).foldl (fun (st : Strand) x => st.wr x 0) ((st.writeFields who o v d.fields).1.wr o
      (BitVec.ofNat 32 (strandNormal o ((st.writeFields who o v d.fields).1.rd o).toNat)))).settle (o / 0x100000) := by
  simp [writeReg, hd, hr, hv, hw, settleMirror, hm]

end

/-- New settings of a block change no register but those of QTZ and RP. -/
theorem rd_settle (st : Strand) {b : Nat} (hb : b ≠ 8 ∧ b ≠ 12) (p : Nat) : (st.settle b).rd p = st.rd p := by
  unfold settle
  split
  · rfl
  · exact absurd rfl hb.1
  · exact absurd rfl hb.2
  · rfl

/-- New settings of any other block than JNL, QTZ and RP have no consequence. -/
theorem settle_other (st : Strand) {b : Nat} (hb : b ≠ 2 ∧ b ≠ 8 ∧ b ≠ 12) : st.settle b = st := by
  unfold settle
  split
  · exact absurd rfl hb.1
  · exact absurd rfl hb.2.1
  · exact absurd rfl hb.2.2
  · rfl

/-- A write of which nothing is refused, to a register of plain fields, is the write of its fields. -/
theorem rd_writeReg_plain {st : Strand} {who : Requester} {o : Nat} {v : Word} {d : RegDef} (hd : RegMap.strandReg o = some d)
    (hm : o ≠ 0x300000 ∧ o ≠ 0x30000C) (hb : o / 0x100000 ≠ 8 ∧ o / 0x100000 ≠ 11 ∧ o / 0x100000 ≠ 12 ∧ o / 0x100000 ≠ 16)
    (hn : ∀ f ∈ d.fields, f.norm = .id) (hr : recordInfo o = none) (hw : (st.writeFields who o v d.fields).2 = false) (p : Nat) :
    (st.writeReg who o v).rd p = (st.writeFields who o v d.fields).1.rd p := by
  rw [writeReg_taken hd hm hr hw, rd_settle _ ⟨hb.1, hb.2.2.1⟩, rd_wr_normal _ (strandNormal_plain _ hd hb.2 hn)]

end Strand

end Sys2Proof.Machine
end


section
/-! SUPPORT. Register reads and writes by address. -/

namespace Sys2Proof.Machine
open Sys2Proof

/-! ### Addresses -/

/-- The manager reaches a strand window in BAR0, R329, R426. -/
theorem placeOf_manager_window (n : Fin 4) {o : Nat} (ho : o < 0x1400000) :
    Place.of .manager (0x40000000 + n.val * 0x4000000 + o) = .strand n o := by
  have hn := n.isLt
  have hs : strandNo ((0x40000000 + n.val * 0x4000000 + o - 0x40000000) / 0x4000000) = n := Fin.ext (by simp only [strandNo]; omega)
  have hoff : (0x40000000 + n.val * 0x4000000 + o - 0x40000000) % 0x4000000 = o := by omega
  simp only [Place.of, Place.service]
  rw [if_neg (by omega), if_neg (by omega), if_pos (by omega), hs, hoff]
  exact if_pos ho

/-- A core reaches its own strand window by its own map, R432. -/
theorem placeOf_core_window (n : Fin 4) (c p : Nat) {o : Nat} (ho : o < 0x1400000) : Place.of (.core n c p) (0x20000000 + o) = .strand n o := by
  have hs : Strand.inSram (0x20000000 + o) = false := by simp [Strand.inSram]; omega
  have hoff : 0x20000000 + o - 0x20000000 = o := by omega
  simp only [Place.of, hs, Bool.false_eq_true, if_false]
  rw [if_pos (by omega), hoff]
  exact if_pos ho

/-- The offsets of a strand window whose write has a rule of its own: a command, a link's control, Warden's Agate registers. -/
def ownRule (o : Nat) : Bool :=
  o == 4 || o == 0x800028 || (decide (0xB01000 ≤ o) && decide (o < 0xB01800) && o % 32 == 0x0C) || State.agtWindow o || o == 0x1000014
    || o == 0x1100808 || o == 0x1200004

namespace State

/-- On a strand that is not HALTED any other write goes to its register. -/
theorem writeStrand_plain {s : State} {n : Fin 4} {o : Nat} (who : Requester) (v : Word) (hh : (s.sd n).halted = false)
    (ho : ownRule o = false) : s.writeStrand who n o v = s.up n fun st => st.writeReg who o v := by
  simp only [ownRule, Bool.or_eq_false_iff, beq_eq_false_iff_ne, ne_eq, Bool.and_eq_false_iff, decide_eq_false_iff_not] at ho
  obtain ⟨⟨⟨⟨⟨⟨h1, h2⟩, h3⟩, h4⟩, h5⟩, h6⟩, h7⟩ := ho
  have h3' : ¬ (0xB01000 ≤ o ∧ o < 0xB01800 ∧ o % 32 = 0x0C) := by omega
  simp [writeStrand, hh, h1, h2, h3', h4, h5, h6, h7]

theorem regWrite_strand {s : State} {who : Requester} {n : Fin 4} {a o : Nat} (v : Word) (hp : s.ring.power = true)
    (h : Place.of who a = .strand n o) (hr : reaches who n o = true) :
    s.regWrite who a v = ({ s with resp := .none } : State).writeStrand who n o v := by simp [regWrite, hp, h, hr]

theorem regRead_strand {s : State} {who : Requester} {n : Fin 4} {a o : Nat} (hp : s.ring.power = true)
    (h : Place.of who a = .strand n o) (hr : reaches who n o = true) : s.regRead who a = s.readStrand who n o := by
  simp [regRead, hp, h, hr]

/-- A register read that meets no latch, no disagreeing copies and latches nothing answers the word. -/
theorem readStrand_plain {s : State} {n : Fin 4} {o : Nat} (who : Requester) (ho : o ≠ 0x800008) (hl : o ∉ loRegs) (hd : o ∉ (s.sd n).dupBad)
    (hh : (s.sd n).hiLatch.find? (fun x => x.1 == o) = none) : s.readStrand who n o = s.answer (s.strandWord n o) := by
  simp [readStrand, ho, hl, hd, hh]

end State

/-- The manager's write of a register that no rule of its own governs. -/
theorem exec_registerWrite_manager {s : State} {n : Fin 4} {o : Nat} (v : Word) (hp : s.ring.power = true) (hh : (s.sd n).halted = false)
    (ho : o < 0x1400000 ∧ o % 4 = 0) (hr : reaches .manager n o = true) (hown : ownRule o = false) :
    exec (.registerWrite .manager (0x40000000 + n.val * 0x4000000 + o) v) s
      = .next (({ s with resp := .none } : State).up n fun st => st.writeReg .manager o v) := by
  rw [exec_registerWrite_aligned _ _ _ _ (by omega), State.crossing_clean, State.regWrite_strand v hp (placeOf_manager_window n ho.1) hr,
    State.writeStrand_plain (s := { s with resp := .none }) _ _ hh hown]

/-- The manager's read of a register in a strand window. -/
theorem exec_loRegisterRead_manager {s : State} {n : Fin 4} {o : Nat} (hp : s.ring.power = true)
    (ho : o < 0x1400000 ∧ o % 4 = 0) (hr : reaches .manager n o = true) :
    exec (.loRegisterRead .manager (0x40000000 + n.val * 0x4000000 + o)) s = .next (s.readStrand .manager n o) := by
  rw [exec_loRegisterRead_aligned _ _ _ (by omega), State.crossing_clean, State.regRead_strand hp (placeOf_manager_window n ho.1) hr]

/-! ### Staged values, R12 -/

/-- The last value staged for a register shows in it as written, with its pending bit. -/
theorem overlay_last (l : List Staged) {o lo : Nat} {f : FieldDef} (x : Nat) (w : Word) (hf : fieldAt o lo = some f) :
    ∃ u, overlay (l ++ [⟨o, lo, x⟩]) o w = (Fld.mk o 0 (pendBit o lo) 1).intoWord ((f.fld o).intoWord u x) 1 := by
  refine ⟨overlay l o w, ?_⟩
  simp [overlay, List.filter_append, hf]

namespace Strand

/-- One staged value takes effect in its register, under the "reads as" rules. -/
def applyOne (st : Strand) (x : Staged) : Strand :=
  match fieldAt x.off x.lo with
  | some f => st.wr x.off (BitVec.ofNat 32 (strandNormal x.off ((f.fld x.off).intoWord (st.rd x.off) x.val).toNat))
  | none => st

theorem applyStaged_eq (st : Strand) (blk : Nat) :
    st.applyStaged blk = ((st.staged.filter fun x => x.off / 0x100000 == blk).foldl applyOne
      { st with staged := st.staged.filter fun x => !(x.off / 0x100000 == blk) }).settle blk := by
  simp only [applyStaged, List.partition_eq_filter_filter]
  rfl

theorem applyOne_staged (st : Strand) (x : Staged) : (st.applyOne x).staged = st.staged := by
  unfold applyOne; split <;> rfl

theorem foldl_applyOne_staged (l : List Staged) (st : Strand) : (l.foldl applyOne st).staged = st.staged := by
  induction l generalizing st with
  | nil => rfl
  | cons x r ih => rw [List.foldl_cons, ih, applyOne_staged]

/-- At the boundary no staged value of the block is left. -/
theorem applyStaged_staged (st : Strand) {blk : Nat} (hb : blk ≠ 2 ∧ blk ≠ 8 ∧ blk ≠ 12) :
    ∀ e ∈ (st.applyStaged blk).staged, e.off / 0x100000 ≠ blk := by
  intro e he
  rw [applyStaged_eq, settle_other _ hb, foldl_applyOne_staged] at he
  simpa using (List.mem_filter.mp he).2

/-- The last value staged for a block is in effect behind its boundary. -/
theorem rd_applyStaged_last (st : Strand) {rest : List Staged} {o lo x blk : Nat} {f : FieldDef} (hb : blk ≠ 8 ∧ blk ≠ 12)
    (hs : st.staged = rest ++ [⟨o, lo, x⟩]) (ho : o / 0x100000 = blk) (hf : fieldAt o lo = some f) :
    ∃ u, (st.applyStaged blk).rd o = BitVec.ofNat 32 (strandNormal o ((f.fld o).intoWord u x).toNat) := by
  have hl : (st.staged.filter fun x => x.off / 0x100000 == blk) = (rest.filter fun x => x.off / 0x100000 == blk) ++ [⟨o, lo, x⟩] := by
    simp [hs, ho]
  rw [applyStaged_eq, rd_settle _ hb, hl, List.foldl_append, List.foldl_cons, List.foldl_nil]
  generalize List.foldl applyOne _ _ = y
  exact ⟨y.rd o, by simp only [applyOne, hf, rd_wr_same]⟩

end Strand

end Sys2Proof.Machine
end


section
/-! SUPPORT. PST_CFG.APPROVAL_LIFE, a Boundary field: written, read back and applied (R12, R13). -/

namespace Sys2Proof.Machine
open Sys2Proof

/-- PST_CFG.APPROVAL_LIFE. -/
def approvalLife : FieldDef := fd 0 16 .b .rw .cht 300 (.zeroAs 300)

/-- PST_CFG: APPROVAL_LIFE and its pending bit. -/
def pstCfg : RegDef := ⟨0x100004, 0, 1, [approvalLife, ro 16 1]⟩

theorem strandReg_pstCfg : RegMap.strandReg 0x100004 = some pstCfg := rfl

theorem fieldAt_approvalLife : fieldAt 0x100004 0 = some approvalLife := rfl

theorem ofWord_approvalLife (w : Word) : (approvalLife.fld 0x100004).ofWord w = w.toNat % 2 ^ 16 := by
  simp [approvalLife, fd, FieldDef.fld, Fld.ofWord]

theorem Strand.get_approvalLife (st : Strand) : st.get R.PST_CFG_APPROVAL_LIFE = (st.rd 0x100004).toNat % 2 ^ 16 :=
  ofWord_approvalLife _

/-- APPROVAL_LIFE of 0 alone reads as another value. -/
theorem strandNormal_pstCfg {w : Nat} (h : w % 2 ^ 16 ≠ 0) : strandNormal 0x100004 w = w := by
  refine strandNormal_fixed strandReg_pstCfg (by decide) fun f hf => ?_
  obtain rfl | rfl : f = approvalLife ∨ f = ro 16 1 := by simpa [pstCfg] using hf
  · exact if_neg (by simpa [bits, approvalLife, fd] using h)
  · rfl

namespace Strand

/-- A write of APPROVAL_LIFE leaves every register and stages the value behind the others. -/
theorem writeReg_approvalLife {st : Strand} {v : Word} {y : Nat} (hx : v.toNat % 2 ^ 16 ≠ 0) (hrd : st.rd 0x100004 = BitVec.ofNat 32 y)
    (hy : 0 < y ∧ y < 2 ^ 16) (hne : v.toNat % 2 ^ 16 ≠ y) :
    (∀ p, (st.writeReg .manager 0x100004 v).rd p = st.rd p)
      ∧ (st.writeReg .manager 0x100004 v).hiLatch = st.hiLatch ∧ (st.writeReg .manager 0x100004 v).dupBad = st.dupBad
      ∧ ∃ rest, (st.writeReg .manager 0x100004 v).staged = rest ++ [⟨0x100004, 0, v.toNat % 2 ^ 16⟩] := by
  have hval : approvalLife.norm.apply ((approvalLife.fld 0x100004).ofWord v) % 2 ^ approvalLife.width = v.toNat % 2 ^ 16 := by
    rw [ofWord_approvalLife]
    exact (congrArg (· % 2 ^ 16) (if_neg hx)).trans (Nat.mod_mod _ _)
  have heff : (approvalLife.fld 0x100004).ofWord (st.rd 0x100004) = y := by
    rw [ofWord_approvalLife, hrd, BitVec.toNat_ofNat]; omega
  obtain ⟨rest, hrest⟩ := stage_staged st .manager 0x100004 approvalLife ((approvalLife.fld 0x100004).ofWord v) (by rw [heff, hval]; exact hne.symm)
  have hw : st.writeReg .manager 0x100004 v = (st.stage .manager 0x100004 approvalLife ((approvalLife.fld 0x100004).ofWord v)).wr 0x100004
      (BitVec.ofNat 32 (strandNormal 0x100004
        ((st.stage .manager 0x100004 approvalLife ((approvalLife.fld 0x100004).ofWord v)).rd 0x100004).toNat)) :=
    writeReg_taken strandReg_pstCfg (by decide) rfl rfl
  have hlow : (st.rd 0x100004).toNat % 2 ^ 16 ≠ 0 := by rw [hrd, BitVec.toNat_ofNat]; omega
  have hstage := rd_congr (stage_regs st .manager 0x100004 approvalLife ((approvalLife.fld 0x100004).ofWord v))
  rw [hw]
  refine ⟨fun p => ?_, by simp, by simp, rest, ?_⟩
  · rw [rd_wr_normal _ (strandNormal_pstCfg (by rw [hstage]; exact hlow)), hstage]
  · rw [wr_staged, hrest, hval]; rfl

end Strand

/-- The value staged last shows in PST_CFG, with its pending bit. -/
theorem strandWord_approvalLife {s : State} {n : Fin 4} {rest : List Staged} {x : Nat} (hs : (s.sd n).staged = rest ++ [⟨0x100004, 0, x⟩])
    (hx : x < 2 ^ 16) :
    R.PST_CFG_APPROVAL_LIFE.ofWord (s.strandWord n 0x100004) = x ∧ R.PST_CFG_APPROVAL_LIFE_PEND.ofWord (s.strandWord n 0x100004) = 1 := by
  have hview : s.strandWord n 0x100004 = overlay (s.sd n).staged 0x100004 ((s.sd n).rd 0x100004) := by
    simp only [State.strandWord, Strand.viewPst]
    cases (s.sd n).cadShown <;> rfl
  obtain ⟨u, hu⟩ := overlay_last rest x ((s.sd n).rd 0x100004) fieldAt_approvalLife
  rw [hview, hs, hu]
  constructor
  · rw [Fld.ofWord_intoWord_apart _ _ (by decide) (by decide)]
    exact (Fld.ofWord_intoWord (approvalLife.fld 0x100004) u x (by decide)).trans (Nat.mod_eq_of_lt hx)
  · exact Fld.ofWord_intoWord ⟨0x100004, 0, 16, 1⟩ _ 1 (by decide)

/-- At the boundary APPROVAL_LIFE takes the value staged last. -/
theorem get_applyStaged_approvalLife {st : Strand} {rest : List Staged} {x : Nat} (hs : st.staged = rest ++ [⟨0x100004, 0, x⟩])
    (hx0 : x ≠ 0) (hx : x < 2 ^ 16) : (st.applyStaged 1).get R.PST_CFG_APPROVAL_LIFE = x := by
  obtain ⟨u, hu⟩ := Strand.rd_applyStaged_last st (by decide) hs rfl fieldAt_approvalLife
  have hlow : ((approvalLife.fld 0x100004).intoWord u x).toNat % 2 ^ 16 = x := by
    rw [← ofWord_approvalLife]
    exact (Fld.ofWord_intoWord (approvalLife.fld 0x100004) u x (by decide)).trans (Nat.mod_eq_of_lt hx)
  rw [Strand.get_approvalLife, hu, strandNormal_pstCfg (by rw [hlow]; exact hx0), BitVec.ofNat_toNat, BitVec.setWidth_eq, hlow]

theorem exec_stagedValueApply (n : Fin 4) (blk : Nat) (s : State) : exec (.stagedValueApply n blk) s = execStagedValueApply n blk s := rfl

/-- Outside VIGIL, and where the strand is not HALTED, the staged values of the block take effect. -/
theorem exec_stagedValueApply_runs {s : State} {n : Fin 4} (blk : Nat) (hh : (s.sd n).halted = false) (hm : (s.sd n).mode ≠ 0) :
    exec (.stagedValueApply n blk) s = .next (s.up n fun st => st.applyStaged blk) := by
  simp [exec_stagedValueApply, execStagedValueApply, hh, hm]

/-- Settles O11: the write stages the value last, a read overlays it, the boundary puts it into effect last. -/
theorem boundaryFieldIsStagedThenApplied : Obligations.BoundaryFieldIsStagedThenApplied := by
  unfold Obligations.BoundaryFieldIsStagedThenApplied
  intro s n v x y hp hh hm hl hd hv hx hrd hy0 hy hne a
  subst hv
  obtain ⟨hregs, hlatch, hdup, rest, hstaged⟩ := Strand.writeReg_approvalLife hx hrd ⟨hy0, hy⟩ hne
  have hx16 : v.toNat % 2 ^ 16 < 2 ^ 16 := Nat.mod_lt _ (by decide)
  let t := ({ s with resp := .none } : State).up n fun st => st.writeReg .manager 0x100004 v
  have ht : t.sd n = (s.sd n).writeReg .manager 0x100004 v := State.sd_up_same ..
  have hget : ∀ f k, (t.sd n).get f k = (s.sd n).get f k := fun f k => by rw [ht]; exact congrArg f.ofWord (hregs _)
  refine ⟨t, exec_registerWrite_manager v hp hh (by decide) rfl rfl, ?_, ?_, ?_⟩
  · rw [hget, Strand.get_approvalLife, hrd, BitVec.toNat_ofNat]
    omega
  · refine ⟨t.readStrand .manager n 0x100004, t.strandWord n 0x100004, exec_loRegisterRead_manager hp (by decide) rfl, ?_,
      strandWord_approvalLife (ht ▸ hstaged) hx16⟩
    rw [State.readStrand_plain .manager (by decide) (by decide) (by rw [ht, hdup]; exact hd) (by rw [ht, hlatch, hl]; rfl)]
    rfl
  · have hh' : (t.sd n).halted = false := (congrArg (· == 1) (hget R.CHT_MODE_HALTED 0)).trans hh
    have hm' : (t.sd n).mode ≠ 0 := by rw [Strand.mode, hget]; exact hm
    refine ⟨_, exec_stagedValueApply_runs 1 hh' hm', ?_, ?_, fun m hmn => ?_, rfl, rfl⟩
    · rw [State.sd_up_same]; exact get_applyStaged_approvalLife (ht ▸ hstaged) hx hx16
    · rw [State.sd_up_same]; exact Strand.applyStaged_staged _ (by decide)
    · rw [State.sd_up_other _ _ hmn, State.sd_up_other _ _ hmn]; rfl

end Sys2Proof.Machine
end


section
/-! SUPPORT. What the records of faults, events, snapshots and swaps leave alone: the registers of the MPU's block, work SRAM and the list of
disagreeing fields. -/

namespace Sys2Proof.Machine
open Sys2Proof

/-- The MPU's registers, work SRAM and the fields whose copies disagree are in `b` as in `a`. -/
structure MpuKept (a b : Strand) : Prop where
  rd : ∀ o, o / 0x100000 = 10 → b.rd o = a.rd o
  sram : b.sram = a.sram
  dupBad : b.dupBad = a.dupBad

namespace MpuKept

theorem refl (a : Strand) : MpuKept a a := ⟨fun _ _ => rfl, rfl, rfl⟩

theorem trans {a b c : Strand} (h : MpuKept a b) (h' : MpuKept b c) : MpuKept a c :=
  ⟨fun o ho => (h'.rd o ho).trans (h.rd o ho), h'.sram.trans h.sram, h'.dupBad.trans h.dupBad⟩

theorem put {a b : Strand} (h : MpuKept a b) (f : Fld) (v : Nat) {k : Nat} (hf : f.at k / 0x100000 ≠ 10) : MpuKept a (b.put f v k) :=
  h.trans ⟨fun _ ho => Strand.rd_put_other b v fun e => hf (e ▸ ho), rfl, rfl⟩

theorem bump {a b : Strand} (h : MpuKept a b) (f : Fld) {k : Nat} (hf : f.at k / 0x100000 ≠ 10) : MpuKept a (b.bump f k) := h.put f _ hf

end MpuKept

namespace Strand

theorem snap_mpuKept (st : Strand) (x : Option Snap) : MpuKept st { st with snap := x } := ⟨fun _ _ => rfl, rfl, rfl⟩
theorem ipend_mpuKept (st : Strand) (x : Vector Nat 4) : MpuKept st { st with ipend := x } := ⟨fun _ _ => rfl, rfl, rfl⟩
theorem jsp_mpuKept (st : Strand) (x : Jsp) : MpuKept st { st with jsp := x } := ⟨fun _ _ => rfl, rfl, rfl⟩
theorem hlt_mpuKept (st : Strand) (x : Hlt) : MpuKept st { st with hlt := x } := ⟨fun _ _ => rfl, rfl, rfl⟩

theorem snapTrigger_mpuKept (st : Strand) (source : Nat) : MpuKept st (st.snapTrigger source) := by
  unfold snapTrigger
  split
  · exact (MpuKept.refl st).bump _ (by decide)
  · extract_lets no x y
    have hx : MpuKept st x := (((MpuKept.refl st).put _ _ (by decide)).put _ _ (by decide)).put _ _ (by decide)
    have hy : MpuKept st y := ((hx.put _ _ (by decide)).put _ _ (by decide)).put _ _ (by decide)
    exact hy.trans (snap_mpuKept y _)

theorem vector_mpuKept (st : Strand) (v core : Nat) : MpuKept st (st.vector v core) := by
  unfold vector
  extract_lets ev x
  have hx : MpuKept st x := by
    by_cases hc : core < 4
    · simp only [x, hc, dite_true]; exact ipend_mpuKept st _
    · simp only [x, hc, dite_false]; exact .refl st
  split
  · exact hx.trans (snapTrigger_mpuKept x 5)
  · exact hx

/-- A fault record of a block other than the MPU keeps it where its information does. -/
theorem noteErr_mpuKept (st : Strand) {valid code ovf : Fld} (c : Nat) {info : Strand → Strand} (hv : valid.at 0 / 0x100000 ≠ 10)
    (hc : code.at 0 / 0x100000 ≠ 10) (ho : ovf.at 0 / 0x100000 ≠ 10) (hi : ∀ x, MpuKept x (info x)) :
    MpuKept st (st.noteErr valid code ovf c info) := by
  have hp : MpuKept st (info ((st.put valid 1).put code c)) := (((MpuKept.refl st).put _ _ hv).put _ _ hc).trans (hi _)
  unfold noteErr
  split
  · exact (MpuKept.refl st).bump _ ho
  · dsimp only
    split
    · exact hp.trans (vector_mpuKept _ _ _)
    · exact hp

theorem hltErr_mpuKept (st : Strand) (code : Nat) : MpuKept st (st.hltErr code) :=
  noteErr_mpuKept st code (by decide) (by decide) (by decide) .refl

theorem emptyWindows_mpuKept (st : Strand) : MpuKept st st.emptyWindows := jsp_mpuKept st _

theorem tagModeUpdate_mpuKept (st : Strand) (m : Nat) : MpuKept st (st.tagModeUpdate m) := by
  unfold tagModeUpdate
  split
  · exact .refl st
  · exact ⟨fun _ _ => rfl, rfl, rfl⟩

theorem setMode_mpuKept (st : Strand) (m cause : Nat) : MpuKept st (st.setMode m cause) := by
  unfold setMode
  refine MpuKept.trans (MpuKept.trans ?_ (emptyWindows_mpuKept _)) (tagModeUpdate_mpuKept _ m)
  exact (((MpuKept.refl st).put _ _ (by decide)).put _ _ (by decide)).put _ _ (by decide)

theorem degrade_mpuKept (st : Strand) : MpuKept st st.degrade := by
  unfold degrade
  split
  · exact setMode_mpuKept st 3 5
  · exact .refl st

theorem hltSync_mpuKept (st : Strand) : MpuKept st st.hltSync := by
  unfold hltSync
  extract_lets x1 x2 x3 x4 has x5
  have h1 : MpuKept st x1 := ((MpuKept.refl st).put _ _ (by decide)).put _ _ (by decide)
  have h2 : MpuKept st x2 := (h1.put _ _ (by decide)).put _ _ (by decide)
  have h3 : MpuKept st x3 := (h2.put _ _ (by decide)).put _ _ (by decide)
  have h4 : MpuKept st x4 := (h3.put _ _ (by decide)).put _ _ (by decide)
  exact (((h4.put _ _ (by decide)).put _ _ (by decide)).put _ _ (by decide)).put _ _ (by decide)

theorem noSpare_mpuKept (st : Strand) (kind : Nat) : MpuKept st (st.noSpare kind) := by
  have he := hltErr_mpuKept st 3
  unfold noSpare
  extract_lets x
  refine MpuKept.trans ?_ (degrade_mpuKept _)
  split
  · exact he.put _ _ (by decide)
  · split
    · exact he.put _ _ (by decide)
    · exact he

theorem reqSwap_mpuKept (st : Strand) (r : SwapReq) : MpuKept st (st.reqSwap r) := by
  unfold reqSwap
  split
  · exact noSpare_mpuKept st r.kind
  · split
    · exact (hlt_mpuKept st _).trans (hltSync_mpuKept _)
    · split
      · exact hltErr_mpuKept st 4
      · exact (hlt_mpuKept st _).trans (hltSync_mpuKept _)

/-- One swap after another is requested. -/
theorem foldl_reqSwap_mpuKept {α : Type} (l : List α) (f : α → SwapReq) (st : Strand) :
    MpuKept st (l.foldl (fun st x => st.reqSwap (f x)) st) := by
  induction l generalizing st with
  | nil => exact .refl st
  | cons x r ih => exact (reqSwap_mpuKept st (f x)).trans (ih _)

theorem fire_mpuKept (st : Strand) (t : Nat) {f : Firing} (hf : f.src < 16) : MpuKept st (st.fire t f) := by
  have ha : R.JSP_SRC_CNT_FIRINGS.at f.src / 0x100000 ≠ 10 := by simp only [Fld.at, R.JSP_SRC_CNT_FIRINGS]; omega
  exact ((MpuKept.refl st).bump _ ha).trans (jsp_mpuKept _ _)

theorem countEvent_mpuKept (st : Strand) (t det island reading : Nat) {src : Nat} (hs : src < 16) :
    MpuKept st (st.countEvent t src det island reading) := by
  have ha : R.JSP_SRC_CNT_EVENTS.at src / 0x100000 ≠ 10 := by simp only [Fld.at, R.JSP_SRC_CNT_EVENTS]; omega
  have hb : MpuKept st (st.bump R.JSP_SRC_CNT_EVENTS src) := (MpuKept.refl st).bump _ ha
  unfold countEvent
  extract_lets x f j y old h keep
  have hy : MpuKept st y := hb.trans (jsp_mpuKept x _)
  split
  · exact hb
  · split
    · split
      · exact (hy.trans (jsp_mpuKept y _)).trans (fire_mpuKept _ t hs)
      · exact hy.trans (jsp_mpuKept y _)
    · exact hy.trans (fire_mpuKept y t hs)

theorem event_mpuKept (st : Strand) (t det island reading : Nat) {src : Nat} (hs : src < 16) :
    MpuKept st (st.event t src det island reading) := by
  have hc := countEvent_mpuKept st t det island reading hs
  unfold event
  extract_lets x
  split
  · exact hc.trans (countEvent_mpuKept _ t _ island 0 (by decide))
  · exact hc

end Strand

end Sys2Proof.Machine
end


section
/-! SUPPORT. Register writes by class, the region registers, the patrol and the sweep (R7, R11, R14, R79, R434, R437 to R439, R444, R448). -/

namespace Sys2Proof.Machine
open Sys2Proof

namespace Strand

/-! ### Violations and refused fields -/

/-- A violation touches CHT_VIOL and CHT_VIOL_ADDR alone. -/
theorem rd_violation_other (st : Strand) (who : Requester) (off : Nat) {p : Nat} (h : p ≠ 0x20 ∧ p ≠ 0x24) :
    (st.violation who off).rd p = st.rd p := by
  unfold violation
  split
  · exact rd_bump_other st h.1
  · rw [rd_put_other _ _ h.2, rd_put_other _ _ h.1, rd_put_other _ _ h.1, rd_put_other _ _ h.1]

/-- Behind a violation the record is valid, whether it was the first or a later one. -/
theorem flag_violation (st : Strand) (who : Requester) (off : Nat) : (st.violation who off).flag R.CHT_VIOL_VALID = true := by
  unfold violation
  split
  · next h =>
    refine (congrArg (· == 1) ?_).trans h
    exact get_put_apart st _ rfl (by decide) (by decide)
  · refine (congrArg (· == 1) ?_ : _ = ((1 : Nat) == 1))
    rw [get_put_other _ _ (by decide)]
    rw [get_put_apart (f := R.CHT_VIOL_SOURCE) (g := R.CHT_VIOL_VALID) (l := 0) _ _ rfl (by decide) (by decide),
      get_put_apart (f := R.CHT_VIOL_MODE) (g := R.CHT_VIOL_VALID) (l := 0) _ _ rfl (by decide) (by decide)]
    exact get_put_same _ _ _ _ (by decide)

/-- The first violation is recorded with its offset. -/
theorem get_violation_addr {st : Strand} (who : Requester) {off : Nat} (ho : off < 2 ^ 26) (h : st.flag R.CHT_VIOL_VALID = false) :
    (st.violation who off).get R.CHT_VIOL_ADDR_ADDR = off := by
  unfold violation
  rw [if_neg (by simp [h]), get_put_same _ _ _ _ (by decide)]
  exact Nat.mod_eq_of_lt ho

/-- A Start-fixed field that would change is refused outside CHARTER, R11. -/
theorem writeField_fixed_refused {st : Strand} (who : Requester) {o : Nat} {v : Word} {f : FieldDef} (ha : f.acc = .rw) (hc : f.cls = .s)
    (hm : st.mode ≠ 1) (hne : (f.fld o).ofWord (st.rd o) ≠ (f.fld o).ofWord v) : st.writeField who o v f = (st, true) := by
  simp [writeField, ha, hc, hm, hne]

/-- In CHARTER a Start-fixed field is taken. -/
theorem writeField_fixed_taken {st : Strand} (who : Requester) (o : Nat) (v : Word) {f : FieldDef} (ha : f.acc = .rw) (hc : f.cls = .s)
    (hm : st.mode = 1) : (st.writeField who o v f).2 = false := by
  simp only [writeField, ha, hc, hm, if_true]
  split <;> rfl

/-- In CHARTER a Start-fixed field as wide as its register makes the register the word written. -/
theorem rd_writeField_whole {st : Strand} (who : Requester) (o : Nat) (v : Word) {f : FieldDef} (ha : f.acc = .rw) (hc : f.cls = .s)
    (hm : st.mode = 1) (hlo : f.lo = 0) (hw : f.width = 32) : (st.writeField who o v f).1.rd o = v := by
  have h (w : Word) : (f.fld o).ofWord w = w.toNat := Fld.ofWord_whole (f := f.fld o) hlo hw w
  simp only [writeField, ha, hc, hm, if_true, h]
  split
  · next e => exact BitVec.eq_of_toNat_eq e
  · rw [rd_wr_same]; exact Fld.intoWord_whole (f := f.fld o) hlo hw _ v

/-- A register of read-only fields keeps its word. -/
theorem writeFields_readOnly (st : Strand) (who : Requester) (o : Nat) (v : Word) {l : List FieldDef} (h : ∀ f ∈ l, f.acc = .ro) :
    st.writeFields who o v l = (st, false) := by
  induction l with
  | nil => rfl
  | cons f r ih =>
    have hf : st.writeField who o v f = (st, false) := by simp [writeField, h f (by simp)]
    rw [writeFields_cons, hf, ih fun x hx => h x (by simp [hx])]
    rfl

/-! ### PST_SEAL_CTX, a Start-fixed field -/

/-- PST_SEAL_CTX.CTX. -/
def sealCtx : FieldDef := fd 0 32 .s .rw .cht 0 .id

/-- PST_SEAL_CTX: the one field. -/
def pstSealCtx : RegDef := ⟨0x100008, 0, 1, [sealCtx]⟩

theorem strandReg_sealCtx : RegMap.strandReg 0x100008 = some pstSealCtx := rfl

theorem sealCtx_plain : ∀ f ∈ pstSealCtx.fields, f.norm = .id := by decide

/-- Outside CHARTER the write is refused and recorded. -/
theorem writeReg_sealCtx_refused {st : Strand} (who : Requester) {v : Word} (hm : st.mode ≠ 1) (hv : v ≠ st.rd 0x100008) :
    (st.writeReg who 0x100008 v).rd 0x100008 = st.rd 0x100008 ∧ (st.writeReg who 0x100008 v).flag R.CHT_STATUS_S_REFUSED = true
      ∧ (st.writeReg who 0x100008 v).flag R.CHT_VIOL_VALID = true
      ∧ (st.flag R.CHT_VIOL_VALID = false → (st.writeReg who 0x100008 v).get R.CHT_VIOL_ADDR_ADDR = 0x100008) := by
  have hne : (sealCtx.fld 0x100008).ofWord (st.rd 0x100008) ≠ (sealCtx.fld 0x100008).ofWord v := by
    rw [Fld.ofWord_whole rfl rfl, Fld.ofWord_whole rfl rfl]
    exact fun e => hv (BitVec.eq_of_toNat_eq e.symm)
  have hw : st.writeFields who 0x100008 v pstSealCtx.fields = (st, true) := by
    show st.writeFields who 0x100008 v [sealCtx] = _
    rw [writeFields_cons, writeField_fixed_refused who rfl rfl hm hne]
    rfl
  have hrd := rd_wr_normal st (strandNormal_plain (st.rd 0x100008).toNat strandReg_sealCtx (by decide) sealCtx_plain)
  have hreg : st.writeReg who 0x100008 v = ((st.wr 0x100008 (BitVec.ofNat 32 (strandNormal 0x100008 (st.rd 0x100008).toNat))).put
      R.CHT_STATUS_S_REFUSED 1).violation who 0x100008 := by
    rw [writeReg_refused strandReg_sealCtx (by decide) rfl (by rw [hw]), hw]
    rfl
  rw [hreg]
  refine ⟨?_, ?_, flag_violation .., fun h => get_violation_addr who (by decide) ?_⟩
  · rw [rd_violation_other _ who _ (by decide), rd_put_other _ _ (by decide), hrd]
  · refine (congrArg (fun w => R.CHT_STATUS_S_REFUSED.ofWord w == 1) (rd_violation_other _ who _ (by decide))).trans ?_
    exact congrArg (· == 1) (get_put_same _ R.CHT_STATUS_S_REFUSED 1 0 (by decide))
  · refine (congrArg (fun w => R.CHT_VIOL_VALID.ofWord w == 1) ?_).trans h
    rw [rd_put_other _ _ (by decide), hrd]

/-- In CHARTER it is taken, and no other register changes. -/
theorem rd_writeReg_sealCtx_charter {st : Strand} (who : Requester) (v : Word) (hm : st.mode = 1) (p : Nat) :
    (st.writeReg who 0x100008 v).rd p = if p = 0x100008 then v else st.rd p := by
  have hw : (st.writeFields who 0x100008 v pstSealCtx.fields).2 = false :=
    congrArg (· || false) (writeField_fixed_taken (f := sealCtx) who 0x100008 v rfl rfl hm)
  rw [rd_writeReg_plain strandReg_sealCtx (by decide) (by decide) sealCtx_plain rfl hw]
  split
  · next h => rw [h]; exact rd_writeField_whole (f := sealCtx) who 0x100008 v rfl rfl hm rfl rfl
  · next h => exact rd_writeFields_other st who v _ h

/-! ### A Live field, a read-only register, an error record -/

/-- A Live field of a register of plain fields reads as written, R14. -/
theorem ofWord_writeReg_live (st : Strand) (who : Requester) {o : Nat} (v : Word) {d : RegDef} (hd : RegMap.strandReg o = some d)
    (hm : o ≠ 0x300000 ∧ o ≠ 0x30000C) (hb : o / 0x100000 ≠ 8 ∧ o / 0x100000 ≠ 11 ∧ o / 0x100000 ≠ 12 ∧ o / 0x100000 ≠ 16)
    (hn : ∀ f ∈ d.fields, f.norm = .id) (hr : recordInfo o = none) (hs : ∀ f ∈ d.fields, f.cls ≠ .s) (hl : FieldsApart d.fields)
    {f : FieldDef} (hf : f ∈ d.fields) (ha : f.acc = .rw) (hc : f.cls = .l) :
    (f.fld o).ofWord ((st.writeReg who o v).rd o) = (f.fld o).ofWord v := by
  rw [rd_writeReg_plain hd hm hb hn hr (writeFields_taken st who o v hs), ofWord_writeFields_live st who o v hl hf ha hc]

/-- JNL_CTL: STORE_EN, CARD_REQUIRED and its pending bit. -/
def jnlCtl : RegDef := ⟨0x200000, 0, 1, [fd 0 1 .l .rw .cht 1 .id, fd 1 1 .b .rw .cht 0 .id, ro 2 1]⟩

theorem get_writeReg_storeEn (st : Strand) (who : Requester) (v : Word) :
    (st.writeReg who 0x200000 v).get R.JNL_CTL_STORE_EN = v.toNat % 2 := by
  refine (ofWord_writeReg_live st who v (d := jnlCtl) (f := fd 0 1 .l .rw .cht 1 .id) rfl (by decide) (by decide) (by decide) rfl (by decide)
    ⟨by decide, by decide⟩ (by decide) rfl rfl).trans ?_
  simp [FieldDef.fld, fd, Fld.ofWord]

/-- PST_FAIL_AUTH: a counter that no write reaches. -/
def pstFailAuth : RegDef := ⟨0x100028, 0, 1, [ro 0 32]⟩

theorem rd_writeReg_failAuth (st : Strand) (who : Requester) (v : Word) (p : Nat) : (st.writeReg who 0x100028 v).rd p = st.rd p := by
  have hw := writeFields_readOnly st who 0x100028 v (l := pstFailAuth.fields) (by decide)
  rw [rd_writeReg_plain (d := pstFailAuth) rfl (by decide) (by decide) (by decide) rfl (by rw [hw]), hw]

/-- CHT_VIOL, R79. -/
def chtViol : RegDef := ⟨0x20, 0, 1, [w1c 0 1, ro 1 3, ro 4 4, ro 16 16]⟩

/-- VALID clears CHT_VIOL and CHT_VIOL_ADDR and nothing else. -/
theorem rd_writeReg_viol (st : Strand) (who : Requester) {v : Word} (hv : bit v.toNat 0 = true) (p : Nat) :
    (st.writeReg who 0x20 v).rd p = if p = 0x20 ∨ p = 0x24 then 0 else st.rd p := by
  have hw := writeFields_taken st who 0x20 v (l := chtViol.fields) (by decide)
  rw [writeReg_record (d := chtViol) rfl (by decide) rfl hv hw, rd_settle _ (by decide)]
  simp only [List.foldl_cons, List.foldl_nil, rd_wr]
  by_cases h24 : p = 0x24
  · simp [h24]
  · by_cases h20 : p = 0x20
    · simp [h20]
    · simp [h24, h20, rd_writeFields_other st who v chtViol.fields h20]

end Strand

/-! ### The region registers, R434, R444, R448 -/

/-- The fields of a region's BASE, LIMIT and ATTR. -/
def regionFields : Fin 3 → List FieldDef
  | 0 | 1 => [fd 5 27 .l .rw .lit 0 .id]
  | 2 => [fd 0 3 .l .rw .lit 0 .id, fd 4 3 .l .rw .lit 0 .id, fd 8 3 .l .rw .lit 0 .id, fd 12 3 .l .rw .lit 0 .id,
      fd 16 1 .l .rw .lit 0 .id, fd 31 1 .l .rw .lit 0 .id]

theorem regionFields_live : ∀ part, ∀ f ∈ regionFields part, f.norm = .id ∧ f.acc = .rw ∧ f.cls = .l := by decide

theorem regionFields_apart (part : Fin 3) : FieldsApart (regionFields part) := by
  fin_cases part <;> exact ⟨by decide, by decide⟩

/-- The offset of a region register in the strand window: `k` counts the regions of all cores. -/
def regionOff (k : Fin 128) (part : Fin 3) : Nat := 0xA01000 + 16 * k.val + 4 * part.val

theorem strandReg_region : ∀ k part, (RegMap.strandReg (regionOff k part)).map (·.fields) = some (regionFields part) := by decide +kernel

theorem regionOff_range (k : Fin 128) (part : Fin 3) : 0xA01000 ≤ regionOff k part ∧ regionOff k part < 0xA01800 ∧ regionOff k part % 4 = 0 := by
  have := k.isLt; have := part.isLt
  unfold regionOff; omega

theorem recordInfo_region : ∀ k part, recordInfo (regionOff k part) = none := by decide +kernel

theorem ownRule_region : ∀ k part, ownRule (regionOff k part) = false := by decide +kernel

/-- A region register reads as written in every field. -/
theorem ofWord_writeReg_region (st : Strand) (who : Requester) (k : Fin 128) (part : Fin 3) (v : Word) {f : FieldDef}
    (hf : f ∈ regionFields part) :
    (f.fld (regionOff k part)).ofWord ((st.writeReg who (regionOff k part) v).rd (regionOff k part)) = (f.fld (regionOff k part)).ofWord v := by
  obtain ⟨d, hd, hfields⟩ := Option.map_eq_some_iff.mp (strandReg_region k part)
  obtain ⟨hlo, hhi, -⟩ := regionOff_range k part
  have hlive := regionFields_live part
  exact Strand.ofWord_writeReg_live st who v hd (by omega) (by omega) (fun g hg => (hlive g (hfields ▸ hg)).1) (recordInfo_region k part)
    (fun g hg => by rw [(hlive g (hfields ▸ hg)).2.2]; decide) (hfields ▸ regionFields_apart part) (hfields ▸ hf) (hlive f hf).2.1 (hlive f hf).2.2

/-- A field of a region reads as written, by its name in the register tables. -/
theorem get_writeReg_region (st : Strand) (who : Requester) (k : Fin 128) (part : Fin 3) (v : Word) (g : Fld)
    (hoff : g.off = 0xA01000 + 4 * part.val ∧ g.stride = 16) (hf : ∃ f ∈ regionFields part, g.lo = f.lo ∧ g.width = f.width) :
    (st.writeReg who (regionOff k part) v).get g k.val = g.ofWord v := by
  obtain ⟨f, hf, hlo, hwidth⟩ := hf
  have hat : g.at k.val = regionOff k part := by simp only [Fld.at, hoff, regionOff]; omega
  have h := ofWord_writeReg_region st who k part v hf
  unfold Strand.get
  rw [hat]
  simpa only [Fld.ofWord, FieldDef.fld, hlo, hwidth] using h

theorem exec_mpuRegionWrite (n : Fin 4) (who : Requester) (c : Fin 4) (r : Fin 32) (part : Fin 3) (v : Word) (s : State) :
    exec (.mpuRegionWrite n who c r part v) s = execMpuRegionWrite n who c r part v s := rfl

/-- The number of a core's region among those of all cores. -/
def regionNo (c : Fin 4) (r : Fin 32) : Fin 128 := ⟨32 * c.val + r.val, by omega⟩

/-- Warden's core writes a region register of any core of its strand. -/
theorem exec_mpuRegionWrite_warden {s : State} {n : Fin 4} (c : Fin 4) (r : Fin 32) (part : Fin 3) (v : Word) (hp : s.ring.power = true)
    (hh : (s.sd n).halted = false) :
    exec (.mpuRegionWrite n (.core n 0 0) c r part v) s
      = .next (({ s with resp := .none } : State).up n fun st => st.writeReg (.core n 0 0) (regionOff (regionNo c r) part) v) := by
  obtain ⟨hlo, hhi, -⟩ := regionOff_range (regionNo c r) part
  have haddr : 0x20000000 + 0xA01000 + 16 * (32 * c.val + r.val) + 4 * part.val = 0x20000000 + regionOff (regionNo c r) part := by
    simp only [regionOff, regionNo]; omega
  have hreach : reaches (.core n 0 0) n (regionOff (regionNo c r) part) = true := by simp [reaches]
  rw [exec_mpuRegionWrite, execMpuRegionWrite, if_pos (by simp [wardenOf]), haddr,
    State.regWrite_strand v hp (placeOf_core_window n 0 0 (by omega)) hreach,
    State.writeStrand_plain (s := { s with resp := .none }) _ _ hh (ownRule_region _ _)]

/-! ### Patrol and sweep, R437 to R439 -/

theorem exec_sramPatrolPass (n : Fin 4) (ce ue : List (Nat × Nat)) (s : State) :
    exec (.sramPatrolPass n ce ue) s = execSramPatrolPass n ce ue s := rfl

theorem exec_duplicateCopySweep (n : Fin 4) (off : Nat) (s : State) :
    exec (.duplicateCopySweep n off) s = execDuplicateCopySweep n off s := rfl

/-- The counts of a patrol pass. -/
def Strand.patrolCounts (st : Strand) (ce ue : List (Nat × Nat)) : Strand :=
  ((st.add R.MPU_SRAM_CE (ce.map (·.2)).sum).add R.MPU_SRAM_UE ue.length).add R.MPU_PATROL 1

/-- A patrol pass counts, and beyond that keeps the MPU's registers and work SRAM. -/
theorem exec_sramPatrolPass_runs {s : State} {n : Fin 4} (ce ue : List (Nat × Nat)) (hh : (s.sd n).halted = false) (hm : (s.sd n).mode ≠ 0) :
    ∃ x, exec (.sramPatrolPass n ce ue) s = .next (s.setSd n x) ∧ MpuKept ((s.sd n).patrolCounts ce ue) x := by
  rw [exec_sramPatrolPass, execSramPatrolPass]
  extract_lets st1 st2 bad st3 rows
  rw [if_neg (by simp [hh, hm])]
  have hbad : MpuKept st2 st3 := ⟨fun _ _ => rfl, rfl, rfl⟩
  exact ⟨_, rfl, hbad.trans (Strand.foldl_reqSwap_mpuKept _ _ _)⟩

/-- A disagreement is remembered and counted, and the MPU's registers are else kept. -/
theorem exec_duplicateCopySweep_runs {s : State} {n : Fin 4} {off : Nat} (hh : (s.sd n).halted = false) (hm : (s.sd n).mode ≠ 0)
    (hdup : duplicated off = true) (hnew : off ∉ (s.sd n).dupBad) :
    ∃ x, exec (.duplicateCopySweep n off) s = .next (s.setSd n x)
      ∧ MpuKept (({ s.sd n with dupBad := (s.sd n).dupBad ++ [off] } : Strand).bump R.MPU_DUP_ERR) x := by
  refine ⟨_, ?_, Strand.event_mpuKept _ s.now 1 (islandOfBlock (off / 0x100000)) 0 (src := 14) (by decide)⟩
  simp only [exec_duplicateCopySweep, execDuplicateCopySweep, hh, hm, hdup, hnew, List.contains_iff_mem, Bool.false_eq_true, not_true_eq_false,
    or_self, if_false]
  rfl

/-- A field of the MPU's block is as before where the block is kept. -/
theorem MpuKept.get {a b : Strand} (h : MpuKept a b) (f : Fld) (k : Nat) (hf : f.at k / 0x100000 = 10) : b.get f k = a.get f k :=
  congrArg f.ofWord (h.rd _ hf)

/-! ### The statement -/

/-- The answer of an access is no part of the strand that the access changes. -/
theorem State.sd_answered_up (s : State) (r : Resp) (n : Fin 4) (g : Strand → Strand) : (({ s with resp := r } : State).up n g).sd n = g (s.sd n) :=
  sd_up_same ..

/-- The upper 27 bits of a word. -/
theorem div_32_of_word (v : Word) : v.toNat / 2 ^ 5 % 2 ^ 27 = v.toNat / 32 := by have := v.isLt; omega

/-- The top bit of a word, as a field and as a bit. -/
theorem flag_31_of_word (v : Word) : (R.MPU_ATTR_VALID.ofWord v == 1) = bit v.toNat 31 := by
  simp [Fld.ofWord, R.MPU_ATTR_VALID, bit, Nat.testBit_eq_decide_div_mod_eq, beq_eq_decide]

/-- Settles O12: each write by what it does to its register, the patrol and the sweep by what their records leave alone. -/
theorem registerWritesAndMpu : Obligations.RegisterWritesAndMpu := by
  unfold Obligations.RegisterWritesAndMpu
  refine ⟨fun s n v hp hh => ?_, fun s n hh => ⟨fun c r v hp => ?_, fun hm => ⟨fun ce ue => ?_, fun off hdup hnew => ?_⟩⟩⟩
  · refine ⟨fun hm hv => ?_, fun hm => ?_, ?_, ?_, fun hv => ?_⟩
    · refine ⟨_, exec_registerWrite_manager v hp hh (by decide) rfl rfl, ?_⟩
      rw [State.sd_answered_up]
      exact Strand.writeReg_sealCtx_refused .manager hm hv
    · refine ⟨_, exec_registerWrite_manager v hp hh (by decide) rfl rfl, ?_⟩
      rw [State.sd_answered_up]
      exact ⟨Strand.rd_writeReg_sealCtx_charter .manager v hm _,
        fun o ho => (Strand.rd_writeReg_sealCtx_charter .manager v hm o).trans (if_neg ho)⟩
    · refine ⟨_, exec_registerWrite_manager v hp hh (by decide) rfl rfl, ?_⟩
      rw [State.sd_answered_up]
      exact Strand.get_writeReg_storeEn _ .manager v
    · refine ⟨_, exec_registerWrite_manager v hp hh (by decide) rfl rfl, fun o => ?_⟩
      rw [State.sd_answered_up]
      exact Strand.rd_writeReg_failAuth _ .manager v o
    · refine ⟨_, exec_registerWrite_manager v hp hh (by decide) rfl rfl, ?_⟩
      rw [State.sd_answered_up]
      have h := Strand.rd_writeReg_viol (s.sd n) .manager hv
      exact ⟨h 0x20, h 0x24, fun o h20 h24 => (h o).trans (if_neg (by simp [h20, h24]))⟩
  · have hw := fun part => exec_mpuRegionWrite_warden c r part v hp hh
    have hrd := get_writeReg_region (s.sd n) (.core n 0 0) (regionNo c r)
    refine ⟨⟨_, hw 0, ?_⟩, ⟨_, hw 1, ?_⟩, ⟨_, hw 2, ?_, ?_, ?_, rfl⟩⟩
    · rw [State.sd_answered_up]
      exact (hrd 0 v R.MPU_BASE_BASE (by decide) (by decide)).trans (div_32_of_word v)
    · rw [State.sd_answered_up]
      exact (hrd 1 v R.MPU_LIMIT_LIMIT (by decide) (by decide)).trans (div_32_of_word v)
    · rw [State.sd_answered_up]
      exact (congrArg (· == 1) (hrd 2 v R.MPU_ATTR_VALID (by decide) (by decide))).trans (flag_31_of_word v)
    · rw [State.sd_answered_up]
      exact hrd 2 v R.MPU_ATTR_P2 (by decide) (by decide)
    · exact fun m hmn => State.sd_up_other _ _ hmn
  · obtain ⟨x, hx, hkept⟩ := exec_sramPatrolPass_runs ce ue hh hm
    refine ⟨_, hx, ?_, ?_, ?_, fun m hmn => State.sd_setSd_other _ _ hmn, rfl, rfl⟩
    · rw [State.sd_setSd_same, hkept.get _ _ (by decide), Strand.patrolCounts, Strand.get_add_other _ _ (by decide),
        Strand.get_add_other _ _ (by decide), Strand.get_add_same _ _ _ _ (by decide)]
      rfl
    · rw [State.sd_setSd_same, hkept.get _ _ (by decide), Strand.patrolCounts, Strand.get_add_other _ _ (by decide),
        Strand.get_add_same _ _ _ _ (by decide), Strand.get_add_other _ _ (by decide)]
      rfl
    · rw [State.sd_setSd_same, hkept.sram]
      rfl
  · obtain ⟨x, hx, hkept⟩ := exec_duplicateCopySweep_runs hh hm hdup hnew
    refine ⟨_, hx, ?_, ?_, fun m hmn => State.sd_setSd_other _ _ hmn, rfl, rfl⟩
    · rw [State.sd_setSd_same, hkept.dupBad]
      simp
    · rw [State.sd_setSd_same, hkept.get _ _ (by decide)]
      exact Strand.get_add_same _ R.MPU_DUP_ERR 1 0 (by decide)

end Sys2Proof.Machine
end


section
/-! SUPPORT. The device right after reset (R20, R37, R51, R67, R73). -/

namespace Sys2Proof.Machine
open Sys2Proof

@[simp] theorem State.sd_reset (n : Fin 4) : State.reset.sd n = Strand.reset n := by
  simp [State.sd, State.reset]

@[simp] theorem Strand.core_reset (n c : Fin 4) : (Strand.reset n).core c = { num := c.val } := by
  simp [Strand.core, Strand.reset]

/-- A register of a strand that nothing has written is at its reset word. -/
@[simp] theorem Strand.rd_reset (n : Fin 4) (o : Nat) : (Strand.reset n).rd o = strandReset o := rfl

theorem Strand.mode_reset (n : Fin 4) : (Strand.reset n).mode = 1 := by
  show R.CHT_MODE_MODE.ofWord (strandReset _) = 1
  decide +kernel

theorem Strand.halted_reset (n : Fin 4) : (Strand.reset n).halted = false := by
  show (R.CHT_MODE_HALTED.ofWord (strandReset _) == 1) = false
  decide +kernel

theorem State.life_reset : State.reset.life = 0 ∧ State.reset.lifeInvalid = false := by decide

theorem canonical_reset : Claims.Canonical State.reset :=
  ⟨rfl, rfl, fun n => by rw [State.sd_reset]; exact ⟨rfl, rfl, rfl⟩⟩

/-- Settles O57: each part of the state as its definition gives it. -/
theorem resetState : Obligations.ResetState := by
  unfold Obligations.ResetState
  refine ⟨rfl, rfl, State.life_reset.1, State.life_reset.2, rfl, canonical_reset, fun n => ?_⟩
  rw [State.sd_reset]
  refine ⟨rfl, Strand.mode_reset n, Strand.halted_reset n, rfl, rfl, rfl, rfl, rfl, rfl, fun c => ?_⟩
  rw [State.core_eq, State.sd_reset, Strand.core_reset]
  exact ⟨rfl, rfl⟩

end Sys2Proof.Machine
end


section
/-! SUPPORT. The maker's challenges, the parts of the ring, and the run-time ring settings that strands retain (R24, R28, R70, R71, R357). -/

namespace Sys2Proof.Machine
open Sys2Proof

/-! ### Ring registers -/

namespace State

@[simp] theorem rrd_rwr_same (s : State) (o : Nat) (w : Word) : (s.rwr o w).rrd o = w :=
  (RegFile.read_write ..).trans (if_pos rfl)

theorem rrd_rwr_other (s : State) {o p : Nat} (w : Word) (h : p ≠ o) : (s.rwr o w).rrd p = s.rrd p :=
  (RegFile.read_write ..).trans (if_neg h)

/-- A field of the ring window reads back what was put into it. -/
theorem rget_rput_same (s : State) (f : Fld) (v k : Nat) (hf : f.lo + f.width ≤ 32) : (s.rput f v k).rget f k = v % 2 ^ f.width := by
  rw [rget, rput, rrd_rwr_same, Fld.ofWord_intoWord f _ v hf]

theorem rget_rput_other (s : State) {f g : Fld} {k l : Nat} (v : Nat) (h : g.at l ≠ f.at k) : (s.rput f v k).rget g l = s.rget g l := by
  rw [rget, rput, rrd_rwr_other s _ h, rget]

/-- A field of the same register that shares no bit is not changed. -/
theorem rget_rput_apart (s : State) {f g : Fld} {k l : Nat} (v : Nat) (he : g.at l = f.at k) (hf : f.lo + f.width ≤ 32)
    (h : f.apart g = true) : (s.rput f v k).rget g l = s.rget g l := by
  rw [rget, rget, rput, he, rrd_rwr_same, Fld.ofWord_intoWord_apart _ _ hf h]

/-! ### The maker's challenges, R70, R71 -/

theorem debugChallenge_mem (s : State) : s.debugChallenge.2.mem = s.mem := by unfold debugChallenge; split <;> rfl

theorem debugChallenge_ident (s : State) : s.debugChallenge.2.ring.ident = s.ring.ident := by unfold debugChallenge; split <;> rfl

/-- Whether an answer is right rests on the fused digest of the maker's return key alone. -/
theorem makerSigned_congr {s t : State} (h : t.ring.ident = s.ring.ident) (key text sig : Bytes) :
    t.makerSigned key text sig = s.makerSigned key text sig := by unfold makerSigned; rw [h]

/-- The code of the last life-cycle state holds each of its five bits, whatever a device held before, R67, R68. -/
theorem lifeCode_advanceLife_five (s : State) : (s.advanceLife 5).lifeCode = s.lifeCode ||| 31 := by
  have h (a b c : Nat) : (a ||| 31) &&& (b ||| 31) ||| (a ||| 31) &&& (c ||| 31) ||| (b ||| 31) &&& (c ||| 31)
      = (a &&& b ||| a &&& c ||| b &&& c) ||| 31 := by
    refine Nat.eq_of_testBit_eq fun i => ?_
    simp only [Nat.testBit_or, Nat.testBit_and]
    cases a.testBit i <;> cases b.testBit i <;> cases c.testBit i <;> cases Nat.testBit 31 i <;> rfl
  exact h ..

theorem life_advanceLife_five (s : State) : (s.advanceLife 5).life = 5 := by
  have hlow : (s.advanceLife 5).lifeCode % 32 = 31 := by
    rw [lifeCode_advanceLife_five, show (32 : Nat) = 2 ^ 5 from rfl, Nat.or_mod_two_pow]
    have hlt : s.lifeCode % 32 < 32 := Nat.mod_lt _ (by decide)
    generalize s.lifeCode % 32 = x at hlt
    decide +revert
  unfold life
  split <;> omega

/-- Where ring supervision works and the checkers agree, the life-cycle state advances, R69. -/
theorem lifeStep_agreed {s : State} (h : s.ring.rsFailed = false) (n : Fin 4) (k : Nat) (d : Decision) :
    s.lifeStep n k d true = s.advanceLife k := by simp [lifeStep, h]

/-- An answer to the scrap challenge is judged with a fresh challenge drawn, R71. -/
def scrapDrawn (s : State) : State :=
  (s.setSd 0 ((s.sd 0).drawBytes 32).2).upR fun r => { r with scrapChallenge := some ((s.sd 0).drawBytes 32).1 }

theorem advanceLife_mem (s : State) (k : Nat) : (s.advanceLife k).mem = s.mem := by
  unfold advanceLife; dsimp only; split <;> split <;> rfl

end State

theorem exec_makerDebugChallenge (sig key : Bytes) (s : State) : exec (.makerDebugChallenge sig key) s = execMakerDebugChallenge sig s key := rfl

theorem exec_makerScrapOrder (sig : Bytes) (agree : Bool) (key : Bytes) (s : State) :
    exec (.makerScrapOrder sig agree key) s = execMakerScrapOrder sig agree s key := rfl

/-- An answer to the debug challenge that is judged: a right one opens the port and draws the scrap challenge, a wrong one counts. -/
theorem exec_makerDebugChallenge_judged {s : State} (sig key : Bytes) (hp : s.ring.power = true) (hl : s.life = 4) (hw : s.ring.wrongDebug < 3)
    (ho : s.ring.debugOpen = false) :
    exec (.makerDebugChallenge sig key) s = .next
      (if s.makerSigned key (s.debugChallenge.1 ++ fit 16 s.ring.ident.deviceId) sig = true
       then (s.debugChallenge.2.setSd 0 ((s.debugChallenge.2.sd 0).drawBytes 32).2).upR fun r =>
        { r with debugOpen := true, scrapChallenge := some ((s.debugChallenge.2.sd 0).drawBytes 32).1 }
       else s.debugChallenge.2.upR fun r => { r with wrongDebug := r.wrongDebug + 1 }) := by
  have hi := s.debugChallenge_ident
  rw [exec_makerDebugChallenge, execMakerDebugChallenge, if_neg (by simp [hp, hl, ho, hw])]
  dsimp only
  rw [hi, State.makerSigned_congr hi, apply_ite Host.Outcome.next]

theorem exec_makerDebugChallenge_closed {s : State} (sig key : Bytes) (hw : s.ring.wrongDebug ≥ 3) :
    exec (.makerDebugChallenge sig key) s = .next s := by
  rw [exec_makerDebugChallenge, execMakerDebugChallenge, if_pos (by simp [hw])]

/-- A scrap order that is judged uses up its challenge; a right one scraps the device, a wrong one counts. -/
theorem exec_makerScrapOrder_judged {s : State} (sig key : Bytes) {c : Bytes} (hp : s.ring.power = true) (hl : s.life = 4)
    (hc : s.ring.scrapChallenge = some c) (ho : s.ring.debugOpen = true) (hw : s.ring.wrongScrap < 3) (hr : s.ring.rsFailed = false) :
    exec (.makerScrapOrder sig true key) s = .next
      (if s.makerSigned key (c ++ fit 16 s.ring.ident.deviceId ++ ascii "SCRP") sig = true then s.scrapDrawn.advanceLife 5
       else s.scrapDrawn.upR fun r => { r with wrongScrap := r.wrongScrap + 1 }) := by
  have hlife : s.scrapDrawn.lifeStep 0 5 .scrap true = s.scrapDrawn.advanceLife 5 := State.lifeStep_agreed (s := s.scrapDrawn) hr 0 5 .scrap
  rw [exec_makerScrapOrder, execMakerScrapOrder, hc, ← hlife, apply_ite Host.Outcome.next]
  exact if_neg (by simp [hp, hl, ho, hw])

/-! ### Ring parts, R24, R28 -/

theorem exec_ringPartFailure (p : RingPart) (s : State) : exec (.ringPartFailure p) s = execRingPartFailure p s := rfl

theorem exec_rsRefclkFailover (bad : Fin 4) (s : State) : exec (.rsRefclkFailover bad) s = execRsRefclkFailover bad s := rfl

theorem exec_ringRetainWrite (s : State) : exec .ringRetainWrite s = execRingRetainWrite s := rfl

/-- Where the front end of the tag fails, the host holds the tag no longer. -/
theorem exec_ringPartFailure_tagFrontEnd (s : State) :
    ∃ t, exec (.ringPartFailure .tagFrontEnd) s = .next t ∧ t.ring.tfFailed = true ∧ t.ring.tag.owned = false ∧ t.ring.tag.prog = none
      ∧ t.ring.tag.fieldDet = false ∧ t.rget R.TAG_STATUS_OWNED = 0 ∧ t.rget R.TAG_STATUS_WIP = 0 ∧ (∀ m, t.sd m = s.sd m) ∧ t.mem = s.mem := by
  refine ⟨_, rfl, rfl, rfl, rfl, rfl, ?_, State.rget_rput_same _ R.TAG_STATUS_WIP 0 0 (by decide), fun _ => rfl, rfl⟩
  refine (State.rget_rput_apart (f := R.TAG_STATUS_WIP) (g := R.TAG_STATUS_OWNED) _ 0 rfl (by decide) (by decide)).trans ?_
  exact State.rget_rput_same _ R.TAG_STATUS_OWNED 0 0 (by decide)

/-- The references that island RS may not take once `bad` has left its range. -/
def refBadWith (r : Ring) (bad : Fin 4) : List Nat := if r.refBad.contains bad.val then r.refBad else r.refBad ++ [bad.val]

theorem mem_refBadWith (r : Ring) (bad : Fin 4) (j : Nat) : j ∈ refBadWith r bad ↔ j = bad.val ∨ j ∈ r.refBad := by
  unfold refBadWith
  split
  · next h => simp only [List.contains_iff_mem] at h; constructor
              · exact .inr
              · rintro (rfl | h'); exacts [h, h']
  · simp [or_comm]

/-- The lowest-numbered reference still in range. -/
theorem find_refInRange {r : Ring} {bad k : Fin 4} (hk : k ≠ bad) (hr : k.val ∉ r.refBad) (hj : ∀ j : Fin 4, j < k → j = bad ∨ j.val ∈ r.refBad) :
    ((List.range 4).find? fun j => !(refBadWith r bad).contains j) = some k.val := by
  have hlow : ∀ j < k.val, (!(refBadWith r bad).contains j) = false := fun j hlt => by
    have h4 : j < 4 := by omega
    have h := (mem_refBadWith r bad j).mpr ((hj ⟨j, h4⟩ hlt).imp (congrArg Fin.val) id)
    simpa using h
  have hself : (!(refBadWith r bad).contains k.val) = true := by
    have h : k.val ∉ refBadWith r bad := by
      rw [mem_refBadWith]; rintro (h | h)
      exacts [hk (Fin.ext h), hr h]
    simpa using h
  exact List.find?_range_eq_some.mpr ⟨hself, List.mem_range.mpr k.isLt, by simpa using hlow⟩

theorem exec_rsRefclkFailover_moves {s : State} {bad k : Fin 4} (hp : s.ring.power = true) (hs : s.rget R.RNG_STATUS_RS_REF = bad.val)
    (hk : k ≠ bad) (hr : k.val ∉ s.ring.refBad) (hj : ∀ j : Fin 4, j < k → j = bad ∨ j.val ∈ s.ring.refBad) :
    exec (.rsRefclkFailover bad) s
      = .next ((s.upR fun r => { r with refBad := refBadWith r bad }).rput R.RNG_STATUS_RS_REF k.val) := by
  rw [exec_rsRefclkFailover]
  unfold execRsRefclkFailover
  extract_lets t
  have hs' : t.rget R.RNG_STATUS_RS_REF = bad.val := hs
  have hf : ((List.range 4).find? fun j => !t.ring.refBad.contains j) = some k.val := find_refInRange hk hr hj
  have hp' : t.ring.power = true := hp
  rw [if_neg (by simp [hs', hp']), hf]
  rfl

/-! ### Retained ring settings, R357 -/

/-- A run-time change joins the retained ones as it is, and takes from each other one the bits that it names. -/
theorem mem_retainEntry {l : List FieldEntry} {e y : FieldEntry} (h : y ∈ retainEntry l e) :
    y = e ∨ (y.off ≠ e.off ∧ y ∈ l) ∨ ∃ x ∈ l, x.off = e.off ∧ y = { x with mask := x.mask - (x.mask &&& e.mask) } := by
  simp only [retainEntry, unnamed, List.mem_append, List.mem_filter, List.mem_map, List.mem_singleton] at h
  obtain ⟨⟨x, hx, hy⟩, -⟩ | h := h
  · by_cases ho : e.off = x.off
    · have hy : { x with mask := x.mask - (x.mask &&& e.mask) } = y := by simpa [ho] using hy
      exact .inr (.inr ⟨x, hx, ho.symm, hy.symm⟩)
    · have hy : x = y := by simpa [ho] using hy
      exact .inr (.inl ⟨hy ▸ Ne.symm ho, hy ▸ hx⟩)
  · exact .inl h

/-- Settles O16: each command by what it does, and the entries of a retained list by how a new one joins it. -/
theorem makerChallengesAndRingParts : Obligations.MakerChallengesAndRingParts := by
  unfold Obligations.MakerChallengesAndRingParts
  refine ⟨fun s key sig c hp hl => ⟨fun hw ho => ?_, exec_makerDebugChallenge_closed sig key, fun hc ho hw hr => ?_⟩,
    fun s => ⟨rfl, exec_ringPartFailure_tagFrontEnd s, rfl, fun bad k hp hs hk hr hj => ?_, fun hr hp => ?_⟩,
    fun l e => ⟨by simp [retainEntry], fun y => mem_retainEntry⟩⟩
  · refine ⟨_, exec_makerDebugChallenge_judged sig key hp hl hw ho, ?_, ?_⟩
    · split <;> exact s.debugChallenge_mem
    · split
      · exact ⟨rfl, rfl⟩
      · rfl
  · refine ⟨_, exec_makerScrapOrder_judged sig key hp hl hc ho hw hr, ?_, ?_⟩
    · split
      · exact State.advanceLife_mem _ 5
      · rfl
    · split
      · exact State.life_advanceLife_five _
      · exact ⟨hl, rfl⟩
  · refine ⟨_, exec_rsRefclkFailover_moves hp hs hk hr hj, ?_, (mem_refBadWith ..).mpr (.inl rfl), fun _ => rfl, rfl⟩
    rw [State.rget_rput_same _ _ _ _ (by decide)]
    exact Nat.mod_eq_of_lt k.isLt
  · refine ⟨_, (exec_ringRetainWrite s).trans (if_neg (by simp [hr, hp])), rfl, rfl, fun n => ?_⟩
    rw [State.upR_sd, State.sd_upAll]
    exact ⟨fun h => if_pos h, fun h => by rw [if_neg (by simp [h])]⟩

end Sys2Proof.Machine
end


section
/-! SUPPORT. What the registers that show a strand's state leave alone: a put, a fault record, a snapshot's trigger, a vector, the NMI. -/

namespace Sys2Proof.Machine
open Sys2Proof

/-- `b` shows other values than `a` in registers outside `P`, and holds what `a` holds: its sentinel, keys, batches, links and islands. -/
structure Shown (P : Nat → Prop) (a b : Strand) : Prop where
  rd : ∀ o, P o → b.rd o = a.rd o
  nv : b.nv = a.nv
  jsp : b.jsp = a.jsp
  post : b.post = a.post
  vault : b.vault = a.vault
  eng : b.eng = a.eng
  links : b.links = a.links
  fenced : b.fenced = a.fenced
  keyBus : b.keyBus = a.keyBus
  quar : b.quar = a.quar
  hlt : b.hlt = a.hlt

namespace Shown

variable {P Q : Nat → Prop} {a b c : Strand}

theorem refl (a : Strand) : Shown P a a := ⟨fun _ _ => rfl, rfl, rfl, rfl, rfl, rfl, rfl, rfl, rfl, rfl, rfl⟩

theorem trans (h : Shown P a b) (g : Shown P b c) : Shown P a c :=
  ⟨fun o ho => (g.rd o ho).trans (h.rd o ho), g.nv.trans h.nv, g.jsp.trans h.jsp, g.post.trans h.post, g.vault.trans h.vault,
    g.eng.trans h.eng, g.links.trans h.links, g.fenced.trans h.fenced, g.keyBus.trans h.keyBus, g.quar.trans h.quar, g.hlt.trans h.hlt⟩

theorem mono (h : Shown P a b) (hq : ∀ o, Q o → P o) : Shown Q a b := { h with rd := fun o ho => h.rd o (hq o ho) }

theorem wr (h : Shown P a b) {o : Nat} (w : Word) (ho : ¬ P o) : Shown P a (b.wr o w) :=
  h.trans ⟨fun _ hp => Strand.rd_wr_other b w fun e => ho (e ▸ hp), rfl, rfl, rfl, rfl, rfl, rfl, rfl, rfl, rfl, rfl⟩

theorem put (h : Shown P a b) (f : Fld) (v : Nat) {k : Nat} (hf : ¬ P (f.at k)) : Shown P a (b.put f v k) := h.wr _ hf

theorem bump (h : Shown P a b) (f : Fld) {k : Nat} (hf : ¬ P (f.at k)) : Shown P a (b.bump f k) := h.put f _ hf

theorem snap (h : Shown P a b) (x : Option Snap) : Shown P a { b with snap := x } := { h with }

theorem ipend (h : Shown P a b) (x : Vector Nat 4) : Shown P a { b with ipend := x } := { h with }

theorem nmi (h : Shown P a b) (x : Vector Bool 4) : Shown P a { b with nmi := x } := { h with }

theorem get (h : Shown P a b) (f : Fld) {k : Nat} (hf : P (f.at k)) : b.get f k = a.get f k := congrArg f.ofWord (h.rd _ hf)

theorem flag (h : Shown P a b) (f : Fld) {k : Nat} (hf : P (f.at k)) : b.flag f k = a.flag f k := congrArg (· == 1) (h.get f hf)

end Shown

/-- What each step of a run over a list leaves alone, the run leaves alone. -/
theorem Shown.foldl {P : Nat → Prop} {α : Type} {f : Strand → α → Strand} {l : List α} (h : ∀ x ∈ l, ∀ st, Shown P st (f st x)) (st : Strand) :
    Shown P st (l.foldl f st) := by
  induction l generalizing st with
  | nil => exact .refl st
  | cons x r ih => exact (h x (by simp) st).trans (ih (fun y hy => h y (by simp [hy])) _)

/-- The registers outside the snapshot block. -/
abbrev OffSnap (o : Nat) : Prop := o / 0x100000 ≠ 18

/-- The registers outside the snapshot block and the block of the cores. -/
abbrev OffNotice (o : Nat) : Prop := o / 0x100000 ≠ 9 ∧ o / 0x100000 ≠ 18

namespace Strand

theorem snapTrigger_shown (st : Strand) (source : Nat) : Shown OffSnap st (st.snapTrigger source) := by
  unfold snapTrigger
  split
  · exact (Shown.refl st).bump _ (by decide)
  · extract_lets no x y
    have hx : Shown OffSnap st x := (((Shown.refl st).put _ _ (by decide)).put _ _ (by decide)).put _ _ (by decide)
    have hy : Shown OffSnap st y := ((hx.put _ _ (by decide)).put _ _ (by decide)).put _ _ (by decide)
    exact hy.snap _

theorem vector_shown (st : Strand) (v core : Nat) : Shown OffSnap st (st.vector v core) := by
  unfold vector
  extract_lets ev x
  have hx : Shown OffSnap st x := by
    by_cases hc : core < 4
    · simp only [x, hc, dite_true]; exact (Shown.refl st).ipend _
    · simp only [x, hc, dite_false]; exact .refl st
  split
  · exact hx.trans (snapTrigger_shown x 5)
  · exact hx

/-- A fault record shows in its own registers and, by its vector, in the snapshot block. -/
theorem noteErr_shown {P : Nat → Prop} (hP : ∀ o, P o → OffSnap o) (st : Strand) {valid code ovf : Fld} (c : Nat) {info : Strand → Strand}
    (hv : ¬ P (valid.at 0)) (hc : ¬ P (code.at 0)) (ho : ¬ P (ovf.at 0)) (hi : ∀ x, Shown P x (info x)) :
    Shown P st (st.noteErr valid code ovf c info) := by
  have hp : Shown P st (info ((st.put valid 1).put code c)) := (((Shown.refl st).put _ _ hv).put _ _ hc).trans (hi _)
  unfold noteErr
  split
  · exact (Shown.refl st).bump _ ho
  · dsimp only
    split
    · exact hp.trans ((vector_shown _ _ _).mono hP)
    · exact hp

theorem raiseNmi_shown (st : Strand) {cause : Fld} (hc : ¬ OffNotice (cause.at 0)) : Shown OffNotice st (st.raiseNmi cause) := by
  unfold raiseNmi
  extract_lets quiet x k
  have hx : Shown OffNotice st x := (Shown.refl st).put _ _ hc
  split
  · split
    · exact hx.nmi _
    · exact hx
  · exact hx

/-- What a firing raises at once shows in the block of the cores and the snapshot block alone. -/
theorem notify_shown (st : Strand) (f : Firing) : Shown OffNotice st (st.notify f) := by
  unfold notify
  split
  · exact .refl st
  · extract_lets x lim
    have hx : Shown OffNotice st x := by
      unfold x
      split
      · exact raiseNmi_shown st (by decide)
      · exact (vector_shown st _ _).mono fun _ h => h.2
    split
    · exact hx.trans ((snapTrigger_shown x 4).mono fun _ h => h.2)
    · exact hx

end Strand

end Sys2Proof.Machine
end


section
/-! SUPPORT. What becomes of the sentinel where islands are fenced, work is dropped, a strand halts or cores start (R59, R354, R589 to R591). -/

namespace Sys2Proof.Machine
open Sys2Proof

/-! ### What an alarm's response rests on -/

/-- JSP_LAST, which shows the last alarm. -/
abbrev IsLast (o : Nat) : Prop := o = 0x100000C

/-- The last alarm, the log that waits, the erase and its line, the request wires and every fence of `a` stand in `b`. -/
structure SentinelKept (a b : Strand) : Prop where
  last : b.rd 0x100000C = a.rd 0x100000C
  logQ : b.jsp.logQ = a.jsp.logQ
  erase : b.jsp.erase = a.jsp.erase
  lineSince : b.jsp.lineSince = a.jsp.lineSince
  wires : b.jsp.wires = a.jsp.wires
  fenced : ∀ i ∈ a.fenced, i ∈ b.fenced

/-- Beside that no source fires and no cipher or big-number job begins to wait. -/
structure CalmKept (a b : Strand) : Prop extends SentinelKept a b where
  alarm : b.jsp.alarm = a.jsp.alarm
  topQ : a.eng.topQ = [] → b.eng.topQ = []
  berQ : a.eng.berQ = [] → b.eng.berQ = []

namespace SentinelKept

variable {a b c : Strand}

theorem refl (a : Strand) : SentinelKept a a := ⟨rfl, rfl, rfl, rfl, rfl, fun _ h => h⟩

theorem trans (h : SentinelKept a b) (g : SentinelKept b c) : SentinelKept a c :=
  ⟨g.last.trans h.last, g.logQ.trans h.logQ, g.erase.trans h.erase, g.lineSince.trans h.lineSince, g.wires.trans h.wires,
    fun i hi => g.fenced i (h.fenced i hi)⟩

/-- It rests on the registers, the sentinel and the fences alone. -/
theorem of_eq (hr : b.regs = a.regs) (hj : b.jsp = a.jsp) (hf : b.fenced = a.fenced) : SentinelKept a b :=
  ⟨Strand.rd_congr hr _, congrArg _ hj, congrArg _ hj, congrArg _ hj, congrArg _ hj, fun _ hi => hf ▸ hi⟩

theorem of_shown (h : Shown IsLast a b) : SentinelKept a b :=
  ⟨h.rd _ rfl, congrArg _ h.jsp, congrArg _ h.jsp, congrArg _ h.jsp, congrArg _ h.jsp, fun _ hi => h.fenced ▸ hi⟩

end SentinelKept

namespace CalmKept

variable {a b c : Strand}

theorem refl (a : Strand) : CalmKept a a := ⟨.refl a, rfl, fun h => h, fun h => h⟩

theorem trans (h : CalmKept a b) (g : CalmKept b c) : CalmKept a c :=
  ⟨h.toSentinelKept.trans g.toSentinelKept, g.alarm.trans h.alarm, fun e => g.topQ (h.topQ e), fun e => g.berQ (h.berQ e)⟩

theorem of_eq (hr : b.regs = a.regs) (hj : b.jsp = a.jsp) (hf : b.fenced = a.fenced) (ht : b.eng.topQ = a.eng.topQ)
    (hb : b.eng.berQ = a.eng.berQ) : CalmKept a b :=
  ⟨.of_eq hr hj hf, congrArg _ hj, fun e => ht.trans e, fun e => hb.trans e⟩

theorem of_shown (h : Shown IsLast a b) : CalmKept a b :=
  ⟨.of_shown h, congrArg _ h.jsp, fun e => by rw [h.eng, e], fun e => by rw [h.eng, e]⟩

theorem shown (h : CalmKept a b) (g : Shown IsLast b c) : CalmKept a c := h.trans (.of_shown g)

theorem put (h : CalmKept a b) (f : Fld) (v : Nat) {k : Nat} (hf : f.at k ≠ 0x100000C) : CalmKept a (b.put f v k) :=
  h.shown ((Shown.refl b).put f v hf)

theorem bump (h : CalmKept a b) (f : Fld) {k : Nat} (hf : f.at k ≠ 0x100000C) : CalmKept a (b.bump f k) := h.put f _ hf

end CalmKept

/-- What each step of a run over a list keeps, the run keeps. -/
theorem CalmKept.foldl {α : Type} {f : Strand → α → Strand} {l : List α} (h : ∀ x ∈ l, ∀ st, CalmKept st (f st x)) (st : Strand) :
    CalmKept st (l.foldl f st) := by
  induction l generalizing st with
  | nil => exact .refl st
  | cons x r ih => exact (h x (by simp) st).trans (ih (fun y hy => h y (by simp [hy])) _)

namespace Strand

/-! ### Fault records and events -/

theorem onxErr_calmKept (st : Strand) (code idx receiver : Nat) : CalmKept st (st.onxErr code idx receiver) :=
  .of_shown <| noteErr_shown (by rintro _ rfl; decide) st code (by decide) (by decide) (by decide) fun x =>
    ((Shown.refl x).put _ _ (by decide)).put _ _ (by decide)

theorem topErr_calmKept (st : Strand) (code slot lane : Nat) : CalmKept st (st.topErr code slot lane) :=
  .of_shown <| noteErr_shown (by rintro _ rfl; decide) st code (by decide) (by decide) (by decide) fun x =>
    (((Shown.refl x).put _ _ (by decide)).put _ _ (by decide)).put _ _ (by decide)

theorem hltErr_calmKept (st : Strand) (code : Nat) : CalmKept st (st.hltErr code) :=
  .of_shown <| noteErr_shown (by rintro _ rfl; decide) st code (by decide) (by decide) (by decide) .refl

theorem jsp_sentinelKept (st : Strand) (j : Jsp) (hl : j.logQ = st.jsp.logQ) (he : j.erase = st.jsp.erase) (hs : j.lineSince = st.jsp.lineSince)
    (hw : j.wires = st.jsp.wires) : SentinelKept st { st with jsp := j } := ⟨rfl, hl, he, hs, hw, fun _ h => h⟩

/-- A firing joins the alarm, and counts. -/
theorem fire_sentinelKept (st : Strand) (t : Nat) {f : Firing} : SentinelKept st (st.fire t f) := by
  have ha : R.JSP_SRC_CNT_FIRINGS.at f.src ≠ 0x100000C := by simp only [Fld.at, R.JSP_SRC_CNT_FIRINGS]; omega
  have hb : SentinelKept st (st.bump R.JSP_SRC_CNT_FIRINGS f.src) := .of_shown ((Shown.refl st).bump _ ha)
  exact hb.trans (jsp_sentinelKept _ _ rfl rfl rfl rfl)

theorem countEvent_sentinelKept (st : Strand) (t src det island reading : Nat) : SentinelKept st (st.countEvent t src det island reading) := by
  have ha : R.JSP_SRC_CNT_EVENTS.at src ≠ 0x100000C := by simp only [Fld.at, R.JSP_SRC_CNT_EVENTS]; omega
  have hb : SentinelKept st (st.bump R.JSP_SRC_CNT_EVENTS src) := .of_shown ((Shown.refl st).bump _ ha)
  unfold countEvent
  extract_lets x f j y old h keep
  have hy : SentinelKept st y := hb.trans (jsp_sentinelKept x _ rfl rfl rfl rfl)
  split
  · exact hb
  · split
    · split
      · refine (hy.trans ?_).trans (fire_sentinelKept _ t)
        exact jsp_sentinelKept y _ rfl rfl rfl rfl
      · exact hy.trans (jsp_sentinelKept y _ rfl rfl rfl rfl)
    · exact hy.trans (fire_sentinelKept y t)

theorem event_sentinelKept (st : Strand) (t src det island reading : Nat) : SentinelKept st (st.event t src det island reading) := by
  have hc := countEvent_sentinelKept st t src det island reading
  unfold event
  extract_lets x
  split
  · exact hc.trans (countEvent_sentinelKept _ t _ _ island 0)
  · exact hc

/-! ### Modes and swaps, R56, R628 to R631 -/

theorem tagModeUpdate_calmKept (st : Strand) (m : Nat) : CalmKept st (st.tagModeUpdate m) := by
  unfold tagModeUpdate
  split
  · exact .refl st
  · exact .of_eq rfl rfl rfl rfl rfl

theorem emptyWindows_calmKept (st : Strand) : CalmKept st st.emptyWindows := ⟨jsp_sentinelKept st _ rfl rfl rfl rfl, rfl, fun h => h, fun h => h⟩

theorem setMode_calmKept (st : Strand) (m cause : Nat) : CalmKept st (st.setMode m cause) := by
  have hp : CalmKept st (((st.put R.CHT_MODE_PREV_MODE st.mode).put R.CHT_MODE_MODE m).put R.CHT_MODE_CAUSE cause) :=
    (((CalmKept.refl st).put _ _ (by decide)).put _ _ (by decide)).put _ _ (by decide)
  exact (hp.trans (emptyWindows_calmKept _)).trans (tagModeUpdate_calmKept _ m)

theorem degrade_calmKept (st : Strand) : CalmKept st st.degrade := by
  unfold degrade
  split
  · exact setMode_calmKept st 3 5
  · exact .refl st

theorem hltSync_calmKept (st : Strand) : CalmKept st st.hltSync := by
  unfold hltSync
  extract_lets x1 x2 x3 x4 has x5
  have h1 : CalmKept st x1 := ((CalmKept.refl st).put _ _ (by decide)).put _ _ (by decide)
  have h2 : CalmKept st x2 := (h1.put _ _ (by decide)).put _ _ (by decide)
  have h3 : CalmKept st x3 := (h2.put _ _ (by decide)).put _ _ (by decide)
  have h4 : CalmKept st x4 := (h3.put _ _ (by decide)).put _ _ (by decide)
  exact (((h4.put _ _ (by decide)).put _ _ (by decide)).put _ _ (by decide)).put _ _ (by decide)

theorem hlt_calmKept (st : Strand) (x : Hlt) : CalmKept st { st with hlt := x } := .of_eq rfl rfl rfl rfl rfl

theorem noSpare_calmKept (st : Strand) (kind : Nat) : CalmKept st (st.noSpare kind) := by
  have he := hltErr_calmKept st 3
  unfold noSpare
  extract_lets x
  refine CalmKept.trans ?_ (degrade_calmKept _)
  split
  · exact he.put _ _ (by decide)
  · split
    · exact he.put _ _ (by decide)
    · exact he

theorem reqSwap_calmKept (st : Strand) (r : SwapReq) : CalmKept st (st.reqSwap r) := by
  unfold reqSwap
  split
  · exact noSpare_calmKept st r.kind
  · split
    · exact (hlt_calmKept st _).trans (hltSync_calmKept _)
    · split
      · exact hltErr_calmKept st 4
      · exact (hlt_calmKept st _).trans (hltSync_calmKept _)

theorem berSync_calmKept (st : Strand) : CalmKept st st.berSync :=
  ((CalmKept.refl st).put _ _ (by decide)).put _ _ (by decide)

theorem jadSync_calmKept (st : Strand) : CalmKept st (State.jadSync st) :=
  (((CalmKept.refl st).put _ _ (by decide)).put _ _ (by decide)).put _ _ (by decide)

theorem progDrop_shown {P : Nat → Prop} (st : Strand) {o : Nat} (ho : ¬ P o) : Shown P st (st.progDrop o) := by
  unfold progDrop
  extract_lets w
  split
  · exact .refl st
  · exact (Shown.refl st).wr _ ho

theorem progDropAll_shown {P : Nat → Prop} (h : ∀ o ∈ progRegs, ¬ P o) (st : Strand) : Shown P st st.progDropAll :=
  Shown.foldl (fun o ho st => progDrop_shown st (h o ho)) st

theorem stopCore_calmKept (st : Strand) (c : Fin 4) : CalmKept st (st.stopCore c) := by
  unfold stopCore
  extract_lets a z x y d
  have hz : CalmKept st (st.setCore c { z with running := false }) := .of_eq rfl rfl rfl rfl rfl
  have hx : CalmKept st x := hz.put _ _ (by decide)
  have hy : CalmKept st y := hx.trans (.of_eq rfl rfl rfl rfl rfl)
  split
  · split
    · exact hy.trans (.of_eq rfl rfl rfl rfl rfl)
    · exact hy
  · exact hx

theorem setPhys_calmKept (st : Strand) (c p : Nat) : CalmKept st (st.setPhys c p) := (CalmKept.refl st).put _ _ (by decide)

/-- The end of a job touches the job lists alone. -/
theorem finish_calmKept (st : Strand) (t : Nat) (j : Job) (r x l d : Nat) (k : List (Fld × Nat)) : CalmKept st (st.finish t j r x l d k) :=
  .of_eq rfl rfl rfl rfl rfl

theorem finishEarly_calmKept (st : Strand) (t : Nat) (j : Job) (r x d : Nat) : CalmKept st (st.finishEarly t j r x d) := by
  unfold finishEarly
  extract_lets last y
  have hy : CalmKept st y := finish_calmKept ..
  clear_value last
  split
  · split
    · exact hy.trans (.of_eq rfl rfl rfl rfl rfl)
    · exact hy
  · exact hy

end Strand

end Sys2Proof.Machine
end


section
/-! SUPPORT. Fences: what they keep of the sentinel, and that they stand (R589, R628). -/

namespace Sys2Proof.Machine
open Sys2Proof

/-- From `s` to `t` the clock and the ring stay, and strand `n` goes as `K` says. -/
structure Within (K : Strand → Strand → Prop) (n : Fin 4) (s t : State) : Prop where
  now : t.now = s.now
  ring : t.ring = s.ring
  sd : K (s.sd n) (t.sd n)

namespace Within

variable {K : Strand → Strand → Prop} {n : Fin 4} {s t u : State}

theorem sentinel_refl (n : Fin 4) (s : State) : Within SentinelKept n s s := ⟨rfl, rfl, .refl _⟩

theorem calm_refl (n : Fin 4) (s : State) : Within CalmKept n s s := ⟨rfl, rfl, .refl _⟩

theorem sentinel_trans (h : Within SentinelKept n s t) (g : Within SentinelKept n t u) : Within SentinelKept n s u :=
  ⟨g.now.trans h.now, g.ring.trans h.ring, h.sd.trans g.sd⟩

theorem calm_trans (h : Within CalmKept n s t) (g : Within CalmKept n t u) : Within CalmKept n s u :=
  ⟨g.now.trans h.now, g.ring.trans h.ring, h.sd.trans g.sd⟩

theorem sentinel (h : Within CalmKept n s t) : Within SentinelKept n s t := ⟨h.now, h.ring, h.sd.toSentinelKept⟩

theorem setSd {x : Strand} (h : K (s.sd n) x) : Within K n s (s.setSd n x) := ⟨rfl, rfl, by rwa [State.sd_setSd_same]⟩

theorem up {g : Strand → Strand} (h : K (s.sd n) (g (s.sd n))) : Within K n s (s.up n g) := setSd h

theorem fail (s : State) (n : Fin 4) (j : Job) (x d : Nat) : Within CalmKept n s (s.fail n j x d) := by
  unfold State.fail
  split
  · exact up (Strand.finishEarly_calmKept ..)
  · exact up (Strand.finish_calmKept ..)

/-- What each step of a run over a list keeps, the run keeps. -/
theorem sentinel_foldl {α : Type} {f : State → α → State} {l : List α} (h : ∀ x ∈ l, ∀ s, Within SentinelKept n s (f s x)) (s : State) :
    Within SentinelKept n s (l.foldl f s) := by
  induction l generalizing s with
  | nil => exact sentinel_refl n s
  | cons x r ih => exact (h x (by simp) s).sentinel_trans (ih (fun y hy => h y (by simp [hy])) _)

theorem calm_foldl {α : Type} {f : State → α → State} {l : List α} (h : ∀ x ∈ l, ∀ s, Within CalmKept n s (f s x)) (s : State) :
    Within CalmKept n s (l.foldl f s) := by
  induction l generalizing s with
  | nil => exact calm_refl n s
  | cons x r ih => exact (h x (by simp) s).calm_trans (ih (fun y hy => h y (by simp [hy])) _)

end Within

/-! ### Waiting jobs start -/

namespace Strand

theorem upEng_sentinelKept (st : Strand) (f : Engines → Engines) : SentinelKept st (st.upEng f) := .of_eq rfl rfl rfl

theorem hold_sentinelKept (st : Strand) (j : Job) : SentinelKept st (st.hold j) := .of_eq rfl rfl rfl

theorem bump_sentinelKept (st : Strand) (f : Fld) {k : Nat} (hf : f.at k ≠ 0x100000C) : SentinelKept st (st.bump f k) :=
  .of_shown ((Shown.refl st).bump f hf)

/-- A job takes a big-number engine. -/
theorem berAssign_sentinelKept (st : Strand) (t e : Nat) (j : Job) : SentinelKept st (st.berAssign t e j) := by
  unfold berAssign
  extract_lets x own wipe y z
  have hy : SentinelKept st y := upEng_sentinelKept st _
  have hz : SentinelKept st z := by
    unfold z
    split
    · exact hy.trans (bump_sentinelKept y _ (by decide))
    · exact hy
  exact (hz.trans (upEng_sentinelKept z _)).trans (berSync_calmKept _).toSentinelKept

theorem putCtx_sentinelKept (st : Strand) (c : Ctx) : SentinelKept st (st.putCtx c) := by
  unfold putCtx syncPersist
  split <;> exact .of_eq rfl rfl rfl

theorem deliver_sentinelKept (st : Strand) (env : JobEnv) (idx receiver : Nat) (key : Bytes) :
    SentinelKept st (st.deliver env idx receiver key).1 := by
  obtain ⟨-, -, h⟩ | ⟨-, h⟩ := deliver_cases st env idx receiver key
  · rw [h]; exact .of_eq rfl rfl rfl
  · rw [h]
    have hx : SentinelKept st { st.transfer receiver key with keyBus := none } := .of_eq rfl rfl rfl
    exact hx.trans (onxErr_calmKept ..).toSentinelKept

theorem mismatch_sentinelKept (st : Strand) (t : Nat) : SentinelKept st (st.mismatch t) := event_sentinelKept ..

/-- A key release, whatever it answers, keeps the sentinel: a decision that disagrees is an event. -/
theorem release_sentinelKept (st : Strand) (t : Nat) (env : JobEnv) (fn gen h usage dest : Nat) (limits : Bool) :
    SentinelKept st (st.release t env fn gen h usage dest limits).1 := by
  obtain ⟨-, e⟩ | ⟨c, -, e | ⟨-, e⟩ | ⟨-, -, -, c', -, ⟨-, e⟩ | ⟨-, e⟩⟩⟩ := release_cases st t env fn gen h usage dest limits
  · rw [e]; exact bump_sentinelKept st _ (by decide)
  · rw [e]; exact bump_sentinelKept st _ (by decide)
  · rw [e]; exact (onxErr_calmKept ..).toSentinelKept.trans (mismatch_sentinelKept ..)
  · rw [e]; exact (putCtx_sentinelKept ..).trans (deliver_sentinelKept ..)
  · rw [e]; exact (putCtx_sentinelKept ..).trans (deliver_sentinelKept ..)

theorem drawCounter_sentinelKept (st : Strand) (c : Ctx) (k : Nat) : SentinelKept st (st.drawCounter c k).1 := by
  unfold drawCounter
  split <;> exact putCtx_sentinelKept ..

end Strand

namespace State

/-- The keys of a cipher job are released, or the job is refused. -/
theorem topKeys_sentinelKept (s : State) (n : Fin 4) (j : Job) (sp : TopSpec) : SentinelKept (s.sd n) (s.topKeys n j sp).1 := by
  unfold topKeys
  extract_lets st xts
  have h := Strand.release_sentinelKept st s.now j.env j.fn (s.jobGen j) j.ctx sp.usage 0 true
  split
  · next e => rwa [e] at h
  · next y c e =>
    rw [e] at h
    split
    · exact h
    · have g := Strand.release_sentinelKept y s.now j.env j.fn (s.jobGen j) (j.w7 % 2 ^ 32) sp.usage 0 true
      split
      · next e' => rw [e'] at g; exact h.trans g
      · next e' => rw [e'] at g; exact h.trans g

theorem topStart_within (s : State) (n : Fin 4) (lane : Nat) (j : Job) (sp : TopSpec) : Within SentinelKept n s (s.topStart n lane j sp) := by
  have hbump (f : Fld) (hf : f.at 0 ≠ 0x100000C) (x : Nat) : Within SentinelKept n s ((s.up n (·.bump f)).fail n j x) :=
    (Within.up (Strand.bump_sentinelKept _ f hf)).sentinel_trans (Within.fail ..).sentinel
  have hkeys := topKeys_sentinelKept s n j sp
  unfold topStart
  extract_lets st
  split
  · exact hbump _ (by decide) _
  · split
    · exact (Within.fail ..).sentinel
    · split
      · exact (Within.fail ..).sentinel
      · split
        · exact hbump _ (by decide) _
        · split
          · next e =>
            rw [e] at hkeys
            exact (Within.setSd hkeys).sentinel_trans (Within.fail ..).sentinel
          · next y c key e =>
            rw [e] at hkeys
            have hdraw {k : Nat} {z : Strand} {o : Option Nat} (h : y.drawCounter c k = (z, o)) : SentinelKept y z := by
              have g := Strand.drawCounter_sentinelKept y c k
              rwa [h] at g
            split
            · next z e' =>
              have hz : SentinelKept y z := by
                split at e'
                · cases e'
                · split at e'
                  · cases e'; exact .refl y
                  · exact hdraw e'
              exact Within.setSd ((hkeys.trans hz).trans (Strand.finish_calmKept ..).toSentinelKept)
            · next z v e' =>
              have hz : SentinelKept (s.sd n) z := by
                split at e'
                · cases e'; exact hkeys
                · split at e'
                  · cases e'
                  · exact hkeys.trans (hdraw e')
              split
              · exact (Within.setSd (hz.trans (Strand.topErr_calmKept ..).toSentinelKept)).sentinel_trans (Within.fail ..).sentinel
              · exact Within.setSd ((hz.trans (Strand.hold_sentinelKept z j)).trans (Strand.upEng_sentinelKept ..))

theorem topStep_within (s : State) (n : Fin 4) : Within SentinelKept n s (s.topStep n) := by
  unfold topStep
  extract_lets e can
  split
  · exact .sentinel_refl n s
  · split
    · exact (Within.up (Strand.upEng_sentinelKept ..)).sentinel_trans (topStart_within ..)
    · exact .sentinel_refl n s

theorem topNext_within (s : State) (n : Fin 4) : Within SentinelKept n s (s.topNext n) := Within.sentinel_foldl (fun _ _ s => topStep_within s n) s

theorem berStep_within (s : State) (n : Fin 4) : Within SentinelKept n s (s.berStep n) := by
  unfold berStep
  split
  · exact Within.up ((Strand.upEng_sentinelKept ..).trans (Strand.berAssign_sentinelKept ..))
  · exact .sentinel_refl n s

theorem berNext_within (s : State) (n : Fin 4) : Within SentinelKept n s (s.berNext n) := Within.sentinel_foldl (fun _ _ s => berStep_within s n) s

/-- Where no job waits, none starts. -/
theorem berNext_idle {s : State} {n : Fin 4} (h : (s.sd n).eng.berQ = []) : s.berNext n = s := by simp [berNext, h]

theorem topNext_idle {s : State} {n : Fin 4} (h : (s.sd n).eng.topQ = []) : s.topNext n = s := by simp [topNext, h]

/-! ### Fences -/

theorem dropLaneJobs_within (s : State) (n : Fin 4) {i : Nat} (hi : i ≤ 20) : Within CalmKept n s (s.dropLaneJobs n i) := by
  unfold dropLaneJobs
  extract_lets st ber top jad x
  refine Within.calm_trans ?_ (Within.calm_foldl (fun j _ s => Within.fail s n j _ _) x)
  refine Within.up ?_
  extract_lets y
  have hy : CalmKept (s.sd n) y := by
    have he : CalmKept (s.sd n) ((s.sd n).upEng fun e => { e with
      berRuns := e.berRuns.filter fun r => r.eng + 7 != i, topRuns := e.topRuns.filter fun r => r.lane + 12 != i
      jadRuns := if i = 15 then [] else e.jadRuns }) := .of_eq rfl rfl rfl rfl rfl
    exact (he.trans (Strand.berSync_calmKept _)).trans (Strand.jadSync_calmKept _)
  split
  · have ho : 0x700040 + 4 * (i - 7) ≠ 0x100000C := by omega
    exact hy.shown (Strand.progDrop_shown y ho)
  · exact hy

/-- A fence that takes hold: the island's jobs end, it stands fenced, and then the jobs that wait may start. -/
theorem fence_stops (s : State) (n : Fin 4) {i : Nat} (h : ¬ (i > 20 ∨ (s.sd n).fenced.contains i = true)) :
    ∃ t, Within CalmKept n s t ∧ i ∈ (t.sd n).fenced ∧ s.fence n i = (t.berNext n).topNext n := by
  unfold fence
  rw [if_neg h]
  extract_lets t kind u
  suffices hu : CalmKept (t.sd n) (u.sd n) ∧ i ∈ (u.sd n).fenced from
    ⟨u, (dropLaneJobs_within s n (Nat.not_lt.mp fun h' => h (.inl h'))).calm_trans ⟨rfl, rfl, hu.1⟩, hu.2, rfl⟩
  rw [show u.sd n = _ from State.sd_up_same ..]
  generalize t.sd n = x
  clear_value kind
  extract_lets y z wasSpare a b c
  have hage : R.ISL_AGE_FENCED.at i ≠ 0x100000C := by simp only [Fld.at, R.ISL_AGE_FENCED]; omega
  have hy : CalmKept x y := ⟨⟨rfl, rfl, rfl, rfl, rfl, fun _ h => List.mem_append_left _ h⟩, rfl, fun h => h, fun h => h⟩
  have hz : CalmKept y z := ((CalmKept.refl y).put _ _ (by decide)).put _ _ hage
  have ha : CalmKept z a := by
    unfold a
    split
    · split
      · exact Strand.stopCore_calmKept ..
      · exact .refl z
    · exact .refl z
  have hb : CalmKept z b := by
    unfold b
    split
    · exact ha
    · split
      · split
        · exact ha.trans (Strand.setPhys_calmKept ..)
        · exact ha
      · split
        · exact ha.put _ _ (by decide)
        · exact ha.put _ _ (by decide)
      · exact ha
  have hc : CalmKept z c := by
    unfold c
    split
    · exact hb.put _ _ (by decide)
    · exact hb
  have hin : i ∈ z.fenced := List.mem_append_right _ (List.mem_singleton_self i)
  suffices g : CalmKept z _ from ⟨(hy.trans hz).trans g, g.fenced i hin⟩
  split
  · exact .refl z
  · split
    · refine CalmKept.trans ?_ (Strand.hltSync_calmKept _)
      split
      · exact (CalmKept.refl z).put _ _ (by decide)
      · split
        · exact (CalmKept.refl z).put _ _ (by decide)
        · exact .refl z
    · exact ((hc.trans (Strand.reqSwap_calmKept ..)).trans (Strand.berSync_calmKept _)).trans (Strand.degrade_calmKept _)

theorem fence_within (s : State) (n : Fin 4) (i : Nat) : Within SentinelKept n s (s.fence n i) := by
  by_cases h : i > 20 ∨ (s.sd n).fenced.contains i = true
  · rw [show s.fence n i = s from if_pos h]; exact .sentinel_refl n s
  · obtain ⟨t, ht, -, e⟩ := fence_stops s n h
    rw [e]
    exact (ht.sentinel.sentinel_trans (berNext_within t n)).sentinel_trans (topNext_within _ n)

/-- Where no job waits, a fence is no event. -/
theorem fence_calm {s : State} {n : Fin 4} (i : Nat) (ht : (s.sd n).eng.topQ = []) (hb : (s.sd n).eng.berQ = []) :
    Within CalmKept n s (s.fence n i) := by
  by_cases h : i > 20 ∨ (s.sd n).fenced.contains i = true
  · rw [show s.fence n i = s from if_pos h]; exact .calm_refl n s
  · obtain ⟨t, h', -, e⟩ := fence_stops s n h
    rw [e, berNext_idle (h'.sd.berQ hb), topNext_idle (h'.sd.topQ ht)]
    exact h'

/-- Behind a fence the island stands fenced. -/
theorem mem_fence (s : State) (n : Fin 4) {i : Nat} (hi : i ≤ 20) : i ∈ ((s.fence n i).sd n).fenced := by
  by_cases h : (s.sd n).fenced.contains i = true
  · rw [show s.fence n i = s from if_pos (.inr h)]
    simpa using h
  · obtain ⟨t, -, hin, e⟩ := fence_stops s n (i := i) (by rintro (h' | h'); exacts [absurd hi (by omega), h h'])
    rw [e]
    exact ((berNext_within t n).sentinel_trans (topNext_within _ n)).sd.fenced i hin

/-! ### The fences of an alarm -/

theorem fenceAll_within (s : State) (n : Fin 4) (targets pairs : List Nat) : Within SentinelKept n s (s.fenceAll n targets pairs) :=
  (Within.sentinel_foldl (fun i _ s => fence_within s n i) s).sentinel_trans
    (Within.sentinel_foldl (fun _ _ _ => Within.up (Strand.reqSwap_calmKept ..).toSentinelKept) _)

/-- Where nothing is to be fenced, or no job waits, the fences of an alarm are no event. -/
theorem fenceAll_calm {s : State} {n : Fin 4} {targets : List Nat} (pairs : List Nat)
    (h : (∀ i ∈ targets, Strand.kindOf i = 0) ∨ (s.sd n).eng.topQ = [] ∧ (s.sd n).eng.berQ = []) :
    Within CalmKept n s (s.fenceAll n targets pairs) := by
  refine Within.calm_trans (t := (targets.filter fun i => Strand.kindOf i != 0).foldl (fun s i => s.fence n i) s) ?_
    (Within.calm_foldl (fun _ _ _ => Within.up (Strand.reqSwap_calmKept ..)) _)
  obtain h | ⟨ht, hb⟩ := h
  · rw [List.filter_eq_nil_iff.mpr (by simpa using h)]
    exact .calm_refl n s
  · generalize targets.filter _ = l
    induction l generalizing s with
    | nil => exact .calm_refl n s
    | cons i r ih =>
      have hi := fence_calm i ht hb
      exact hi.calm_trans (ih (hi.sd.topQ ht) (hi.sd.berQ hb))

/-- Every target with a spare of its kind stands fenced. -/
theorem mem_fenceAll (s : State) (n : Fin 4) {i : Nat} (hi : i ≤ 20) (hk : Strand.kindOf i ≠ 0) (pairs : List Nat) :
    i ∈ ((s.fenceAll n [i] pairs).sd n).fenced := by
  have hone : ([i].filter fun i => Strand.kindOf i != 0) = [i] := by simp [hk]
  have hpairs : Within SentinelKept n (s.fence n i) (s.fenceAll n [i] pairs) := by
    simp only [fenceAll, hone]
    exact Within.sentinel_foldl (fun _ _ _ => Within.up (Strand.reqSwap_calmKept ..).toSentinelKept) _
  exact hpairs.sd.fenced i (mem_fence s n hi)

end State

end Sys2Proof.Machine
end


section
/-! SUPPORT. What a strand loses with its work, what it keeps when it halts, and the start of its cores (R59, R354, R420). -/

namespace Sys2Proof.Machine
open Sys2Proof

/-- Of a strand that loses its work, the job lists and the vault alone change. -/
def WorkLost (a b : Strand) : Prop :=
  ∃ taken done vault kept, b = { a with taken := taken, done := done, vault := vault, nv := { a.nv with vault := kept } }

theorem WorkLost.refl (a : Strand) : WorkLost a a := ⟨_, _, _, _, rfl⟩

theorem WorkLost.trans {a b c : Strand} (h : WorkLost a b) (g : WorkLost b c) : WorkLost a c := by
  obtain ⟨_, _, _, _, rfl⟩ := h
  obtain ⟨_, _, _, _, rfl⟩ := g
  exact ⟨_, _, _, _, rfl⟩

theorem WorkLost.calmKept {a b : Strand} (h : WorkLost a b) : CalmKept a b := by
  obtain ⟨_, _, _, _, rfl⟩ := h
  exact .of_eq rfl rfl rfl rfl rfl

theorem WorkLost.rd {a b : Strand} (h : WorkLost a b) (o : Nat) : b.rd o = a.rd o := by
  obtain ⟨_, _, _, _, rfl⟩ := h
  rfl

/-- The clock and host memory stay, and strands lose at most their work. -/
structure Drops (s t : State) : Prop where
  now : t.now = s.now
  mem : t.mem = s.mem
  sd : ∀ m, WorkLost (s.sd m) (t.sd m)

namespace Drops

variable {s t u : State}

theorem refl (s : State) : Drops s s := ⟨rfl, rfl, fun _ => .refl _⟩

theorem trans (h : Drops s t) (g : Drops t u) : Drops s u := ⟨g.now.trans h.now, g.mem.trans h.mem, fun m => (h.sd m).trans (g.sd m)⟩

theorem of_sd (hn : t.now = s.now) (hm : t.mem = s.mem) (h : ∀ m, t.sd m = s.sd m) : Drops s t := ⟨hn, hm, fun m => h m ▸ .refl _⟩

theorem up {n : Fin 4} {g : Strand → Strand} (h : WorkLost (s.sd n) (g (s.sd n))) : Drops s (s.up n g) := by
  refine ⟨rfl, rfl, fun m => ?_⟩
  by_cases hm : m = n
  · subst hm; rwa [State.sd_up_same]
  · rw [State.sd_up_other _ _ hm]; exact .refl _

theorem rput (h : Drops s t) (f : Fld) (v k : Nat) : Drops s (t.rput f v k) := h.trans (of_sd rfl rfl fun _ => rfl)

theorem radd (h : Drops s t) (f : Fld) (v k : Nat) : Drops s (t.radd f v k) := h.rput f _ k

theorem setFn (h : Drops s t) (x : Fn) : Drops s (t.setFn x) := h.trans (of_sd rfl rfl fun _ => rfl)

theorem setCq (h : Drops s t) (x : Cq) : Drops s (t.setCq x) := h.trans (of_sd rfl rfl fun _ => rfl)

theorem foldl {α : Type} {f : State → α → State} (h : ∀ s x, Drops s (f s x)) (l : List α) (s : State) : Drops s (l.foldl f s) := by
  induction l generalizing s with
  | nil => exact refl s
  | cons x r ih => exact (h s x).trans (ih _)

end Drops

namespace State

theorem advanceGen_drops (s : State) (f : Nat) : Drops s (s.advanceGen f) := by
  unfold advanceGen
  extract_lets g
  split <;> exact (Drops.refl s).setFn _

theorem unmapRange_drops (s : State) (home : Fin 4) (p : Pool) : Drops s (s.unmapRange home p) := by
  unfold unmapRange
  refine Drops.foldl (fun s i => ?_) _ s
  exact ((Drops.refl s).rput ..).rput ..

theorem restoreGone_drops (s : State) (f : Fn) : Drops s (s.restoreGone f) := by
  have h : Drops s (((s.unmapRange f.home f.pool).setFn { num := f.num, gen := f.gen, advance := f.advance }).rput R.VF_PROG_VALID 0 f.num) :=
    ((unmapRange_drops s f.home f.pool).setFn _).rput ..
  unfold restoreGone
  dsimp only
  split
  · exact h
  · exact h.trans (advanceGen_drops _ _)

theorem dropImage_drops (s : State) (f : Fn) : Drops s (s.dropImage f) := by
  unfold dropImage
  split
  · exact ((Drops.refl s).setFn _).rput ..
  · exact (restoreGone_drops s f).trans (Drops.up ⟨_, _, _, _, rfl⟩)
  · exact (Drops.refl s).setFn _

theorem loseJobs_drops (s : State) (n : Fin 4) : Drops s (s.loseJobs n) := by
  unfold loseJobs
  extract_lets js t
  have ht : Drops s t := Drops.foldl (fun s _ => (Drops.refl s).setCq _) js s
  exact (ht.radd R.HQ_LOST js.length n.val).trans (Drops.up ⟨_, _, _, _, rfl⟩)

theorem loseWork_drops (s : State) (n : Fin 4) : Drops s (s.loseWork n) :=
  (loseJobs_drops s n).trans (Drops.foldl dropImage_drops _ _)

end State

/-! ### A halt, R59 -/

namespace Strand

theorem halt_calmKept (st : Strand) : CalmKept st st.halt := by
  unfold halt
  extract_lets x fab
  have hx : CalmKept st x := ((CalmKept.refl st).put _ _ (by decide)).put _ _ (by decide)
  clear_value x
  refine CalmKept.shown (CalmKept.trans (hx.trans ?_) (emptyWindows_calmKept _)) (progDropAll_shown (P := IsLast) (by decide) _)
  exact ⟨.of_eq rfl rfl rfl, rfl, fun _ => rfl, fun _ => rfl⟩

theorem halted_halt (st : Strand) : st.halt.halted = true := by
  unfold halt
  extract_lets x fab
  have hx : x.flag R.CHT_MODE_HALTED = true := by
    refine (congrArg (· == 1) ?_ : _ = ((1 : Nat) == 1))
    exact (get_put_other (g := R.CHT_MODE_HALTED) (l := 0) _ _ (by decide)).trans (get_put_same st _ 1 0 (by decide))
  exact ((progDropAll_shown (P := (· = 0)) (by decide) _).flag _ rfl).trans hx

end Strand

namespace State

theorem haltStrand_now (s : State) (n : Fin 4) : (s.haltStrand n).now = s.now := by
  unfold haltStrand
  split
  · rfl
  · exact (loseWork_drops s n).now

theorem haltStrand_calmKept (s : State) (n : Fin 4) : CalmKept (s.sd n) ((s.haltStrand n).sd n) := by
  unfold haltStrand
  split
  · exact .refl _
  · rw [sd_up_same]
    exact ((loseWork_drops s n).sd n).calmKept.trans (Strand.halt_calmKept _)

theorem halted_haltStrand (s : State) (n : Fin 4) : ((s.haltStrand n).sd n).halted = true := by
  unfold haltStrand
  split
  · assumption
  · rw [sd_up_same]
    exact Strand.halted_halt _

/-! ### The start of the cores, R420 -/

theorem checkstop_calmKept (s : State) (n c : Fin 4) (v : Nat) : CalmKept (s.sd n) ((s.checkstop n c v).sd n) := by
  unfold checkstop
  extract_lets st x y z w
  have hy : CalmKept st y := (((CalmKept.refl st).put _ _ (by decide)).put _ _ (by decide)).put _ _ (by decide)
  have hz : CalmKept st z := by
    unfold z
    split
    · exact (CalmKept.refl st).bump _ (by decide)
    · exact ((hy.put _ _ (by decide)).put _ _ (by decide)).put _ _ (by decide)
  have hw : CalmKept st w := hz.put _ _ (by decide)
  clear_value w
  refine CalmKept.trans ?_ (haltStrand_calmKept _ n)
  rw [sd_setSd_same]
  exact hw.trans (.of_eq rfl rfl rfl rfl rfl)

theorem startCore_calmKept (s : State) (n c : Fin 4) (vdt : Word) : CalmKept (s.sd n) ((s.startCore n c vdt).sd n) := by
  unfold startCore
  extract_lets t
  have ht : CalmKept (s.sd n) (t.sd n) := by rw [show t.sd n = _ from sd_up_same ..]; exact .of_eq rfl rfl rfl rfl rfl
  split
  · split
    · refine ht.trans ?_
      generalize t = t
      rw [sd_up_same]
      exact .of_eq rfl rfl rfl rfl rfl
    · exact ht.trans (checkstop_calmKept ..)
  · exact ht.trans (checkstop_calmKept ..)

theorem startCores_calmKept (s : State) (n : Fin 4) (vdt : Word) : CalmKept (s.sd n) ((s.startCores n vdt).sd n) := by
  have h (l : List (Fin 4)) (s : State) :
      CalmKept (s.sd n) ((l.foldl (fun s c => if (s.sd n).coreActive c.val then s.startCore n c vdt else s) s).sd n) := by
    induction l generalizing s with
    | nil => exact .refl _
    | cons c r ih =>
      refine CalmKept.trans ?_ (ih _)
      dsimp only
      split
      · exact startCore_calmKept ..
      · exact .refl _
  exact h _ s

end State

end Sys2Proof.Machine
end


section
/-! SUPPORT. What the erase line clears of a strand, and what an erase leaves it with (R592, R593). -/

namespace Sys2Proof.Machine
open Sys2Proof

/-- A register file without the registers that `q` leaves out: those are at their reset words. -/
theorem RegFile.read_filter_keys (d : Nat → Word) (r : RegFile) (q : Nat → Bool) (o : Nat) :
    RegFile.read d (r.filter fun (p : Nat × Word) => q p.1) o = if q o = true then RegFile.read d r o else d o := by
  induction r with
  | nil => simp [read]
  | cons p r ih =>
    by_cases h : q p.1 = true
    · rw [List.filter_cons_of_pos (by simpa using h), read, read, ih]
      by_cases ho : o = p.1
      · simp [ho, h]
      · simp [ho]
    · rw [List.filter_cons_of_neg (by simpa using h), ih, read]
      by_cases ho : o = p.1
      · simp [ho, h]
      · simp [ho]

namespace Strand

/-- CHT_MODE. -/
abbrev IsMode (o : Nat) : Prop := o = 0

theorem mode_congr {a b : Strand} (h : b.rd 0 = a.rd 0) : b.mode = a.mode := congrArg R.CHT_MODE_MODE.ofWord h

/-! ### What shows the parts of a strand, and leaves CHT_MODE alone -/

section
variable (st : Strand)

theorem agtSync_shown : Shown IsMode st st.agtSync := by
  unfold agtSync
  extract_lets f x y z w susp
  have hx : Shown IsMode st x := ((Shown.refl st).put _ _ (by decide)).put _ _ (by decide)
  have hy : Shown IsMode st y := (hx.put _ _ (by decide)).put _ _ (by decide)
  have hz : Shown IsMode st z := (hy.put _ _ (by decide)).put _ _ (by decide)
  have hw : Shown IsMode st w := by
    unfold w
    split
    · exact hz.put _ _ (by decide)
    · exact hz
  exact (hw.put _ _ (by decide)).put _ _ (by decide)

theorem spoil_regs (p : ProgRun) : (st.spoil p).regs = st.regs := by
  unfold spoil
  generalize p.words = l
  induction l generalizing st with
  | nil => rfl
  | cons w r ih => exact (ih _).trans rfl

theorem flashStop_rd_mode : st.flashStop.rd 0 = st.rd 0 := by
  unfold flashStop
  extract_lets x
  have hx : x.regs = st.regs := by
    unfold x
    split
    · exact spoil_regs st _
    · rfl
  exact ((agtSync_shown _).rd 0 rfl).trans (rd_congr (a := { x with agt := {} }) hx 0)

theorem cardGone_shown : Shown IsMode st st.cardGone :=
  ((((((Shown.refl st).put _ _ (by decide)).put _ _ (by decide)).put _ _ (by decide)).put _ _ (by decide)).put _ _ (by decide)).put _ _ (by decide)

theorem ccSync_shown : Shown IsMode st st.ccSync := by
  unfold ccSync
  split
  · exact ((((Shown.refl st).put _ _ (by decide)).put _ _ (by decide)).put _ _ (by decide)).put _ _ (by decide)
  · exact (Shown.refl st).put _ _ (by decide)

theorem setLevel_shown (v : Nat) : Shown IsMode st (st.setLevel v) := ((Shown.refl st).put _ _ (by decide)).put _ _ (by decide)

theorem onxSync_shown : Shown IsMode st st.onxSync := by
  unfold onxSync
  extract_lets v x1 x2 x3 x4 x5 x6 x7 x8
  have h3 : Shown IsMode st x3 := (((Shown.refl st).put _ _ (by decide)).put _ _ (by decide)).put _ _ (by decide)
  have h6 : Shown IsMode st x6 := ((h3.put _ _ (by decide)).put _ _ (by decide)).put _ _ (by decide)
  exact ((h6.put _ _ (by decide)).put _ _ (by decide)).put _ _ (by decide)

theorem put64_shown {P : Nat → Prop} {lo : Fld} (v : Nat) (hlo : ¬ P lo.off) (hhi : ¬ P (lo.off + 4)) : Shown P st (st.put64 lo v) :=
  ((Shown.refl st).wr _ hlo).wr _ hhi

theorem putBytes_shown {P : Nat → Prop} {f : Fld} (h : ∀ k, ¬ P (f.at k)) (b : Bytes) (k len : Nat) : Shown P st (st.putBytes f b k len) := by
  induction len generalizing st k with
  | zero => exact .refl st
  | succ len ih => exact ((Shown.refl st).wr _ (h k)).trans (ih _ _)

theorem jnlSync_shown : Shown IsMode st st.jnlSync := by
  have hat {f : Fld} (hf : f.off ≠ 0) (k : Nat) : ¬ IsMode (f.at k) := by simp only [IsMode, Fld.at]; omega
  unfold jnlSync
  extract_lets j x1 x2 x3 x4 x5 x6 x7 x8
  have h2 : Shown IsMode st x2 := (put64_shown st _ (by decide) (by decide)).trans (put64_shown x1 _ (by decide) (by decide))
  have h4 : Shown IsMode x2 x4 := (put64_shown x2 _ (by decide) (by decide)).trans (put64_shown x3 _ (by decide) (by decide))
  have h5 : Shown IsMode st x5 := ((h2.trans h4).put _ _ (by decide)).put _ _ (by decide)
  have h8 : Shown IsMode st x8 := ((h5.put _ _ (by decide)).put _ _ (by decide)).put _ _ (by decide)
  exact (h8.trans (putBytes_shown x8 (hat (by decide)) _ 0 8)).trans (putBytes_shown _ (hat (by decide)) _ 0 4)

theorem oplSync_shown : Shown IsMode st st.oplSync := by
  unfold oplSync
  split
  extract_lets level h x y z
  have hx : Shown IsMode st x := ⟨fun _ _ => rfl, rfl, rfl, rfl, rfl, rfl, rfl, rfl, rfl, rfl, rfl⟩
  have hy : Shown IsMode st y := (hx.put _ _ (by decide)).put _ _ (by decide)
  have hz : Shown IsMode st z := (hy.put _ _ (by decide)).put _ _ (by decide)
  exact hz.put _ _ (by decide)

theorem berSync_shown : Shown IsMode st st.berSync := ((Shown.refl st).put _ _ (by decide)).put _ _ (by decide)

/-- A write to the journal card that is cut short shows in the slot's registers alone. -/
theorem cutWrite_rd_mode (phase : Nat) (anchor : Bool) (started : Nat) : (st.cutWrite phase anchor started).rd 0 = st.rd 0 := by
  have hjc (x : Strand) (f : Jc → Jc) : Shown IsMode x (x.upJc f) := ⟨fun _ _ => rfl, rfl, rfl, rfl, rfl, rfl, rfl, rfl, rfl, rfl, rfl⟩
  have hsync (x : Strand) : Shown IsMode x x.jcSync := ((Shown.refl x).put _ _ (by decide)).put _ _ (by decide)
  have hext (x : Strand) (e : Extent) : Shown IsMode x (x.uncertain e) := by
    unfold uncertain
    split
    · exact .refl x
    · split
      · exact (Shown.refl x).put _ _ (by decide)
      · exact (hjc x fun c => { c with extents := x.jc.extents ++ [e] }).put _ _ (by decide)
  suffices h : Shown IsMode st (st.cutWrite phase anchor started) from h.rd 0 rfl
  unfold cutWrite
  split
  · exact .refl st
  · split
    · exact (hjc st _).trans (hsync _)
    · split
      · exact .refl st
      · exact (hjc st _).trans (hext _ _)

end

/-- What the erase line leaves: no root, no key, no batch, no record, nothing on the bus, no session. -/
structure Cleared (st : Strand) : Prop where
  roots : st.nv.roots = []
  vault : st.vault = {}
  batches : st.post.batches = []
  quar : st.quar = []
  keyBus : st.keyBus = none
  links : st.links = []

theorem Cleared.shown {P : Nat → Prop} {a b : Strand} (h : Cleared a) (g : Shown P a b) : Cleared b :=
  ⟨by rw [g.nv, h.roots], by rw [g.vault, h.vault], by rw [g.post, h.batches], by rw [g.quar, h.quar], by rw [g.keyBus, h.keyBus],
    by rw [g.links, h.links]⟩

/-- What the line clears at once, R593; the registers follow. -/
def lineCut (x : Strand) : Strand :=
  let fab : Fabric := { fmts := x.fab.fmts, decls := x.fab.decls }
  let keep : Core → Core := fun c => { num := c.num, timer := 0 }
  { x with
    post := clearPost x.post, taken := [], done := [], vault := {}, eng := {}, jnl := {}, mir := {}, links := [], fab := fab, hlt := {}
    jc := { inserted := x.jc.inserted, debounceAt := x.jc.debounceAt, cardId := x.jc.cardId, extents := x.jc.extents, anchorUnc := x.jc.anchorUnc }
    cc := {}, cores := x.cores.map keep, freezeOpen := false, newOwner := none, retry := none, pairDue := none
    keyBus := none, quar := []
    nv := { x.nv with roots := [], runtime := [], vault := { x.nv.vault with renewing := false, attestDraw := 0 } } }

theorem lineCut_cleared (x : Strand) : Cleared x.lineCut ∧ x.lineCut.rd 0 = x.rd 0 := ⟨⟨rfl, rfl, rfl, rfl, rfl, rfl⟩, rfl⟩

/-- Registers other than CHT_MODE return to their reset words. -/
theorem filter_shown (st : Strand) {q : Nat → Bool} (hq : q 0 = true) :
    Shown IsMode st { st with regs := st.regs.filter fun (p : Nat × Word) => q p.1 } := by
  refine ⟨?_, rfl, rfl, rfl, rfl, rfl, rfl, rfl, rfl, rfl, rfl⟩
  rintro _ rfl
  exact (RegFile.read_filter_keys strandReset st.regs q 0).trans (if_pos hq)

/-- The registers that follow what the line cleared. -/
def lineSync (st : Strand) : Strand :=
  let st := ((((st.cardGone).put R.CC_STATUS_ACTIVE 0).put R.CC_STATUS_CLASS 0).put R.CC_STATUS_CUSTODIAN_OK 0).put R.CC_STATUS_QUORUM 0
  let st := (((st.put R.CC_APPROVALS_HELD 0).ccSync).setLevel 0).put R.ONX_STATUS_ZEROISED 1
  let st := st.put R.ONX_STATUS_SWEEPING 0
  let st := ((st.put R.MIR_STATUS_PAIRED 0).put R.MIR_STATUS_LEASE 0).put R.MIR_STATUS_RECONCILING 0
  let st := { st with regs := st.regs.filter fun p =>
    !((decide (0x20 ≤ p.1) && decide (p.1 < 0x28)) || (decide (0xF00200 ≤ p.1) && decide (p.1 < 0xF00400))) }
  ((st.onxSync.jnlSync).oplSync).berSync

theorem lineSync_shown (st : Strand) : Shown IsMode st st.lineSync := by
  unfold lineSync
  extract_lets y z w u v
  have hy : Shown IsMode st y :=
    ((((cardGone_shown st).put _ _ (by decide)).put _ _ (by decide)).put _ _ (by decide)).put _ _ (by decide)
  have hz : Shown IsMode y z :=
    ((((Shown.refl y).put _ _ (by decide)).trans (ccSync_shown _)).trans (setLevel_shown _ 0)).put _ _ (by decide)
  have hw : Shown IsMode z w := (Shown.refl z).put _ _ (by decide)
  have hu : Shown IsMode w u := (((Shown.refl w).put _ _ (by decide)).put _ _ (by decide)).put _ _ (by decide)
  have hv : Shown IsMode u v := filter_shown u (q := fun o => !(decide (0x20 ≤ o) && decide (o < 0x28)
    || decide (0xF00200 ≤ o) && decide (o < 0xF00400))) (by decide)
  have hsync : Shown IsMode v v.onxSync.jnlSync.oplSync.berSync :=
    (((onxSync_shown v).trans (jnlSync_shown _)).trans (oplSync_shown _)).trans (berSync_shown _)
  exact ((((hy.trans hz).trans hw).trans hu).trans hv).trans hsync

theorem eraseClear_eq (st : Strand) : st.eraseClear = st.flashStop.progDropAll.lineCut.lineSync := rfl

/-- The erase line clears the strand and leaves its mode. -/
theorem eraseClear_cleared (st : Strand) : Cleared st.eraseClear ∧ st.eraseClear.rd 0 = st.rd 0 := by
  have hx : st.flashStop.progDropAll.rd 0 = st.rd 0 := ((progDropAll_shown (P := IsMode) (by decide) _).rd 0 rfl).trans (flashStop_rd_mode st)
  obtain ⟨hcut, hmode⟩ := lineCut_cleared st.flashStop.progDropAll
  have hsync := lineSync_shown st.flashStop.progDropAll.lineCut
  rw [eraseClear_eq]
  exact ⟨hcut.shown hsync, ((hsync.rd 0 rfl).trans hmode).trans hx⟩

/-- What stands behind an erase for `e` at a moment, with the decisions that were asked for it. -/
structure Erased (e : EraseTry) (tries t : Nat) (y : Strand) : Prop extends Cleared y where
  latch : y.nv.latch = true
  done : y.jsp.erase = none
  line : y.jsp.lineSince = some t
  cause : y.get R.JSP_ERASE_CAUSE = e.cause % 8
  source : y.get R.JSP_ERASE_SOURCE = e.src % 256
  tries : y.get R.JSP_ERASE_TRIES = tries % 4

theorem Erased.of_cleared {e : EraseTry} {tries t : Nat} {w : Strand} (h : Cleared w) (hc : w.get R.JSP_ERASE_CAUSE = e.cause % 8)
    (hs : w.get R.JSP_ERASE_SOURCE = e.src % 256) (ht : w.get R.JSP_ERASE_TRIES = tries % 4) :
    Erased e tries t { w with nv := { w.nv with latch := true }, jsp := { w.jsp with erase := none, lineSince := some t } }
      ∧ Strand.mode { w with nv := { w.nv with latch := true }, jsp := { w.jsp with erase := none, lineSince := some t } } = w.mode :=
  ⟨⟨⟨h.roots, h.vault, h.batches, h.quar, h.keyBus, h.links⟩, rfl, rfl, rfl, hc, hs, ht⟩, rfl⟩

/-- The strand once the line has cleared it and the erase is recorded. -/
def lineRecorded (st : Strand) (e : EraseTry) (tries : Nat) (cut : Nat × Bool × Nat) : Strand :=
  let st := if State.cardRuns st then st.cutWrite cut.1 cut.2.1 cut.2.2 else st
  let st := (st.eraseClear.put R.JSP_STATUS_LATCH 1).put R.JSP_STATUS_ERASED 1
  let st := ((st.put R.JSP_ERASE_VALID 1).put R.JSP_ERASE_CAUSE e.cause).put R.JSP_ERASE_SOURCE e.src
  (st.put R.JSP_ERASE_FROM e.frm).put R.JSP_ERASE_TRIES tries

/-- The strand once the line is driven, before its mode changes. -/
def lineDriven (st : Strand) (e : EraseTry) (tries t : Nat) (cut : Nat × Bool × Nat) : Strand :=
  let st := st.lineRecorded e tries cut
  { st with nv := { st.nv with latch := true }, jsp := { st.jsp with erase := none, lineSince := some t } }

theorem lineRecorded_shown (st : Strand) (e : EraseTry) (tries : Nat) (cut : Nat × Bool × Nat) :
    ∃ x : Strand, x.rd 0 = st.rd 0 ∧ Shown IsMode x.eraseClear (st.lineRecorded e tries cut) := by
  unfold lineRecorded
  extract_lets x y z
  refine ⟨x, ?_, ?_⟩
  · unfold x
    split
    · exact cutWrite_rd_mode ..
    · rfl
  · have hy : Shown IsMode x.eraseClear y := ((Shown.refl _).put _ _ (by decide)).put _ _ (by decide)
    have hz : Shown IsMode y z := (((Shown.refl _).put _ _ (by decide)).put _ _ (by decide)).put _ _ (by decide)
    exact ((hy.trans hz).put _ _ (by decide)).put _ _ (by decide)

theorem lineRecorded_get (st : Strand) (e : EraseTry) (tries : Nat) (cut : Nat × Bool × Nat) :
    (st.lineRecorded e tries cut).get R.JSP_ERASE_CAUSE = e.cause % 8 ∧ (st.lineRecorded e tries cut).get R.JSP_ERASE_SOURCE = e.src % 256
      ∧ (st.lineRecorded e tries cut).get R.JSP_ERASE_TRIES = tries % 4 := by
  unfold lineRecorded
  extract_lets x y z
  refine ⟨?_, ?_, get_put_same _ R.JSP_ERASE_TRIES _ _ (by decide)⟩
  · simp (disch := decide) only [z, get_put_same, get_put_apart]
    rfl
  · simp (disch := decide) only [z, get_put_same, get_put_apart]
    rfl

theorem erased_lineDriven (st : Strand) (e : EraseTry) (tries t : Nat) (cut : Nat × Bool × Nat) :
    Erased e tries t (st.lineDriven e tries t cut) ∧ (st.lineDriven e tries t cut).mode = st.mode := by
  obtain ⟨x, hx, hshown⟩ := lineRecorded_shown st e tries cut
  obtain ⟨hclear, hmode⟩ := eraseClear_cleared x
  obtain ⟨hcause, hsource, htries⟩ := lineRecorded_get st e tries cut
  have hw : (st.lineRecorded e tries cut).mode = st.mode := mode_congr (((hshown.rd 0 rfl).trans hmode).trans hx)
  obtain ⟨he, hm⟩ := Erased.of_cleared (t := t) (hclear.shown hshown) hcause hsource htries
  exact ⟨he, hm.trans hw⟩

/-- A mode other than VIGIL empties the windows, and the tag shows it. -/
theorem emptyWindows_tagModeUpdate (x : Strand) {m : Nat} (hm : m ≠ 0) :
    x.emptyWindows.tagModeUpdate m
      = { x with jsp := { x.jsp with hist := [] }, nv := { x.nv with tagMode := m, tagUpdates := x.nv.tagUpdates + 1 } } := if_neg hm

/-- A mode other than VIGIL is taken: CHT_MODE, empty windows, and the mode that the tag shows, R56, R540, R585. -/
theorem setMode_eq (st : Strand) {m : Nat} (hm : m ≠ 0) (cause : Nat) :
    ∃ x : Strand, Shown (· ≠ 0) st x ∧ x.mode = m % 8
      ∧ st.setMode m cause = { x with jsp := { x.jsp with hist := [] }, nv := { x.nv with tagMode := m, tagUpdates := x.nv.tagUpdates + 1 } } := by
  refine ⟨((st.put R.CHT_MODE_PREV_MODE st.mode).put R.CHT_MODE_MODE m).put R.CHT_MODE_CAUSE cause,
    (((Shown.refl st).put _ _ (by decide)).put _ _ (by decide)).put _ _ (by decide), ?_, ?_⟩
  · rw [mode]
    simp (disch := decide) only [get_put_same, get_put_apart]
    rfl
  · exact emptyWindows_tagModeUpdate _ hm

/-- The entry to QUARANTINE is no part of what the line cleared. -/
theorem Erased.setMode {e : EraseTry} {tries t : Nat} {y : Strand} (h : Erased e tries t y) :
    Erased e tries t { y.setMode 6 11 with nv := { (y.setMode 6 11).nv with quarantine := true } }
      ∧ (Strand.mode { y.setMode 6 11 with nv := { (y.setMode 6 11).nv with quarantine := true } }) = 6 := by
  obtain ⟨x, hp, hmode, hx⟩ := setMode_eq y (m := 6) (by decide) 11
  obtain ⟨hroots, hvault, hbatches, hquar, hbus, hlinks⟩ := h.toCleared.shown hp
  have hcause := (hp.get R.JSP_ERASE_CAUSE (by decide)).trans h.cause
  have hsource := (hp.get R.JSP_ERASE_SOURCE (by decide)).trans h.source
  have htries := (hp.get R.JSP_ERASE_TRIES (by decide)).trans h.tries
  rw [hx]
  exact ⟨⟨⟨hroots, hvault, hbatches, hquar, hbus, hlinks⟩, hp.nv ▸ h.latch, (congrArg _ hp.jsp).trans h.done, (congrArg _ hp.jsp).trans h.line,
    hcause, hsource, htries⟩, hmode⟩

end Strand

namespace State

@[simp] theorem tamperBlock_sd (s : State) (n : Fin 4) (latched line : Bool) (evs : List (Nat × Nat)) (m : Fin 4) :
    (s.tamperBlock n latched line evs).sd m = s.sd m := by unfold tamperBlock; split <;> rfl

@[simp] theorem tamperBlock_mem (s : State) (n : Fin 4) (latched line : Bool) (evs : List (Nat × Nat)) :
    (s.tamperBlock n latched line evs).mem = s.mem := by unfold tamperBlock; split <;> rfl

/-- An erase that no return order asked for leaves the strand cleared and in QUARANTINE, R593. -/
theorem strandErase_erased {s : State} {n : Fin 4} {e : EraseTry} (tries : Nat) (agree : Bool) (cut : Nat × Bool × Nat) (hc : e.cause ≠ 4)
    (hm : (s.sd n).mode ≠ 7) :
    (s.strandErase n e tries agree cut).mem = s.mem ∧ Strand.Erased e tries s.now ((s.strandErase n e tries agree cut).sd n)
      ∧ ((s.strandErase n e tries agree cut).sd n).mode = 6 := by
  obtain ⟨herased, hmode⟩ := Strand.erased_lineDriven ((s.loseWork n).sd n) e tries s.now cut
  have hlost := loseWork_drops s n
  have hmode' : (((s.loseWork n).sd n).lineDriven e tries s.now cut).mode = (s.sd n).mode :=
    hmode.trans (Strand.mode_congr ((hlost.sd n).rd 0))
  unfold strandErase
  extract_lets t m u
  have ht : t.sd n = ((s.loseWork n).sd n).lineDriven e tries s.now cut := sd_up_same ..
  have hu : u.mem = s.mem ∧ Strand.Erased e tries s.now (u.sd n) ∧ (u.sd n).mode = 6 := by
    unfold u
    rw [if_neg (by simp [hc])]
    split
    · next h =>
      refine ⟨hlost.mem, ht ▸ herased, ?_⟩
      have hm' : m = (s.sd n).mode := (congrArg Strand.mode ht).trans hmode'
      obtain h | h := h
      · exact h
      · exact absurd (hm' ▸ h) hm
    · refine ⟨hlost.mem, ?_⟩
      rw [sd_up_same, ht]
      exact herased.setMode
  split
  · simpa using hu
  · exact hu

end State

end Sys2Proof.Machine
end


section
/-! SUPPORT. What one event of a source changes: its count, the event ring, its window and the alarm (R582 to R585, R602). -/

namespace Sys2Proof.Machine
open Sys2Proof

namespace Strand

/-! ### Windows and firings -/

/-- Whether windows apply rests on the mode and on TEST alone. -/
theorem windowed_congr {a b : Strand} (h : b.rd 0 = a.rd 0) (ht : b.flag R.JSP_STATUS_TEST = a.flag R.JSP_STATUS_TEST) :
    b.windowed = a.windowed := by
  have hh : b.halted = a.halted := congrArg (fun w => R.CHT_MODE_HALTED.ofWord w == 1) h
  unfold windowed
  rw [mode_congr h, hh, ht]

/-- The register that counts a source's events and firings. -/
abbrev NotCount (src o : Nat) : Prop := o ≠ 0x1000104 + 8 * src

theorem windowed_of_rd {a b : Strand} {src : Nat} (h : ∀ o, NotCount src o → b.rd o = a.rd o) (hs : src ≤ 15) : b.windowed = a.windowed :=
  windowed_congr (h 0 (by unfold NotCount; omega)) (congrArg (fun w => R.JSP_STATUS_TEST.ofWord w == 1) (h 0x1000004 (by unfold NotCount; omega)))

/-- The firing of an event of a source that no wire brings: the rank that is configured for it. -/
theorem firingOf_rank (st : Strand) (t det island reading : Nat) {src : Nat} (h : src ≠ 15) :
    (st.firingOf t src det island reading).rank = st.get R.JSP_SRC_CFG_RANK src := if_neg h

theorem get_rank_bump (st : Strand) (src k : Nat) : (st.bump R.JSP_SRC_CNT_EVENTS src).get R.JSP_SRC_CFG_RANK k = st.get R.JSP_SRC_CFG_RANK k :=
  get_put_other st _ (by simp only [Fld.at, R.JSP_SRC_CFG_RANK, R.JSP_SRC_CNT_EVENTS]; omega)

/-! ### One event -/

/-- A firing in the event ring, with the windows as they then stand. -/
def ringed (st : Strand) (f : Firing) (hist : List (Nat × List Nat)) : Strand :=
  { st with jsp := { st.jsp with events := (f :: st.jsp.events).take 256, hist := hist } }

/-- The moments of a source's events that still count within its window, R584. -/
def held (st : Strand) (t src : Nat) : List Nat :=
  (((st.jsp.hist.find? (·.1 == src)).map (·.2)).getD [] ++ [t]).filter fun x => t < x + 1000000 * st.get R.JSP_SRC_CFG_W src

/-- The event that a source's report makes, once it is counted. -/
def eventFiring (st : Strand) (t src det island reading : Nat) : Firing := (st.bump R.JSP_SRC_CNT_EVENTS src).firingOf t src det island reading

/-- An event of a source that is fused off only counts. -/
theorem countEvent_fused {st : Strand} {t src det island reading : Nat} (h : bit (st.get R.JSP_FUSE_OFF_FUSED) src = true) :
    st.countEvent t src det island reading = st.bump R.JSP_SRC_CNT_EVENTS src := by
  have hb : (st.bump R.JSP_SRC_CNT_EVENTS src).get R.JSP_FUSE_OFF_FUSED = st.get R.JSP_FUSE_OFF_FUSED :=
    get_put_other st _ (by simp only [Fld.at, R.JSP_FUSE_OFF_FUSED, R.JSP_SRC_CNT_EVENTS]; omega)
  exact if_pos (by rw [hb]; exact h)

/-- An event of a source in use joins the ring; it fires unless its window still waits for more. -/
theorem countEvent_cases {st : Strand} {src : Nat} (h : ¬ bit (st.get R.JSP_FUSE_OFF_FUSED) src = true) (hs : src ≤ 15) (t det island reading : Nat) :
    let x := st.bump R.JSP_SRC_CNT_EVENTS src
    let f := st.eventFiring t src det island reading
    (∃ hist, st.countEvent t src det island reading = (x.ringed f hist).fire t f
      ∧ (st.windowed = true → src ≠ 15 → st.get R.JSP_SRC_CFG_N src ≤ (st.held t src).length))
    ∨ ∃ hist, st.countEvent t src det island reading = x.ringed f hist ∧ st.windowed = true ∧ src ≠ 15
      ∧ (st.held t src).length < st.get R.JSP_SRC_CFG_N src := by
  intro x f
  have hother {g : Fld} {k : Nat} (hg : NotCount src (g.at k)) : x.get g k = st.get g k := get_put_other st _ hg
  have hoff : x.get R.JSP_FUSE_OFF_FUSED = st.get R.JSP_FUSE_OFF_FUSED := hother (by simp only [Fld.at, R.JSP_FUSE_OFF_FUSED, NotCount]; omega)
  have hn : x.get R.JSP_SRC_CFG_N src = st.get R.JSP_SRC_CFG_N src := hother (by simp only [Fld.at, R.JSP_SRC_CFG_N, NotCount]; omega)
  have hw : x.get R.JSP_SRC_CFG_W src = st.get R.JSP_SRC_CFG_W src := hother (by simp only [Fld.at, R.JSP_SRC_CFG_W, NotCount]; omega)
  have hheld : x.held t src = st.held t src := by simp only [held, hw]; rfl
  have hwin : x.windowed = st.windowed := windowed_of_rd (src := src) (fun o ho => rd_bump_other st ho) hs
  have heq : st.countEvent t src det island reading =
      if x.windowed && src != 15 then
        if (x.held t src).length ≥ x.get R.JSP_SRC_CFG_N src then (x.ringed f (x.jsp.hist.filter (·.1 != src))).fire t f
        else x.ringed f (x.jsp.hist.filter (·.1 != src) ++ [(src, x.held t src)])
      else (x.ringed f x.jsp.hist).fire t f := if_neg (by rw [hoff]; exact h)
  rw [heq, hwin, hheld, hn]
  split
  · next hc =>
    obtain ⟨hc, hs'⟩ : st.windowed = true ∧ src ≠ 15 := by simpa using hc
    split
    · next hl => exact .inl ⟨_, rfl, fun _ _ => hl⟩
    · next hl => exact .inr ⟨_, rfl, hc, hs', by omega⟩
  · next hc => exact .inl ⟨_, rfl, fun hw' hs' => absurd hc (by simp [hw', hs'])⟩

theorem fire_regs (st : Strand) (t : Nat) {f : Firing} : (st.fire t f).regs = (st.bump R.JSP_SRC_CNT_FIRINGS f.src).regs := rfl

/-- A firing shows in its counter alone, and is the last of the alarm. -/
theorem fire_eq (st : Strand) (t : Nat) (f : Firing) :
    ∃ x : Strand, Shown (NotCount f.src) st x
      ∧ st.fire t f = { x with jsp := { x.jsp with alarm := x.jsp.alarm ++ [f], alarmAt := if x.jsp.alarm.isEmpty then t else x.jsp.alarmAt } } :=
  ⟨st.bump R.JSP_SRC_CNT_FIRINGS f.src, (Shown.refl st).bump _ (fun h => h rfl), rfl⟩

theorem fire_nv (st : Strand) (t : Nat) {f : Firing} : (st.fire t f).nv = st.nv := by
  obtain ⟨x, hx, e⟩ := fire_eq st t f
  rw [e]
  exact hx.nv

theorem fire_alarm (st : Strand) (t : Nat) {f : Firing} : (st.fire t f).jsp.alarm = st.jsp.alarm ++ [f] := by
  obtain ⟨x, hx, e⟩ := fire_eq st t f
  rw [e, ← hx.jsp]

theorem fire_ring (st : Strand) (t : Nat) {f : Firing} : (st.fire t f).jsp.events = st.jsp.events := by
  obtain ⟨x, hx, e⟩ := fire_eq st t f
  rw [e, ← hx.jsp]

theorem fire_window (st : Strand) (t : Nat) {f : Firing} : (st.fire t f).jsp.window = st.jsp.window := by
  obtain ⟨x, hx, e⟩ := fire_eq st t f
  rw [e, ← hx.jsp]

theorem fire_rd (st : Strand) (t : Nat) {f : Firing} {o : Nat} (h : NotCount f.src o) : (st.fire t f).rd o = st.rd o :=
  (rd_congr (fire_regs st t) o).trans (rd_bump_other st h)

theorem fire_events (st : Strand) (t k : Nat) {f : Firing} : (st.fire t f).get R.JSP_SRC_CNT_EVENTS k = st.get R.JSP_SRC_CNT_EVENTS k := by
  refine (congrArg R.JSP_SRC_CNT_EVENTS.ofWord (rd_congr (fire_regs st t) _)).trans ?_
  change (st.bump R.JSP_SRC_CNT_FIRINGS f.src).get R.JSP_SRC_CNT_EVENTS k = _
  by_cases h : k = f.src
  · subst h
    exact get_put_apart st _ rfl (by decide) (by decide)
  · exact get_put_other st _ (by simp only [Fld.at, R.JSP_SRC_CNT_EVENTS, R.JSP_SRC_CNT_FIRINGS]; omega)

/-- An event changes its source's counter alone of the registers. -/
theorem countEvent_rd (st : Strand) {t src det island reading o : Nat} (hs : src ≤ 15) (ho : NotCount src o) :
    (st.countEvent t src det island reading).rd o = st.rd o := by
  have hx : (st.bump R.JSP_SRC_CNT_EVENTS src).rd o = st.rd o := rd_bump_other st ho
  by_cases h : bit (st.get R.JSP_FUSE_OFF_FUSED) src = true
  · rw [countEvent_fused h]; exact hx
  · obtain ⟨hist, e, -⟩ | ⟨hist, e, -⟩ := countEvent_cases h hs t det island reading
    · rw [e]; exact (fire_rd _ _ (by exact ho)).trans hx
    · rw [e]; exact hx

theorem countEvent_get (st : Strand) {t src det island reading : Nat} (hs : src ≤ 15) {g : Fld} {k : Nat} (hg : NotCount src (g.at k)) :
    (st.countEvent t src det island reading).get g k = st.get g k := congrArg g.ofWord (countEvent_rd st hs hg)

theorem countEvent_nv (st : Strand) {t src det island reading : Nat} (hs : src ≤ 15) : (st.countEvent t src det island reading).nv = st.nv := by
  by_cases h : bit (st.get R.JSP_FUSE_OFF_FUSED) src = true
  · rw [countEvent_fused h]; rfl
  · obtain ⟨hist, e, -⟩ | ⟨hist, e, -⟩ := countEvent_cases h hs t det island reading
    · rw [e, fire_nv]; rfl
    · rw [e]; rfl

/-- An event counts, whatever becomes of it. -/
theorem countEvent_events (st : Strand) (t det island reading : Nat) {src : Nat} (hs : src ≤ 15) :
    (st.countEvent t src det island reading).get R.JSP_SRC_CNT_EVENTS src = min (st.get R.JSP_SRC_CNT_EVENTS src + 1) 65535 := by
  have hx : (st.bump R.JSP_SRC_CNT_EVENTS src).get R.JSP_SRC_CNT_EVENTS src = min (st.get R.JSP_SRC_CNT_EVENTS src + 1) 65535 :=
    get_add_same st _ 1 src (by decide)
  by_cases h : bit (st.get R.JSP_FUSE_OFF_FUSED) src = true
  · rw [countEvent_fused h]; exact hx
  · obtain ⟨hist, e, -⟩ | ⟨hist, e, -⟩ := countEvent_cases h hs t det island reading
    · rw [e]; exact (fire_events ..).trans hx
    · rw [e]; exact hx

theorem countEvent_head {st : Strand} {src : Nat} (h : ¬ bit (st.get R.JSP_FUSE_OFF_FUSED) src = true) (hs : src ≤ 15) (t det island reading : Nat) :
    (st.countEvent t src det island reading).jsp.events.head? = some (st.eventFiring t src det island reading) := by
  obtain ⟨hist, e, -⟩ | ⟨hist, e, -⟩ := countEvent_cases h hs t det island reading
  · rw [e, fire_ring]; rfl
  · rw [e]; rfl

/-- Without a window, or with one that asks for one event, an event fires. -/
theorem countEvent_alarm {st : Strand} {src : Nat} (h : ¬ bit (st.get R.JSP_FUSE_OFF_FUSED) src = true) (hs : src ≤ 15) {t : Nat}
    (hw : st.windowed = false ∨ src = 15 ∨ st.get R.JSP_SRC_CFG_N src ≤ 1 ∧ 0 < st.get R.JSP_SRC_CFG_W src) (det island reading : Nat) :
    (st.countEvent t src det island reading).jsp.alarm = st.jsp.alarm ++ [st.eventFiring t src det island reading] := by
  obtain ⟨hist, e, -⟩ | ⟨hist, e, hw', hs', hl⟩ := countEvent_cases h hs t det island reading
  · rw [e, fire_alarm]; rfl
  · obtain hw | hw | ⟨hn, hpos⟩ := hw
    · exact absurd hw' (by simp [hw])
    · exact absurd hw hs'
    · have hmem : t ∈ st.held t src := List.mem_filter.mpr ⟨by simp, by simpa using hpos⟩
      have := List.length_pos_of_mem hmem
      omega

/-- The first of the events that a window asks for does not fire. -/
theorem countEvent_held {st : Strand} {src : Nat} (h : ¬ bit (st.get R.JSP_FUSE_OFF_FUSED) src = true) (hs : src ≤ 14) {t : Nat}
    (hw : st.windowed = true) (hn : 2 ≤ st.get R.JSP_SRC_CFG_N src) (hh : st.jsp.hist.find? (·.1 == src) = none) (det island reading : Nat) :
    (st.countEvent t src det island reading).jsp.alarm = st.jsp.alarm := by
  obtain ⟨hist, e, hl⟩ | ⟨hist, e, -⟩ := countEvent_cases h (by omega) t det island reading
  · have hone : (st.held t src).length ≤ 1 := by
      rw [held, hh]
      exact (List.length_filter_le ..).trans (by simp)
    have := hl hw (by omega)
    omega
  · rw [e]; rfl

/-! ### A detector report -/

/-- Where both detectors report, or a source has one, a report is one event. -/
theorem event_agreed {st : Strand} {src det : Nat} (h : det % 4 = 3 ∨ 11 < src) (t island reading : Nat) :
    st.event t src det island reading = st.countEvent t src det island reading := if_neg (by omega)

theorem event_rd (st : Strand) {t src det island reading o : Nat} (hs : src ≤ 15) (ho : NotCount src o) (ho' : NotCount 13 o) :
    (st.event t src det island reading).rd o = st.rd o := by
  have hc : (st.countEvent t src det island reading).rd o = st.rd o := countEvent_rd st hs ho
  unfold event
  extract_lets x
  split
  · exact (countEvent_rd x (by decide) ho').trans hc
  · exact hc

theorem event_get (st : Strand) {t src det island reading : Nat} (hs : src ≤ 15) {g : Fld} {k : Nat} (hg : NotCount src (g.at k))
    (hg' : NotCount 13 (g.at k)) : (st.event t src det island reading).get g k = st.get g k := congrArg g.ofWord (event_rd st hs hg hg')

/-- A report counts for its source; a disagreement counts for its own. -/
theorem event_events (st : Strand) (t det island reading : Nat) {src : Nat} (hs : src ≤ 15) :
    (st.event t src det island reading).get R.JSP_SRC_CNT_EVENTS src = min (st.get R.JSP_SRC_CNT_EVENTS src + 1) 65535 := by
  have hc := countEvent_events st t det island reading hs
  unfold event
  extract_lets x
  split
  · next h =>
    exact (countEvent_get x (by decide) (by simp only [NotCount, Fld.at, R.JSP_SRC_CNT_EVENTS]; omega)).trans hc
  · exact hc

/-- One detector alone makes its own event and one of DETECTOR_DISAGREE; without windows both fire. -/
theorem event_alone_alarm {st : Strand} {src det : Nat} (hs : src ≤ 11) (hd : det % 4 ≠ 3) (h : ¬ bit (st.get R.JSP_FUSE_OFF_FUSED) src = true)
    (h' : ¬ bit (st.get R.JSP_FUSE_OFF_FUSED) 13 = true) (hw : st.windowed = false) (t island reading : Nat) :
    ∃ g : Firing, g.src = 13 ∧ g.det = src * 256 + det ∧ g.rank = st.get R.JSP_SRC_CFG_RANK 13
      ∧ (st.event t src det island reading).jsp.alarm = st.jsp.alarm ++ [st.eventFiring t src det island reading, g] := by
  have hs' : src ≤ 15 := by omega
  have hother {f : Fld} {k : Nat} (hf : NotCount src (f.at k)) :
      (st.countEvent t src det island reading).get f k = st.get f k := countEvent_get st hs' hf
  have hrd (o : Nat) (ho : NotCount src o) : (st.countEvent t src det island reading).rd o = st.rd o := countEvent_rd st hs' ho
  have hoff := hother (f := R.JSP_FUSE_OFF_FUSED) (k := 0) (by simp only [NotCount, Fld.at, R.JSP_FUSE_OFF_FUSED]; omega)
  have hrank := hother (f := R.JSP_SRC_CFG_RANK) (k := 13) (by simp only [NotCount, Fld.at, R.JSP_SRC_CFG_RANK]; omega)
  have ha := countEvent_alarm h hs' (t := t) (.inl hw) det island reading
  have heq : st.event t src det island reading
      = (st.countEvent t src det island reading).countEvent t 13 (src * 256 + det) island 0 := if_pos ⟨hs, hd, h⟩
  rw [heq]
  generalize st.countEvent t src det island reading = x at *
  have hwx : x.windowed = false := (windowed_of_rd hrd hs').trans hw
  refine ⟨x.eventFiring t 13 (src * 256 + det) island 0, rfl, rfl, ?_, ?_⟩
  · exact ((firingOf_rank _ t _ island 0 (by decide)).trans (get_rank_bump x 13 13)).trans hrank
  · rw [countEvent_alarm (by rw [hoff]; exact h') (by decide) (.inl hwx), ha]
    simp

/-- A report of a source in use adds its firing to an alarm that no window holds back, with what a disagreement adds. -/
theorem event_alarm {st : Strand} {src : Nat} (hs : src ≤ 15) (h : ¬ bit (st.get R.JSP_FUSE_OFF_FUSED) src = true) (hw : st.windowed = false)
    (t det island reading : Nat) :
    ∃ l, (st.event t src det island reading).jsp.alarm = st.jsp.alarm ++ st.eventFiring t src det island reading :: l := by
  have ha := countEvent_alarm h hs (t := t) (.inl hw) det island reading
  by_cases hd : src ≤ 11 ∧ det % 4 ≠ 3
  · by_cases h' : bit (st.get R.JSP_FUSE_OFF_FUSED) 13 = true
    · have heq : st.event t src det island reading
          = (st.countEvent t src det island reading).countEvent t 13 (src * 256 + det) island 0 := if_pos ⟨hd.1, hd.2, h⟩
      have hoff := countEvent_get st (t := t) (det := det) (island := island) (reading := reading) hs (g := R.JSP_FUSE_OFF_FUSED) (k := 0)
        (by simp only [NotCount, Fld.at, R.JSP_FUSE_OFF_FUSED]; omega)
      refine ⟨[], ?_⟩
      rw [heq, countEvent_fused (by rw [hoff]; exact h')]
      exact ha
    · obtain ⟨g, -, -, -, e⟩ := event_alone_alarm hd.1 hd.2 h h' hw t island reading
      exact ⟨[g], e⟩
  · exact ⟨[], (congrArg (fun x : Strand => x.jsp.alarm) (event_agreed (by omega) t island reading)).trans ha⟩

theorem eventFiring_rank (st : Strand) (t det island reading : Nat) {src : Nat} (h : src ≠ 15) :
    (st.eventFiring t src det island reading).rank = st.get R.JSP_SRC_CFG_RANK src :=
  (firingOf_rank _ t det island reading h).trans (get_rank_bump st src src)

end Strand

end Sys2Proof.Machine
end


section
/-! SUPPORT. What reports, injected events and request wires make of a strand's sentinel (R25, R582 to R585, R603, R609, R635). -/

namespace Sys2Proof.Machine
open Sys2Proof Sys2Proof.Claims

/-! ### One strand's change -/

theorem aside_setSd (s : State) (n : Fin 4) (st : Strand) : Aside s (s.setSd n st) n := ⟨fun _ h => State.sd_setSd_other s st h, rfl⟩

theorem aside_trans {s t u : State} {n : Fin 4} (h : Aside s t n) (g : Aside t u n) : Aside s u n :=
  ⟨fun m hm => (g.1 m hm).trans (h.1 m hm), g.2.trans h.2⟩

theorem aside_up (s : State) (n : Fin 4) (f : Strand → Strand) : Aside s (s.up n f) n := aside_setSd ..

theorem aside_upTo (s : State) (t : Nat) (n : Fin 4) : Aside s (s.upTo t) n := ⟨fun _ _ => rfl, rfl⟩

/-! ### The cell's voltage -/

/-- `b` may show another voltage of the cell than `a`. -/
structure CellShown (a b : Strand) : Prop extends Shown (fun o => o ≠ 0x1000018 ∧ o ≠ 0x1000004) a b where
  windowed : b.windowed = a.windowed

theorem CellShown.refl (a : Strand) : CellShown a a := ⟨.refl a, rfl⟩

/-- The voltage of the cell as it shows, R605, R608. -/
def Strand.cellMeasured (st : Strand) (mv : Nat) : Strand :=
  (st.put R.JSP_CELL_VBAT mv).put R.JSP_STATUS_CELL_OK (b2n (decide (2500 ≤ mv) && decide (mv ≤ 3600)))

theorem Strand.cellMeasured_shown (st : Strand) (mv : Nat) : CellShown st (st.cellMeasured mv) := by
  have hp : Shown (fun o => o ≠ 0x1000018 ∧ o ≠ 0x1000004) st (st.cellMeasured mv) := ((Shown.refl st).put _ _ (by decide)).put _ _ (by decide)
  refine ⟨hp, windowed_congr (hp.rd 0 (by decide)) (congrArg (· == 1) ?_)⟩
  simp (disch := decide) only [cellMeasured, get_put_apart, get_put_other]

theorem Strand.cellMeasured_vbat (st : Strand) {mv : Nat} (h : mv < 4096) : (st.cellMeasured mv).get R.JSP_CELL_VBAT = mv := by
  simp (disch := decide) only [cellMeasured, get_put_same, get_put_other]
  exact Nat.mod_eq_of_lt h

namespace State

theorem vbat_mem (s : State) (n : Fin 4) (mv : Nat) : (s.vbat n mv).mem = s.mem := by
  unfold vbat
  dsimp only [up_mem]
  split <;> rfl

theorem vbat_now (s : State) (n : Fin 4) (mv : Nat) : (s.vbat n mv).now = s.now := by
  unfold vbat
  dsimp only [up_now]
  split <;> rfl

theorem vbat_sd (s : State) (n : Fin 4) (mv : Nat) : (s.vbat n mv).sd n = (s.sd n).cellMeasured mv := by
  unfold vbat
  rw [sd_up_same]
  split <;> rfl

theorem vbat_shown (s : State) (n : Fin 4) (mv : Nat) : CellShown (s.sd n) ((s.vbat n mv).sd n) := by
  rw [vbat_sd]
  exact Strand.cellMeasured_shown ..

end State

/-! ### What fails in an island itself, R609, R635 -/

namespace Strand

/-- The first fault of a block stands in its record; a vector may follow. -/
theorem noteErr_first_shown {st : Strand} {valid code ovf : Fld} {c : Nat} {info : Strand → Strand} (h : st.flag valid = false) :
    Shown OffSnap (info ((st.put valid 1).put code c)) (st.noteErr valid code ovf c info) := by
  unfold noteErr
  rw [if_neg (by simp [h])]
  dsimp only
  split
  · exact vector_shown ..
  · exact .refl _

theorem islErr_first {st : Strand} {code island chan : Nat} (h : st.flag R.ISL_ERR_VALID = false) :
    (st.islErr code island chan).flag R.ISL_ERR_VALID = true ∧ (st.islErr code island chan).get R.ISL_ERR_CODE = code % 8
      ∧ (st.islErr code island chan).get R.ISL_ERR_INFO_ISLAND = island % 32 := by
  have hs : Shown OffSnap _ (st.islErr code island chan) := noteErr_first_shown h
  refine ⟨(hs.flag _ (by decide)).trans (congrArg (· == 1) ?_ : _ = ((1 : Nat) == 1)), (hs.get _ (by decide)).trans ?_, (hs.get _ (by decide)).trans ?_⟩
  all_goals
    simp (disch := decide) only [get_put_same, get_put_apart, get_put_other]
    rfl

theorem islErr_shown (st : Strand) (code island chan : Nat) : Shown (fun o => OffSnap o ∧ o ≠ 0x1100010 ∧ o ≠ 0x1100014) st (st.islErr code island chan) :=
  noteErr_shown (fun _ h => h.1) st code (by decide) (by decide) (by decide) fun x =>
    ((Shown.refl x).put _ _ (by decide)).put _ _ (by decide)

/-- The sentinel's own fault, by its code, source and island. -/
def jspErr (st : Strand) (code src island : Nat) : Strand :=
  st.noteErr R.JSP_ERR_VALID R.JSP_ERR_CODE R.JSP_ERR_OVERFLOW code fun st => (st.put R.JSP_ERR_INFO_SOURCE src).put R.JSP_ERR_INFO_ISLAND island

theorem jspErr_shown (st : Strand) (code src island : Nat) : Shown (fun o => OffSnap o ∧ o ≠ 0x1000044 ∧ o ≠ 0x1000048) st (st.jspErr code src island) :=
  noteErr_shown (fun _ h => h.1) st code (by decide) (by decide) (by decide) fun x =>
    ((Shown.refl x).put _ _ (by decide)).put _ _ (by decide)

theorem jspErr_first {st : Strand} {code src island : Nat} (h : st.flag R.JSP_ERR_VALID = false) :
    (st.jspErr code src island).flag R.JSP_ERR_VALID = true ∧ (st.jspErr code src island).get R.JSP_ERR_CODE = code % 8 := by
  have hs : Shown OffSnap _ (st.jspErr code src island) := noteErr_first_shown h
  refine ⟨(hs.flag _ (by decide)).trans (congrArg (· == 1) ?_ : _ = ((1 : Nat) == 1)), (hs.get _ (by decide)).trans ?_⟩
  all_goals
    simp (disch := decide) only [get_put_same, get_put_apart, get_put_other]
    rfl

/-- Behind a fault the sentinel's record is in use. -/
theorem jspErr_flag (st : Strand) (code src island : Nat) : (st.jspErr code src island).flag R.JSP_ERR_VALID = true := by
  by_cases h : st.flag R.JSP_ERR_VALID = true
  · have e : st.jspErr code src island = st.bump R.JSP_ERR_OVERFLOW := if_pos h
    have hg : (st.bump R.JSP_ERR_OVERFLOW).get R.JSP_ERR_VALID = st.get R.JSP_ERR_VALID := get_put_apart st _ rfl (by decide) (by decide)
    rw [e]
    exact (congrArg (· == 1) hg).trans h
  · exact (jspErr_first (by simpa using h)).1

/-- A report of island S by itself is the sentinel's own fault. -/
theorem reportErr_self (st : Strand) : st.reportErr 14 6 none = st.jspErr 5 14 6 := rfl

/-- Another report is no fault where no part of an island failed. -/
theorem reportErr_none (st : Strand) {src : Nat} (h : src ≠ 14) (island : Nat) : st.reportErr src island none = st := by
  have hi : ¬ (src = 14 ∧ island = 6) := fun e => h e.1
  simp only [reportErr, if_neg hi]

/-- A regulator, a clock generator or a channel that failed is a fault of the islands, whatever the sentinel records of itself. -/
theorem reportErr_part (st : Strand) {src : Nat} (h : src = 4 ∨ src = 5 ∨ src = 14) (island ch : Nat) :
    ∃ x chan, Shown (fun o => OffSnap o ∧ o ≠ 0x1000044 ∧ o ≠ 0x1000048) st x
      ∧ st.reportErr src island (some ch) = x.islErr (if src = 4 then 1 else if src = 5 then 2 else 4) island chan := by
  obtain rfl | rfl | rfl := h
  · exact ⟨st, 0, .refl st, rfl⟩
  · exact ⟨st, 0, .refl st, rfl⟩
  · by_cases hi : island = 6
    · subst hi
      exact ⟨_, ch, jspErr_shown st 5 14 6, rfl⟩
    · refine ⟨st, ch, .refl st, ?_⟩
      simp only [reportErr, hi, and_false, if_false]
      rfl

end Strand

/-! ### DETECTOR_REPORT -/

theorem exec_detectorReport (n : Fin 4) (src det island reading : Nat) (chan : Option Nat) (s : State) :
    exec (.detectorReport n src det island reading chan) s = execDetectorReport n src det island reading s chan := rfl

theorem exec_detectorReport_none (n : Fin 4) (src island reading : Nat) (chan : Option Nat) (s : State) :
    exec (.detectorReport n src 0 island reading chan) s = .next s := rfl

/-- A report out of VIGIL is an event, and may be a fault; a report of CELL shows the voltage first. -/
theorem exec_detectorReport_event {s : State} {n : Fin 4} {src det : Nat} (hm : (s.sd n).mode ≠ 0) (hs : 1 ≤ src ∧ src ≤ 11 ∨ src = 14)
    (hd : det % 4 ≠ 0) (ht : src = 9 → (s.sd n).get R.JSP_CTL_TAMP_EN ≠ 0) (island reading : Nat) (chan : Option Nat) :
    ∃ t z, CellShown (s.sd n) z ∧ (src ≠ 10 → z = s.sd n) ∧ exec (.detectorReport n src det island reading chan) s = .next t ∧ t.mem = s.mem ∧ t.now = s.now
      ∧ t.sd n = (z.event s.now src (if src = 14 then 1 else det % 4) (detectorIsland src island) reading).reportErr src island chan := by
  rw [exec_detectorReport]
  unfold execDetectorReport
  rw [if_neg (by omega)]
  extract_lets u
  have hu : u.mem = s.mem ∧ u.now = s.now ∧ CellShown (s.sd n) (u.sd n) ∧ (src ≠ 10 → u.sd n = s.sd n) := by
    unfold u
    split
    · next h => exact ⟨State.vbat_mem .., State.vbat_now .., State.vbat_shown .., fun h' => absurd h h'⟩
    · exact ⟨rfl, rfl, .refl _, fun _ => rfl⟩
  clear_value u
  obtain ⟨hmem, hnow, hcell, hsame⟩ := hu
  rw [if_neg hm, if_neg (fun h => ht h.1 h.2)]
  refine ⟨_, u.sd n, hcell, hsame, rfl, hmem, hnow, ?_⟩
  rw [State.sd_up_same, State.sd_up_same, hnow]

section
variable {s : State} {n : Fin 4} {src : Nat}

/-- Both detectors make one event, which fires where no window holds it back, R582, R584. -/
theorem detectorReport_fires (hm : (s.sd n).mode ≠ 0) (hs : 1 ≤ src) (hs' : src ≤ 11) (ht : src = 9 → (s.sd n).get R.JSP_CTL_TAMP_EN ≠ 0)
    (ho : ¬ bit ((s.sd n).get R.JSP_FUSE_OFF_FUSED) src = true)
    (hw : (s.sd n).windowed = false ∨ (s.sd n).get R.JSP_SRC_CFG_N src ≤ 1 ∧ 0 < (s.sd n).get R.JSP_SRC_CFG_W src) (i v : Nat) :
    ∃ t, exec (.detectorReport n src 3 i v) s = .next t ∧ t.mem = s.mem ∧ t.now = s.now
      ∧ (t.sd n).get R.JSP_SRC_CNT_EVENTS src = min ((s.sd n).get R.JSP_SRC_CNT_EVENTS src + 1) 65535
      ∧ ∃ f : Firing, (f.src = src ∧ f.det = 3 ∧ f.rank = (s.sd n).get R.JSP_SRC_CFG_RANK src) ∧ f.reading = v
        ∧ (t.sd n).jsp.alarm = (s.sd n).jsp.alarm ++ [f] ∧ (t.sd n).jsp.events.head? = some f := by
  obtain ⟨t, z, hz, -, he, hmem, hnow, hsd⟩ := exec_detectorReport_event (det := 3) hm (.inl ⟨hs, hs'⟩) (by decide) ht i v none
  have hget {f : Fld} {k : Nat} (h : f.at k ≠ 0x1000018 ∧ f.at k ≠ 0x1000004) : z.get f k = (s.sd n).get f k := hz.get f h
  rw [Strand.reportErr_none _ (by omega), if_neg (by omega), Strand.event_agreed (.inl rfl)] at hsd
  have hoff : ¬ bit (z.get R.JSP_FUSE_OFF_FUSED) src = true := by rwa [hget (by decide)]
  have hwz : z.windowed = false ∨ src = 15 ∨ z.get R.JSP_SRC_CFG_N src ≤ 1 ∧ 0 < z.get R.JSP_SRC_CFG_W src := by
    rw [hz.windowed, hget (by simp only [Fld.at, R.JSP_SRC_CFG_N]; omega), hget (by simp only [Fld.at, R.JSP_SRC_CFG_W]; omega)]
    exact hw.imp_right .inr
  refine ⟨t, he, hmem, hnow, ?_, z.eventFiring s.now src 3 (detectorIsland src i) v, ⟨rfl, rfl, ?_⟩, rfl, ?_, ?_⟩
  · rw [hsd, Strand.countEvent_events _ _ _ _ _ (by omega), hget (by simp only [Fld.at, R.JSP_SRC_CNT_EVENTS]; omega)]
  · rw [Strand.eventFiring_rank _ _ _ _ _ (by omega), hget (by simp only [Fld.at, R.JSP_SRC_CFG_RANK]; omega)]
  · rw [hsd, Strand.countEvent_alarm hoff (by omega) hwz, hz.jsp]
  · rw [hsd, Strand.countEvent_head hoff (by omega)]

/-- The first of the events that a window asks for is held back, R584. -/
theorem detectorReport_held (hm : (s.sd n).mode ≠ 0) (hs : 1 ≤ src) (hs' : src ≤ 11) (ht : src = 9 → (s.sd n).get R.JSP_CTL_TAMP_EN ≠ 0)
    (ho : ¬ bit ((s.sd n).get R.JSP_FUSE_OFF_FUSED) src = true) (hw : (s.sd n).windowed = true) (hn : 2 ≤ (s.sd n).get R.JSP_SRC_CFG_N src)
    (hh : (s.sd n).jsp.hist.find? (·.1 == src) = none) (i v : Nat) :
    ∃ t, exec (.detectorReport n src 3 i v) s = .next t
      ∧ (t.sd n).get R.JSP_SRC_CNT_EVENTS src = min ((s.sd n).get R.JSP_SRC_CNT_EVENTS src + 1) 65535
      ∧ (t.sd n).jsp.alarm = (s.sd n).jsp.alarm
      ∧ ∃ f : Firing, (f.src = src ∧ f.det = 3 ∧ f.rank = (s.sd n).get R.JSP_SRC_CFG_RANK src) ∧ (t.sd n).jsp.events.head? = some f := by
  obtain ⟨t, z, hz, -, he, -, -, hsd⟩ := exec_detectorReport_event (det := 3) hm (.inl ⟨hs, hs'⟩) (by decide) ht i v none
  have hget {f : Fld} {k : Nat} (h : f.at k ≠ 0x1000018 ∧ f.at k ≠ 0x1000004) : z.get f k = (s.sd n).get f k := hz.get f h
  rw [Strand.reportErr_none _ (by omega), if_neg (by omega), Strand.event_agreed (.inl rfl)] at hsd
  have hoff : ¬ bit (z.get R.JSP_FUSE_OFF_FUSED) src = true := by rwa [hget (by decide)]
  have hnz : 2 ≤ z.get R.JSP_SRC_CFG_N src := by rwa [hget (by simp only [Fld.at, R.JSP_SRC_CFG_N]; omega)]
  refine ⟨t, he, ?_, ?_, z.eventFiring s.now src 3 (detectorIsland src i) v, ⟨rfl, rfl, ?_⟩, ?_⟩
  · rw [hsd, Strand.countEvent_events _ _ _ _ _ (by omega), hget (by simp only [Fld.at, R.JSP_SRC_CNT_EVENTS]; omega)]
  · rw [hsd, Strand.countEvent_held hoff (by omega) (hz.windowed.trans hw) hnz (by rw [hz.jsp, hh]), hz.jsp]
  · rw [Strand.eventFiring_rank _ _ _ _ _ (by omega), hget (by simp only [Fld.at, R.JSP_SRC_CFG_RANK]; omega)]
  · rw [hsd, Strand.countEvent_head hoff (by omega)]

/-- One detector alone makes its event and one of DETECTOR_DISAGREE that names the pair, R582. -/
theorem detectorReport_alone (hm : (s.sd n).mode ≠ 0) (hs : 1 ≤ src) (hs' : src ≤ 11) (ht : src = 9 → (s.sd n).get R.JSP_CTL_TAMP_EN ≠ 0)
    (ho : ¬ bit ((s.sd n).get R.JSP_FUSE_OFF_FUSED) src = true) (hw : (s.sd n).windowed = false)
    (ho' : ¬ bit ((s.sd n).get R.JSP_FUSE_OFF_FUSED) 13 = true) {det : Nat} (hd : det = 1 ∨ det = 2) (i v : Nat) :
    ∃ t, exec (.detectorReport n src det i v) s = .next t
      ∧ ∃ f g : Firing, (f.src = src ∧ f.det = det ∧ f.rank = (s.sd n).get R.JSP_SRC_CFG_RANK src)
        ∧ (g.src = 13 ∧ g.det = src * 256 + det ∧ g.rank = (s.sd n).get R.JSP_SRC_CFG_RANK 13)
        ∧ (t.sd n).jsp.alarm = (s.sd n).jsp.alarm ++ [f, g] := by
  obtain ⟨t, z, hz, -, he, -, -, hsd⟩ := exec_detectorReport_event (det := det) hm (.inl ⟨hs, hs'⟩) (by omega) ht i v none
  have hget {f : Fld} {k : Nat} (h : f.at k ≠ 0x1000018 ∧ f.at k ≠ 0x1000004) : z.get f k = (s.sd n).get f k := hz.get f h
  have hdm : det % 4 = det := by omega
  rw [Strand.reportErr_none _ (by omega), if_neg (by omega), hdm] at hsd
  have hoff (k : Nat) (h : ¬ bit ((s.sd n).get R.JSP_FUSE_OFF_FUSED) k = true) : ¬ bit (z.get R.JSP_FUSE_OFF_FUSED) k = true := by
    rwa [hget (by decide)]
  have hrank (k : Nat) : z.get R.JSP_SRC_CFG_RANK k = (s.sd n).get R.JSP_SRC_CFG_RANK k := hget (by simp only [Fld.at, R.JSP_SRC_CFG_RANK]; omega)
  obtain ⟨g, hg, hgd, hgr, ha⟩ := Strand.event_alone_alarm (det := det) hs' (by omega) (hoff src ho) (hoff 13 ho') (hz.windowed.trans hw)
    s.now (detectorIsland src i) v
  refine ⟨t, he, z.eventFiring s.now src det (detectorIsland src i) v, g, ⟨rfl, rfl, ?_⟩, ⟨hg, hgd, hgr.trans (hrank 13)⟩, ?_⟩
  · rw [Strand.eventFiring_rank _ _ _ _ _ (by omega), hrank]
  · rw [hsd, ha, hz.jsp]

/-- A regulator, a clock generator or a channel that failed is recorded for its island, R635. -/
theorem detectorReport_islErr (hm : (s.sd n).mode ≠ 0) {i : Nat} (hi : i ≤ 20) (hv : (s.sd n).flag R.ISL_ERR_VALID = false) {det : Nat}
    (hd : det = 1 ∨ det = 2 ∨ det = 3) (hs : src = 4 ∨ src = 5 ∨ src = 14) (v ch : Nat) :
    ∃ t, exec (.detectorReport n src det i v (some ch)) s = .next t
      ∧ (t.sd n).get R.JSP_SRC_CNT_EVENTS src = min ((s.sd n).get R.JSP_SRC_CNT_EVENTS src + 1) 65535
      ∧ (t.sd n).flag R.ISL_ERR_VALID = true ∧ (t.sd n).get R.ISL_ERR_CODE = (if src = 4 then 1 else if src = 5 then 2 else 4)
      ∧ (t.sd n).get R.ISL_ERR_INFO_ISLAND = i := by
  obtain ⟨t, z, -, hz, he, -, -, hsd⟩ := exec_detectorReport_event (det := det) hm (src := src) (by omega) (by omega) (by omega) i v (some ch)
  rw [hz (by omega)] at hsd
  have hs15 : src ≤ 15 := by omega
  have hcount := Strand.event_events (s.sd n) s.now (if src = 14 then 1 else det % 4) (detectorIsland src i) v hs15
  have hvalid : ((s.sd n).event s.now src (if src = 14 then 1 else det % 4) (detectorIsland src i) v).flag R.ISL_ERR_VALID = false :=
    (congrArg (· == 1) (Strand.event_get _ hs15 (by simp only [Strand.NotCount, Fld.at, R.ISL_ERR_VALID]; omega)
      (by simp only [Strand.NotCount, Fld.at, R.ISL_ERR_VALID]; omega))).trans hv
  generalize (s.sd n).event s.now src (if src = 14 then 1 else det % 4) (detectorIsland src i) v = y at hsd hcount hvalid
  obtain ⟨x, c, hx, e⟩ := Strand.reportErr_part y hs i ch
  obtain ⟨hflag, hcode, hisl⟩ := Strand.islErr_first (code := if src = 4 then 1 else if src = 5 then 2 else 4) (island := i) (chan := c)
    ((hx.flag _ (by decide)).trans hvalid)
  have hisl' := Strand.islErr_shown x (if src = 4 then 1 else if src = 5 then 2 else 4) i c
  rw [e] at hsd
  refine ⟨t, he, ?_⟩
  rw [hsd]
  refine ⟨?_, hflag, hcode.trans (Nat.mod_eq_of_lt (by split_ifs <;> decide)), hisl.trans (Nat.mod_eq_of_lt (by omega))⟩
  rw [hisl'.get _ (by simp only [Fld.at, R.JSP_SRC_CNT_EVENTS, OffSnap]; omega), hx.get _ (by simp only [Fld.at, R.JSP_SRC_CNT_EVENTS, OffSnap]; omega)]
  exact hcount

/-- A check code of island S is recorded as the sentinel's own fault, R609. -/
theorem detectorReport_jspErr (hm : (s.sd n).mode ≠ 0) (hv : (s.sd n).flag R.JSP_ERR_VALID = false) {det : Nat}
    (hd : det = 1 ∨ det = 2 ∨ det = 3) (v : Nat) :
    ∃ t, exec (.detectorReport n 14 det 6 v none) s = .next t ∧ (t.sd n).get R.JSP_ERR_CODE = 5 ∧ (t.sd n).flag R.JSP_ERR_VALID = true
      ∧ (t.sd n).get R.ISL_ERR_CODE = (s.sd n).get R.ISL_ERR_CODE := by
  obtain ⟨t, z, -, hz, he, -, -, hsd⟩ := exec_detectorReport_event (det := det) hm (src := 14) (.inr rfl) (by omega) (by omega) 6 v none
  rw [hz (by decide), Strand.reportErr_self] at hsd
  have hkept {f : Fld} (h : Strand.NotCount 14 (f.at 0)) (h' : Strand.NotCount 13 (f.at 0)) :
      ((s.sd n).event s.now 14 1 (detectorIsland 14 6) v).get f = (s.sd n).get f := Strand.event_get _ (by decide) h h'
  obtain ⟨hflag, hcode⟩ := Strand.jspErr_first (code := 5) (src := 14) (island := 6)
    ((congrArg (· == 1) (hkept (f := R.JSP_ERR_VALID) (by decide) (by decide))).trans hv)
  refine ⟨t, he, ?_, ?_, ?_⟩
  · rw [hsd]; exact hcode
  · rw [hsd]; exact hflag
  · rw [hsd]
    exact ((Strand.jspErr_shown _ 5 14 6).get R.ISL_ERR_CODE (by decide)).trans (hkept (by decide) (by decide))

end

/-! ### JSP_INJECT_WRITE, R603 -/

theorem exec_jspInjectWrite (n : Fin 4) (who : Requester) (v : Nat) (s : State) : exec (.jspInjectWrite n who v) s = execJspInjectWrite n who v s := rfl

/-- Warden alone may inject. -/
theorem exec_jspInjectWrite_other (n c : Fin 4) (v : Nat) (s : State) : exec (.jspInjectWrite n (.core n c 1) v) s = .next s := by
  rw [exec_jspInjectWrite, execJspInjectWrite, if_pos (.inl (by simp [wardenOf]))]

/-- The island that an injected event names. -/
def injectIsland (v : Nat) : Nat := if bits v 16 5 > 20 then 0xFF else bits v 16 5

section
variable {s : State} {n : Fin 4} {v : Nat}

/-- What the word of an injected event must hold, R603. -/
structure Injects (v : Nat) : Prop where
  key : bits v 24 8 = 0xA6
  lo : 1 ≤ bits v 0 8
  hi : bits v 0 8 ≤ 14
  det : bits v 8 2 ≠ 0

theorem Injects.guard (h : Injects v) (hm : (s.sd n).mode ≠ 0) (c : Fin 4) :
    ¬ (¬ wardenOf n (.core n c 0) = true ∨ bits v 24 8 ≠ 0xA6 ∨ bits v 0 8 = 0 ∨ bits v 0 8 > 15 ∨ bits v 8 2 = 0 ∨ (s.sd n).mode = 0) := by
  obtain ⟨hkey, hlo, hhi, hdet⟩ := h
  have hwho : wardenOf n (.core n c 0) = true := by simp [wardenOf]
  rintro (h | h | h | h | h | h)
  · exact h hwho
  · exact h hkey
  · omega
  · omega
  · exact hdet h
  · exact hm h

theorem exec_jspInjectWrite_early (h : Injects v) (hm : (s.sd n).mode ≠ 0) (c : Fin 4) (hl : s.life ≤ 1) :
    exec (.jspInjectWrite n (.core n c 0) v) s
      = .next (s.setSd n ((s.sd n).event s.now (bits v 0 8) (bits v 8 2 + 4) (injectIsland v))) := by
  rw [exec_jspInjectWrite, execJspInjectWrite, if_neg (h.guard hm c), if_pos hl]
  rfl

theorem exec_jspInjectWrite_late (h : Injects v) (hm : (s.sd n).mode ≠ 0) (c : Fin 4) (hl : 2 ≤ s.life)
    (ho : ¬ bit ((s.sd n).get R.JSP_FUSE_OFF_FUSED) (bits v 0 8) = true) :
    let f := (s.sd n).firingOf s.now (bits v 0 8) (bits v 8 2 + 4) (injectIsland v) 0
    exec (.jspInjectWrite n (.core n c 0) v) s = .next (s.setSd n (((s.sd n).bump R.JSP_SRC_CNT_EVENTS (bits v 0 8)).upJsp fun j =>
      { j with events := (f :: j.events).take 256, logQ := j.logQ ++ [{ f := f, applied := 0, first := true }] })) := by
  rw [exec_jspInjectWrite, execJspInjectWrite, if_neg (h.guard hm c), if_neg (by omega), if_neg ho]
  rfl

/-- Before a device is provisioned an injected event is one like any other. -/
theorem jspInjectWrite_fires (h : Injects v) (hm : (s.sd n).mode ≠ 0) (c : Fin 4) (ho : ¬ bit ((s.sd n).get R.JSP_FUSE_OFF_FUSED) (bits v 0 8) = true)
    (hl : s.life ≤ 1) (hw : (s.sd n).windowed = false) :
    ∃ t, exec (.jspInjectWrite n (.core n c 0) v) s = .next t ∧ Aside s t n ∧ ∃ (f : Firing) (l : List Firing),
      (f.src = bits v 0 8 ∧ f.det = bits v 8 2 + 4 ∧ f.rank = (s.sd n).get R.JSP_SRC_CFG_RANK (bits v 0 8))
        ∧ (t.sd n).jsp.alarm = (s.sd n).jsp.alarm ++ f :: l := by
  have hs := h.hi
  obtain ⟨l, hal⟩ := Strand.event_alarm (by omega) ho hw s.now (bits v 8 2 + 4) (injectIsland v) 0
  refine ⟨_, exec_jspInjectWrite_early h hm c hl, aside_setSd .., (s.sd n).eventFiring s.now (bits v 0 8) (bits v 8 2 + 4) (injectIsland v) 0, l,
    ⟨rfl, rfl, Strand.eventFiring_rank _ _ _ _ _ (by omega)⟩, ?_⟩
  rw [State.sd_setSd_same]
  exact hal

/-- In service it is counted and logged, and nothing acts. -/
theorem jspInjectWrite_logs (h : Injects v) (hm : (s.sd n).mode ≠ 0) (c : Fin 4) (ho : ¬ bit ((s.sd n).get R.JSP_FUSE_OFF_FUSED) (bits v 0 8) = true)
    (hl : 2 ≤ s.life) :
    ∃ t, exec (.jspInjectWrite n (.core n c 0) v) s = .next t ∧ Aside s t n
      ∧ (t.sd n).get R.JSP_SRC_CNT_EVENTS (bits v 0 8) = min ((s.sd n).get R.JSP_SRC_CNT_EVENTS (bits v 0 8) + 1) 65535
      ∧ (t.sd n).jsp.alarm = (s.sd n).jsp.alarm ∧ ∃ f : Firing,
        (f.src = bits v 0 8 ∧ f.det = bits v 8 2 + 4 ∧ f.rank = (s.sd n).get R.JSP_SRC_CFG_RANK (bits v 0 8))
        ∧ (t.sd n).jsp.logQ = (s.sd n).jsp.logQ ++ [{ f := f, applied := 0, first := true }] := by
  have hs := h.hi
  refine ⟨_, exec_jspInjectWrite_late h hm c hl ho, aside_setSd .., ?_⟩
  rw [State.sd_setSd_same]
  exact ⟨Strand.get_add_same (s.sd n) R.JSP_SRC_CNT_EVENTS 1 _ (by decide), rfl, _, ⟨rfl, rfl, Strand.firingOf_rank _ _ _ _ _ (by omega)⟩, rfl⟩

/-! ### ERASE_REQUEST_RECEIVED, R25, R591 -/

theorem exec_eraseRequestReceived (n frm : Fin 4) (s : State) : exec (.eraseRequestReceived n frm) s = execEraseRequestReceived n frm s := rfl

theorem exec_eraseRequestReceived_quiet {frm : Fin 4} (h : (s.sd frm).jsp.wires.contains n.val = false) :
    exec (.eraseRequestReceived n frm) s = .next s := by
  rw [exec_eraseRequestReceived, execEraseRequestReceived, if_pos (.inr (by simp only [h, Bool.false_eq_true, not_false_eq_true]))]

/-- A wire that another strand drives is an event of rank 4. -/
theorem eraseRequestReceived_fires {frm : Fin 4} (hm : (s.sd n).mode ≠ 0) (ho : ¬ bit ((s.sd n).get R.JSP_FUSE_OFF_FUSED) 15 = true)
    (h : (s.sd frm).jsp.wires.contains n.val = true) :
    ∃ t, exec (.eraseRequestReceived n frm) s = .next t ∧ Aside s t n ∧ ∃ f : Firing,
      f.src = 15 ∧ f.rank = 4 ∧ f.reading = frm.val ∧ (t.sd n).jsp.alarm = (s.sd n).jsp.alarm ++ [f] := by
  have he : exec (.eraseRequestReceived n frm) s = .next (s.up n fun st => st.countEvent s.now 15 1 0xFF frm.val) := by
    rw [exec_eraseRequestReceived, execEraseRequestReceived, if_neg (by simp only [h, hm]; simp)]
  refine ⟨_, he, aside_up .., (s.sd n).eventFiring s.now 15 1 0xFF frm.val, rfl, rfl, rfl, ?_⟩
  rw [State.sd_up_same]
  exact Strand.countEvent_alarm ho (by decide) (.inr (.inl rfl)) 1 0xFF frm.val

end

end Sys2Proof.Machine
end


section
/-! SUPPORT. The response to an alarm, by the rank that is in effect and the rank that acts (R588 to R591, R594). -/

namespace Sys2Proof.Machine
open Sys2Proof Sys2Proof.Claims

/-- What a response leaves standing: the last alarm, the log that waits, the fences and the alarm that gathers. -/
structure Acted (a b : Strand) : Prop where
  last : b.rd 0x100000C = a.rd 0x100000C
  logQ : b.jsp.logQ = a.jsp.logQ
  fenced : ∀ i ∈ a.fenced, i ∈ b.fenced
  alarm : b.jsp.alarm = a.jsp.alarm

theorem Acted.refl (a : Strand) : Acted a a := ⟨rfl, rfl, fun _ h => h, rfl⟩

theorem Acted.trans {a b c : Strand} (h : Acted a b) (g : Acted b c) : Acted a c :=
  ⟨g.last.trans h.last, g.logQ.trans h.logQ, fun i hi => g.fenced i (h.fenced i hi), g.alarm.trans h.alarm⟩

theorem CalmKept.acted {a b : Strand} (h : CalmKept a b) : Acted a b := ⟨h.last, h.logQ, h.fenced, h.alarm⟩

namespace Strand

theorem upJsp_acted (st : Strand) (f : Jsp → Jsp) (hl : (f st.jsp).logQ = st.jsp.logQ) (ha : (f st.jsp).alarm = st.jsp.alarm) :
    Acted st (st.upJsp f) := ⟨rfl, hl, fun _ h => h, ha⟩

/-! ### The throttle, R589 -/

/-- The registers that a throttle does not show in. -/
abbrev OffThrottle (o : Nat) : Prop := o ≠ 0x1000004 ∧ o / 0x100000 ≠ 17

theorem clocks_shown (st : Strand) : Shown (fun o => o / 0x100000 ≠ 17) st st.clocks := by
  refine Shown.foldl (fun i hi x => ?_) st
  have hi : i < 21 := List.mem_range.mp hi
  split
  · exact (Shown.refl x).put _ _ (by simp only [Fld.at, R.ISL_CLK_MHZ]; omega)
  · exact .refl x

/-- A throttle shows, and ends after the time that JSP_CTL gives. -/
theorem throttle_eq (st : Strand) (t : Nat) :
    ∃ x : Strand, (∀ o, OffThrottle o → x.rd o = st.rd o) ∧ x.jsp = st.jsp ∧ x.fenced = st.fenced ∧ x.flag R.JSP_STATUS_THROTTLED = true
      ∧ st.throttle t = x.upJsp fun j => { j with throttleUntil := some (t + 1000000000 * x.get R.JSP_CTL_THROTTLE_S) } := by
  by_cases h : st.flag R.JSP_STATUS_THROTTLED = true
  · refine ⟨st, fun _ _ => rfl, rfl, rfl, h, ?_⟩
    simp only [throttle, h, if_true]
  · have hregs : (st.rebaseCycles t).regs = st.regs := rfl
    have hjsp : (st.rebaseCycles t).jsp = st.jsp := rfl
    have hfenced : (st.rebaseCycles t).fenced = st.fenced := rfl
    have heq : st.throttle t = (((st.rebaseCycles t).put R.JSP_STATUS_THROTTLED 1).clocks).upJsp fun j =>
        { j with throttleUntil := some (t + 1000000000 * (((st.rebaseCycles t).put R.JSP_STATUS_THROTTLED 1).clocks).get R.JSP_CTL_THROTTLE_S) } := by
      simp only [throttle, if_neg h]
    rw [heq]
    generalize st.rebaseCycles t = z at hregs hjsp hfenced
    have hput : Shown OffThrottle z (z.put R.JSP_STATUS_THROTTLED 1) := (Shown.refl z).put _ _ (by decide)
    have hclocks := clocks_shown (z.put R.JSP_STATUS_THROTTLED 1)
    have hall : Shown OffThrottle z _ := hput.trans (hclocks.mono fun _ h => h.2)
    refine ⟨_, fun o ho => (hall.rd o ho).trans (rd_congr hregs o), hall.jsp.trans hjsp, hall.fenced.trans hfenced, ?_, rfl⟩
    exact (hclocks.flag _ (by decide)).trans (congrArg (· == 1) (get_put_same z R.JSP_STATUS_THROTTLED 1 0 (by decide)))

theorem throttle_acted (st : Strand) (t : Nat) : Acted st (st.throttle t) := by
  obtain ⟨x, hrd, hj, hf, -, e⟩ := throttle_eq st t
  rw [e]
  have hx : Acted st x := ⟨hrd _ (by decide), congrArg _ hj, fun _ h => hf ▸ h, congrArg _ hj⟩
  exact hx.trans (upJsp_acted x _ rfl rfl)

/-- A throttle that begins. -/
theorem throttle_begins (st : Strand) (t : Nat) :
    (st.throttle t).flag R.JSP_STATUS_THROTTLED = true ∧ (st.throttle t).fenced = st.fenced
      ∧ (st.throttle t).jsp.throttleUntil = some (t + 1000000000 * st.get R.JSP_CTL_THROTTLE_S) := by
  obtain ⟨x, hrd, -, hf, hflag, e⟩ := throttle_eq st t
  have hs : x.get R.JSP_CTL_THROTTLE_S = st.get R.JSP_CTL_THROTTLE_S := congrArg R.JSP_CTL_THROTTLE_S.ofWord (hrd _ (by decide))
  rw [e, ← hs]
  exact ⟨hflag, hf, rfl⟩

end Strand

/-! ### The request wires, R25, R594 -/

/-- The bits of a word that a list of wires sets, above those that stand. -/
theorem testBit_foldl_or (g : Nat → Nat) {l : List Nat} {b : Nat} (hb : b ∈ l) (w : Nat) :
    (l.foldl (fun w b => w ||| 2 ^ g b) w).testBit (g b) = true := by
  have hkeep (l : List Nat) (w : Nat) (h : w.testBit (g b) = true) : (l.foldl (fun w b => w ||| 2 ^ g b) w).testBit (g b) = true := by
    induction l generalizing w with
    | nil => exact h
    | cons c r ih => exact ih _ (by rw [Nat.testBit_or, h, Bool.true_or])
  induction l generalizing w with
  | nil => simp at hb
  | cons c r ih =>
    obtain rfl | hb := List.mem_cons.mp hb
    · exact hkeep r _ (by rw [Nat.testBit_or, Nat.testBit_two_pow_self, Bool.or_true])
    · exact ih hb _

namespace State

theorem rget_congr {s t : State} (h : t.ring = s.ring) (f : Fld) : t.rget f = s.rget f := by rw [rget, rget, rrd, rrd, h]

theorem driveWires_sd (s : State) (n : Fin 4) :
    (s.driveWires n).sd n = (s.sd n).upJsp fun j => { j with wires := [0, 1, 2, 3].filter (· != n.val) } := by
  unfold driveWires
  extract_lets t
  have ht : t.sd n = (s.sd n).upJsp fun j => { j with wires := [0, 1, 2, 3].filter (· != n.val) } := sd_up_same ..
  split
  · exact ht
  · exact ht

theorem driveWires_now (s : State) (n : Fin 4) : (s.driveWires n).now = s.now := by
  unfold driveWires
  extract_lets t
  split <;> rfl

theorem driveWires_acted (s : State) (n : Fin 4) : Acted (s.sd n) ((s.driveWires n).sd n) := by
  rw [driveWires_sd]
  exact Strand.upJsp_acted _ _ rfl rfl

/-- The wires go to the three other strands. -/
theorem driveWires_wires (s : State) (n b : Fin 4) : ((s.driveWires n).sd n).jsp.wires.contains b.val = true ↔ b ≠ n := by
  rw [driveWires_sd]
  change ([0, 1, 2, 3].filter (· != n.val)).contains b.val = true ↔ b ≠ n
  revert b n
  decide

/-- Ring supervision observes the wires where it works. -/
theorem driveWires_observed {s : State} {n : Fin 4} :
    (s.ring.rsFailed = true → (s.driveWires n).rget R.RNG_ERASE_WIRES = s.rget R.RNG_ERASE_WIRES)
      ∧ (s.ring.rsFailed = false → ∀ b : Fin 4, b ≠ n → bit ((s.driveWires n).rget R.RNG_ERASE_WIRES) (4 * n.val + b.val) = true) := by
  constructor
  · intro h
    unfold driveWires
    extract_lets t
    rw [if_pos (show t.ring.rsFailed = true from h)]
    exact rget_congr rfl _
  · intro h b hb
    have hw : b.val ∈ (((s.driveWires n).sd n).jsp.wires) := by simpa using (driveWires_wires s n b).mpr hb
    rw [driveWires_sd] at hw
    unfold driveWires
    extract_lets t
    rw [if_neg (show ¬ t.ring.rsFailed = true by simp [show t.ring.rsFailed = false from h]), rget_rput_same _ _ _ _ (by decide)]
    have ht : (t.sd n).jsp.wires = [0, 1, 2, 3].filter (· != n.val) := by rw [show t.sd n = _ from sd_up_same ..]; rfl
    have hlt : 4 * n.val + b.val < R.RNG_ERASE_WIRES.width := by
      have := n.isLt; have := b.isLt
      simp only [R.RNG_ERASE_WIRES]; omega
    rw [bit, Nat.testBit_mod_two_pow, decide_eq_true hlt, Bool.true_and, ht]
    exact testBit_foldl_or (fun b => 4 * n.val + b) hw _

/-! ### The response -/

/-- The rank of the response in effect, R591: none while an erase is under way, so that an alarm then acts by itself. -/
def standing (s : State) (n : Fin 4) : Nat :=
  if (s.sd n).zeroised || (s.sd n).jsp.lineSince.isSome || (s.sd n).jsp.erase.isSome then 0 else (s.sd n).effective

section
variable (s : State) (n : Fin 4) (act src frm : Nat) (targets pairs : List Nat)

/-- A rank at most that in effect fences what it names, and extends a throttle. -/
theorem respond_stands (h : act ≤ s.standing n) :
    s.respond n act src frm targets pairs
      = (let s' := if 2 ≤ s.standing n then s.fenceAll n targets pairs else s
         if act = 1 ∧ s.standing n = 1 then s'.up n fun st => st.throttle s'.now else s') := if_pos h

theorem respond_throttles (h : s.standing n < 1) : s.respond n 1 src frm targets pairs = s.up n fun st => st.throttle s.now :=
  if_neg (Nat.not_le.mpr h)

theorem respond_fences (h : s.standing n < 2) :
    s.respond n 2 src frm targets pairs = (s.fenceAll n targets pairs).up n fun st => st.upJsp fun j => { j with inEffect := max j.inEffect 2 } :=
  if_neg (Nat.not_le.mpr h)

theorem respond_halts (h : s.standing n < 3) :
    s.respond n 3 src frm targets pairs = ((s.fenceAll n targets pairs).haltStrand n).up n fun st => st.upJsp fun j => { j with inEffect := 3 } :=
  if_neg (Nat.not_le.mpr h)

/-- The erase that an alarm of rank 4 or 5 asks for. -/
def alarmErase : EraseTry := { cause := if act ≥ 5 then 2 else if src = 15 then 3 else 1, src := src, frm := frm, tries := 0 }

theorem respond_erases (h : s.standing n < act) (ha : 4 ≤ act) :
    s.respond n act src frm targets pairs
      = (let u := if act ≥ 5 then (s.fenceAll n targets pairs).driveWires n else s.fenceAll n targets pairs
         if (s.sd n).jsp.erase.isSome then u else u.up n fun st => st.upJsp fun j => { j with erase := some (alarmErase act src frm) }) := by
  obtain ⟨k, rfl⟩ : ∃ k, act = k + 4 := ⟨act - 4, by omega⟩
  exact if_neg (Nat.not_le.mpr h)

/-- What a response does beside its fences touches neither the alarm nor what is known of it. -/
theorem respond_acted :
    ∃ u, (u = s ∨ u = s.fenceAll n targets pairs) ∧ (2 ≤ act → s.standing n < act → u = s.fenceAll n targets pairs)
      ∧ (s.respond n act src frm targets pairs).now = u.now ∧ Acted (u.sd n) ((s.respond n act src frm targets pairs).sd n) := by
  by_cases h : act ≤ s.standing n
  · rw [respond_stands (h := h)]
    extract_lets u
    refine ⟨u, ?_, fun _ h' => absurd h (by omega), ?_⟩
    · unfold u
      split
      · exact .inr rfl
      · exact .inl rfl
    · split
      · exact ⟨rfl, by rw [sd_up_same]; exact Strand.throttle_acted ..⟩
      · exact ⟨rfl, .refl _⟩
  · rw [Nat.not_le] at h
    obtain rfl | rfl | rfl | ha : act = 1 ∨ act = 2 ∨ act = 3 ∨ 4 ≤ act := by omega
    · rw [respond_throttles (h := h)]
      exact ⟨s, .inl rfl, fun h' => absurd h' (by decide), rfl, by rw [sd_up_same]; exact Strand.throttle_acted ..⟩
    · rw [respond_fences (h := h)]
      exact ⟨_, .inr rfl, fun _ _ => rfl, rfl, by rw [sd_up_same]; exact Strand.upJsp_acted _ _ rfl rfl⟩
    · rw [respond_halts (h := h)]
      refine ⟨_, .inr rfl, fun _ _ => rfl, haltStrand_now _ n, ?_⟩
      rw [sd_up_same]
      exact (haltStrand_calmKept _ n).acted.trans (Strand.upJsp_acted _ _ rfl rfl)
    · rw [respond_erases (h := h) (ha := ha)]
      extract_lets u
      have hu : u.now = (s.fenceAll n targets pairs).now ∧ Acted ((s.fenceAll n targets pairs).sd n) (u.sd n) := by
        unfold u
        split
        · exact ⟨driveWires_now .., driveWires_acted ..⟩
        · exact ⟨rfl, .refl _⟩
      refine ⟨_, .inr rfl, fun _ _ => rfl, ?_⟩
      split
      · exact hu
      · refine ⟨hu.1, hu.2.trans ?_⟩
        rw [sd_up_same]
        exact Strand.upJsp_acted _ _ rfl rfl

end

end State

end Sys2Proof.Machine
end


section
/-! SUPPORT. ALARM_DECISION and THROTTLE_EXPIRED: every firing of a decision interval forms one alarm, and its response (R588 to R591). -/

namespace Sys2Proof.Machine
open Sys2Proof Sys2Proof.Claims

/-! ### The rank of an alarm -/

/-- The highest rank of the firings of an alarm. -/
def alarmRank (fs : List Firing) : Nat := fs.foldl (fun m f => max m f.rank) 0

theorem foldl_max_rank (fs : List Firing) (m : Nat) :
    m ≤ fs.foldl (fun m f => max m f.rank) m ∧ (fs.foldl (fun m f => max m f.rank) m = m ∨ ∃ f ∈ fs, f.rank = fs.foldl (fun m f => max m f.rank) m) := by
  induction fs generalizing m with
  | nil => exact ⟨Nat.le_refl m, .inl rfl⟩
  | cons f r ih =>
    obtain ⟨hle, h⟩ := ih (max m f.rank)
    refine ⟨by simp only [List.foldl_cons]; omega, ?_⟩
    simp only [List.foldl_cons]
    obtain h | ⟨g, hg, h⟩ := h
    · by_cases hm : f.rank ≤ m
      · exact .inl (by omega)
      · exact .inr ⟨f, by simp, by omega⟩
    · exact .inr ⟨g, by simp [hg], h⟩

/-- A firing of the alarm has its rank. -/
theorem exists_alarmRank {fs : List Firing} (h : fs ≠ []) : ∃ f ∈ fs, f.rank = alarmRank fs := by
  obtain ⟨f, r, rfl⟩ := List.exists_cons_of_ne_nil h
  obtain ⟨hle, he⟩ := foldl_max_rank r (max 0 f.rank)
  obtain he | ⟨g, hg, he⟩ := he
  · exact ⟨f, by simp, by rw [alarmRank, List.foldl_cons, he]; omega⟩
  · exact ⟨g, by simp [hg], he⟩

theorem alarmRank_one (f : Firing) : alarmRank [f] = f.rank := Nat.zero_max f.rank

/-- The islands that an alarm names, R589. -/
def alarmTargets (fs : List Firing) : List Nat := ((fs.filter fun f => f.src != 13 && decide (f.island ≤ 20)).map (·.island)).eraseDups

/-- The detector pairs that an alarm names. -/
def alarmPairs (fs : List Firing) : List Nat := (fs.filter fun f => f.src == 13).map (·.island)

/-- The rank that acts: a fence with nothing to stop is a halt, R590. -/
def alarmAct (fs : List Firing) : Nat :=
  if alarmRank fs = 2 ∧ (((alarmTargets fs).isEmpty = true ∧ (alarmPairs fs).isEmpty = true)
    ∨ ((alarmTargets fs).any fun i => Strand.kindOf i == 0) = true) then 3 else alarmRank fs

theorem mem_alarmTargets {fs : List Firing} {i : Nat} (h : i ∈ alarmTargets fs) : ∃ f ∈ fs, f.src ≠ 13 ∧ f.island ≤ 20 ∧ f.island = i := by
  rw [alarmTargets, List.mem_eraseDups, List.mem_map] at h
  obtain ⟨f, hf, rfl⟩ := h
  rw [List.mem_filter] at hf
  obtain ⟨hf, hp⟩ := hf
  obtain ⟨hs, hi⟩ : f.src ≠ 13 ∧ f.island ≤ 20 := by simpa using hp
  exact ⟨f, hf, hs, hi, rfl⟩

theorem alarmTargets_one {f : Firing} (hs : f.src ≠ 13) (hi : f.island ≤ 20) : alarmTargets [f] = [f.island] := by
  simp [alarmTargets, hs, hi, List.eraseDups_cons]

theorem alarmTargets_none {f : Firing} (hi : 20 < f.island) : alarmTargets [f] = [] := by simp [alarmTargets, Nat.not_le.mpr hi]

theorem alarmPairs_none {f : Firing} (hs : f.src ≠ 13) : alarmPairs [f] = [] := by simp [alarmPairs, hs]

theorem alarmAct_one {f : Firing} (h : f.rank ≠ 2) : alarmAct [f] = f.rank := by
  rw [alarmAct, alarmRank_one, if_neg fun e => h e.1]

/-- A fence of an island that has no spare is a halt, R590. -/
theorem alarmAct_halt {f : Firing} (h : f.rank = 2) (hs : f.src ≠ 13) (hi : f.island > 20 ∨ Strand.kindOf f.island = 0) : alarmAct [f] = 3 := by
  rw [alarmAct, alarmRank_one]
  refine if_pos ⟨h, ?_⟩
  by_cases h20 : f.island ≤ 20
  · refine .inr ?_
    have hk : Strand.kindOf f.island = 0 := hi.resolve_left (by omega)
    simp [alarmTargets_one hs h20, hk]
  · exact .inl ⟨by simp [alarmTargets_none (Nat.not_le.mp h20)], by simp [alarmPairs_none hs]⟩

theorem le_alarmAct (f : Firing) : f.rank ≤ alarmAct [f] := by
  rw [alarmAct, alarmRank_one]
  split <;> omega

/-! ### The decision -/

/-- The registers that show neither an alarm nor what it raises. -/
abbrev OffAlarm (o : Nat) : Prop := OffNotice o ∧ o ≠ 0x100000C

/-- The log records of an alarm, R602. -/
def alarmRecs (fs : List Firing) : List LogRec := fs.zipIdx.map fun p => { f := p.1, applied := alarmRank fs, first := p.2 == 0 }

/-- The strand once its alarm is taken up: the records wait, the firings are noticed, and the alarm shows. -/
structure Alarmed (fs : List Firing) (f : Firing) (a b : Strand) : Prop
    extends Shown OffAlarm (a.upJsp fun j => { j with alarm := [], logQ := j.logQ ++ alarmRecs fs }) b where
  rank : b.get R.JSP_LAST_RANK = alarmRank fs % 8
  source : b.get R.JSP_LAST_SOURCE = f.src % 256

theorem exec_alarmDecision (n : Fin 4) (s : State) : exec (.alarmDecision n) s = execAlarmDecision n s := rfl

theorem exec_alarmDecision_none {s : State} {n : Fin 4} (h : (s.sd n).jsp.alarm = []) : exec (.alarmDecision n) s = .next s := by
  rw [exec_alarmDecision, execAlarmDecision, if_pos (by rw [h]; rfl)]

/-- The alarm is noticed and shown, and then answered. -/
theorem exec_alarmDecision_responds {s : State} {n : Fin 4} (hm : (s.sd n).mode ≠ 0) {fs : List Firing} (ha : (s.sd n).jsp.alarm = fs) (hne : fs ≠ [])
    (hnote : ∀ f ∈ fs, f.note = false) :
    ∃ f y, f ∈ fs ∧ Alarmed fs f (s.sd n) y
      ∧ exec (.alarmDecision n) s = .next (((s.upTo ((s.sd n).jsp.alarmAt + 1000)).setSd n y).respond n (alarmAct fs) f.src
          (if f.src = 15 then f.reading else 0) (alarmTargets fs) (alarmPairs fs)) := by
  have hreal : (fs.filter fun f => !f.note) = fs := List.filter_eq_self.mpr fun f hf => by simp [hnote f hf]
  obtain ⟨f, hf⟩ : ∃ f, (fs.find? fun f => f.rank == alarmRank fs) = some f := by
    obtain ⟨g, hg, hr⟩ := exists_alarmRank hne
    exact Option.isSome_iff_exists.mp (List.find?_isSome.mpr ⟨g, hg, by simp [hr]⟩)
  let x := (s.sd n).upJsp fun j => { j with alarm := [], logQ := j.logQ ++ alarmRecs fs }
  let z := fs.foldl (fun st f => st.notify f) x
  have hz : Shown OffNotice x z := Shown.foldl (fun f _ st => Strand.notify_shown st f) x
  refine ⟨f, ((z.put R.JSP_LAST_RANK (alarmRank fs)).put R.JSP_LAST_SOURCE f.src).bump R.JSP_LAST_ALARMS, List.mem_of_find?_eq_some hf, ?_, ?_⟩
  · clear_value z
    have hput := (((hz.mono fun _ (h : OffAlarm _) => h.1).put R.JSP_LAST_RANK (alarmRank fs) (k := 0) (by decide)).put
      R.JSP_LAST_SOURCE f.src (k := 0) (by decide)).bump R.JSP_LAST_ALARMS (k := 0) (by decide)
    refine ⟨hput, ?_, ?_⟩
    · simp (disch := decide) only [Strand.bump, Strand.add, Strand.get_put_same, Strand.get_put_apart]
      rfl
    · simp (disch := decide) only [Strand.bump, Strand.add, Strand.get_put_same, Strand.get_put_apart]
      rfl
  · have hne' : ¬ fs.isEmpty = true := by simpa using hne
    rw [exec_alarmDecision, execAlarmDecision, ha, if_neg hne', if_neg hm]
    dsimp only
    rw [hreal]
    have hf' : (fs.find? fun f => f.rank == fs.foldl (fun m f => max m f.rank) 0) = some f := hf
    rw [hf']
    rfl

section
variable {s : State} {n : Fin 4}

theorem Alarmed.get_last {fs : List Firing} {f : Firing} {a y z : Strand} (h : Alarmed fs f a y) (hrd : z.rd 0x100000C = y.rd 0x100000C) :
    z.get R.JSP_LAST_RANK = alarmRank fs % 8 ∧ z.get R.JSP_LAST_SOURCE = f.src % 256 :=
  ⟨(congrArg R.JSP_LAST_RANK.ofWord hrd).trans h.rank, (congrArg R.JSP_LAST_SOURCE.ofWord hrd).trans h.source⟩

/-- An alarm shows its rank and waits in the log; where no job waits, or nothing is fenced, it leaves no new alarm. -/
theorem alarmDecision_shows (hm : (s.sd n).mode ≠ 0) {fs : List Firing} (ha : (s.sd n).jsp.alarm = fs) (hne : fs ≠ [])
    (hfs : ∀ f ∈ fs, f.note = false ∧ f.rank ≤ 5) :
    ∃ t, exec (.alarmDecision n) s = .next t ∧ t.now = max s.now ((s.sd n).jsp.alarmAt + 1000)
      ∧ ((∀ f ∈ fs, f.src = 13 ∨ 20 < f.island ∨ Strand.kindOf f.island = 0) ∨ (s.sd n).eng.topQ = [] ∧ (s.sd n).eng.berQ = [] →
        (t.sd n).jsp.alarm = [])
      ∧ (t.sd n).get R.JSP_LAST_RANK = alarmRank fs ∧ (t.sd n).jsp.logQ = (s.sd n).jsp.logQ ++ alarmRecs fs := by
  obtain ⟨f, y, -, hy, he⟩ := exec_alarmDecision_responds hm ha hne fun f hf => (hfs f hf).1
  obtain ⟨g, hg, hrank⟩ := exists_alarmRank hne
  have hr : alarmRank fs ≤ 5 := hrank ▸ (hfs g hg).2
  have hsd : ((s.upTo ((s.sd n).jsp.alarmAt + 1000)).setSd n y).sd n = y := State.sd_setSd_same ..
  have hnow : ((s.upTo ((s.sd n).jsp.alarmAt + 1000)).setSd n y).now = max s.now ((s.sd n).jsp.alarmAt + 1000) := rfl
  generalize (s.upTo ((s.sd n).jsp.alarmAt + 1000)).setSd n y = s' at he hsd hnow
  obtain ⟨u, hu, -, hnow', hact⟩ := s'.respond_acted n (alarmAct fs) f.src (if f.src = 15 then f.reading else 0) (alarmTargets fs) (alarmPairs fs)
  have hwithin : Within SentinelKept n s' u := by
    obtain rfl | rfl := hu
    · exact .sentinel_refl n _
    · exact s'.fenceAll_within n _ _
  refine ⟨_, he, (hnow'.trans hwithin.now).trans hnow, fun hc => ?_, ?_, ?_⟩
  · have hcalm : (∀ i ∈ alarmTargets fs, Strand.kindOf i = 0) ∨ (s'.sd n).eng.topQ = [] ∧ (s'.sd n).eng.berQ = [] := by
      refine hc.imp (fun h i hi => ?_) fun h => ?_
      · obtain ⟨f, hf, hs, hi, rfl⟩ := mem_alarmTargets hi
        exact ((h f hf).resolve_left hs).resolve_left (by omega)
      · rw [hsd, hy.eng]; exact h
    have hquiet : (u.sd n).jsp.alarm = (s'.sd n).jsp.alarm := by
      obtain rfl | rfl := hu
      · rfl
      · exact (State.fenceAll_calm _ hcalm).sd.alarm
    rw [hact.alarm, hquiet, hsd, hy.jsp]
    rfl
  · exact (hy.get_last ((hact.last.trans hwithin.sd.last).trans (by rw [hsd]))).1.trans (Nat.mod_eq_of_lt (by omega))
  · rw [hact.logQ, hwithin.sd.logQ, hsd, hy.jsp]
    rfl

/-- Beside the alarm itself what stands decides the response. -/
theorem Alarmed.standing {f : Firing} {fs : List Firing} {y : Strand} (h : Alarmed fs f (s.sd n) y) (he : (s.sd n).effective = 0) {s' : State}
    (hsd : s'.sd n = y) : s'.standing n = 0 := by
  have heff : y.effective = (s.sd n).effective := by
    simp only [Strand.effective]
    rw [h.jsp, h.hlt, h.flag _ (by decide)]
    rfl
  rw [State.standing, hsd, heff, he, ite_self]

/-- What one firing leads to, by its rank, where no response is in effect. -/
theorem alarmDecision_one (hm : (s.sd n).mode ≠ 0) (he : (s.sd n).effective = 0) {f : Firing} (ha : (s.sd n).jsp.alarm = [f]) (hnote : f.note = false)
    (hs : f.src ≤ 15) :
    ∃ (t : State) (y : Strand) (s' : State), exec (.alarmDecision n) s = .next t ∧ Alarmed [f] f (s.sd n) y ∧ s'.sd n = y ∧ s'.ring = s.ring ∧ s'.standing n = 0
      ∧ t = s'.respond n (alarmAct [f]) f.src (if f.src = 15 then f.reading else 0) (alarmTargets [f]) (alarmPairs [f])
      ∧ (t.sd n).get R.JSP_LAST_SOURCE = f.src
      ∧ (2 ≤ f.rank → f.src ≠ 13 → f.island ≤ 20 → Strand.kindOf f.island ≠ 0 → (t.sd n).fenced.contains f.island = true) := by
  obtain ⟨g, y, hg, hy, hex⟩ := exec_alarmDecision_responds hm ha (by simp) (by simpa using hnote)
  obtain rfl : g = f := by simpa using hg
  have hsd : ((s.upTo ((s.sd n).jsp.alarmAt + 1000)).setSd n y).sd n = y := State.sd_setSd_same ..
  have hring : ((s.upTo ((s.sd n).jsp.alarmAt + 1000)).setSd n y).ring = s.ring := rfl
  generalize (s.upTo ((s.sd n).jsp.alarmAt + 1000)).setSd n y = s' at hex hsd hring
  have hst := hy.standing he hsd
  obtain ⟨u, hu, hfence, -, hact⟩ := s'.respond_acted n (alarmAct [g]) g.src (if g.src = 15 then g.reading else 0) (alarmTargets [g]) (alarmPairs [g])
  have hlast : (u.sd n).rd 0x100000C = (s'.sd n).rd 0x100000C := by
    obtain rfl | rfl := hu
    · rfl
    · exact (s'.fenceAll_within n _ _).sd.last
  refine ⟨_, y, s', hex, hy, hsd, hring, hst, rfl, ?_, fun hr h13 h20 hk => ?_⟩
  · exact (hy.get_last ((hact.last.trans hlast).trans (by rw [hsd]))).2.trans (Nat.mod_eq_of_lt (by omega))
  · have hle := le_alarmAct g
    obtain rfl := hfence (by omega) (by omega)
    refine List.contains_iff_mem.mpr (hact.fenced _ ?_)
    rw [alarmTargets_one h13 h20]
    exact State.mem_fenceAll s' n h20 hk _

/-- What the response to one firing does where no erase is under way. -/
structure Answered (s t : State) (n : Fin 4) (f : Firing) : Prop where
  noted : f.rank = 0 → (t.sd n).jsp.throttleUntil = (s.sd n).jsp.throttleUntil ∧ (t.sd n).halted = (s.sd n).halted ∧ (t.sd n).jsp.erase = none
    ∧ (t.sd n).fenced = (s.sd n).fenced
  throttle : f.rank = 1 → (t.sd n).flag R.JSP_STATUS_THROTTLED = true ∧ (t.sd n).fenced = (s.sd n).fenced
    ∧ (t.sd n).jsp.throttleUntil = some (t.now + 1000000000 * (s.sd n).get R.JSP_CTL_THROTTLE_S)
  unspared : f.rank = 2 → f.src ≠ 13 → f.island > 20 ∨ Strand.kindOf f.island = 0 → (t.sd n).halted = true
  halt : f.rank = 3 → (t.sd n).halted = true ∧ (t.sd n).jsp.erase = none
  erase : f.rank = 4 → (t.sd n).jsp.erase = some ⟨if f.src = 15 then 3 else 1, f.src, if f.src = 15 then f.reading else 0, 0⟩
    ∧ (t.sd n).jsp.wires = (s.sd n).jsp.wires ∧ t.rget R.RNG_ERASE_WIRES = s.rget R.RNG_ERASE_WIRES
  eraseAll : f.rank = 5 → (t.sd n).jsp.erase = some ⟨2, f.src, if f.src = 15 then f.reading else 0, 0⟩
    ∧ (∀ b : Fin 4, (t.sd n).jsp.wires.contains b.val = true ↔ b ≠ n)
    ∧ (s.ring.rsFailed = true → t.rget R.RNG_ERASE_WIRES = s.rget R.RNG_ERASE_WIRES)
    ∧ (s.ring.rsFailed = false → ∀ b : Fin 4, b ≠ n → bit (t.rget R.RNG_ERASE_WIRES) (4 * n.val + b.val) = true)

/-- A halt of the response stops the strand and begins no erase. -/
theorem respond_halted {s : State} (hst : s.standing n = 0) (he : (s.sd n).jsp.erase = none) (src frm : Nat) (targets pairs : List Nat) :
    ((s.respond n 3 src frm targets pairs).sd n).halted = true ∧ ((s.respond n 3 src frm targets pairs).sd n).jsp.erase = none := by
  rw [State.respond_halts (h := by omega), State.sd_up_same]
  have hkept := (s.fenceAll_within n targets pairs).sd.erase
  exact ⟨(s.fenceAll n targets pairs).halted_haltStrand n, ((State.haltStrand_calmKept _ n).erase.trans hkept).trans he⟩

theorem respond_erase {s : State} (hst : s.standing n = 0) (he : (s.sd n).jsp.erase = none) (src frm : Nat) (targets pairs : List Nat) :
    let t := s.respond n 4 src frm targets pairs
    (t.sd n).jsp.erase = some ⟨if src = 15 then 3 else 1, src, frm, 0⟩ ∧ (t.sd n).jsp.wires = (s.sd n).jsp.wires
      ∧ t.rget R.RNG_ERASE_WIRES = s.rget R.RNG_ERASE_WIRES := by
  intro t
  have hkept := s.fenceAll_within n targets pairs
  have ht : t = (s.fenceAll n targets pairs).up n fun st => st.upJsp fun j => { j with erase := some (State.alarmErase 4 src frm) } := by
    simp [t, State.respond_erases, hst, he]
  rw [ht, State.sd_up_same]
  exact ⟨rfl, hkept.sd.wires, State.rget_congr hkept.ring _⟩

theorem respond_eraseAll {s : State} (hst : s.standing n = 0) (he : (s.sd n).jsp.erase = none) (src frm : Nat) (targets pairs : List Nat) :
    let t := s.respond n 5 src frm targets pairs
    (t.sd n).jsp.erase = some ⟨2, src, frm, 0⟩ ∧ (∀ b : Fin 4, (t.sd n).jsp.wires.contains b.val = true ↔ b ≠ n)
      ∧ (s.ring.rsFailed = true → t.rget R.RNG_ERASE_WIRES = s.rget R.RNG_ERASE_WIRES)
      ∧ (s.ring.rsFailed = false → ∀ b : Fin 4, b ≠ n → bit (t.rget R.RNG_ERASE_WIRES) (4 * n.val + b.val) = true) := by
  intro t
  have hring := (s.fenceAll_within n targets pairs).ring
  have ht : t = ((s.fenceAll n targets pairs).driveWires n).up n fun st =>
      st.upJsp fun j => { j with erase := some (State.alarmErase 5 src frm) } := by
    simp [t, State.respond_erases, hst, he]
  generalize s.fenceAll n targets pairs = u at hring ht
  have hsd : t.sd n = _ := (congrArg (State.sd · n) ht).trans (State.sd_up_same ..)
  have hwires (b : Fin 4) : (t.sd n).jsp.wires.contains b.val = true ↔ b ≠ n := by rw [hsd]; exact u.driveWires_wires n b
  have hget : t.rget R.RNG_ERASE_WIRES = (u.driveWires n).rget R.RNG_ERASE_WIRES := by rw [ht]; exact State.rget_congr rfl _
  obtain ⟨hfailed, hworks⟩ := State.driveWires_observed (s := u) (n := n)
  refine ⟨by rw [hsd]; rfl, hwires, fun h => ?_, fun h b hb => ?_⟩
  · rw [hget, hfailed (by rw [hring]; exact h)]
    exact State.rget_congr hring _
  · rw [hget]
    exact hworks (by rw [hring]; exact h) b hb

theorem alarmDecision_answers (hm : (s.sd n).mode ≠ 0) (he : (s.sd n).effective = 0) {f : Firing} (ha : (s.sd n).jsp.alarm = [f]) (hnote : f.note = false)
    (hs : f.src ≤ 15) :
    ∃ t, exec (.alarmDecision n) s = .next t ∧ (t.sd n).get R.JSP_LAST_SOURCE = f.src
      ∧ (2 ≤ f.rank → f.src ≠ 13 → f.island ≤ 20 → Strand.kindOf f.island ≠ 0 → (t.sd n).fenced.contains f.island = true)
      ∧ ((s.sd n).jsp.erase = none → Answered s t n f) := by
  obtain ⟨t, y, s', hex, hy, hsd, hring, hst, ht, hsrc, hfence⟩ := alarmDecision_one hm he ha hnote hs
  refine ⟨t, hex, hsrc, hfence, fun hnone => ?_⟩
  have hj : y.jsp = _ := hy.jsp
  have herase : (s'.sd n).jsp.erase = none := by rw [hsd, hj]; exact hnone
  have hwires : (s'.sd n).jsp.wires = (s.sd n).jsp.wires := by rw [hsd, hj]; rfl
  have hfenced : (s'.sd n).fenced = (s.sd n).fenced := by rw [hsd, hy.fenced]; rfl
  have hget : s'.rget R.RNG_ERASE_WIRES = s.rget R.RNG_ERASE_WIRES := State.rget_congr hring _
  refine ⟨fun hr => ?_, fun hr => ?_, fun hr h13 hi => ?_, fun hr => ?_, fun hr => ?_, fun hr => ?_⟩
  · have ht' : t = s' := by simp [ht, alarmAct_one, hr, State.respond_stands, hst]
    rw [ht']
    refine ⟨by rw [hsd, hj]; rfl, ?_, herase, hfenced⟩
    rw [hsd]
    exact hy.flag _ (by decide)
  · have ht' : t = s'.up n fun st => st.throttle s'.now := by rw [ht, alarmAct_one (by omega), hr, State.respond_throttles (h := by omega)]
    obtain ⟨hflag, hf, huntil⟩ := Strand.throttle_begins (s'.sd n) s'.now
    have hsec : (s'.sd n).get R.JSP_CTL_THROTTLE_S = (s.sd n).get R.JSP_CTL_THROTTLE_S := by rw [hsd]; exact hy.get _ (by decide)
    rw [ht', State.sd_up_same, State.up_now, ← hsec]
    exact ⟨hflag, hf.trans hfenced, huntil⟩
  · rw [ht, alarmAct_halt hr h13 hi]
    exact (respond_halted hst herase ..).1
  · rw [ht, alarmAct_one (by omega), hr]
    exact respond_halted hst herase ..
  · rw [ht, alarmAct_one (by omega), hr, ← hwires, ← hget]
    exact respond_erase hst herase ..
  · rw [ht, alarmAct_one (by omega), hr, ← hget, ← hring]
    exact respond_eraseAll hst herase ..

end

end Sys2Proof.Machine
end


section
/-! SUPPORT. The end of a throttle, and the erase: its decisions, its line and the line's release (R589, R592, R593). -/

namespace Sys2Proof.Machine
open Sys2Proof Sys2Proof.Claims

/-! ### THROTTLE_EXPIRED, R589 -/

namespace Strand

/-- The running frequency rests on the island's aging steps and on the throttle. -/
theorem isleMhz_congr {a b : Strand} {i : Nat} (h : b.get R.ISL_AGE_STEP i = a.get R.ISL_AGE_STEP i)
    (ht : b.flag R.JSP_STATUS_THROTTLED = a.flag R.JSP_STATUS_THROTTLED) : b.isleMhz i = a.isleMhz i := by
  simp only [isleMhz, h, ht]

/-- The running frequencies of the first `m` islands. -/
def clocksTo (st : Strand) (m : Nat) : Strand :=
  (List.range m).foldl (fun st i => if throttled i then st.put R.ISL_CLK_MHZ (st.isleMhz i) i else st) st

theorem clocksTo_succ (st : Strand) (m : Nat) :
    st.clocksTo (m + 1) = if throttled m then (st.clocksTo m).put R.ISL_CLK_MHZ ((st.clocksTo m).isleMhz m) m else st.clocksTo m := by
  simp only [clocksTo, List.range_succ, List.foldl_append, List.foldl_cons, List.foldl_nil]

theorem clocksTo_get_other (st : Strand) (m : Nat) {g : Fld} {l : Nat} (h : ∀ k, g.at l ≠ R.ISL_CLK_MHZ.at k) :
    (st.clocksTo m).get g l = st.get g l := by
  induction m with
  | zero => rfl
  | succ m ih =>
    rw [clocksTo_succ]
    split
    · exact (get_put_other _ _ (h m)).trans ih
    · exact ih

theorem clocksTo_isleMhz (st : Strand) (m i : Nat) : (st.clocksTo m).isleMhz i = st.isleMhz i :=
  isleMhz_congr (clocksTo_get_other st m fun k => by simp only [Fld.at, R.ISL_AGE_STEP, R.ISL_CLK_MHZ]; omega)
    (congrArg (· == 1) (clocksTo_get_other st m fun k => by simp only [Fld.at, R.JSP_STATUS_THROTTLED, R.ISL_CLK_MHZ]; omega))

theorem clocksTo_get (st : Strand) {m k : Nat} (hk : k < m) (ht : throttled k = true) :
    (st.clocksTo m).get R.ISL_CLK_MHZ k = st.isleMhz k % 4096 := by
  induction m with
  | zero => omega
  | succ m ih =>
    rw [clocksTo_succ]
    by_cases hm : k = m
    · subst hm
      rw [if_pos ht, get_put_same _ _ _ _ (by decide), clocksTo_isleMhz]
      rfl
    · split
      · exact (get_put_other _ _ (by simp only [Fld.at, R.ISL_CLK_MHZ]; omega)).trans (ih (by omega))
      · exact ih (by omega)

/-- The clocks of the cores show their running frequencies. -/
theorem clocks_get (st : Strand) {k : Nat} (hk : k < 5) : st.clocks.get R.ISL_CLK_MHZ k = st.isleMhz k % 4096 :=
  clocksTo_get st (m := 21) (by omega) (by simp [throttled, hk])

/-- A core's set frequency, less its aging steps. -/
theorem isleMhz_full {st : Strand} {k : Nat} (hk : k < 5) (h : st.flag R.JSP_STATUS_THROTTLED = false) :
    st.isleMhz k = 1200 * (20 - st.get R.ISL_AGE_STEP k) / 20 := by
  simp [isleMhz, setMhz, hk, h]

theorem clocks_unthrottled (st : Strand) :
    (st.put R.JSP_STATUS_THROTTLED 0).clocks.flag R.JSP_STATUS_THROTTLED = false
      ∧ ∀ k, k < 5 → (st.put R.JSP_STATUS_THROTTLED 0).clocks.get R.ISL_CLK_MHZ k = 1200 * (20 - st.get R.ISL_AGE_STEP k) / 20 := by
  have hflag : (st.put R.JSP_STATUS_THROTTLED 0).flag R.JSP_STATUS_THROTTLED = false :=
    congrArg (· == 1) (get_put_same st R.JSP_STATUS_THROTTLED 0 0 (by decide))
  refine ⟨((clocks_shown _).flag R.JSP_STATUS_THROTTLED (by decide)).trans hflag, fun k hk => ?_⟩
  have hstep : (st.put R.JSP_STATUS_THROTTLED 0).get R.ISL_AGE_STEP k = st.get R.ISL_AGE_STEP k :=
    get_put_other st _ (by simp only [Fld.at, R.ISL_AGE_STEP, R.JSP_STATUS_THROTTLED]; omega)
  rw [clocks_get _ hk, isleMhz_full hk hflag, hstep, Nat.mod_eq_of_lt (by omega)]

/-- What shows of a throttle's end rests on the registers, and the sentinel forgets the moment. -/
theorem upJsp_unthrottled {st : Strand} {mhz : Nat → Nat} (hflag : st.flag R.JSP_STATUS_THROTTLED = false)
    (hclk : ∀ k, k < 5 → st.get R.ISL_CLK_MHZ k = mhz k) :
    (st.upJsp fun j => { j with throttleUntil := none }).jsp.throttleUntil = none
      ∧ (st.upJsp fun j => { j with throttleUntil := none }).flag R.JSP_STATUS_THROTTLED = false
      ∧ ∀ k, k < 5 → (st.upJsp fun j => { j with throttleUntil := none }).get R.ISL_CLK_MHZ k = mhz k := ⟨rfl, hflag, hclk⟩

theorem rebaseCycles_get (st : Strand) (t : Nat) (f : Fld) (k : Nat) : (st.rebaseCycles t).get f k = st.get f k :=
  congrArg f.ofWord (rd_congr (a := st.rebaseCycles t) (b := st) rfl _)

end Strand

theorem exec_throttleExpired (n : Fin 4) (s : State) : exec (.throttleExpired n) s = execThrottleExpired n s := rfl

theorem exec_throttleExpired_none {s : State} {n : Fin 4} (h : (s.sd n).jsp.throttleUntil = none) : exec (.throttleExpired n) s = .next s := by
  rw [exec_throttleExpired, execThrottleExpired, h]

/-- The cores return to full clock. -/
theorem throttleExpired_returns {s : State} {n : Fin 4} {w : Nat} (h : (s.sd n).jsp.throttleUntil = some w) :
    ∃ t, exec (.throttleExpired n) s = .next t ∧ Aside s t n ∧ t.now = max s.now w ∧ (t.sd n).jsp.throttleUntil = none
      ∧ (t.sd n).flag R.JSP_STATUS_THROTTLED = false
      ∧ ∀ k, k < 5 → (t.sd n).get R.ISL_CLK_MHZ k = 1200 * (20 - (s.sd n).get R.ISL_AGE_STEP k) / 20 := by
  have he : exec (.throttleExpired n) s = .next ((s.upTo w).up n fun st =>
      (((st.rebaseCycles (s.upTo w).now).put R.JSP_STATUS_THROTTLED 0).clocks).upJsp fun j => { j with throttleUntil := none }) := by
    rw [exec_throttleExpired, execThrottleExpired, h]
  refine ⟨_, he, aside_trans (aside_upTo s w n) (aside_up ..), rfl, ?_⟩
  rw [State.sd_up_same]
  obtain ⟨hflag, hclk⟩ := Strand.clocks_unthrottled ((s.sd n).rebaseCycles (s.upTo w).now)
  have hage (k : Nat) : ((s.sd n).rebaseCycles (s.upTo w).now).get R.ISL_AGE_STEP k = (s.sd n).get R.ISL_AGE_STEP k := Strand.rebaseCycles_get ..
  simp only [hage] at hclk
  exact Strand.upJsp_unthrottled hflag hclk

/-! ### ERASE_DECISION, R592, R593 -/

theorem exec_eraseDecision (n : Fin 4) (agree : Bool) (cut : Nat × Bool × Nat) (s : State) :
    exec (.eraseDecision n agree cut) s = execEraseDecision n agree s cut := rfl

theorem exec_eraseDecision_none {s : State} {n : Fin 4} (h : (s.sd n).jsp.erase = none) (agree : Bool) (cut : Nat × Bool × Nat) :
    exec (.eraseDecision n agree cut) s = .next s := by
  rw [exec_eraseDecision, execEraseDecision, h]

/-- The strand whose checkers disagree on an erase: a mismatch counts, and the erase is asked again. -/
def Strand.asksAgain (st : Strand) (t : Nat) (e : EraseTry) : Strand :=
  (st.mismatch t).upJsp fun j => { j with erase := some { e with tries := e.tries + 1 } }

section
variable {s : State} {n : Fin 4} {e : EraseTry}

theorem exec_eraseDecision_agreed (he : (s.sd n).jsp.erase = some e) (hm : (s.sd n).mode ≠ 0) (cut : Nat × Bool × Nat) :
    exec (.eraseDecision n true cut) s = .next (s.strandErase n e (e.tries + 1) true cut) := by
  rw [exec_eraseDecision, execEraseDecision, he]
  dsimp only
  rw [if_neg hm]
  rfl

theorem exec_eraseDecision_split (he : (s.sd n).jsp.erase = some e) (hm : (s.sd n).mode ≠ 0) (cut : Nat × Bool × Nat) :
    exec (.eraseDecision n false cut) s
      = .next (if 2 ≤ e.tries then (s.up n fun st => st.asksAgain s.now e).strandErase n e (e.tries + 1) false cut
          else s.up n fun st => st.asksAgain s.now e) := by
  rw [exec_eraseDecision, execEraseDecision, he]
  dsimp only
  rw [if_neg hm]
  simp only [Bool.false_eq_true, false_or, if_false, ge_iff_le, Nat.reduceLeDiff]
  rfl

theorem Strand.mismatch_eq (st : Strand) (t : Nat) : st.mismatch t = st.countEvent t 12 1 0xFF 0 := event_agreed (.inr (by decide)) t 0xFF 0

theorem Strand.asksAgain_mode (st : Strand) (t : Nat) (e : EraseTry) : (st.asksAgain t e).mode = st.mode := by
  refine mode_congr ?_
  change (st.mismatch t).rd 0 = st.rd 0
  rw [mismatch_eq]
  exact countEvent_rd st (by decide) (by decide)

theorem Strand.asksAgain_nv (st : Strand) (t : Nat) (e : EraseTry) : (st.asksAgain t e).nv = st.nv := by
  change (st.mismatch t).nv = st.nv
  rw [mismatch_eq]
  exact countEvent_nv st (by decide)

theorem Strand.asksAgain_events (st : Strand) (t : Nat) (e : EraseTry) :
    (st.asksAgain t e).get R.JSP_SRC_CNT_EVENTS 12 = min (st.get R.JSP_SRC_CNT_EVENTS 12 + 1) 65535 := by
  change (st.mismatch t).get R.JSP_SRC_CNT_EVENTS 12 = _
  rw [mismatch_eq]
  exact countEvent_events st t 1 0xFF 0 (by decide)

/-- What an erase leaves, as the registers and the sentinel show it. -/
structure ErasedNow (s t : State) (n : Fin 4) (e : EraseTry) : Prop where
  mode : (t.sd n).mode = 6
  latch : (t.sd n).nv.latch = true
  roots : (t.sd n).nv.roots = []
  vault : (t.sd n).vault = {}
  zeroised : (t.sd n).zeroised = true
  batches : (t.sd n).post.batches = []
  quar : (t.sd n).quar = []
  keyBus : (t.sd n).keyBus = none
  links : (t.sd n).links = []
  erase : (t.sd n).jsp.erase = none
  line : (t.sd n).jsp.lineSince = some s.now
  mem : t.mem = s.mem
  cause : (t.sd n).get R.JSP_ERASE_CAUSE = e.cause
  source : (t.sd n).get R.JSP_ERASE_SOURCE = e.src

/-- An erase whose line is driven at a state that differs from `s` in its mismatches at most. -/
theorem erasedNow_strandErase {u : State} (hmem : u.mem = s.mem) (hnow : u.now = s.now) (hm : (u.sd n).mode ≠ 7) (hc : e.cause ≤ 5) (hc' : e.cause ≠ 4)
    (hs : e.src ≤ 15) (tries : Nat) (agree : Bool) (cut : Nat × Bool × Nat) :
    ErasedNow s (u.strandErase n e tries agree cut) n e
      ∧ ((u.strandErase n e tries agree cut).sd n).get R.JSP_ERASE_TRIES = tries % 4 := by
  obtain ⟨hmem', herased, hmode⟩ := State.strandErase_erased tries agree cut hc' hm
  obtain ⟨⟨hroots, hvault, hbatches, hquar, hbus, hlinks⟩, hlatch, hdone, hline, hcause, hsource, htries⟩ := herased
  have hz : ((u.strandErase n e tries agree cut).sd n).zeroised = true := by rw [Strand.zeroised, hmode]; rfl
  exact ⟨⟨hmode, hlatch, hroots, hvault, hz, hbatches, hquar, hbus, hlinks, hdone, hnow ▸ hline, hmem'.trans hmem,
    hcause.trans (Nat.mod_eq_of_lt (by omega)), hsource.trans (Nat.mod_eq_of_lt (by omega))⟩, htries⟩

/-- Where the checkers agree, the line is driven. -/
theorem eraseDecision_agreed (he : (s.sd n).jsp.erase = some e) (hc : e.cause ≤ 5) (hc' : e.cause ≠ 4) (hs : e.src ≤ 15) (hm : (s.sd n).mode ≠ 0)
    (hm' : (s.sd n).mode ≠ 7) (cut : Nat × Bool × Nat) :
    ∃ t, exec (.eraseDecision n true cut) s = .next t ∧ ErasedNow s t n e ∧ (e.tries ≤ 2 → (t.sd n).get R.JSP_ERASE_TRIES = e.tries + 1) := by
  obtain ⟨hnow, htries⟩ := erasedNow_strandErase (u := s) rfl rfl hm' hc hc' hs (e.tries + 1) true cut
  exact ⟨_, exec_eraseDecision_agreed he hm cut, hnow, fun h => htries.trans (Nat.mod_eq_of_lt (by omega))⟩

/-- A mismatch is counted, and the erase is asked again. -/
theorem eraseDecision_asked (he : (s.sd n).jsp.erase = some e) (hm : (s.sd n).mode ≠ 0) (ht : e.tries < 2) (cut : Nat × Bool × Nat) :
    ∃ t, exec (.eraseDecision n false cut) s = .next t ∧ Aside s t n ∧ (t.sd n).mode = (s.sd n).mode ∧ (t.sd n).nv = (s.sd n).nv
      ∧ (t.sd n).jsp.erase = some { e with tries := e.tries + 1 }
      ∧ (t.sd n).get R.JSP_SRC_CNT_EVENTS 12 = min ((s.sd n).get R.JSP_SRC_CNT_EVENTS 12 + 1) 65535 := by
  have hexec := exec_eraseDecision_split he hm cut
  rw [if_neg (by omega)] at hexec
  refine ⟨_, hexec, aside_up .., ?_⟩
  rw [State.sd_up_same]
  exact ⟨Strand.asksAgain_mode .., Strand.asksAgain_nv .., rfl, Strand.asksAgain_events ..⟩

/-- A third mismatch is overruled. -/
theorem eraseDecision_overruled (he : (s.sd n).jsp.erase = some e) (hc : e.cause ≤ 5) (hc' : e.cause ≠ 4) (hs : e.src ≤ 15) (hm : (s.sd n).mode ≠ 0)
    (hm' : (s.sd n).mode ≠ 7) (ht : e.tries = 2) (cut : Nat × Bool × Nat) :
    ∃ t, exec (.eraseDecision n false cut) s = .next t ∧ ErasedNow s t n e ∧ (t.sd n).get R.JSP_ERASE_TRIES = 3 := by
  have hexec := exec_eraseDecision_split he hm cut
  rw [if_pos (by omega)] at hexec
  have hmode : ((s.up n fun st => st.asksAgain s.now e).sd n).mode ≠ 7 := by rwa [State.sd_up_same, Strand.asksAgain_mode]
  obtain ⟨hnow, htries⟩ := erasedNow_strandErase (s := s) (u := s.up n fun st => st.asksAgain s.now e) rfl rfl hmode hc hc' hs (e.tries + 1) false cut
  exact ⟨_, hexec, hnow, htries.trans (by rw [ht])⟩

/-! ### ERASE_LINE_RELEASE, R420, R447, R593 -/

theorem exec_eraseLineRelease (n : Fin 4) (s : State) : exec (.eraseLineRelease n) s = execEraseLineRelease n s := rfl

theorem exec_eraseLineRelease_none (h : (s.sd n).jsp.lineSince = none) : exec (.eraseLineRelease n) s = .next s := by
  rw [exec_eraseLineRelease, execEraseLineRelease, h]

theorem Strand.mpuClear_rd (st : Strand) (o : Nat) :
    st.mpuClear.rd o = if (!((decide (0xA01000 ≤ o) && decide (o < 0xA02000)) || (decide (0xA00000 ≤ o) && decide (o < 0xA0000C)))) = true
      then st.rd o else strandReset o :=
  RegFile.read_filter_keys strandReset st.regs
    (fun o => !((decide (0xA01000 ≤ o) && decide (o < 0xA02000)) || (decide (0xA00000 ≤ o) && decide (o < 0xA0000C)))) o

/-- The strand whose line falls. -/
def Strand.lineFalls (st : Strand) : Strand := st.mpuClear.upJsp fun j => { j with lineSince := none }

theorem Strand.lineFalls_halted (st : Strand) : st.lineFalls.halted = st.halted :=
  congrArg (fun w => R.CHT_MODE_HALTED.ofWord w == 1) ((mpuClear_rd st 0).trans (if_pos rfl))

theorem exec_eraseLineRelease_some {w : Nat} (h : (s.sd n).jsp.lineSince = some w) :
    exec (.eraseLineRelease n) s
      = .next (if (s.sd n).halted = true ∨ (s.sd n).measure = [] then (s.upTo (w + 10000)).up n Strand.lineFalls
          else ((s.upTo (w + 10000)).up n Strand.lineFalls).startCores n (s.sd n).bootVdt) := by
  have hsd : ((s.upTo (w + 10000)).up n Strand.lineFalls).sd n = (s.sd n).lineFalls := State.sd_up_same ..
  have he : exec (.eraseLineRelease n) s = .next (let u := (s.upTo (w + 10000)).up n Strand.lineFalls
      if (u.sd n).halted = true ∨ (u.sd n).measure = [] then u else u.startCores n (u.sd n).bootVdt) := by
    rw [exec_eraseLineRelease, execEraseLineRelease, h]
    rfl
  rw [he]
  extract_lets u
  rw [hsd, Strand.lineFalls_halted]
  rfl

/-- The line falls; a strand whose cores do not start shows the regions cleared. -/
theorem eraseLineRelease_stays {w : Nat} (h : (s.sd n).jsp.lineSince = some w) (hh : (s.sd n).halted = true ∨ (s.sd n).measure = []) :
    ∃ t, exec (.eraseLineRelease n) s = .next t ∧ Aside s t n ∧ t.now = max s.now (w + 10000) ∧ (t.sd n).jsp.lineSince = none
      ∧ ∀ o, 0xA01000 ≤ o → o < 0xA02000 → (t.sd n).rd o = strandReset o := by
  have hexec := exec_eraseLineRelease_some h
  rw [if_pos hh] at hexec
  refine ⟨_, hexec, aside_trans (aside_upTo s _ n) (aside_up ..), rfl, ?_⟩
  rw [State.sd_up_same]
  exact ⟨rfl, fun o ho ho' => (Strand.mpuClear_rd (s.sd n) o).trans (if_neg (by simp [ho, ho']))⟩

theorem eraseLineRelease_falls {w : Nat} (h : (s.sd n).jsp.lineSince = some w) :
    ∃ t, exec (.eraseLineRelease n) s = .next t ∧ (t.sd n).jsp.lineSince = none := by
  refine ⟨_, exec_eraseLineRelease_some h, ?_⟩
  have hfall : (((s.upTo (w + 10000)).up n Strand.lineFalls).sd n).jsp.lineSince = none := by rw [State.sd_up_same]; rfl
  split
  · exact hfall
  · exact (State.startCores_calmKept _ n _).lineSince.trans hfall

end

end Sys2Proof.Machine
end


section
/-! SUPPORT. The Vigil domain: what its entries zero, and the samples that make them (R595 to R597). -/

namespace Sys2Proof.Machine
open Sys2Proof Sys2Proof.Claims

/-! ### What Vigil records and zeroes, R596, R597 -/

/-- The root slots are zeroed and the latch is set. -/
structure Zeroed (a b : Strand) : Prop where
  roots : b.nv.roots = []
  latch : b.nv.latch = true
  vigil : b.nv.vigil = a.nv.vigil

namespace State

theorem vigilZero_same (s : State) (n : Fin 4) (src : Nat) : Zeroed (s.sd n) ((s.vigilZero n src).sd n) := by
  rw [vigilZero, sd_up_same]
  generalize s.sd n = st
  extract_lets x y
  have hx : Shown (fun _ => False) st x := (((Shown.refl st).put _ _ id).put _ _ id).put _ _ id
  have hy : Shown (fun _ => False) x y := (((Shown.refl x).put _ _ id).put _ _ id).put _ _ id
  have hnv : y.nv = st.nv := (hx.trans hy).nv
  have hvigil : y.nv.vigil = st.nv.vigil := congrArg Nv.vigil hnv
  exact ⟨rfl, rfl, hvigil⟩

theorem vigilZero_other (s : State) {n m : Fin 4} (src : Nat) (h : m ≠ n) : (s.vigilZero n src).sd m = s.sd m := sd_up_other _ _ h

theorem zeroed_trans {a b c : Strand} (h : b.nv.vigil = a.nv.vigil) (g : Zeroed b c) : Zeroed a c := ⟨g.roots, g.latch, g.vigil.trans h⟩

/-- Behind a run of zeroing each strand named is zeroed. -/
theorem foldl_vigilZero (src : Nat) (l : List (Fin 4)) (s : State) :
    ((l.foldl (fun s m => s.vigilZero m src) s).mem = s.mem ∧ (l.foldl (fun s m => s.vigilZero m src) s).now = s.now)
      ∧ ∀ m, (m ∈ l → Zeroed (s.sd m) ((l.foldl (fun s m => s.vigilZero m src) s).sd m))
        ∧ (m ∉ l → (l.foldl (fun s m => s.vigilZero m src) s).sd m = s.sd m) := by
  induction l generalizing s with
  | nil => exact ⟨⟨rfl, rfl⟩, fun m => ⟨fun h => absurd h (by simp), fun _ => rfl⟩⟩
  | cons c r ih =>
    obtain ⟨hmem, hsd⟩ := ih (s.vigilZero c src)
    refine ⟨hmem, fun m => ⟨fun h => ?_, fun h => ?_⟩⟩
    · by_cases hr : m ∈ r
      · have hz := (hsd m).1 hr
        by_cases hc : m = c
        · subst hc
          exact zeroed_trans (vigilZero_same s m src).vigil hz
        · rwa [vigilZero_other s src hc] at hz
      · obtain rfl : m = c := (List.mem_cons.mp h).resolve_right hr
        rw [List.foldl_cons, (hsd m).2 hr]
        exact vigilZero_same s m src
    · obtain ⟨hc, hr⟩ := not_or.mp (List.mem_cons.not.mp h)
      exact ((hsd m).2 hr).trans (vigilZero_other s src hc)

/-- The strand with an entry in its Vigil record. -/
def noted (st : Strand) (e : VigilEntry) : Strand := { st with nv := { st.nv with vigil := st.nv.vigil ++ [e] } }

/-- An entry that finds room stands; its rank says what is zeroed. -/
theorem vigilOne_room {s : State} {n : Fin 4} (src det : Nat) (h : (s.sd n).nv.vigil.length < 16) :
    let e : VigilEntry := ⟨src, det, vigilRank (s.sd n) src, (s.sd n).deviceTime s.now⟩
    let t := s.vigilOne n src det
    (t.mem = s.mem ∧ t.now = s.now) ∧ (t.sd n).nv.vigil = (s.sd n).nv.vigil ++ [e]
      ∧ (e.rank ≤ 3 → (t.sd n).nv.roots = (s.sd n).nv.roots ∧ (t.sd n).nv.latch = (s.sd n).nv.latch)
      ∧ (e.rank = 4 → (t.sd n).nv.roots = [] ∧ (t.sd n).nv.latch = true)
      ∧ (e.rank = 5 → ∀ m, (t.sd m).nv.roots = [] ∧ (t.sd m).nv.latch = true) := by
  intro e t
  let u := s.up n fun st => noted st e
  have hsd : u.sd n = noted (s.sd n) e := sd_up_same ..
  have ht : t = if e.rank = 4 then u.vigilZero n src else if e.rank = 5 then [0, 1, 2, 3].foldl (fun s m => s.vigilZero m src) u else u := by
    have hu : u = s.setSd n (noted (s.sd n) e) := rfl
    simp only [t, vigilOne, up, h, if_true]
    rfl
  rw [ht]
  have hmem : u.mem = s.mem ∧ u.now = s.now := ⟨rfl, rfl⟩
  clear_value u
  by_cases h4 : e.rank = 4
  · obtain ⟨hroots, hlatch, hvigil⟩ := vigilZero_same u n src
    rw [if_pos h4]
    exact ⟨hmem, hvigil.trans (by rw [hsd]; rfl), fun h => absurd h (by omega), fun _ => ⟨hroots, hlatch⟩, fun h => absurd h (by omega)⟩
  · rw [if_neg h4]
    by_cases h5 : e.rank = 5
    · obtain ⟨hmem', hall⟩ := foldl_vigilZero src [0, 1, 2, 3] u
      have hz (m : Fin 4) := (hall m).1 (by revert m; decide)
      rw [if_pos h5]
      exact ⟨⟨hmem'.1.trans hmem.1, hmem'.2.trans hmem.2⟩, (hz n).vigil.trans (by rw [hsd]; rfl), fun h => absurd h (by omega), fun h => absurd h h4,
        fun _ m => ⟨(hz m).roots, (hz m).latch⟩⟩
    · rw [if_neg h5, hsd]
      exact ⟨hmem, rfl, fun _ => ⟨rfl, rfl⟩, fun h => absurd h h4, fun h => absurd h h5⟩

/-- An event that both detectors found is one entry. -/
theorem vigilEvent_agreed {s : State} {n : Fin 4} {src : Nat} (h : ¬ bit ((s.sd n).get R.JSP_FUSE_OFF_FUSED) src = true) :
    s.vigilEvent n src 3 = s.vigilOne n src 3 := by
  rw [vigilEvent, if_neg h]
  rfl

/-- An event that one detector found alone is two. -/
theorem vigilEvent_alone {s : State} {n : Fin 4} {src : Nat} (h : ¬ bit ((s.sd n).get R.JSP_FUSE_OFF_FUSED) src = true) :
    s.vigilEvent n src 1 = (s.vigilOne n src 1).vigilOne n 13 1 := by
  rw [vigilEvent, if_neg h]
  rfl

end State

/-! ### VIGIL_SAMPLE and VIGIL_SAMPLE_REPEAT, R595 -/

theorem exec_vigilSample (n : Fin 4) (v : Nat) (found : List (Nat × Nat)) (s : State) :
    exec (.vigilSample n v found) s = execVigilSample n v found s := rfl

theorem exec_vigilSampleRepeat (n : Fin 4) (v : Nat) (found : List (Nat × Nat)) (s : State) :
    exec (.vigilSampleRepeat n v found) s = execVigilSampleRepeat n v found s := rfl

/-- What a sample counts as found, R595: TAMP_IN only where the cell's settings watch it. -/
def vigilFound (st : Strand) (found : List (Nat × Nat)) : List (Nat × Nat) :=
  found.filter fun x => [1, 2, 3, 6, 9].contains x.1 && x.2 % 4 != 0 && !bit (st.get R.JSP_FUSE_OFF_FUSED) x.1 && (x.1 != 9 || st.nv.vigilTamp != 0)

section
variable {s : State} {n : Fin 4} {v : Nat}

theorem exec_vigilSample_weak (found : List (Nat × Nat)) (hv : v < 2000) : exec (.vigilSample n v found) s = .next s := by
  rw [exec_vigilSample, execVigilSample]
  exact if_pos (.inr hv)

/-- A sample is kept until it is repeated, and changes nothing else. -/
theorem vigilSample_kept {found l : List (Nat × Nat)} (hm : (s.sd n).mode = 0) (hv : 2000 ≤ v) (hf : vigilFound (s.sd n) found = l) :
    ∃ t, exec (.vigilSample n v found) s = .next t ∧ Aside s t n ∧ t.now = s.now
      ∧ (t.sd n).jsp.sample = (if l.isEmpty then none else some (l, s.now)) ∧ (t.sd n).nv = (s.sd n).nv := by
  have he : exec (.vigilSample n v found) s
      = .next (s.setSd n ((s.sd n).upJsp fun j => { j with sample := if l.isEmpty then none else some (l, s.now) })) := by
    subst hf
    rw [exec_vigilSample, execVigilSample]
    exact if_neg (by omega)
  refine ⟨_, he, aside_setSd .., rfl, ?_⟩
  rw [State.sd_setSd_same]
  exact ⟨rfl, rfl⟩

/-- Where nothing counts as found, no sample is kept. -/
theorem vigilSample_clear {found : List (Nat × Nat)} (hm : (s.sd n).mode = 0) (hv : 2000 ≤ v) (hf : vigilFound (s.sd n) found = []) :
    ∃ t, exec (.vigilSample n v found) s = .next t ∧ Aside s t n ∧ (t.sd n).jsp.sample = none ∧ (t.sd n).nv = (s.sd n).nv ∧ t.now = s.now := by
  obtain ⟨t, he, haside, hnow, hsample, hnv⟩ := vigilSample_kept hm hv hf
  exact ⟨t, he, haside, hsample, hnv, hnow⟩

/-- TAMP_IN is not watched where the cell's settings leave it out. -/
theorem vigilFound_tamp {st : Strand} (h : st.nv.vigilTamp = 0) : vigilFound st [(9, 3)] = [] := by simp [vigilFound, h]

theorem vigilFound_one {st : Strand} {src det : Nat} (hs : src ∈ [1, 2, 3, 6]) (ho : ¬ bit (st.get R.JSP_FUSE_OFF_FUSED) src = true)
    (hd : det = 1 ∨ det = 2 ∨ det = 3) : vigilFound st [(src, det)] = [(src, det)] := by
  have hwatched : [1, 2, 3, 6, 9].contains src = true ∧ src ≠ 9 := by
    simp only [List.mem_cons, List.not_mem_nil, or_false] at hs
    obtain rfl | rfl | rfl | rfl := hs <;> decide
  have hdet : det % 4 ≠ 0 := by omega
  refine List.filter_eq_self.mpr fun x hx => ?_
  obtain rfl := List.mem_singleton.mp hx
  simp only [hwatched, bne_iff_ne.mpr hdet, bne_iff_ne.mpr hwatched.2, Bool.not_eq_true _ ▸ ho, Bool.and_true, Bool.not_false, Bool.true_or]

/-- A finding is kept for the repeat. -/
theorem vigilSample_finds {src det : Nat} (hm : (s.sd n).mode = 0) (hv : 2000 ≤ v) (hs : src ∈ [1, 2, 3, 6])
    (ho : ¬ bit ((s.sd n).get R.JSP_FUSE_OFF_FUSED) src = true) (hd : det = 1 ∨ det = 2 ∨ det = 3) :
    ∃ t, exec (.vigilSample n v [(src, det)]) s = .next t ∧ Aside s t n ∧ (t.sd n).jsp.sample = some ([(src, det)], s.now)
      ∧ (t.sd n).nv = (s.sd n).nv := by
  obtain ⟨t, he, haside, -, hsample, hnv⟩ := vigilSample_kept hm hv (vigilFound_one hs ho hd)
  exact ⟨t, he, haside, hsample, hnv⟩

theorem exec_vigilSampleRepeat_none (found : List (Nat × Nat)) (h : (s.sd n).jsp.sample = none) : exec (.vigilSampleRepeat n v found) s = .next s := by
  rw [exec_vigilSampleRepeat, execVigilSampleRepeat, h]

/-- The state in which what both samples found counts. -/
def repeated (s : State) (n : Fin 4) (w : Nat) : State := (s.upTo (w + 1000000)).up n fun st => st.upJsp fun j => { j with sample := none }

theorem exec_vigilSampleRepeat_counts {f : List (Nat × Nat)} {w : Nat} (found : List (Nat × Nat)) (h : (s.sd n).jsp.sample = some (f, w))
    (hm : (s.sd n).mode = 0) (hv : 2000 ≤ v) :
    exec (.vigilSampleRepeat n v found) s
      = .next ((found.filter fun x => x.2 % 4 != 0 && f.any (·.1 == x.1)).foldl (fun s x => s.vigilEvent n x.1 (x.2 % 4)) (repeated s n w)) := by
  rw [exec_vigilSampleRepeat, execVigilSampleRepeat, h]
  dsimp only
  rw [if_neg (by omega), if_neg (by omega)]
  rfl

theorem repeated_sd (w : Nat) : (repeated s n w).sd n = (s.sd n).upJsp fun j => { j with sample := none } := State.sd_up_same ..

theorem vigilSampleRepeat_clears {f : List (Nat × Nat)} {w : Nat} (h : (s.sd n).jsp.sample = some (f, w)) (hm : (s.sd n).mode = 0) (hv : 2000 ≤ v) :
    ∃ t, exec (.vigilSampleRepeat n v []) s = .next t ∧ Aside s t n ∧ (t.sd n).jsp.sample = none ∧ (t.sd n).nv = (s.sd n).nv
      ∧ t.now = max s.now (w + 1000000) := by
  have he := exec_vigilSampleRepeat_counts [] h hm hv
  rw [List.filter_nil, List.foldl_nil] at he
  refine ⟨_, he, aside_trans (aside_upTo s _ n) (aside_up ..), ?_⟩
  rw [repeated_sd]
  exact ⟨rfl, rfl, rfl⟩

/-- A finding that the repeat confirms counts. -/
theorem exec_vigilSampleRepeat_confirms {src det d w : Nat} (h : (s.sd n).jsp.sample = some ([(src, det)], w)) (hm : (s.sd n).mode = 0) (hv : 2000 ≤ v)
    (hd : d % 4 ≠ 0) :
    exec (.vigilSampleRepeat n v [(src, d)]) s = .next ((repeated s n w).vigilEvent n src (d % 4)) := by
  rw [exec_vigilSampleRepeat_counts _ h hm hv]
  simp [hd]

/-- Both detectors again: one entry, and what its rank asks for. -/
theorem vigilSampleRepeat_agreed {src det w : Nat} (h : (s.sd n).jsp.sample = some ([(src, det)], w)) (hm : (s.sd n).mode = 0) (hv : 2000 ≤ v)
    (ho : ¬ bit ((s.sd n).get R.JSP_FUSE_OFF_FUSED) src = true) (hl : (s.sd n).nv.vigil.length < 16) :
    ∃ t, exec (.vigilSampleRepeat n v [(src, 3)]) s = .next t
      ∧ (t.sd n).nv.vigil = (s.sd n).nv.vigil ++ [⟨src, 3, State.vigilRank (s.sd n) src, (s.sd n).deviceTime t.now⟩] ∧ t.mem = s.mem
      ∧ (State.vigilRank (s.sd n) src ≤ 3 → (t.sd n).nv.roots = (s.sd n).nv.roots ∧ (t.sd n).nv.latch = (s.sd n).nv.latch)
      ∧ (State.vigilRank (s.sd n) src = 4 → (t.sd n).nv.roots = [] ∧ (t.sd n).nv.latch = true)
      ∧ (State.vigilRank (s.sd n) src = 5 → ∀ m, (t.sd m).nv.roots = [] ∧ (t.sd m).nv.latch = true) := by
  have hsd := repeated_sd (s := s) (n := n) w
  have hmem : (repeated s n w).mem = s.mem := rfl
  have hexec := exec_vigilSampleRepeat_confirms (d := 3) h hm hv (by decide)
  generalize repeated s n w = u at hsd hexec hmem
  have hl' : (u.sd n).nv.vigil.length < 16 := by rw [hsd]; exact hl
  have ho' : ¬ bit ((u.sd n).get R.JSP_FUSE_OFF_FUSED) src = true := by rw [hsd]; exact ho
  obtain ⟨⟨hmem', hnow⟩, hvigil, hlow, hfour, hfive⟩ := State.vigilOne_room src 3 hl'
  rw [State.vigilEvent_agreed ho'] at hexec
  rw [hsd] at hvigil hlow hfour hfive
  refine ⟨_, hexec, ?_, hmem'.trans hmem, hlow, hfour, hfive⟩
  rw [hnow]
  exact hvigil

/-- One detector alone: an entry of its own, and one of DETECTOR_DISAGREE. -/
theorem vigilSampleRepeat_alone {src det w : Nat} (h : (s.sd n).jsp.sample = some ([(src, det)], w)) (hm : (s.sd n).mode = 0) (hv : 2000 ≤ v)
    (ho : ¬ bit ((s.sd n).get R.JSP_FUSE_OFF_FUSED) src = true) (hl : (s.sd n).nv.vigil.length < 15) :
    ∃ t, exec (.vigilSampleRepeat n v [(src, 1)]) s = .next t
      ∧ ∃ a b : VigilEntry, (t.sd n).nv.vigil = (s.sd n).nv.vigil ++ [a, b] ∧ a.src = src ∧ b.src = 13 := by
  have hsd := repeated_sd (s := s) (n := n) w
  have hexec := exec_vigilSampleRepeat_confirms (d := 1) h hm hv (by decide)
  generalize repeated s n w = u at hsd hexec
  have hl' : (u.sd n).nv.vigil.length < 16 := by rw [hsd]; exact Nat.lt_succ_of_lt hl
  obtain ⟨-, hfirst, -⟩ := State.vigilOne_room src 1 hl'
  have hl'' : (((u.vigilOne n src 1).sd n).nv.vigil).length < 16 := by
    rw [hfirst, hsd]
    simpa [Strand.upJsp] using Nat.succ_lt_succ hl
  obtain ⟨-, hsecond, -⟩ := State.vigilOne_room 13 1 hl''
  have ho' : ¬ bit ((u.sd n).get R.JSP_FUSE_OFF_FUSED) src = true := by rw [hsd]; exact ho
  rw [State.vigilEvent_alone (by exact ho')] at hexec
  rw [hfirst, List.append_assoc, hsd] at hsecond
  exact ⟨_, hexec, _, _, hsecond, rfl, rfl⟩

end

end Sys2Proof.Machine
end


section
/-! SUPPORT. The event log, the cell-change window and the crystal (R601, R602, R663). -/

namespace Sys2Proof.Machine
open Sys2Proof Sys2Proof.Claims

/-! ### EVENT_LOG_WRITE, R602 -/

theorem length_toLE (n v : Nat) : (toLE n v).length = n := by
  induction n generalizing v with
  | zero => rfl
  | succ n ih => exact congrArg (· + 1) (ih _)

theorem length_logBody (seq group : Nat) (r : LogRec) : (logBody seq group r).length = 24 := by
  simp only [logBody, List.length_append, length_toLE]

/-- The log that takes another record: the oldest block goes where no room is left. -/
def logRoom (l : List (Nat × Bytes)) : List (Nat × Bytes) := if l.length ≥ 131072 then l.drop 2048 else l

/-- A record joins the log with its number, its source and its CHECK. -/
theorem Strand.logAppend_spec (st : Strand) (r : LogRec) :
    (st.logAppend r).jsp.logQ = st.jsp.logQ ∧ (st.logAppend r).nv.evSeq = (st.nv.evSeq + 1) % 2 ^ 32
      ∧ (∀ o, o ≠ 0x100001C → (st.logAppend r).rd o = st.rd o)
      ∧ ∃ b, (st.logAppend r).nv.evlog = logRoom st.nv.evlog ++ [(st.nv.evSeq, b)] ∧ b.length = 32
        ∧ b.take 5 = toLE 4 st.nv.evSeq ++ toLE 1 r.f.src := by
  unfold logAppend
  extract_lets seq group body check old x y
  have hy : Shown (· ≠ 0x100001C) x y := (Shown.refl x).put _ _ (by decide)
  have hx : x.jsp.logQ = st.jsp.logQ := rfl
  have hlen : body.length = 24 := length_logBody ..
  have htake : body.take 5 = toLE 4 seq ++ toLE 1 r.f.src := rfl
  have hcheck : check.length = 8 := by simp [check, bvBytes, toBE, length_toLE]
  have hrd (o : Nat) (ho : o ≠ 0x100001C) : y.rd o = x.rd o := hy.rd o ho
  have hq : y.jsp.logQ = x.jsp.logQ := congrArg Jsp.logQ hy.jsp
  clear_value body check y
  refine ⟨hq.trans hx, rfl, hrd, body ++ check, rfl, by simp [hlen, hcheck], ?_⟩
  rw [List.take_append_of_le_length (by omega), htake]

theorem exec_eventLogWrite (n : Fin 4) (ok chainOk : Bool) (s : State) :
    exec (.eventLogWrite n ok chainOk) s = execEventLogWrite n ok s chainOk := rfl

section
variable {s : State} {n : Fin 4} {r : LogRec} {rest : List LogRec}

/-- The strand once the record before has been checked. -/
def chained (st : Strand) (r : LogRec) (chainOk : Bool) : Strand := if chainOk then st else st.jspErr 4 r.f.src r.f.island

theorem exec_eventLogWrite_some (hm : (s.sd n).mode ≠ 0) (h : (s.sd n).jsp.logQ = r :: rest) (ok chainOk : Bool) :
    exec (.eventLogWrite n ok chainOk) s
      = .next (s.setSd n (if ok then ((chained (s.sd n) r chainOk).upJsp fun j => { j with logQ := rest }).logAppend r
          else (chained (s.sd n) r chainOk).jspErr 2 r.f.src r.f.island)) := by
  rw [exec_eventLogWrite, execEventLogWrite, h]
  dsimp only
  rw [if_neg hm]
  rfl

/-- A record that is written leaves the queue. -/
theorem eventLogWrite_written (hm : (s.sd n).mode ≠ 0) (h : (s.sd n).jsp.logQ = r :: rest) :
    ∃ t, exec (.eventLogWrite n true) s = .next t ∧ Aside s t n ∧ (t.sd n).jsp.logQ = rest ∧ (t.sd n).nv.evSeq = ((s.sd n).nv.evSeq + 1) % 2 ^ 32
      ∧ ∃ b, (t.sd n).nv.evlog = logRoom (s.sd n).nv.evlog ++ [((s.sd n).nv.evSeq, b)] ∧ b.length = 32
        ∧ b.take 5 = toLE 4 (s.sd n).nv.evSeq ++ toLE 1 r.f.src := by
  obtain ⟨hq, hseq, -, hlog⟩ := ((s.sd n).upJsp fun j => { j with logQ := rest }).logAppend_spec r
  have hexec := exec_eventLogWrite_some hm h true true
  rw [if_pos rfl, show chained (s.sd n) r true = s.sd n from rfl] at hexec
  refine ⟨_, hexec, aside_setSd .., ?_⟩
  rw [State.sd_setSd_same]
  exact ⟨hq, hseq, hlog⟩

/-- A record that is not written waits, and the failure is recorded. -/
theorem eventLogWrite_failed (hm : (s.sd n).mode ≠ 0) (h : (s.sd n).jsp.logQ = r :: rest) (chainOk : Bool) :
    ∃ t, exec (.eventLogWrite n false chainOk) s = .next t ∧ Aside s t n ∧ (t.sd n).jsp.logQ = (s.sd n).jsp.logQ ∧ (t.sd n).nv = (s.sd n).nv
      ∧ (t.sd n).flag R.JSP_ERR_VALID = true := by
  have hc : (chained (s.sd n) r chainOk).jsp = (s.sd n).jsp ∧ (chained (s.sd n) r chainOk).nv = (s.sd n).nv := by
    unfold chained
    split
    · exact ⟨rfl, rfl⟩
    · exact ⟨(Strand.jspErr_shown ..).jsp, (Strand.jspErr_shown ..).nv⟩
  have hshown := Strand.jspErr_shown (chained (s.sd n) r chainOk) 2 r.f.src r.f.island
  refine ⟨_, exec_eventLogWrite_some hm h false chainOk, aside_setSd .., ?_⟩
  rw [State.sd_setSd_same]
  exact ⟨congrArg _ (hshown.jsp.trans hc.1), hshown.nv.trans hc.2, Strand.jspErr_flag ..⟩

/-- A later fault leaves the record of the first. -/
theorem Strand.jspErr_later {st : Strand} (h : st.flag R.JSP_ERR_VALID = true) (code src island : Nat) :
    (st.jspErr code src island).get R.JSP_ERR_CODE = st.get R.JSP_ERR_CODE := by
  have e : st.jspErr code src island = st.bump R.JSP_ERR_OVERFLOW := if_pos h
  rw [e]
  exact get_put_apart st _ rfl (by decide) (by decide)

/-- A break of the chain is recorded, whether or not the record is written. -/
theorem eventLogWrite_broken (hm : (s.sd n).mode ≠ 0) (h : (s.sd n).jsp.logQ = r :: rest) (hv : (s.sd n).flag R.JSP_ERR_VALID = false) (ok : Bool) :
    ∃ t, exec (.eventLogWrite n ok false) s = .next t ∧ Aside s t n ∧ (t.sd n).flag R.JSP_ERR_VALID = true ∧ (t.sd n).get R.JSP_ERR_CODE = 4
      ∧ (ok = true → (t.sd n).jsp.logQ = rest) := by
  obtain ⟨hflag, hcode⟩ := Strand.jspErr_first (code := 4) (src := r.f.src) (island := r.f.island) hv
  have hexec := exec_eventLogWrite_some hm h ok false
  rw [show chained (s.sd n) r false = (s.sd n).jspErr 4 r.f.src r.f.island from rfl] at hexec
  generalize (s.sd n).jspErr 4 r.f.src r.f.island = x at hflag hcode hexec
  refine ⟨_, hexec, aside_setSd .., ?_⟩
  rw [State.sd_setSd_same]
  cases ok with
  | true =>
    obtain ⟨hq, -, hrd, -⟩ := (x.upJsp fun j => { j with logQ := rest }).logAppend_spec r
    have he : (((x.upJsp fun j => { j with logQ := rest }).logAppend r).rd 0x1000044) = x.rd 0x1000044 := hrd _ (by decide)
    exact ⟨(congrArg (fun w => R.JSP_ERR_VALID.ofWord w == 1) he).trans hflag, (congrArg R.JSP_ERR_CODE.ofWord he).trans hcode, fun _ => hq⟩
  | false => exact ⟨Strand.jspErr_flag .., (Strand.jspErr_later hflag ..).trans hcode, fun h => absurd h (by decide)⟩

end

/-! ### CELL_WINDOW_CLOSE, R601 -/

theorem exec_cellWindowClose (n : Fin 4) (v : Nat) (s : State) : exec (.cellWindowClose n v) s = execCellWindowClose n v s := rfl

/-- The strand once its window is closed. -/
def Strand.windowShut (st : Strand) : Strand := (st.put R.JSP_CELL_WINDOW_OPEN 0).upJsp fun j => { j with window := none }

theorem Strand.countEvent_window (st : Strand) {t src det island reading : Nat} (hs : src ≤ 15) :
    (st.countEvent t src det island reading).jsp.window = st.jsp.window := by
  by_cases h : bit (st.get R.JSP_FUSE_OFF_FUSED) src = true
  · rw [countEvent_fused h]; rfl
  · obtain ⟨hist, e, -⟩ | ⟨hist, e, -⟩ := countEvent_cases h hs t det island reading
    · rw [e, fire_window]; rfl
    · rw [e]; rfl

theorem Strand.eventFiring_note {st : Strand} (h : st.jsp.window = none) (t src det island reading : Nat) :
    (st.eventFiring t src det island reading).note = false := by
  have hw : (st.bump R.JSP_SRC_CNT_EVENTS src).jsp.window = none := h
  simp only [eventFiring, firingOf, hw, Option.isSome_none, Bool.and_false, Bool.false_and]

theorem Strand.windowShut_eq (st : Strand) :
    ∃ x : Strand, Shown (· ≠ 0x1000018) st x ∧ x.get R.JSP_CELL_WINDOW_OPEN = 0 ∧ x.get R.JSP_CELL_VBAT = st.get R.JSP_CELL_VBAT
      ∧ st.windowShut = x.upJsp fun j => { j with window := none } :=
  ⟨st.put R.JSP_CELL_WINDOW_OPEN 0, (Shown.refl st).put _ _ (by decide), get_put_same _ _ _ _ (by decide),
    get_put_apart _ _ rfl (by decide) (by decide), rfl⟩

/-- A window that shuts shows, and leaves the voltage and the events. -/
theorem Strand.windowShut_spec (st : Strand) :
    st.windowShut.jsp.window = none ∧ st.windowShut.flag R.JSP_CELL_WINDOW_OPEN = false
      ∧ st.windowShut.get R.JSP_CELL_VBAT = st.get R.JSP_CELL_VBAT ∧ st.windowShut.jsp.events = st.jsp.events
      ∧ st.windowShut.get R.JSP_FUSE_OFF_FUSED = st.get R.JSP_FUSE_OFF_FUSED := by
  obtain ⟨x, hx, hopen, hvbat, e⟩ := windowShut_eq st
  have hev : x.jsp.events = st.jsp.events := congrArg Jsp.events hx.jsp
  have hoff : x.get R.JSP_FUSE_OFF_FUSED = st.get R.JSP_FUSE_OFF_FUSED := hx.get _ (by decide)
  rw [e]
  exact ⟨rfl, congrArg (· == 1) hopen, hvbat, hev, hoff⟩

/-- The window closes, the voltage shows, and an absent cell is an event. -/
theorem cellWindowClose_shuts {s : State} {n : Fin 4} {w v : Nat} (h : (s.sd n).jsp.window = some w) (hv : v < 4096) :
    ∃ t, exec (.cellWindowClose n v) s = .next t ∧ (t.sd n).jsp.window = none ∧ (t.sd n).flag R.JSP_CELL_WINDOW_OPEN = false
      ∧ (t.sd n).get R.JSP_CELL_VBAT = v ∧ t.now = (if (s.sd n).mode = 5 then max s.now w else s.now)
      ∧ (v ≠ 0 → (t.sd n).jsp.events = (s.sd n).jsp.events)
      ∧ (v = 0 → ¬ bit ((s.sd n).get R.JSP_FUSE_OFF_FUSED) 10 = true →
        ∃ f : Firing, f.src = 10 ∧ f.note = false ∧ (t.sd n).jsp.events.head? = some f) := by
  have hexec : exec (.cellWindowClose n v) s = .next (
      let u := ((if (s.sd n).mode = 5 then s.upTo w else s).vbat n v).up n Strand.windowShut
      if v = 0 then u.up n fun st => st.countEvent u.now 10 1 0xFF 0 else u) := by
    rw [exec_cellWindowClose, execCellWindowClose, h]
    rfl
  have hsd : (if (s.sd n).mode = 5 then s.upTo w else s).sd n = s.sd n := by split <;> rfl
  have hnow : (if (s.sd n).mode = 5 then s.upTo w else s).now = if (s.sd n).mode = 5 then max s.now w else s.now := by split <;> rfl
  generalize (if (s.sd n).mode = 5 then s.upTo w else s) = s' at hexec hsd hnow
  rw [← State.vbat_now s' n v] at hnow
  have hcell := Strand.cellMeasured_shown (s.sd n) v
  obtain ⟨hwin, hopen, hvbat, hev, hoff⟩ := Strand.windowShut_spec ((s.sd n).cellMeasured v)
  rw [Strand.cellMeasured_vbat _ hv] at hvbat
  rw [hcell.jsp] at hev
  rw [hcell.get _ (by decide)] at hoff
  have hz : ((s'.vbat n v).up n Strand.windowShut).sd n = ((s.sd n).cellMeasured v).windowShut := by rw [State.sd_up_same, State.vbat_sd, hsd]
  rw [← hz] at hwin hopen hvbat hev hoff
  rw [← State.up_now (s'.vbat n v) n Strand.windowShut] at hnow
  generalize (s'.vbat n v).up n Strand.windowShut = u at hexec hwin hopen hvbat hev hoff hnow
  refine ⟨_, hexec, ?_⟩
  extract_lets
  split
  · next h0 =>
    rw [State.sd_up_same]
    refine ⟨(Strand.countEvent_window _ (by decide)).trans hwin, (congrArg (· == 1) (Strand.countEvent_get _ (by decide) (by decide))).trans hopen,
      (Strand.countEvent_get _ (by decide) (by decide)).trans hvbat, hnow, fun h => absurd h0 h, fun _ ho => ?_⟩
    exact ⟨_, rfl, Strand.eventFiring_note hwin .., Strand.countEvent_head (by rw [hoff]; exact ho) (by decide) ..⟩
  · next h0 => exact ⟨hwin, hopen, hvbat, hnow, fun _ => hev, fun h => absurd h h0⟩

/-! ### CRYSTAL_STOP, R663 -/

theorem exec_crystalStop (s : State) : exec .crystalStop s = .next { s with ring := { s.ring with xtalStopped := true } } := rfl

end Sys2Proof.Machine
end


section
/-! O54: the sentinel's events, its alarms and the erase, Vigil, the event log and the cell. -/

namespace Sys2Proof.Machine
open Sys2Proof Sys2Proof.Claims

/-- Settles O54: a clause each for what an event counts and fires, the response to an alarm by its rank, the erase, and Vigil; a report, an
injected event and a request wire come down to one event of a source. -/
theorem sentinelEventsAlarmsAndErase : Obligations.SentinelEventsAlarmsAndErase := by
  unfold Obligations.SentinelEventsAlarmsAndErase
  intro s n frm src i v det x j Goes Alone Off Is Rises
  refine ⟨fun hm h1 h11 ht ho => ⟨fun hw => detectorReport_fires hm h1 h11 ht ho hw i v,
      fun hw hn hh => detectorReport_held hm h1 h11 ht ho hw hn hh i v,
      fun hw ho' hd => detectorReport_alone hm h1 h11 ht ho hw ho' hd i v⟩,
    fun ch => exec_detectorReport_none n src i v ch s,
    fun ch hm hi _ hv hv' hd _ => ⟨fun hs => detectorReport_islErr hm hi hv hd hs v ch, fun hs hi => ?_⟩,
    fun hm c hkey hlo hhi hdet ho => ?_,
    fun hm ho hw => eraseRequestReceived_fires hm ho hw,
    exec_eraseRequestReceived_quiet,
    fun hm fs ha hne hfs => alarmDecision_shows hm ha hne hfs,
    fun hm _ he _ _ f ha hnote _ hs => ?_,
    exec_alarmDecision_none,
    fun w hw => throttleExpired_returns hw,
    exec_throttleExpired_none,
    ?_,
    exec_eraseDecision_none,
    fun w hw hh => eraseLineRelease_stays hw hh,
    fun w hw => eraseLineRelease_falls hw,
    exec_eraseLineRelease_none,
    fun hm hv => ?_,
    exec_vigilSample_weak _,
    exec_vigilSampleRepeat_none _,
    fun hm r rest hq => ?_,
    fun w hw hv => cellWindowClose_shuts hw hv,
    ⟨_, exec_crystalStop s, rfl, rfl⟩⟩
  · subst hs hi
    exact detectorReport_jspErr hm hv' hd v
  · have h : Injects v := ⟨hkey, hlo, hhi, hdet⟩
    exact ⟨fun hl hw => jspInjectWrite_fires h hm c ho hl hw, fun hl => jspInjectWrite_logs h hm c ho hl, exec_jspInjectWrite_other n c v s⟩
  · obtain ⟨t, hexec, hsrc, hfence, hans⟩ := alarmDecision_answers hm he ha hnote hs
    exact ⟨t, hexec, hsrc, hfence, fun hnone =>
      let h := hans hnone
      ⟨h.noted, h.throttle, h.unspared, h.halt, h.erase, h.eraseAll⟩⟩
  · intro e he hc hc' hs hm hm' Erased cut
    have herased {t : State} (h : ErasedNow s t n e) : Erased t (t.sd n) :=
      ⟨h.mode, h.latch, h.roots, h.vault, h.zeroised, h.batches, h.quar, h.keyBus, h.links, h.erase, h.line, h.mem, h.cause, h.source⟩
    refine ⟨?_, fun ht => eraseDecision_asked he hm ht cut, fun ht => ?_⟩
    · obtain ⟨t, hexec, h, htries⟩ := eraseDecision_agreed he hc hc' hs hm hm' cut
      exact ⟨t, hexec, herased h, htries⟩
    · obtain ⟨t, hexec, h, htries⟩ := eraseDecision_overruled he hc hc' hs hm hm' ht cut
      exact ⟨t, hexec, herased h, htries⟩
  · refine ⟨vigilSample_clear hm hv rfl, fun htamp => ?_, fun hs ho hd => ⟨vigilSample_finds hm hv hs ho hd, fun w hw => ?_⟩⟩
    · obtain ⟨t, hexec, haside, hsample, hnv, -⟩ := vigilSample_clear hm hv (vigilFound_tamp htamp)
      exact ⟨t, hexec, haside, hsample, hnv⟩
    · exact ⟨vigilSampleRepeat_clears hw hm hv, vigilSampleRepeat_agreed hw hm hv ho, vigilSampleRepeat_alone hw hm hv ho⟩
  · obtain ⟨t, hexec, haside, hrest, hseq, b, hlog, hlen, htake⟩ := eventLogWrite_written hm hq
    refine ⟨fun hl => ?_, fun hl => ?_, eventLogWrite_failed hm hq, fun hv => eventLogWrite_broken hm hq hv⟩
    · rw [logRoom, if_neg (Nat.not_le.mpr hl)] at hlog
      exact ⟨t, hexec, haside, hrest, hseq, b, hlog, hlen, htake⟩
    · rw [logRoom, if_pos hl] at hlog
      exact ⟨t, hexec, haside, b, hlog⟩

end Sys2Proof.Machine
end

section
/-! O60: the fuses of the life-cycle state. Every operation of the model keeps them, but those that take the state a step on; those blow bits and clear none. -/

namespace Sys2Proof.Machine
open Sys2Proof Sys2Proof.Claims

/-- What every step but those of the life-cycle state keeps: the fuses of that state and the commands that wait. -/
def State.lasting (s : State) : LifeFuses × List Instr := (s.ring.ident.life, s.pending)

/-- What an outcome that is a next state keeps. -/
def lastingOf : Host.Outcome State Fault Refusal → Option (LifeFuses × List Instr)
  | .next s => some s.lasting
  | _ => none

@[simp] theorem lastingOf_next (s : State) : lastingOf (.next s) = some s.lasting := rfl
@[simp] theorem lastingOf_ite (c : Prop) [Decidable c] (a b) :
    lastingOf (if c then a else b) = if c then lastingOf a else lastingOf b := apply_ite ..

@[simp] theorem lasting_ite (c : Prop) [Decidable c] (a b : State) :
    (if c then a else b).lasting = if c then a.lasting else b.lasting := apply_ite ..

@[simp] theorem foldl_lasting {α : Type} {f : State → α → State} (h : ∀ s a, (f s a).lasting = s.lasting) (l : List α) (s : State) :
    (l.foldl f s).lasting = s.lasting := by
  induction l generalizing s with
  | nil => rfl
  | cons a l ih => rw [List.foldl_cons, ih, h]

@[simp] theorem State.setSd_lasting (s : State) (n : Fin 4) (st : Strand) : (s.setSd n st).lasting = s.lasting := rfl
@[simp] theorem State.up_lasting (s : State) (n : Fin 4) (f : Strand → Strand) : (s.up n f).lasting = s.lasting := rfl
@[simp] theorem State.upAll_lasting (s : State) (f : Strand → Strand) : (s.upAll f).lasting = s.lasting := rfl
@[simp] theorem State.upTo_lasting (s : State) (t : Nat) : (s.upTo t).lasting = s.lasting := rfl
@[simp] theorem State.rwr_lasting (s : State) (o : Nat) (w : Word) : (s.rwr o w).lasting = s.lasting := rfl

@[simp] theorem State.upR_lasting (s : State) {f : Ring → Ring} (h : ∀ r, (f r).ident.life = r.ident.life) : (s.upR f).lasting = s.lasting :=
  congrArg (·, s.pending) (h s.ring)

@[simp] theorem lasting_mk (s : State) (t : Nat) (v : Vector Strand 4) (m : List Host.Cell) (r : Resp) :
    State.lasting { now := t, strands := v, ring := s.ring, mem := m, resp := r, pending := s.pending } = s.lasting := rfl

/-! ### Kept by the operations of Machine/Ops.lean -/

namespace State

@[simp] theorem rput_lasting (s f v k) : (rput s f v k).lasting = s.lasting := by simp [rput]
@[simp] theorem radd_lasting (s f n k) : (radd s f n k).lasting = s.lasting := by simp [radd]
@[simp] theorem rbump_lasting (s f k) : (rbump s f k).lasting = s.lasting := by simp [rbump]

@[simp] theorem rnoteErr_lasting {s valid code ovf c info} (hw : ∀ s, (info s).lasting = s.lasting) :
    (rnoteErr s valid code ovf c info).lasting = s.lasting := by
  simp [rnoteErr, hw]

@[simp] theorem setFn_lasting (s f) : (setFn s f).lasting = s.lasting := by simp [setFn]
@[simp] theorem setSq_lasting (s q) : (setSq s q).lasting = s.lasting := by simp [setSq]
@[simp] theorem setCq_lasting (s q) : (setCq s q).lasting = s.lasting := by simp [setCq]
@[simp] theorem fail_lasting (s n j status detail) : (fail s n j status detail).lasting = s.lasting := by simp [fail]
@[simp] theorem hqErr_lasting (s code q side fnum) : (hqErr s code q side fnum).lasting = s.lasting := by simp [hqErr]
@[simp] theorem writeJob_lasting (s n j a b) : (writeJob s n j a b).lasting = s.lasting := by simp [writeJob]
@[simp] theorem succeed_lasting (s n j out detail status) : (succeed s n j out detail status).lasting = s.lasting := by simp [succeed]
@[simp] theorem runJob_lasting {s n j work} (hw : ∀ s, (work s).lasting = s.lasting) : (runJob s n j work).lasting = s.lasting := by simp [runJob, hw]

@[simp] theorem room_lasting {s n j need work} (hw : ∀ s, (work s).lasting = s.lasting) : (room s n j need work).lasting = s.lasting := by
  simp [room, hw]

end State

/-! ### Kept by the operations of Machine/Modes.lean -/

namespace State

@[simp] theorem loseJobs_lasting (s n) : (loseJobs s n).lasting = s.lasting := by simp [loseJobs]
@[simp] theorem advanceGen_lasting (s f) : (advanceGen s f).lasting = s.lasting := by simp [advanceGen]
@[simp] theorem setPool_lasting (s f p) : (setPool s f p).lasting = s.lasting := by simp [setPool]
@[simp] theorem unmapRange_lasting (s home p) : (unmapRange s home p).lasting = s.lasting := by simp [unmapRange]
@[simp] theorem restoreGone_lasting (s f) : (restoreGone s f).lasting = s.lasting := by simp [restoreGone]
@[simp] theorem dropImage_lasting (s f) : (dropImage s f).lasting = s.lasting := by unfold dropImage; split <;> simp
@[simp] theorem loseWork_lasting (s n) : (loseWork s n).lasting = s.lasting := by simp [loseWork]
@[simp] theorem haltStrand_lasting (s n) : (haltStrand s n).lasting = s.lasting := by simp [haltStrand]
@[simp] theorem restartStrand_lasting (s n cause) : (restartStrand s n cause).lasting = s.lasting := by simp [restartStrand]

end State

/-! ### Kept by the operations of Machine/Vault.lean -/

namespace State

@[simp] theorem logFails_lasting (s n j idx) : (logFails s n j idx).lasting = s.lasting := by simp [logFails]

@[simp] theorem withRoot_lasting {s n j k work} (hw : ∀ a s, (work a s).lasting = s.lasting) : (withRoot s n j k work).lasting = s.lasting := by
  unfold withRoot; split <;> simp [hw]

@[simp] theorem vaultJob_lasting {s n j work} (hw : ∀ s, (work s).lasting = s.lasting) : (vaultJob s n j work).lasting = s.lasting := by
  simp [vaultJob, hw]

@[simp] theorem withCtx_lasting {s n j ceremony work} (hw : ∀ a s, (work a s).lasting = s.lasting) :
    (withCtx s n j ceremony work).lasting = s.lasting :=
  vaultJob_lasting fun s => by (repeat' split) <;> simp [hw]

@[simp] theorem unwrapKey_lasting (s n j) : (unwrapKey s n j).1.lasting = s.lasting := by simp only [unwrapKey]; (repeat' split) <;> simp

@[simp] theorem placeThen_lasting {s n j a key work} (hw : ∀ a s, (work a s).lasting = s.lasting) :
    (placeThen s n j a key work).lasting = s.lasting := by
  simp only [placeThen]; (repeat' split) <;> simp [hw]

@[simp] theorem placeAnswer_lasting (s n j a key pub) : (placeAnswer s n j a key pub).lasting = s.lasting := by simp [placeAnswer]

@[simp] theorem creation_lasting {s n j generate pub work} (hw : ∀ a s, (work a s).lasting = s.lasting) :
    (creation s n j generate pub work).lasting = s.lasting :=
  vaultJob_lasting fun s => by
  dsimp only; (repeat' split) <;> simp [hw]

@[simp] theorem importKey_lasting (s n j pub) : (importKey s n j pub).lasting = s.lasting :=
  creation_lasting fun a s => by
  have h := unwrapKey_lasting s n j
  split <;> rename_i heq <;> simp only [heq] at h
  · simp [h]
  · (repeat' split) <;> simp [h]

@[simp] theorem drawnKey_lasting (s n alg len) : (drawnKey s n alg len).1.lasting = s.lasting := by simp [drawnKey]

end State

@[simp] theorem execVltSetAttr_lasting (n j s) : lastingOf (execVltSetAttr n j s) = some s.lasting :=
  congrArg some (State.withCtx_lasting fun c s => by
    dsimp only; (repeat' split) <;> simp)

@[simp] theorem execVltSpill_lasting (n j s) : lastingOf (execVltSpill n j s) = some s.lasting :=
  congrArg some (State.withCtx_lasting fun c s => by
    refine State.room_lasting fun s => ?_
    dsimp only; (repeat' split) <;> simp)

@[simp] theorem execVltLoad_lasting (n j s) : lastingOf (execVltLoad n j s) = some s.lasting :=
  congrArg some (State.vaultJob_lasting fun s => by
    refine State.room_lasting fun s => ?_
    split
    · refine (State.withRoot_lasting fun key s => ?_)
      split <;> simp
    · simp)

@[simp] theorem execVltExportT_lasting (n j s) : lastingOf (execVltExportT n j s) = some s.lasting :=
  congrArg some (State.withCtx_lasting fun c s => by
    split
    · simp
    · refine State.room_lasting fun s => ?_
      (repeat' split) <;> simp)

@[simp] theorem execVltImportT_lasting (n j s) : lastingOf (execVltImportT n j s) = some s.lasting :=
  congrArg some (State.vaultJob_lasting fun s => by
    refine State.room_lasting fun s => ?_
    dsimp only; split
    · simp
    · refine State.withRoot_lasting fun root s => ?_
      split <;> simp)

@[simp] theorem execVltRewrap_lasting (n j s) : lastingOf (execVltRewrap n j s) = some s.lasting :=
  congrArg some (State.vaultJob_lasting fun s => by
    refine State.room_lasting fun s => ?_
    split
    · refine State.withRoot_lasting fun key s => ?_
      dsimp only; (repeat' split) <;> simp
    · simp)

@[simp] theorem replaceKey_lasting (n j c s) : (replaceKey n j c s).1.lasting = s.lasting := by
  have h := State.unwrapKey_lasting s n j
  simp only [replaceKey]
  split
  · rfl
  · split <;> rename_i heq <;> rw [heq] at h
    · exact h
    · (repeat' split) <;> exact h

namespace State

@[simp] theorem stageKey_lasting (s n j c key chk) : (stageKey s n j c key chk).lasting = s.lasting := by simp only [stageKey]; split <;> simp

@[simp] theorem replacement_lasting {s n j work} (hw : ∀ a s, (work a s).lasting = s.lasting) : (replacement s n j work).lasting = s.lasting := by
  simp [replacement, hw]

end State

@[simp] theorem execVltVerify_lasting (n j s) : lastingOf (execVltVerify n j s) = some s.lasting :=
  congrArg some (State.withCtx_lasting fun c s => by
    split <;> simp)

@[simp] theorem execVltCommit_lasting (n j s) : lastingOf (execVltCommit n j s) = some s.lasting :=
  congrArg some (State.withCtx_lasting fun c s => by
    (repeat' split) <;> simp)

@[simp] theorem execVltAttest_lasting (n j s) : lastingOf (execVltAttest n j s) = some s.lasting :=
  congrArg some (State.vaultJob_lasting fun s => by
    dsimp only; (repeat' split) <;> simp)

@[simp] theorem execVltRootImport_lasting (n j s) : lastingOf (execVltRootImport n j s) = some s.lasting :=
  congrArg some (State.vaultJob_lasting fun s => by
    obtain ⟨release, hr⟩ : ∃ f, f = Strand.release := ⟨_, rfl⟩
    rw [← hr]
    dsimp only; (repeat' split) <;> simp)

@[simp] theorem execVltAttestExport_lasting (n j s) : lastingOf (execVltAttestExport n j s) = some s.lasting :=
  congrArg some (State.vaultJob_lasting fun s => by
    dsimp only; (repeat' split) <;> simp)

@[simp] theorem execVltWrapOut_lasting (n j s) : lastingOf (execVltWrapOut n j s) = some s.lasting :=
  congrArg some (State.vaultJob_lasting fun s => by
    split
    · simp
    · refine State.withCtx_lasting fun c s => ?_
      dsimp only; split <;> simp)

@[simp] theorem execKeyRelease_lasting (n j usage dest s) : lastingOf (execKeyRelease n j usage dest s) = some s.lasting := by
  unfold execKeyRelease; (repeat' split) <;> simp

@[simp] theorem execContextSweepDone_lasting (n s) : lastingOf (execContextSweepDone n s) = some s.lasting := by
  unfold execContextSweepDone; split <;> simp

/-! ### Kept by the operations of Machine/Topaz.lean -/

namespace State

@[simp] theorem hostJob_lasting {s n j en keyed work} (hw : ∀ s, (work s).lasting = s.lasting) :
    (hostJob s n j en keyed work).lasting = s.lasting := by
  unfold hostJob; (repeat' split) <;> simp [hw]

@[simp] theorem topStart_lasting (s n lane j sp) : (topStart s n lane j sp).lasting = s.lasting := by simp only [topStart]; (repeat' split) <;> simp
@[simp] theorem topSubmit_lasting (s n j) : (topSubmit s n j).lasting = s.lasting := hostJob_lasting fun s => by (repeat' split) <;> simp
@[simp] theorem topStep_lasting (s n) : (topStep s n).lasting = s.lasting := by simp only [topStep]; (repeat' split) <;> simp
@[simp] theorem topNext_lasting (s n) : (topNext s n).lasting = s.lasting := by simp [topNext]

@[simp] theorem writeOuts_lasting (s n j u) : (writeOuts s n j u).lasting = s.lasting := by
  induction u generalizing s with
  | nil => rfl
  | cons x r ih => simp [writeOuts, ih]

@[simp] theorem topEnd_lasting (s n r) : (topEnd s n r).lasting = s.lasting := by simp [topEnd]
@[simp] theorem topCut_lasting (s n r at' entries) : (topCut s n r at' entries).lasting = s.lasting := by simp [topCut]

@[simp] theorem jadStart_lasting (s n core j) : (jadStart s n core j).lasting = s.lasting := by
  unfold jadStart
  extract_lets run out
  split
  · exact room_lasting fun s => up_lasting ..
  · split
    · simp
    · split
      · simp
      · exact room_lasting fun s => by split <;> simp [run]

@[simp] theorem jadSubmit_lasting (s n j) : (jadSubmit s n j).lasting = s.lasting := hostJob_lasting fun s => by (repeat' split) <;> simp
@[simp] theorem jadStep_lasting (s n) : (jadStep s n).lasting = s.lasting := by simp only [jadStep]; (repeat' split) <;> simp
@[simp] theorem jadNext_lasting (s n) : (jadNext s n).lasting = s.lasting := by simp [jadNext]
@[simp] theorem jadEnd_lasting (s n r) : (jadEnd s n r).lasting = s.lasting := by simp [jadEnd]

end State

@[simp] theorem execStreamChainAbort_lasting (n id entries s) : lastingOf (execStreamChainAbort n id entries s) = some s.lasting := by
  unfold execStreamChainAbort; (repeat' split) <;> simp

namespace State

@[simp] theorem dropReseed_lasting (s n lane) : (dropReseed s n lane).lasting = s.lasting := by
  simp only [dropReseed, topNext_lasting]
  exact (foldl_lasting (fun _ _ => up_lasting ..) ..).trans (up_lasting ..)

end State

@[simp] theorem execTopazJobEnd_lasting (n id s) : lastingOf (execTopazJobEnd n id s) = some s.lasting := by
  unfold execTopazJobEnd; (repeat' split) <;> simp

@[simp] theorem execJadeJobEnd_lasting (n id s) : lastingOf (execJadeJobEnd n id s) = some s.lasting := by unfold execJadeJobEnd; split <;> simp

/-! ### Kept by the operations of Machine/BerylOps.lean -/

namespace State

@[simp] theorem berStep_lasting (s n) : (berStep s n).lasting = s.lasting := by unfold berStep; split <;> simp
@[simp] theorem berNext_lasting (s n) : (berNext s n).lasting = s.lasting := by simp [berNext]
@[simp] theorem berQueue_lasting (s n j) : (berQueue s n j).lasting = s.lasting := by simp [berQueue]

end State

/-! ### Kept by the operations of Machine/HostPort.lean -/

namespace State

@[simp] theorem publish_lasting (s q writeOk) : (publish s q writeOk).lasting = s.lasting := by simp only [publish]; split; exacts [rfl, by simp]
@[simp] theorem sendVector_lasting (s f vec) : (sendVector s f vec).lasting = s.lasting := by simp [sendVector]
@[simp] theorem signal_lasting (s c) : (signal s c).lasting = s.lasting := by simp [signal]
@[simp] theorem afterPost_lasting (s c irq) : (afterPost s c irq).lasting = s.lasting := by simp [afterPost]
@[simp] theorem unreserve_lasting (s c) : (unreserve s c).lasting = s.lasting := by simp [unreserve]
@[simp] theorem postDone_lasting (s n d writeOk) : (postDone s n d writeOk).lasting = s.lasting := by simp [postDone]
@[simp] theorem enterJob_lasting (s n j) : (enterJob s n j).lasting = s.lasting := by simp [enterJob]
@[simp] theorem portFail_lasting (s n j reason) : (portFail s n j reason).lasting = s.lasting := by simp [portFail]
@[simp] theorem wholeJob_lasting (s n q es gen) : (wholeJob s n q es gen).lasting = s.lasting := by simp [wholeJob]

@[simp] theorem resolveFresh_lasting (s n q e gen) : (resolveFresh s n q e gen).1.lasting = s.lasting := by
  unfold resolveFresh; (repeat' split) <;> simp

@[simp] theorem resolve_lasting (s n q e) : (resolve s n q e).1.lasting = s.lasting := by unfold resolve; (repeat' split) <;> simp
@[simp] theorem takeFrom_lasting (s n q) : (takeFrom s n q).lasting = s.lasting := by simp [takeFrom]
@[simp] theorem visit_lasting (s n d q left) : (visit s n d q left).lasting = s.lasting := by unfold visit; split <;> simp

end State

@[simp] theorem execEntryTake_lasting (n s) : lastingOf (execEntryTake n s) = some s.lasting := by simp only [execEntryTake]; (repeat' split) <;> simp

@[simp] theorem execChainWaitExpired_lasting (q s) : lastingOf (execChainWaitExpired q s) = some s.lasting := by
  unfold execChainWaitExpired; split <;> simp

@[simp] theorem execJobInputRead_lasting (n id readOk s) : lastingOf (execJobInputRead n id readOk s) = some s.lasting := by
  unfold execJobInputRead; split <;> simp

@[simp] theorem execSqDbWrite_lasting (who q tail s) : lastingOf (execSqDbWrite who q tail s) = some s.lasting := by simp [execSqDbWrite]
@[simp] theorem execCqDbWrite_lasting (who q head s) : lastingOf (execCqDbWrite who q head s) = some s.lasting := by simp [execCqDbWrite]
@[simp] theorem execSqEnableWrite_lasting (who q s) : lastingOf (execSqEnableWrite who q s) = some s.lasting := by simp [execSqEnableWrite]

namespace State

@[simp] theorem stopQueue_lasting (s k st) : (stopQueue s k st).lasting = s.lasting := by simp [stopQueue]

end State

@[simp] theorem execSqDisableWrite_lasting (who q s) : lastingOf (execSqDisableWrite who q s) = some s.lasting := by
  simp only [execSqDisableWrite]; (repeat' split) <;> simp

@[simp] theorem execSqInvalWrite_lasting (who q s) : lastingOf (execSqInvalWrite who q s) = some s.lasting := by simp [execSqInvalWrite]

@[simp] theorem execCqEnableWrite_lasting (who q enable ien s) : lastingOf (execCqEnableWrite who q enable ien s) = some s.lasting := by
  simp [execCqEnableWrite]

@[simp] theorem execHeadPublish_lasting (q writeOk s) : lastingOf (execHeadPublish q writeOk s) = some s.lasting := by
  simp only [execHeadPublish]; split <;> simp

@[simp] theorem execCqInterruptTimer_lasting (q s) : lastingOf (execCqInterruptTimer q s) = some s.lasting := by
  unfold execCqInterruptTimer; split <;> simp

@[simp] theorem execMsixVectorUnmask_lasting (f vec s) : lastingOf (execMsixVectorUnmask f vec s) = some s.lasting := by simp [execMsixVectorUnmask]

/-! ### Kept by the operations of Machine/JournalOps.lean -/

namespace State

@[simp] theorem trySwap_lasting (s n) : (trySwap s n).lasting = s.lasting := by simp [trySwap]
@[simp] theorem closeCeremony_lasting (s n agree) : (closeCeremony s n agree).lasting = s.lasting := by simp [closeCeremony]

end State

/-! ### Kept by the operations of Machine/Posting.lean -/

namespace State

@[simp] theorem failIntake_lasting (s n j records status detail) : (failIntake s n j records status detail).lasting = s.lasting := by
  simp [failIntake]

@[simp] theorem releaseBatch_lasting (s n b) : (releaseBatch s n b).lasting = s.lasting := by
  simp only [releaseBatch]
  (repeat' split) <;> simp

@[simp] theorem releaseAll_lasting (s n) : (releaseAll s n).lasting = s.lasting := foldl_lasting (fun s b => by split <;> simp) ..
@[simp] theorem ontoRelay_lasting (s n j) : (ontoRelay s n j).1.lasting = s.lasting := by simp only [ontoRelay]; split <;> simp

@[simp] theorem serveNotices_lasting (n y z) : (serveNotices n y z).lasting = z.lasting := by
  induction y generalizing z with
  | zero => rfl
  | succ k ih =>
    simp only [serveNotices]
    (repeat' split) <;> simp [ih]

@[simp] theorem notify_lasting (s n) : (notify s n).lasting = s.lasting := by simp [notify]
@[simp] theorem offer_lasting (s n j) : (offer s n j).lasting = s.lasting := by simp [offer]

@[simp] theorem verifierJob_lasting {s n j work} (hw : ∀ a s, (work a s).lasting = s.lasting) : (verifierJob s n j work).lasting = s.lasting := by
  simp [verifierJob, hw]

end State

@[simp] theorem execBatchIntake_lasting (n s) : lastingOf (execBatchIntake n s) = some s.lasting := by
  simp only [execBatchIntake]; (repeat' split) <;> simp

namespace State

@[simp] theorem speculate_lasting (s n b) : (speculate s n b).lasting = s.lasting := by simp only [speculate]; (repeat' split) <;> simp

end State

@[simp] theorem execQuarantineSlotTake_lasting (n s) : lastingOf (execQuarantineSlotTake n s) = some s.lasting := by
  simp only [execQuarantineSlotTake]; split <;> simp

@[simp] theorem execRecordCheck_lasting (n order s fault) : lastingOf (execRecordCheck n order s fault) = some s.lasting := by
  simp only [execRecordCheck]; split <;> simp

@[simp] theorem execBatchDecision_lasting (n order s) : lastingOf (execBatchDecision n order s) = some s.lasting := by
  simp only [execBatchDecision]; (repeat' split) <;> simp

@[simp] theorem execBatchCommit_lasting (n order s) : lastingOf (execBatchCommit n order s) = some s.lasting := by
  simp only [execBatchCommit]; split <;> simp

@[simp] theorem execSealPreparation_lasting (n order eng s) : lastingOf (execSealPreparation n order eng s) = some s.lasting := by
  simp only [execSealPreparation]; (repeat' split) <;> simp

@[simp] theorem execSealCompletion_lasting (n order eng endOk s) : lastingOf (execSealCompletion n order eng endOk s) = some s.lasting := by
  simp only [execSealCompletion]; (repeat' split) <;> simp

@[simp] theorem execHoldLimitExpired_lasting (n order s) : lastingOf (execHoldLimitExpired n order s) = some s.lasting := by
  simp only [execHoldLimitExpired]; split <;> simp

@[simp] theorem execCompletionPost_lasting (n writeOk s) : lastingOf (execCompletionPost n writeOk s) = some s.lasting := by
  simp only [execCompletionPost]; split <;> simp

@[simp] theorem execJobOutputWriteError_lasting (n id s) : lastingOf (execJobOutputWriteError n id s) = some s.lasting := by
  simp only [execJobOutputWriteError]; (repeat' split) <;> simp

@[simp] theorem execSlotClearDone_lasting (n slot s) : lastingOf (execSlotClearDone n slot s) = some s.lasting := by
  unfold execSlotClearDone; (repeat' split) <;> simp

@[simp] theorem execApprovalConfirm_lasting (n j s) : lastingOf (execApprovalConfirm n j s) = some s.lasting :=
  congrArg some (State.verifierJob_lasting fun a s => by
    (repeat' split) <;> simp)

@[simp] theorem execApprovalRevoke_lasting (n j s) : lastingOf (execApprovalRevoke n j s) = some s.lasting :=
  congrArg some (State.verifierJob_lasting fun a s => by
    split <;> simp)

@[simp] theorem execApprovalQuery_lasting (n j s) : lastingOf (execApprovalQuery n j s) = some s.lasting := by simp [execApprovalQuery]

@[simp] theorem execPinTranslate_lasting (n j s) : lastingOf (execPinTranslate n j s) = some s.lasting :=
  congrArg some (State.runJob_lasting fun s => by
    dsimp only; split
    · simp
    · refine State.room_lasting fun s => ?_
      (repeat' split) <;> simp)

@[simp] theorem execSubmitterQuery_lasting (n j s) : lastingOf (execSubmitterQuery n j s) = some s.lasting := by simp [execSubmitterQuery]

@[simp] theorem execApprovalExpiry_lasting (n ref station s) : lastingOf (execApprovalExpiry n ref station s) = some s.lasting := by
  unfold execApprovalExpiry; split <;> simp

/-! ### Kept by the operations of Machine/Beryl.lean -/

namespace State

@[simp] theorem keygenPlace_lasting (s n j key) : (keygenPlace s n j key).lasting = s.lasting := by simp [keygenPlace]
@[simp] theorem keygen_lasting (s n j alg len) : (keygen s n j alg len).lasting = s.lasting := by simp [keygen]
@[simp] theorem berSubmit_lasting (s n j) : (berSubmit s n j).lasting = s.lasting := hostJob_lasting fun s => by (repeat' split) <;> simp
@[simp] theorem berLeave_lasting (s n r) : (berLeave s n r).lasting = s.lasting := by simp [berLeave]
@[simp] theorem berEnd_lasting (s n r w) : (berEnd s n r w).lasting = s.lasting := by simp only [berEnd]; (repeat' split) <;> simp
@[simp] theorem berInvFail_lasting (s n r) : (berInvFail s n r).lasting = s.lasting := by simp [berInvFail]
@[simp] theorem keygenEnd_lasting (s n r) : (keygenEnd s n r).lasting = s.lasting := by simp only [keygenEnd]; (repeat' split) <;> simp

end State

@[simp] theorem execBerylWipeDone_lasting (n e s) : lastingOf (execBerylWipeDone n e s) = some s.lasting := by
  unfold execBerylWipeDone; split <;> simp

@[simp] theorem execBerylJobStart_lasting (n e entropy s) : lastingOf (execBerylJobStart n e entropy s) = some s.lasting := by
  simp only [execBerylJobStart]; (repeat' split) <;> simp

@[simp] theorem execBerylCountReached_lasting (n e s) : lastingOf (execBerylCountReached n e s) = some s.lasting := by
  simp only [execBerylCountReached]; (repeat' split) <;> simp

@[simp] theorem execPrimeCandidate_lasting (n e entropy s) : lastingOf (execPrimeCandidate n e entropy s) = some s.lasting := by
  unfold execPrimeCandidate; split <;> simp

@[simp] theorem execVltReplace_lasting (n j s) : lastingOf (execVltReplace n j s) = some s.lasting :=
  congrArg some (State.replacement_lasting fun c s => by
    have h := replaceKey_lasting n { j with op := 0x210 } c s
    split
    · simp
    · split <;> rename_i heq <;> rw [heq] at h <;> simp_all)

/-! ### Kept by the operations of Machine/Station.lean -/

namespace State

@[simp] theorem closeLink_lasting (s n k sendClose) : (closeLink s n k sendClose).lasting = s.lasting := by simp [closeLink]
@[simp] theorem afterAnswer_lasting (s n k more) : (afterAnswer s n k more).lasting = s.lasting := by simp [afterAnswer]
@[simp] theorem dropLinkJobs_lasting (s n k status) : (dropLinkJobs s n k status).lasting = s.lasting := by simp [dropLinkJobs]
@[simp] theorem linkOff_lasting (s n k) : (linkOff s n k).lasting = s.lasting := by simp [linkOff]
@[simp] theorem badFrame_lasting (s n k) : (badFrame s n k).lasting = s.lasting := by simp [badFrame]

@[simp] theorem onGcm_lasting {s n k ftype f work} (hw : ∀ a s, (work a s).lasting = s.lasting) : (onGcm s n k ftype f work).lasting = s.lasting := by
  simp only [onGcm]
  (repeat' split) <;> simp [hw]

@[simp] theorem slJob_lasting {s n j work} (hw : ∀ a s, (work a s).lasting = s.lasting) : (slJob s n j work).lasting = s.lasting := by
  simp [slJob, hw]

@[simp] theorem linkGate_lasting {s n j k work} (hw : ∀ s, (work s).lasting = s.lasting) : (linkGate s n j k work).lasting = s.lasting := by
  simp only [linkGate]; (repeat' split) <;> simp [hw]

@[simp] theorem hostData_lasting (s n k p) : (hostData s n k p).lasting = s.lasting := by unfold hostData; split <;> simp

end State

@[simp] theorem execPlainRecordReceived_lasting (n k chars s) : lastingOf (execPlainRecordReceived n k chars s) = some s.lasting := by
  simp only [execPlainRecordReceived]; (repeat' split) <;> simp

@[simp] theorem execSlCertFrame_lasting (n k crcOk p env s) : lastingOf (execSlCertFrame n k crcOk p env s) = some s.lasting := by
  simp only [execSlCertFrame]; (repeat' split) <;> simp

@[simp] theorem execSlReadyFrame_lasting (n k f s) : lastingOf (execSlReadyFrame n k f s) = some s.lasting := by
  unfold execSlReadyFrame
  dsimp only
  (repeat' split)
  · rfl
  · rfl
  · exact congrArg some (State.onGcm_lasting fun _ s => State.up_lasting ..)

namespace State

@[simp] theorem onLive_lasting {s n k ftype f work} (hw : ∀ a s, (work a s).lasting = s.lasting) :
    (onLive s n k ftype f work).lasting = s.lasting := by
  simp [onLive, hw]

end State

@[simp] theorem execSlApprovalFrame_lasting (n k f env s) : lastingOf (execSlApprovalFrame n k f env s) = some s.lasting :=
  congrArg some (State.onLive_lasting fun p s => by
    dsimp only; (repeat' split) <;> simp)

@[simp] theorem execSlEmptyFrame_lasting (n k f s) : lastingOf (execSlEmptyFrame n k f s) = some s.lasting := by
  simp only [execSlEmptyFrame]; split <;> simp

@[simp] theorem execSlPollMiss_lasting (n k s) : lastingOf (execSlPollMiss n k s) = some s.lasting := by simp only [execSlPollMiss]; split <;> simp

@[simp] theorem execSlReceive_lasting (n j s) : lastingOf (execSlReceive n j s) = some s.lasting :=
  congrArg some (State.slJob_lasting fun k s => by
    refine State.room_lasting fun s => State.linkGate_lasting fun s => ?_
    (repeat' split) <;> simp)

@[simp] theorem execSlLinkEnableWrite_lasting (n k v s) : lastingOf (execSlLinkEnableWrite n k v s) = some s.lasting := by
  simp [execSlLinkEnableWrite]

@[simp] theorem execSlLinkCloseWrite_lasting (n k s) : lastingOf (execSlLinkCloseWrite n k s) = some s.lasting := by simp [execSlLinkCloseWrite]

/-! ### Kept by the operations of Machine/Fabric.lean -/

@[simp] theorem execSpinelRecordConvert_lasting (n port len ce ue lrf trailer s) :
    lastingOf (execSpinelRecordConvert n port len ce ue lrf trailer s) = some s.lasting := by
  simp only [execSpinelRecordConvert]; (repeat' split) <;> simp

@[simp] theorem execSpinelBatchClose_lasting (n s) : lastingOf (execSpinelBatchClose n s) = some s.lasting := by
  simp only [execSpinelBatchClose]; split <;> simp

@[simp] theorem execBatchIdleExpired_lasting (n link batchNo s) : lastingOf (execBatchIdleExpired n link batchNo s) = some s.lasting := by
  simp only [execBatchIdleExpired]; (repeat' split) <;> simp

@[simp] theorem execRelayBatchPresent_lasting (n s) : lastingOf (execRelayBatchPresent n s) = some s.lasting := by
  simp only [execRelayBatchPresent]; split <;> simp

/-! ### Kept by the operations of Machine/GarnetCore.lean -/

namespace State

@[simp] theorem checkstop_lasting (s n c v) : (checkstop s n c v).lasting = s.lasting := by simp [checkstop]

@[simp] theorem entered_lasting (s n c k v orig detail eaddr epc d) : (entered s n c k v orig detail eaddr epc d).lasting = s.lasting := by
  simp [entered]

@[simp] theorem enterHigh_lasting (s n c k v orig detail eaddr epc) : (enterHigh s n c k v orig detail eaddr epc).lasting = s.lasting := by
  unfold enterHigh; split <;> simp

@[simp] theorem enterLow_lasting (s n c v detail eaddr epc) : (enterLow s n c v detail eaddr epc).lasting = s.lasting := by
  unfold enterLow; split <;> simp

@[simp] theorem raise_lasting (s n c v detail eaddr epc) : (raise s n c v detail eaddr epc).lasting = s.lasting := by
  simp only [raise]; split <;> simp

@[simp] theorem fault_lasting (s n c v detail eaddr) : (fault s n c v detail eaddr).lasting = s.lasting := by simp [fault]
@[simp] theorem faultOpen_lasting (s n c v detail) : (faultOpen s n c v detail).lasting = s.lasting := by simp [faultOpen]
@[simp] theorem takeInterrupt_lasting (s n c v) : (takeInterrupt s n c v).lasting = s.lasting := by simp [takeInterrupt]
@[simp] theorem takeNmi_lasting (s n c) : (takeNmi s n c).lasting = s.lasting := by simp [takeNmi]
@[simp] theorem eret_lasting (s n c) : (eret s n c).lasting = s.lasting := by simp [eret]
@[simp] theorem startCore_lasting (s n c vdt) : (startCore s n c vdt).lasting = s.lasting := by simp only [startCore]; split <;> simp
@[simp] theorem startCores_lasting (s n vdt) : (startCores s n vdt).lasting = s.lasting := by simp [startCores]

end State

/-! ### Kept by the operations of Machine/Islands.lean -/

namespace State

@[simp] theorem dropLaneJobs_lasting (s n i) : (dropLaneJobs s n i).lasting = s.lasting := by simp [dropLaneJobs]
@[simp] theorem fence_lasting (s n i) : (fence s n i).lasting = s.lasting := by simp [fence]
@[simp] theorem decideSwap_lasting (s n agree) : (decideSwap s n agree).lasting = s.lasting := rfl
@[simp] theorem moveCore_lasting (s n i) : (moveCore s n i).lasting = s.lasting := by simp only [moveCore]; split <;> simp

@[simp] theorem moveDone_lasting (s n) : (moveDone s n).lasting = s.lasting := by
  unfold moveDone
  dsimp only
  split
  · rfl
  · split
    · rfl
    · refine (topNext_lasting ..).trans ((berNext_lasting ..).trans ((up_lasting ..).trans ?_))
      split
      · exact moveCore_lasting ..
      all_goals exact up_lasting ..

end State

@[simp] theorem execHltSwapWrite_lasting (n v s) : lastingOf (execHltSwapWrite n v s) = some s.lasting := by simp [execHltSwapWrite]

@[simp] theorem execSwapMoveDone_lasting (n s ok) : lastingOf (execSwapMoveDone n s ok) = some s.lasting := by
  simp only [execSwapMoveDone]; (repeat' split) <;> simp

/-! ### Kept by the operations of Machine/Journal.lean -/

namespace State

@[simp] theorem storeWrite_lasting (s n e sup old) : (storeWrite s n e sup old).1.lasting = s.lasting := by
  simp only [storeWrite]; (repeat' split) <;> simp

@[simp] theorem mgrJob_lasting {s n j work} (hw : ∀ s, (work s).lasting = s.lasting) : (mgrJob s n j work).lasting = s.lasting := by simp [mgrJob, hw]

@[simp] theorem ceremonyJob_lasting {s n j work} (hw : ∀ s, (work s).lasting = s.lasting) : (ceremonyJob s n j work).lasting = s.lasting := by
  simp [ceremonyJob, hw]

@[simp] theorem tryRollover_lasting (s n) : (tryRollover s n).lasting = s.lasting := by simp only [tryRollover]; split <;> simp
@[simp] theorem becomeSolo_lasting (s n) : (becomeSolo s n).lasting = s.lasting := by simp [becomeSolo]
@[simp] theorem takeover_lasting (s n) : (takeover s n).lasting = s.lasting := by simp [takeover]

end State

@[simp] theorem execJnlReceipt_lasting (n j s) : lastingOf (execJnlReceipt n j s) = some s.lasting :=
  congrArg some (State.runJob_lasting fun s => by
    dsimp only
    split
    · simp
    · split
      · simp
      · split
        · simp
        · split
          · simp
          · split
            · simp
            · split
              · simp
              · exact State.room_lasting fun s => by (repeat' split) <;> simp)

@[simp] theorem execJnlStoreFree_lasting (n j s) : lastingOf (execJnlStoreFree n j s) = some s.lasting :=
  congrArg some (State.mgrJob_lasting fun s => by
    dsimp only; (repeat' split) <;> simp)

@[simp] theorem execJnlReplay_lasting (n j twin s) : lastingOf (execJnlReplay n j twin s) = some s.lasting :=
  congrArg some (State.mgrJob_lasting fun s => by
    have hes (s : State) (es : List Entry) (f : Entry → Strand → Strand) : (es.foldl (fun s e =>
        match s.storeWrite n e false false with
        | (s, true) => s.up n (f e)
        | (s, false) => s) s).lasting = s.lasting := foldl_lasting (fun s e => by
      have h := State.storeWrite_lasting s n e false false
      split <;> rename_i heq <;> rw [heq] at h <;> exact h) ..
    refine State.room_lasting fun s => ?_
    dsimp only
    split
    · simp
    · rw [State.succeed_lasting, State.up_lasting]
      rw [lasting_ite]
      exact ite_eq_right_iff.mpr fun _ => hes ..)

@[simp] theorem execJnlExport_lasting (n j removed s) : lastingOf (execJnlExport n j removed s) = some s.lasting :=
  congrArg some (State.mgrJob_lasting fun s => by
    dsimp only; (repeat' split) <;> simp)

@[simp] theorem execStoreEntryWrite_lasting (n writeOk s) : lastingOf (execStoreEntryWrite n writeOk s) = some s.lasting := by
  have h {e sup old t b} (heq : s.storeWrite n e sup old = (t, b)) : t.lasting = s.lasting := by
    simpa [heq] using State.storeWrite_lasting s n e sup old
  simp only [execStoreEntryWrite]
  (repeat' split) <;> simp <;> exact h ‹_›

@[simp] theorem execCardHeadWrite_lasting (n ok s) : lastingOf (execCardHeadWrite n ok s) = some s.lasting := by
  simp only [execCardHeadWrite]; split <;> simp

/-! ### Kept by the operations of Machine/TagOps.lean -/

namespace State

@[simp] theorem upTag_lasting (s f) : (upTag s f).lasting = s.lasting := by simp [upTag]
@[simp] theorem setTagBlock_lasting (s b d) : (setTagBlock s b d).lasting = s.lasting := by simp [setTagBlock]
@[simp] theorem fieldDet_lasting (s) : (fieldDet s).lasting = s.lasting := by simp [fieldDet]
@[simp] theorem tamperBlock_lasting (s n latched line evs) : (tamperBlock s n latched line evs).lasting = s.lasting := by simp [tamperBlock]

end State

/-! ### Kept by the operations of Machine/Cards.lean -/

@[simp] theorem execJcDebounceDone_lasting (n s) : lastingOf (execJcDebounceDone n s) = some s.lasting := by unfold execJcDebounceDone; split <;> simp

@[simp] theorem execJcInitComplete_lasting (n fail v18 v18Fail speed tuned ident sectors wcount macOk s again) :
    lastingOf (execJcInitComplete n fail v18 v18Fail speed tuned ident sectors wcount macOk s again) = some s.lasting := by
  unfold execJcInitComplete; (repeat' split) <;> simp

@[simp] theorem execJcPair_lasting (n j result wcount s) : lastingOf (execJcPair n j result wcount s) = some s.lasting :=
  congrArg some (State.mgrJob_lasting fun s => by
    dsimp only; split
    · simp
    · split
      · simp
      · refine State.room_lasting fun s => ?_
        (repeat' split) <;> simp)

@[simp] theorem execJcHeads_lasting (n j sectors anchor macOk s) : lastingOf (execJcHeads n j sectors anchor macOk s) = some s.lasting :=
  congrArg some (State.mgrJob_lasting fun s => by
    dsimp only; (repeat' split) <;> simp)

namespace State

@[simp] theorem enterCeremony_lasting (s n openers) : (enterCeremony s n openers).lasting = s.lasting := by simp [enterCeremony]
@[simp] theorem reprovision_lasting (s n agree) : (reprovision s n agree).lasting = s.lasting := by simp [reprovision]
@[simp] theorem ownership_lasting (s n openers) : (ownership s n openers).lasting = s.lasting := (up_lasting ..).trans (enterCeremony_lasting ..)
@[simp] theorem ccJob_lasting {s n j work} (hw : ∀ s, (work s).lasting = s.lasting) : (ccJob s n j work).lasting = s.lasting := by simp [ccJob, hw]

end State

@[simp] theorem execCcOrder_lasting (n j s) : lastingOf (execCcOrder n j s) = some s.lasting :=
  congrArg some (State.ccJob_lasting fun s => by
    refine State.room_lasting fun s => ?_
    (repeat' split) <;> simp)

@[simp] theorem execCcPin_lasting (n j s) : lastingOf (execCcPin n j s) = some s.lasting :=
  congrArg some (State.ccJob_lasting fun s => by
    dsimp only; (repeat' split) <;> simp)

@[simp] theorem execCcPinLapse_lasting (n s) : lastingOf (execCcPinLapse n s) = some s.lasting := by unfold execCcPinLapse; split <;> simp

@[simp] theorem execCcPinWaitExpired_lasting (n s) : lastingOf (execCcPinWaitExpired n s) = some s.lasting := by
  unfold execCcPinWaitExpired; split <;> simp

@[simp] theorem execOrderLifeExpired_lasting (n s) : lastingOf (execOrderLifeExpired n s) = some s.lasting := by
  unfold execOrderLifeExpired; split <;> simp

/-! ### Kept by the operations of Machine/Entropy.lean -/

namespace State

@[simp] theorem serveRandom_lasting (s n j) : (serveRandom s n j).lasting = s.lasting := by simp [serveRandom]

@[simp] theorem serveWaiting_lasting (s n z) : (serveWaiting s n z).lasting = s.lasting := by
  induction z generalizing s with
  | zero => rfl
  | succ k ih =>
    simp only [serveWaiting]
    (repeat' split) <;> simp [ih]

end State

@[simp] theorem execQtzDataRead_lasting (n who s) : lastingOf (execQtzDataRead n who s) = some s.lasting := by
  simp only [execQtzDataRead]; (repeat' split) <;> simp

@[simp] theorem execQtzFailClrWrite_lasting (n who v s) : lastingOf (execQtzFailClrWrite n who v s) = some s.lasting := by simp [execQtzFailClrWrite]

/-! ### Kept by the operations of Machine/Flash.lean -/

@[simp] theorem execAgtRead_lasting (n who count noise s) : lastingOf (execAgtRead n who count noise s) = some s.lasting := by simp [execAgtRead]
@[simp] theorem execAgtProgram_lasting (n who s) : lastingOf (execAgtProgram n who s) = some s.lasting := by simp [execAgtProgram]

@[simp] theorem execAgtProgramDone_lasting (n ok s) : lastingOf (execAgtProgramDone n ok s) = some s.lasting := by
  simp only [execAgtProgramDone]; split <;> simp

@[simp] theorem execAgtErase_lasting (n who openOk s) : lastingOf (execAgtErase n who openOk s) = some s.lasting := by simp [execAgtErase]

@[simp] theorem execAgtEraseDone_lasting (n verifyOk headOk s) : lastingOf (execAgtEraseDone n verifyOk headOk s) = some s.lasting := by
  simp only [execAgtEraseDone]; split <;> simp

@[simp] theorem execAgtReadHdr_lasting (n who s) : lastingOf (execAgtReadHdr n who s) = some s.lasting := by simp [execAgtReadHdr]

@[simp] theorem execScrubBlockRead_lasting (n phys corrected bad s) : lastingOf (execScrubBlockRead n phys corrected bad s) = some s.lasting := by
  simp only [execScrubBlockRead]; (repeat' split) <;> simp

/-! ### Kept by the operations of Machine/Functions.lean -/

namespace State

@[simp] theorem beginSweep_lasting (s n) : (beginSweep s n).lasting = s.lasting := by simp [beginSweep]
@[simp] theorem stopQueues_lasting (s f) : (stopQueues s f).lasting = s.lasting := by simp [stopQueues]

@[simp] theorem vfRefuse_lasting (s n j status reason) : (vfRefuse s n j status reason).lasting = s.lasting :=
  (fail_lasting ..).trans (rnoteErr_lasting fun s => by simp)

@[simp] theorem abandonImage_lasting (s f) : (abandonImage s f).lasting = s.lasting := by simp only [abandonImage]; split <;> simp
@[simp] theorem beginReset_lasting (s f to') : (beginReset s f to').lasting = s.lasting := by simp [beginReset]
@[simp] theorem holdJob_lasting (s n f j) : (holdJob s n f j).lasting = s.lasting := by simp [holdJob]
@[simp] theorem endJob_lasting (s f out) : (endJob s f out).lasting = s.lasting := by simp only [endJob]; split <;> simp

@[simp] theorem vfJob_lasting {s n j work} (hw : ∀ a s, (work a s).lasting = s.lasting) : (vfJob s n j work).lasting = s.lasting := by
  simp [vfJob, hw]

@[simp] theorem vfHome_lasting {s n j work} (hw : ∀ a s, (work a s).lasting = s.lasting) : (vfHome s n j work).lasting = s.lasting := by
  simp [vfHome, hw]

@[simp] theorem putWeights_lasting (s f p) : (putWeights s f p).lasting = s.lasting := by simp [putWeights]

@[simp] theorem placeQueues_lasting (s g plain u) : (placeQueues s g plain u).lasting = s.lasting := by
  induction u with
  | zero => rfl
  | succ k ih =>
    simp only [placeQueues]
    split <;> simp [ih]

@[simp] theorem undoRestore_lasting (s f) : (undoRestore s f).lasting = s.lasting := by simp [undoRestore]
@[simp] theorem created_lasting (s f) : (created s f).lasting = s.lasting := by simp [created]
@[simp] theorem imageDone_lasting (s f len) : (imageDone s f len).lasting = s.lasting := by simp [imageDone]

end State

@[simp] theorem execVfSaveDone_lasting (f writeOk s) : lastingOf (execVfSaveDone f writeOk s) = some s.lasting := by
  simp only [execVfSaveDone]; split <;> simp

namespace State

@[simp] theorem thawSq_lasting (s q) : (thawSq s q).lasting = s.lasting := by simp [thawSq]
@[simp] theorem thawQueues_lasting (s f) : (thawQueues s f).lasting = s.lasting := by simp [thawQueues]

@[simp] theorem placeImage_lasting (s n j f plain nq ns nc no) : (placeImage s n j f plain nq ns nc no).lasting = s.lasting := by
  simp only [placeImage]; split <;> simp

end State

@[simp] theorem execVfRestore_lasting (n j s) : lastingOf (execVfRestore n j s) = some s.lasting :=
  congrArg some (State.vfJob_lasting fun f s => by
    extract_lets
    split
    · simp
    · split
      · simp
      · split
        · simp
        · exact State.withRoot_lasting fun key s => by (repeat' split) <;> simp)

@[simp] theorem execVfRestoreDone_lasting (f s) : lastingOf (execVfRestoreDone f s) = some s.lasting := by
  simp only [execVfRestoreDone]; split <;> simp

namespace State

@[simp] theorem settleQueues_lasting (s f) : (settleQueues s f).lasting = s.lasting := by simp [settleQueues]
@[simp] theorem resetAllFns_lasting (s) : (resetAllFns s).lasting = s.lasting := by simp [resetAllFns]

end State

/-! ### Kept by the operations of Machine/Mpu.lean -/

namespace State

@[simp] theorem mpuFault_lasting (s n c priv kind cause region a size) : (mpuFault s n c priv kind cause region a size).lasting = s.lasting := by
  simp [mpuFault]

@[simp] theorem refuseAccess_lasting (s who a size cause isWrite) : (refuseAccess s who a size cause isWrite).lasting = s.lasting := by
  unfold refuseAccess; split <;> simp

end State

@[simp] theorem execMisalignedRegisterAccess_lasting (who addr size isWrite s) :
    lastingOf (execMisalignedRegisterAccess who addr size isWrite s) = some s.lasting := by
  simp [execMisalignedRegisterAccess]

/-! ### Kept by the operations of Machine/Sentinel.lean -/

namespace State

@[simp] theorem fenceAll_lasting (s n targets pairs) : (fenceAll s n targets pairs).lasting = s.lasting := by
  simp only [fenceAll]
  exact (foldl_lasting (fun _ _ => up_lasting ..) ..).trans (foldl_lasting (fun s i => fence_lasting s n i) ..)

@[simp] theorem driveWires_lasting (s n) : (driveWires s n).lasting = s.lasting := by simp [driveWires]

@[simp] theorem respond_lasting (s n act src frm targets pairs) : (respond s n act src frm targets pairs).lasting = s.lasting := by
  unfold respond; split <;> simp

@[simp] theorem vbat_lasting (s n mv) : (vbat s n mv).lasting = s.lasting := by simp only [vbat]; split <;> simp
@[simp] theorem vigilZero_lasting (s n src) : (vigilZero s n src).lasting = s.lasting := by simp [vigilZero]
@[simp] theorem vigilOne_lasting (s n src det) : (vigilOne s n src det).lasting = s.lasting := by simp [vigilOne]
@[simp] theorem vigilEvent_lasting (s n src det) : (vigilEvent s n src det).lasting = s.lasting := by simp [vigilEvent]

end State

@[simp] theorem execVigilSampleRepeat_lasting (n vbat found s) : lastingOf (execVigilSampleRepeat n vbat found s) = some s.lasting := by
  simp only [execVigilSampleRepeat]; split <;> simp

@[simp] theorem execAlarmDecision_lasting (n s) : lastingOf (execAlarmDecision n s) = some s.lasting := by
  simp only [execAlarmDecision]; (repeat' split) <;> simp

@[simp] theorem execThrottleExpired_lasting (n s) : lastingOf (execThrottleExpired n s) = some s.lasting := by
  unfold execThrottleExpired; split <;> simp

@[simp] theorem execEraseLineRelease_lasting (n s) : lastingOf (execEraseLineRelease n s) = some s.lasting := by
  unfold execEraseLineRelease; split <;> simp

@[simp] theorem execJspInjectWrite_lasting (n who v s) : lastingOf (execJspInjectWrite n who v s) = some s.lasting := by simp [execJspInjectWrite]

@[simp] theorem execEventLogWrite_lasting (n ok s chainOk) : lastingOf (execEventLogWrite n ok s chainOk) = some s.lasting := by
  simp only [execEventLogWrite]; split <;> simp

@[simp] theorem execCellWindowClose_lasting (n vbat s) : lastingOf (execCellWindowClose n vbat s) = some s.lasting := by
  unfold execCellWindowClose
  split
  · rfl
  · next t _ =>
    have h : ((if (s.sd n).mode = 5 then s.upTo t else s).vbat n vbat).lasting = s.lasting := (State.vbat_lasting ..).trans (by split <;> rfl)
    refine congrArg some ?_
    split
    · exact (State.up_lasting ..).trans ((State.up_lasting ..).trans h)
    · exact (State.up_lasting ..).trans h

/-! ### Kept by the operations of Machine/Mirror.lean -/

namespace State

@[simp] theorem resendAll_lasting (s n) : (resendAll s n).lasting = s.lasting := by simp [resendAll]
@[simp] theorem copyOut_lasting (s n case agree twinEpoch) : (copyOut s n case agree twinEpoch).lasting = s.lasting := by simp [copyOut]
@[simp] theorem copyIn_lasting (s n case agree w marks tail) : (copyIn s n case agree w marks tail).lasting = s.lasting := by simp [copyIn]

@[simp] theorem settle_lasting (s n agree w marks keep case8 tail) : (settle s n agree w marks keep case8 tail).lasting = s.lasting := by
  unfold settle
  extract_lets _ _ _ _ _ _ _ authOf
  clear_value authOf
  obtain ⟨case, auth⟩ := authOf
  dsimp only
  (repeat' split) <;> simp

@[simp] theorem reconcile_lasting (s n w time marks keep tail) : (reconcile s n w time marks keep tail).lasting = s.lasting := by
  simp only [reconcile]; split <;> simp

@[simp] theorem admitted_lasting (s n) : (admitted s n).lasting = s.lasting := by simp [admitted]
@[simp] theorem admitWork_lasting (s n agree) : (admitWork s n agree).lasting = s.lasting := by simp [admitWork]
@[simp] theorem leaseUp_lasting (s n agree) : (leaseUp s n agree).lasting = s.lasting := by simp [leaseUp]
@[simp] theorem leaseDown_lasting (s n cause) : (leaseDown s n cause).lasting = s.lasting := by simp [leaseDown]

@[simp] theorem onFrame_lasting {s n ftype f work} (hw : ∀ a s, (work a s).lasting = s.lasting) : (onFrame s n ftype f work).lasting = s.lasting := by
  unfold onFrame; split <;> simp [hw]

@[simp] theorem copyEnd_lasting (s n) : (copyEnd s n).lasting = s.lasting := by simp [copyEnd]

end State

@[simp] theorem execPairingRetry_lasting (n s) : lastingOf (execPairingRetry n s) = some s.lasting := by
  simp only [execPairingRetry]; (repeat' split) <;> simp

namespace State

@[simp] theorem badBlocks_lasting (s n errs) : (badBlocks s n errs).lasting = s.lasting := by simp [badBlocks]

end State

@[simp] theorem execMirHelloReceived_lasting (n p s errs env) : lastingOf (execMirHelloReceived n p s errs env) = some s.lasting := by
  simp only [execMirHelloReceived]; (repeat' split) <;> simp

@[simp] theorem execMirAttestReceived_lasting (n mac s errs env) : lastingOf (execMirAttestReceived n mac s errs env) = some s.lasting := by
  simp only [execMirAttestReceived]; (repeat' split) <;> simp

@[simp] theorem execMirResyncReqReceived_lasting (n f marks keep s tail) :
    lastingOf (execMirResyncReqReceived n f marks keep s tail) = some s.lasting :=
  congrArg some (State.onFrame_lasting fun p s => by
    dsimp only; (repeat' split) <;> simp)

@[simp] theorem execMirEntryReceived_lasting (n f s) : lastingOf (execMirEntryReceived n f s) = some s.lasting :=
  congrArg some (State.onFrame_lasting fun p s => by
    dsimp only; (repeat' split) <;> simp)

@[simp] theorem execMirAckReceived_lasting (n f s) : lastingOf (execMirAckReceived n f s) = some s.lasting :=
  congrArg some (State.onFrame_lasting fun p s => by
    dsimp only; (repeat' split) <;> simp)

@[simp] theorem execMirNakReceived_lasting (n f s) : lastingOf (execMirNakReceived n f s) = some s.lasting :=
  congrArg some (State.onFrame_lasting fun p s => by
    dsimp only; (repeat' split) <;> simp)

@[simp] theorem execMirHeartbeatReceived_lasting (n f s) : lastingOf (execMirHeartbeatReceived n f s) = some s.lasting :=
  congrArg some (State.onFrame_lasting fun _ _ => State.up_lasting ..)

@[simp] theorem execMirRoleReceived_lasting (n f s) : lastingOf (execMirRoleReceived n f s) = some s.lasting :=
  congrArg some (State.onFrame_lasting fun p s => by
    dsimp only; (repeat' split) <;> simp)

@[simp] theorem execMirMarksReceived_lasting (n f s) : lastingOf (execMirMarksReceived n f s) = some s.lasting :=
  congrArg some (State.onFrame_lasting fun _ _ => State.up_lasting ..)

@[simp] theorem execMirMarksAckReceived_lasting (n f s) : lastingOf (execMirMarksAckReceived n f s) = some s.lasting :=
  congrArg some (State.onFrame_lasting fun p s => by
    dsimp only; (repeat' split) <;> simp)

@[simp] theorem execNakFullResend_lasting (n s) : lastingOf (execNakFullResend n s) = some s.lasting := by unfold execNakFullResend; split <;> simp
@[simp] theorem execRolloverResend_lasting (n s) : lastingOf (execRolloverResend n s) = some s.lasting := by unfold execRolloverResend; split <;> simp
@[simp] theorem execLeaseExpired_lasting (n s) : lastingOf (execLeaseExpired n s) = some s.lasting := by simp only [execLeaseExpired]; split <;> simp
@[simp] theorem execSoloEntry_lasting (n s) : lastingOf (execSoloEntry n s) = some s.lasting := by simp only [execSoloEntry]; split <;> simp
@[simp] theorem execAutoTakeover_lasting (n s) : lastingOf (execAutoTakeover n s) = some s.lasting := by simp only [execAutoTakeover]; split <;> simp

@[simp] theorem execMarksResendTimeout_lasting (n s) : lastingOf (execMarksResendTimeout n s) = some s.lasting := by
  unfold execMarksResendTimeout; split <;> simp

/-! ### Kept by the operations of Machine/Start.lean -/

namespace State

@[simp] theorem startFails_lasting (s n step code) : (startFails s n step code).lasting = s.lasting := by simp [startFails]
@[simp] theorem startQuarantine_lasting (s n) : (startQuarantine s n).lasting = s.lasting := (tamperBlock_lasting ..).trans (up_lasting ..)

@[simp] theorem ringSettings_lasting (s n isNew image) : (ringSettings s n isNew image).lasting = s.lasting := by
  unfold ringSettings
  extract_lets st sec now setBits all cht s1 s2 s3 s4 s5 s6
  have hset : ∀ s off val mask, (setBits s off val mask).lasting = s.lasting := fun _ _ _ _ => rwr_lasting ..
  have hall : ∀ s l, (all s l).lasting = s.lasting := fun s l => foldl_lasting (fun s e => hset ..) l s
  have hcht : ∀ s l, (cht s l).lasting = s.lasting := fun s l => foldl_lasting (fun s e => by split; exacts [hset .., rfl]) l s
  have h1 : s1.lasting = s.lasting := foldl_lasting (fun s o => by split; exacts [hset .., rfl]) ..
  have h3 : s3.lasting = s2.lasting := by unfold s3; split; exacts [rfl, hcht ..]
  calc _ = s6.lasting := upR_lasting _ fun _ => rfl
    _ = s4.lasting := by simp [s6, s5]
    _ = s3.lasting := foldl_lasting (fun _ _ => rwr_lasting ..) ..
    _ = s.lasting := h3.trans ((hall ..).trans ((hall ..).trans h1))

@[simp] theorem ringStep_lasting (s n isNew image) : (ringStep s n isNew image).lasting = s.lasting := by simp [ringStep]
@[simp] theorem stepEight_lasting (s n agree) : (stepEight s n agree).lasting = s.lasting := by simp [stepEight]
@[simp] theorem stepSeven_lasting (s n env) : (stepSeven s n env).lasting = s.lasting := by simp [stepSeven]
@[simp] theorem stepSix_lasting (s n env) : (stepSix s n env).lasting = s.lasting := by simp [stepSix]
@[simp] theorem stepFive_lasting (s n env isNew image) : (stepFive s n env isNew image).lasting = s.lasting := by simp [stepFive]
@[simp] theorem stepFour_lasting (s n env) : (stepFour s n env).lasting = s.lasting := by simp only [stepFour]; (repeat' split) <;> simp
@[simp] theorem stepThree_lasting (s n env) : (stepThree s n env).lasting = s.lasting := by simp [stepThree]
@[simp] theorem stepTwo_lasting (s n env) : (stepTwo s n env).lasting = s.lasting := by simp [stepTwo]
@[simp] theorem stepOne_lasting (s n env) : (stepOne s n env).lasting = s.lasting := by simp [stepOne]

end State

@[simp] theorem execRingPartFailure_lasting (p s) : lastingOf (execRingPartFailure p s) = some s.lasting := by
  unfold execRingPartFailure; split <;> simp

@[simp] theorem execRsRefclkFailover_lasting (bad s) : lastingOf (execRsRefclkFailover bad s) = some s.lasting := by
  simp only [execRsRefclkFailover]; (repeat' split) <;> simp

@[simp] theorem execStrandStart_lasting (n env s) : lastingOf (execStrandStart n env s) = some s.lasting := by
  simp only [execStrandStart, lastingOf_ite, lastingOf_next, State.stepOne_lasting]
  split <;> rfl

@[simp] theorem execPairWaitExpired_lasting (n agree s) : lastingOf (execPairWaitExpired n agree s) = some s.lasting := by
  unfold execPairWaitExpired; split <;> simp

namespace State

@[simp] theorem refusedTwice_lasting (s n step) : (refusedTwice s n step).lasting = s.lasting := by simp [refusedTwice]

end State

@[simp] theorem execModeReqRestart_lasting (n who s) : lastingOf (execModeReqRestart n who s) = some s.lasting := by simp [execModeReqRestart]
@[simp] theorem execModeReqThaw_lasting (n who agree s) : lastingOf (execModeReqThaw n who agree s) = some s.lasting := by simp [execModeReqThaw]
@[simp] theorem execModeReqFreeze_lasting (n who s) : lastingOf (execModeReqFreeze n who s) = some s.lasting := by simp [execModeReqFreeze]

namespace State

@[simp] theorem debugChallenge_lasting (s) : (debugChallenge s).2.lasting = s.lasting := by unfold debugChallenge; split <;> simp

end State

/-! ### Kept by the operations of Machine/Tag.lean -/

namespace State

@[simp] theorem tagServe_lasting {s f} (hw : ∀ s, (f s).lasting = s.lasting) : (tagServe s f).lasting = s.lasting := by simp [tagServe, hw]
@[simp] theorem tagGo_lasting (s x) : (tagGo s x).lasting = s.lasting := by simp [tagGo]
@[simp] theorem tagReply_lasting (s b) : (tagReply s b).lasting = s.lasting := by simp [tagReply]
@[simp] theorem tagOwn_lasting (s) : (tagOwn s).lasting = s.lasting := by simp [tagOwn]
@[simp] theorem tagAsk_lasting {s h f} (hw : ∀ s, (f s).lasting = s.lasting) : (tagAsk s h f).lasting = s.lasting := by simp [tagAsk, hw]
@[simp] theorem tagDraw_lasting (s) : (tagDraw s).2.lasting = s.lasting := by simp [tagDraw]
@[simp] theorem tagErr_lasting (s code block) : (tagErr s code block).lasting = s.lasting := by simp [tagErr]
@[simp] theorem tagBusy_lasting (s) : (tagBusy s).lasting = s.lasting := by simp [tagBusy]
@[simp] theorem tagFree_lasting (s) : (tagFree s).lasting = s.lasting := by simp [tagFree]

end State

@[simp] theorem execTagNext_lasting (s) : lastingOf (execTagNext s) = some s.lasting := by unfold execTagNext; (repeat' split) <;> simp

@[simp] theorem execTagRead_lasting (h first count s) : lastingOf (execTagRead h first count s) = some s.lasting :=
  congrArg some (State.tagAsk_lasting fun s => by
    split <;> simp)

@[simp] theorem execTagState_lasting (h s) : lastingOf (execTagState h s) = some s.lasting := congrArg some (State.tagAsk_lasting fun s => by simp)

@[simp] theorem execTagChallenge_lasting (h nonce s) : lastingOf (execTagChallenge h nonce s) = some s.lasting := by
  unfold execTagChallenge
  split
  · rfl
  · refine congrArg some (State.tagAsk_lasting fun s => ?_)
    dsimp only; split <;> simp

@[simp] theorem execTagNoteWrite_lasting (h block data mac ok s) : lastingOf (execTagNoteWrite h block data mac ok s) = some s.lasting := by
  unfold execTagNoteWrite
  split
  · rfl
  · refine congrArg some (State.tagAsk_lasting fun s => ?_)
    dsimp only; (repeat' split) <;> simp

@[simp] theorem execTagQuiet_lasting (h s) : lastingOf (execTagQuiet h s) = some s.lasting := congrArg some (State.tagAsk_lasting fun s => by simp)
@[simp] theorem execTagHostRead_lasting (who s markOk) : lastingOf (execTagHostRead who s markOk) = some s.lasting := by simp [execTagHostRead]
@[simp] theorem execTagHostWrite_lasting (who s) : lastingOf (execTagHostWrite who s) = some s.lasting := by simp [execTagHostWrite]

@[simp] theorem execTagHostProgramDone_lasting (ok s) : lastingOf (execTagHostProgramDone ok s) = some s.lasting := by
  unfold execTagHostProgramDone; split <;> simp

@[simp] theorem execTagSecretCommit_lasting (who v s) : lastingOf (execTagSecretCommit who v s) = some s.lasting := by simp [execTagSecretCommit]
@[simp] theorem execTagKill_lasting (n who v agree s) : lastingOf (execTagKill n who v agree s) = some s.lasting := by simp [execTagKill]

/-! ### Kept by the operations of Machine/Snapshot.lean -/

@[simp] theorem execSnpTrigger_lasting (n who s) : lastingOf (execSnpTrigger n who s) = some s.lasting := by simp [execSnpTrigger]
@[simp] theorem execSnpRelease_lasting (n who s) : lastingOf (execSnpRelease n who s) = some s.lasting := by simp [execSnpRelease]

@[simp] theorem execSnapshotToken_lasting (n i chan items quiet s keyBus) :
    lastingOf (execSnapshotToken n i chan items quiet s keyBus) = some s.lasting := by
  simp only [execSnapshotToken]; (repeat' split) <;> rfl

@[simp] theorem execRngSnapWrite_lasting (who v s) : lastingOf (execRngSnapWrite who v s) = some s.lasting := by simp [execRngSnapWrite]

/-! ### Kept by the operations of Machine/RegAccess.lean -/

namespace State

@[simp] theorem answer_lasting (s w) : (answer s w).lasting = s.lasting := by simp [answer]

@[simp] theorem readStrand_lasting (s who n off) : (readStrand s who n off).lasting = s.lasting := by
  unfold readStrand
  dsimp only
  split
  · have h := execQtzDataRead_lasting n who s
    split <;> rename_i heq
    · rw [heq] at h; exact Option.some.inj h
    · rfl
  · (repeat' split) <;> simp

@[simp] theorem regRead_lasting (s who a) : (regRead s who a).lasting = s.lasting := by unfold regRead; (repeat' split) <;> simp

@[simp] theorem after_lasting {o s} (h : lastingOf o = some s.lasting) : (after o s).lasting = s.lasting := by
  cases o with
  | next t => exact Option.some.inj h
  | _ => rfl

@[simp] theorem agtCommand_lasting (s n who v) : (agtCommand s n who v).lasting = s.lasting := by unfold agtCommand; split <;> simp
@[simp] theorem modeReq_lasting (s n who v) : (modeReq s n who v).lasting = s.lasting := by unfold modeReq; (repeat' split) <;> simp
@[simp] theorem linkCtl_lasting (s who n k v) : (linkCtl s who n k v).lasting = s.lasting := by simp [linkCtl]
@[simp] theorem snpCommand_lasting (s n who v) : (snpCommand s n who v).lasting = s.lasting := by simp [snpCommand]
@[simp] theorem writeStrand_lasting (s who n o v) : (writeStrand s who n o v).lasting = s.lasting := by simp [writeStrand]
@[simp] theorem ringField_lasting (s o v f) : (ringField s o v f).1.lasting = s.lasting := by simp only [ringField]; (repeat' split) <;> simp

@[simp] theorem ringFields_lasting (s o v u) : (ringFields s o v u).1.lasting = s.lasting := by
  induction u generalizing s with
  | nil => rfl
  | cons f r ih => exact (ih _).trans (ringField_lasting ..)

@[simp] theorem writeRingReg_lasting (s who o v) : (writeRingReg s who o v).lasting = s.lasting := by unfold writeRingReg; split <;> simp
@[simp] theorem queueConfig_lasting (s who q disabled o v) : (queueConfig s who q disabled o v).lasting = s.lasting := by simp [queueConfig]
@[simp] theorem sqCfgWrite_lasting (s who q o v) : (sqCfgWrite s who q o v).lasting = s.lasting := by simp [sqCfgWrite]
@[simp] theorem sqControl_lasting (s who q v) : (sqControl s who q v).lasting = s.lasting := by simp [sqControl]
@[simp] theorem writeHq_lasting (s who o v) : (writeHq s who o v).lasting = s.lasting := by simp [writeHq]
@[simp] theorem writeVf_lasting (s who o v) : (writeVf s who o v).lasting = s.lasting := by simp [writeVf]
@[simp] theorem writeTag_lasting (s who o v) : (writeTag s who o v).lasting = s.lasting := by unfold writeTag; (repeat' split) <;> simp
@[simp] theorem writeRing_lasting (s who o v) : (writeRing s who o v).lasting = s.lasting := by unfold writeRing; split <;> simp
@[simp] theorem writePage_lasting (s who n o v) : (writePage s who n o v).lasting = s.lasting := by unfold writePage; (repeat' split) <;> simp
@[simp] theorem regWrite_lasting (s who a v) : (regWrite s who a v).lasting = s.lasting := by unfold regWrite; (repeat' split) <;> simp

@[simp] theorem errorResponse_lasting (s who a) : (errorResponse s who a).lasting = s.lasting := by
  simp only [errorResponse]; (repeat' split) <;> simp

@[simp] theorem crossing_lasting {s who a bus isRead work} (hw : ∀ s, (work s).lasting = s.lasting) :
    (crossing s who a bus isRead work).lasting = s.lasting := by
  unfold crossing; split <;> simp [hw]

end State

/-! ### Kept by the operations of Machine/Garnet.lean -/

namespace State

@[simp] theorem upCore_lasting (s n c f) : (upCore s n c f).lasting = s.lasting := by simp [upCore]
@[simp] theorem ended_lasting (s n c f) : (ended s n c f).lasting = s.lasting := by simp [ended]
@[simp] theorem retire_lasting (s n c f) : (retire s n c f).lasting = s.lasting := by simp [retire]
@[simp] theorem busError_lasting (s n c a) : (busError s n c a).lasting = s.lasting := by simp [busError]
@[simp] theorem sramError_lasting (s n c detail a) : (sramError s n c detail a).lasting = s.lasting := by simp [sramError]

@[simp] theorem reading_lasting {s n c l work} (hw : ∀ s, (work s).lasting = s.lasting) : (reading s n c l work).lasting = s.lasting := by
  simp [reading, hw]

@[simp] theorem instr_lasting {s n c work} (hw : ∀ a s, (work a s).lasting = s.lasting) : (instr s n c work).lasting = s.lasting := by
  simp only [instr]; (repeat' split) <;> simp [hw]

@[simp] theorem regOp_lasting (s n c rd ra rb rc f) : (regOp s n c rd ra rb rc f).lasting = s.lasting := by simp [regOp]
@[simp] theorem shiftOp_lasting (s n c rd ra sh rc f) : (shiftOp s n c rd ra sh rc f).lasting = s.lasting := by simp [shiftOp]
@[simp] theorem immOp_lasting (s n c rd ra i f) : (immOp s n c rd ra i f).lasting = s.lasting := by simp [immOp]
@[simp] theorem fieldOp_lasting (s n c rd ra lsb wm1 rs f) : (fieldOp s n c rd ra lsb wm1 rs f).lasting = s.lasting := by simp [fieldOp]
@[simp] theorem goTo_lasting (s n c t f) : (goTo s n c t f).lasting = s.lasting := by simp [goTo]
@[simp] theorem load_lasting (s n c a size f) : (load s n c a size f).lasting = s.lasting := by simp only [load]; (repeat' split) <;> simp
@[simp] theorem store_lasting (s n c a b) : (store s n c a b).lasting = s.lasting := by simp only [store]; (repeat' split) <;> simp

@[simp] theorem supervisor_lasting {s n c work} (hw : ∀ a s, (work a s).lasting = s.lasting) : (supervisor s n c work).lasting = s.lasting := by
  simp [supervisor, hw]

end State

@[simp] theorem execInterruptEntry_lasting (n c s) : lastingOf (execInterruptEntry n c s) = some s.lasting := by
  simp only [execInterruptEntry]; (repeat' split) <;> simp

namespace State

@[simp] theorem copGate_lasting {s n c unit work} (hw : ∀ a s, (work a s).lasting = s.lasting) : (copGate s n c unit work).lasting = s.lasting := by
  simp [copGate, hw]

@[simp] theorem copRun_lasting (s n unit j) : (copRun s n unit j).lasting = s.lasting := by unfold copRun; split <;> simp

@[simp] theorem noteBeat_lasting (s n c priv kind cause region a) : (noteBeat s n c priv kind cause region a).lasting = s.lasting := by
  simp [noteBeat]

end State

@[simp] theorem execCopSubmit_lasting (n c unit rd ra rb s) : lastingOf (execCopSubmit n c unit rd ra rb s) = some s.lasting :=
  congrArg some (State.copGate_lasting fun x s => State.reading_lasting fun s => by
    dsimp only; (repeat' split) <;> simp)

namespace State

@[simp] theorem fabricGate_lasting {s n c m work} (hw : ∀ a s, (work a s).lasting = s.lasting) : (fabricGate s n c m work).lasting = s.lasting := by
  simp [fabricGate, hw]

end State

@[simp] theorem execCopTicketEnd_lasting (n c num s) : lastingOf (execCopTicketEnd n c num s) = some s.lasting := by
  simp only [execCopTicketEnd]; (repeat' split) <;> simp

@[simp] theorem execCopBeatIssue_lasting (n c num a write s) : lastingOf (execCopBeatIssue n c num a write s) = some s.lasting := by
  simp only [execCopBeatIssue]; (repeat' split) <;> simp

/-! ### Kept by the operations of Machine/Step.lean -/

@[simp] theorem idle_lasting (s) : (idle s).lasting = s.lasting := by simp [idle]

/-! ### The fuses of the life-cycle state -/

/-- The three copies with the bits of state `k` blown in each. -/
def LifeFuses.burn (f : LifeFuses) (k : Nat) : LifeFuses :=
  { a := f.a ||| (2 ^ k - 1), b := f.b ||| (2 ^ k - 1), c := f.c ||| (2 ^ k - 1) }

/-- What a code of the fuses counts as. -/
def lifeOfCode (x : Nat) : Nat :=
  match x with
  | 0 => 0 | 1 => 1 | 3 => 2 | 7 => 3 | 15 => 4 | _ => 5

/-- The majority of the three copies, R67. -/
def LifeFuses.code (f : LifeFuses) : Nat := (f.a &&& f.b) ||| (f.a &&& f.c) ||| (f.b &&& f.c)

/-- The life-cycle state that the fuses say, R67. -/
def LifeFuses.life (f : LifeFuses) : Nat := lifeOfCode (f.code % 64)

@[simp] theorem State.lasting_life (s : State) : s.lasting.1.life = s.life := rfl

theorem LifeFuses.code_burn (f : LifeFuses) (k : Nat) : (f.burn k).code = f.code ||| (2 ^ k - 1) := by
  unfold code burn
  refine Nat.eq_of_testBit_eq fun i => ?_
  simp only [Nat.testBit_or, Nat.testBit_and]
  cases f.a.testBit i <;> cases f.b.testBit i <;> cases f.c.testBit i <;> simp

/-- Blowing the bits of a state that is not behind gives that state, whatever the code held above. -/
theorem lifeOfCode_or : ∀ x < 64, ∀ k ≤ 5, lifeOfCode x ≤ k → lifeOfCode (x ||| (2 ^ k - 1)) = k := by decide

theorem LifeFuses.life_burn {f : LifeFuses} {k : Nat} (hk : k ≤ 5) (h : f.life ≤ k) : (f.burn k).life = k := by
  have hv : (2 ^ k - 1) % 2 ^ 6 = 2 ^ k - 1 := Nat.mod_eq_of_lt ((Nat.sub_lt (by positivity) one_pos).trans_le (Nat.pow_le_pow_right two_pos (by omega)))
  rw [life, code_burn, show 64 = 2 ^ 6 from rfl, Nat.or_mod_two_pow, hv]
  exact lifeOfCode_or _ (Nat.mod_lt _ (by decide)) k hk h

theorem State.life_le_five (s : State) : s.life ≤ 5 := by unfold life; split <;> decide

/-- From `x` to `y` no fuse of the life-cycle state is cleared, the state does not go back, and the queue of commands is the same. -/
structure Advances (x y : LifeFuses × List Instr) : Prop where
  a : x.1.a ||| y.1.a = y.1.a
  b : x.1.b ||| y.1.b = y.1.b
  c : x.1.c ||| y.1.c = y.1.c
  life : x.1.life ≤ y.1.life
  pending : y.2 = x.2

@[simp] theorem Advances.refl (x : LifeFuses × List Instr) : Advances x x := ⟨Nat.or_self _, Nat.or_self _, Nat.or_self _, le_rfl, rfl⟩

theorem Advances.of_eq {x y z : LifeFuses × List Instr} (ha : Advances y z) (h : y = x) : Advances x z := h ▸ ha

theorem Advances.burn {x : LifeFuses × List Instr} {k : Nat} (hk : k ≤ 5) (h : x.1.life ≤ k) : Advances x (x.1.burn k, x.2) where
  a := by simp [LifeFuses.burn]
  b := by simp [LifeFuses.burn]
  c := by simp [LifeFuses.burn]
  life := by rw [LifeFuses.life_burn hk h]; exact h
  pending := rfl

namespace State

@[simp] theorem advanceLife_lasting (s : State) (k : Nat) : (s.advanceLife k).lasting = (s.lasting.1.burn k, s.lasting.2) := by
  unfold advanceLife; dsimp only; split <;> split <;> rfl

theorem advances_advanceLife {x : LifeFuses × List Instr} {s : State} {k : Nat} (hx : s.lasting = x) (hk : k ≤ 5) (h : x.1.life ≤ k) :
    Advances x (s.advanceLife k).lasting := by
  subst hx
  rw [advanceLife_lasting]; exact .burn hk h

theorem advances_lifeStep {s : State} {k : Nat} (hk : k ≤ 5) (h : s.life ≤ k) (n d agree) : Advances s.lasting (s.lifeStep n k d agree).lasting := by
  unfold lifeStep
  split
  · exact .refl _
  · split
    · exact advances_advanceLife rfl hk h
    · simp

theorem advances_returnLife (s : State) (n agree) : Advances s.lasting (s.returnLife n agree).lasting := by
  unfold returnLife
  split
  · next h => exact advances_lifeStep (by decide) (by omega) ..
  · exact .refl _

theorem advances_enterReturn (s : State) (n agree) : Advances s.lasting (s.enterReturn n agree).lasting := by
  unfold enterReturn
  exact (advances_returnLife ..).of_eq (up_lasting ..)

theorem advances_closeOwnership (s : State) (n d agree) : Advances s.lasting (s.closeOwnership n d agree).lasting := by
  unfold closeOwnership
  extract_lets k fuse
  have hfuse (s) : (fuse s).lasting = s.lasting := rfl
  clear_value fuse
  split
  · exact .refl _
  · split
    · simp [hfuse]
    · split
      · exact .refl _
      · split
        · simp
        · next h2 _ =>
          rw [restartStrand_lasting]
          have h : s.life ≤ 3 := by omega
          exact advances_advanceLife (hfuse s) (by decide) h

theorem advances_returnOrder (s : State) (n agree) : Advances s.lasting (s.returnOrder n agree).lasting := by
  unfold returnOrder
  split
  · split
    · exact advances_enterReturn ..
    · simp
  · simp
  · exact .refl _

theorem advances_orderEffect (s : State) (n o agree) : Advances s.lasting (s.orderEffect n o agree).lasting := by
  unfold orderEffect
  extract_lets st
  split
  case h_4 => exact advances_returnOrder ..
  case h_8 =>
    split
    · exact advances_lifeStep le_rfl s.life_le_five ..
    · exact .refl _
  all_goals (try split) <;> simp

theorem advances_approve (s : State) (n o agree) : Advances s.lasting (s.approve n o agree).lasting := by
  unfold approve
  extract_lets
  split
  · exact (advances_orderEffect ..).of_eq (setSd_lasting ..)
  · simp

theorem advances_strandErase (s : State) (n e tries agree cut) : Advances s.lasting (s.strandErase n e tries agree cut).lasting := by
  unfold strandErase
  extract_lets s1 m s2
  have h1 : s1.lasting = s.lasting := (up_lasting ..).trans (loseWork_lasting ..)
  have h2 : Advances s.lasting s2.lasting := by
    rw [← h1]
    unfold s2
    split
    · exact advances_enterReturn ..
    · split
      · exact .refl _
      · rw [up_lasting]; exact .refl _
  split
  · rwa [tamperBlock_lasting]
  · exact h2
end State

/-- The outcome is a next state, and it advances. -/
def AdvancesTo (s : State) (o : Host.Outcome State Fault Refusal) : Prop := ∃ t, o = .next t ∧ Advances s.lasting t.lasting

theorem AdvancesTo.next {s t : State} (h : Advances s.lasting t.lasting) : AdvancesTo s (.next t) := ⟨t, rfl, h⟩

theorem AdvancesTo.of_lasting {s t : State} (h : t.lasting = s.lasting) : AdvancesTo s (.next t) := .next (h ▸ .refl _)

theorem AdvancesTo.of_lastingOf {s : State} {o} (h : lastingOf o = some s.lasting) : AdvancesTo s o := by
  cases o with
  | next t => exact .of_lasting (Option.some.inj h)
  | _ => cases h

theorem execMakerLifecycleProgram_advances (digest returnDigest agree s) : AdvancesTo s (execMakerLifecycleProgram digest returnDigest agree s) := by
  unfold execMakerLifecycleProgram
  split
  · exact .next (.refl _)
  · next hg =>
    have hl : s.life ≤ 1 := by simp at hg; omega
    split
    · exact .next (by simp)
    · split
      · next h0 => exact .next (State.advances_advanceLife (State.upR_lasting _ fun _ => rfl) (by decide) hl)
      · exact .next (State.advances_advanceLife rfl (by decide) (hl.trans one_le_two))

theorem execMakerScrapOrder_advances (sig agree s key) : AdvancesTo s (execMakerScrapOrder sig agree s key) := by
  unfold execMakerScrapOrder
  split
  · exact .of_lasting rfl
  · split
    · exact .of_lasting rfl
    · generalize (s.sd 0).drawBytes 32 = d
      obtain ⟨x, st⟩ := d
      dsimp -zeta only
      extract_lets s'
      have hs : s'.lasting = s.lasting := (State.upR_lasting _ fun _ => rfl).trans (State.setSd_lasting s 0 st)
      clear_value s'
      split
      · exact .next ((State.advances_lifeStep le_rfl s'.life_le_five ..).of_eq hs)
      · exact .of_lasting ((State.upR_lasting _ fun _ => rfl).trans hs)

/-- A job of the custodian card's port advances where its work does. -/
theorem State.ccJob_advances {n : Fin 4} {j : Job} {work : State → State} (hw : ∀ s, Advances s.lasting (work s).lasting) (s : State) :
    Advances s.lasting (s.ccJob n j work).lasting := by
  unfold ccJob
  dsimp only
  (repeat' split)
  case isFalse.isFalse.isFalse.isFalse => exact (hw _).of_eq (State.up_lasting ..)
  all_goals simp

theorem execCcClose_advances (n j agree s owner) : AdvancesTo s (execCcClose n j agree s owner) := by
  refine .next (State.ccJob_advances (fun s => ?_) s)
  extract_lets s'
  have hs : s'.lasting = s.lasting := State.succeed_lasting ..
  clear_value s'
  split
  · simp
  · split
    · exact (State.advances_closeOwnership ..).of_eq hs
    · simp [hs]

theorem execEraseDecision_advances (n agree s cut) : AdvancesTo s (execEraseDecision n agree s cut) := by
  unfold execEraseDecision
  extract_lets st
  split
  · exact .of_lasting rfl
  · split
    · exact .of_lasting rfl
    · next e _ _ =>
      extract_lets k s'
      have hs : s'.lasting = s.lasting := by unfold s'; split <;> rfl
      refine .next ?_
      split
      · exact (State.advances_strandErase ..).of_eq hs
      · exact (Advances.refl _).of_eq hs

theorem execDoubledDecisionRetry_advances (n agree s) : AdvancesTo s (execDoubledDecisionRetry n agree s) := by
  unfold execDoubledDecisionRetry
  split
  · exact .of_lasting rfl
  · next d t _ =>
    extract_lets s' m serve once
    have hs : s'.lasting = s.lasting := rfl
    have hserve : serve.lasting = s.lasting := by unfold serve; split <;> simp [hs]
    have honce (f : State → State) (hf : Advances s'.lasting (f s').lasting) : Advances s.lasting (once f).lasting := by
      unfold once
      split
      · exact hs ▸ hf
      · rw [State.up_lasting, hs]; exact .refl _
    clear_value s' serve once
    split
    · exact .of_lasting hs
    · cases d with
      | admission => exact .of_lasting (by (repeat' split) <;> simp [hs])
      | thaw => exact .of_lasting (by split <;> assumption)
      | service => exact .of_lasting (by split <;> assumption)
      | ceremonyClose => exact .of_lasting (by (repeat' split) <;> simp [hs])
      | returnOrder =>
        refine .next ?_
        split
        · exact honce _ (State.advances_enterReturn ..)
        · exact (Advances.refl _).of_eq hs
      | reprovision => exact .next (honce _ (by simp))
      | ownership =>
        refine .next ?_
        (repeat' split)
        · exact honce _ (State.advances_closeOwnership ..)
        all_goals exact (Advances.refl _).of_eq hs
      | scrap =>
        refine .next ?_
        split
        · exact (Advances.refl _).of_eq hs
        · exact honce _ (State.advances_advanceLife rfl le_rfl s'.life_le_five)
      | returned =>
        refine .next ?_
        split
        · exact (Advances.refl _).of_eq hs
        · exact honce _ (State.advances_returnLife ..)

theorem execCcApduResponse_advances (n data sw agree s abort) : AdvancesTo s (execCcApduResponse n data sw agree s abort) := by
  unfold execCcApduResponse
  extract_lets st0 turn st st'
  clear_value st' st
  split
  · exact .of_lasting rfl
  · split
    · exact .of_lasting rfl
    · split
      · exact .of_lasting rfl
      · split
        case h_4 =>
          split
          · exact .of_lasting rfl
          · split
            · exact .next ((State.advances_approve ..).of_eq (State.setSd_lasting ..))
            · exact .of_lasting rfl
        all_goals exact .of_lastingOf (by (repeat' split) <;> rfl)

/-- Every command ends in a next state. Past the six that take the life-cycle state on, each keeps the fuses as its operations do. -/
theorem exec_advances (c : Instr) (s : State) : AdvancesTo s (exec c s) := by
  unfold exec
  cases c
  case makerLifecycleProgram => exact execMakerLifecycleProgram_advances ..
  case makerScrapOrder => exact execMakerScrapOrder_advances ..
  case ccClose => exact execCcClose_advances ..
  case eraseDecision => exact execEraseDecision_advances ..
  case doubledDecisionRetry => exact execDoubledDecisionRetry_advances ..
  case ccApduResponse => exact execCcApduResponse_advances ..
  all_goals
    refine .of_lastingOf ?_
    simp [execVltImport, execVltFree, execVltQuery, execVltPublic, execVltDiscard, execVltWrapRenew, execVltWrapClose, execVltAbandon, execVltRootClear,
    execRootRemaskPass, execTopKcv, execTopCbcEnc, execTopCbcDec, execTopCtrEnc, execTopCtrDec, execTopGcmEnc, execTopGcmDec, execTopGcmDecStream,
    execTopCcmEnc, execTopCcmDec, execTopCmacGen, execTopCmacVerify, execTopXtsEnc, execTopXtsDec, execTopKwWrap, execTopKwUnwrap, execJadHash,
    execJadHmacGen, execJadHmacVerify, execTopazReseed, execMgtNop, execEntryCacheFetch, execQueueDiscardDone, execPcieLinkDown, execPostBatch,
    execCheckBatch, execRelayBuffer, execPcieLinkUp, execBerModmul, execBerModexp, execBerModinv, execBerRsaSign, execBerRsaVerify, execBerRsaEncrypt,
    execBerRsaDecrypt, execBerEcdsaSign, execBerEcdsaVerify, execBerEddsaSign, execBerEddsaVerify, execBerEcdh, execBerFfdh, execBerPointCheck,
    execBerPrimeGen, execVltCreate, execPlainLineError, execLinkHandshakeStart, execSlRecordFrame, execSlHostDataFrame, execSlCloseFrame,
    execSlPollDue, execSlHandshakeTimeout, execSlBackoffElapsed, execSlSessionLifeExpired, execSlTransceiverFault, execSlSend, execSlClose,
    execSlQuery, execRecordPortTransfer, execEorIdleExpired, execSwapDecision, execAgingWorn, execGradientCheck, execBerylFence, execJnlStoreSet,
    execJnlSuperseded, execJnlTimeSet, execJnlTimeSlew, execJnlRollover, execMirRoleSwap, execMirTakeover, execJournalCheckpoint, execAnchorWrite,
    execJcCardInsert, execJcCardRemove, execJcBusyTimeout, execJcRetuneDue, execJcCounter, execJcEject, execCcOrderQ, execCcCancel, execCcCardInsert,
    execCcCardRemove, execT1BlockTimeout, execEntropyBlockConditioned, execRctFailure, execAptWindowEnd, execQtzRandom, execAgtEraseResume,
    execVfCreate, execVfSetPool, execVfRemove, execVfReset, execVfQuery, execVfFreeze, execVfFreezeDone, execVfSave, execVfThaw, execVfResetDone,
    execVfRemoveDone, execGenerationAdvance, execSriovVfDisable, execConventionalReset, execHotReset, execFunctionLevelReset, execSramPatrolPass,
    execDuplicateCopySweep, execDetectorReport, execVigilSample, execEraseRequestReceived, execCrystalStop, execThermNThreshold, execSupplyGlitch,
    execSourceFuseOff, execTestProbeSession, execGulsisLaneLockLost, execGulsisLinkTrained, execMirHeadReceived, execMirLeaseReceived,
    execMirRolloverReceived, execEntryResendTimeout, execHeartbeatDue, execLeaseSendDue, execWriterLost, execMirReconcile, execMainPowerLoss,
    execMainPowerReturn, execStrandFreezeComplete, execCeremonyIdleExpired, execMakerDebugChallenge, execRingRetainWrite, execTagFieldOn,
    execTagFieldLost, execTagRound, execTagAck, execTagNak, execTagFieldAccessEnd, execSnapInEdge, execRegisterWrite, execLoRegisterRead,
    execStagedValueApply, execMpuRegionWrite, execGAdd, execGSub, execGAnd, execGOr, execGXor, execGSll, execGSrl, execGSra, execGRotr, execGSlli,
    execGSrli, execGSrai, execGSeq, execGSne, execGSlt, execGSltu, execGCsel, execGMul, execGMulh, execGMulhu, execGDivu, execGRemu, execGClz,
    execGPerm, execGBfx, execGBfxs, execGBfi, execGAddi, execGAndi, execGOri, execGXori, execGSeqi, execGSlti, execGSltiu, execGLui, execGJalr,
    execGLw, execGLh, execGLhu, execGLb, execGLbu, execGLdp, execGSw, execGSh, execGSb, execGSdp, execGBz, execGBnz, execGJ, execGJal, execGSyscall,
    execGBreak, execGEret, execGWfi, execGMfcr, execGMtcr, execGFence, execGCacheInvalIcache, execGCacheInvalIline, execGCacheInvalDline,
    execGCacheInvalDcache, execGMfb, execGMtb, execNmiEntry, execWfiWake, execCoreTimerExpiry, execCopPoll, execCopVersion, execFabricVersion,
    execFabricFunction]

/-- A step takes the front command off the queue, and clears no fuse. -/
theorem step_advances {s t : State} (h : step s = .next t) :
    Advances (s.ring.ident.life, s.pending.tail) t.lasting := by
  unfold step at h
  split at h
  · next c rest hp =>
    obtain ⟨u, hu, ha⟩ := exec_advances c { s with pending := rest }
    rw [hu, Host.Outcome.next.injEq] at h
    rw [← h, hp]
    exact ha
  · next hp =>
    rw [Host.Outcome.next.injEq] at h
    rw [← h, hp]
    exact (Advances.refl (idle s).lasting).of_eq (by rw [State.lasting, idle, hp]; rfl)

/-! ### A code that is no thermometer code -/

/-- The codes with no 1 above a 0, R67. -/
def thermometerCodes : List Nat := [0, 1, 3, 7, 15, 31, 63]

theorem bit_of_thermometerCode : ∀ x ∈ thermometerCodes, ∀ j < 6, ∀ i < j, bit x j = true → bit x i = true := by decide

theorem lifeOfCode_of_not_mem {x : Nat} (h : x ∉ thermometerCodes) : lifeOfCode x = 5 := by
  unfold lifeOfCode
  split
  case h_6 => rfl
  all_goals exact absurd (by decide) h

theorem bit_mod_64 (x : Nat) {j : Nat} (hj : j < 6) : bit (x % 64) j = bit x j := by
  rw [bit, bit, show 64 = 2 ^ 6 from rfl, Nat.testBit_mod_two_pow, decide_eq_true hj, Bool.true_and]

theorem State.life_of_gap {s : State} {i j : Nat} (hij : i < j) (hj : j < 6) (h1 : bit s.lifeCode j = true) (h0 : bit s.lifeCode i = false) :
    s.life = 5 ∧ s.lifeInvalid = true := by
  have hn : s.lifeCode % 64 ∉ thermometerCodes := fun hm => by
    have := bit_of_thermometerCode _ hm j hj i hij
    rw [bit_mod_64 _ hj, bit_mod_64 _ (hij.trans hj), h1, h0] at this
    exact absurd (this rfl) (by decide)
  exact ⟨lifeOfCode_of_not_mem hn, by simpa [lifeInvalid, thermometerCodes] using hn⟩

/-- The register shows the state and whether the code is one, R76. -/
theorem strandWord_lifecycle (s : State) (n : Fin 4) :
    ∃ w, s.strandWord n R.CHT_LIFECYCLE_STATE.off = R.CHT_LIFECYCLE_OWNER_CHANGES.intoWord (R.CHT_LIFECYCLE_INVALID.intoWord
      (R.CHT_LIFECYCLE_STATE.intoWord w s.life) (b2n s.lifeInvalid)) s.ring.ident.ownerDigests.length := ⟨_, rfl⟩

/-- Settles O60, by the frame of every command on the fuses: all but the steps of the life-cycle state leave them, and those only blow bits. -/
theorem lifecycleOnlyAdvances : Obligations.LifecycleOnlyAdvances := by
  unfold Obligations.LifecycleOnlyAdvances
  refine ⟨fun s t h => ?_, fun s i j hij hj h1 h0 => ?_⟩
  · obtain ⟨ha, hb, hc, hl, -⟩ := step_advances h
    exact ⟨ha, hb, hc, hl⟩
  · obtain ⟨hl, hi⟩ := State.life_of_gap hij hj h1 h0
    refine ⟨hl, hi, fun n => ?_⟩
    obtain ⟨w, hw⟩ := strandWord_lifecycle s n
    have hs : R.CHT_LIFECYCLE_INVALID.off = R.CHT_LIFECYCLE_STATE.off := rfl
    rw [hs, hw, hl, hi]
    constructor
    · rw [Fld.ofWord_intoWord_apart _ _ (by decide) rfl, Fld.ofWord_intoWord_apart _ _ (by decide) rfl, Fld.ofWord_intoWord _ _ _ (by decide)]
      rfl
    · rw [Fld.ofWord_intoWord_apart _ _ (by decide) rfl, Fld.ofWord_intoWord _ _ _ (by decide)]
      rfl

end Sys2Proof.Machine
end

section
/-! The mode word (R56, R75), a strand with its volatile state lost, and what signals of Warden leave alone. -/

namespace Sys2Proof.Machine
open Sys2Proof

namespace Strand

/-! ### The mode word -/

/-- CHT_MODE as an entry to a mode writes it: the mode before, the mode, and the cause, R56. -/
def modeWord (x : Strand) (prev m cause : Nat) : Strand :=
  ((x.put R.CHT_MODE_PREV_MODE prev).put R.CHT_MODE_MODE m).put R.CHT_MODE_CAUSE cause

theorem mode_lt (st : Strand) : st.mode < 8 := by unfold mode get Fld.ofWord; exact Nat.mod_lt _ (by decide)

section
variable (x : Strand) (prev m cause : Nat)

theorem modeWord_shown : Shown (· ≠ 0) x (x.modeWord prev m cause) :=
  (((Shown.refl x).put _ _ (by decide)).put _ _ (by decide)).put _ _ (by decide)

theorem modeWord_mode : (x.modeWord prev m cause).mode = m % 8 := by
  unfold modeWord mode
  simp (disch := decide) only [get_put_same, get_put_apart]
  rfl

theorem modeWord_cause : (x.modeWord prev m cause).get R.CHT_MODE_CAUSE = cause % 16 := get_put_same _ _ _ _ (by decide)

theorem modeWord_prev : (x.modeWord prev m cause).get R.CHT_MODE_PREV_MODE = prev % 8 := by
  unfold modeWord
  simp (disch := decide) only [get_put_same, get_put_apart]
  rfl

theorem modeWord_halted : (x.modeWord prev m cause).halted = x.halted := by
  refine congrArg (· == 1) ?_
  unfold modeWord
  simp (disch := decide) only [get_put_apart]

end

theorem setMode_eq_modeWord (st : Strand) (m cause : Nat) : st.setMode m cause = ((st.modeWord st.mode m cause).emptyWindows).tagModeUpdate m := rfl

theorem get_congr {a b : Strand} (h : a.regs = b.regs) (f : Fld) (k : Nat) : a.get f k = b.get f k := congrArg f.ofWord (rd_congr h _)

theorem flag_congr {a b : Strand} (h : a.regs = b.regs) (f : Fld) (k : Nat) : a.flag f k = b.flag f k := congrArg (· == 1) (get_congr h f k)

@[simp] theorem tagModeUpdate_regs (st : Strand) (m : Nat) : (st.tagModeUpdate m).regs = st.regs := by unfold tagModeUpdate; split <;> rfl

/-! ### A strand with its volatile state lost, R9, R56 -/

theorem word_kept_none (w x : Word) : (w &&& BitVec.ofNat 32 0) ||| (x &&& ~~~BitVec.ofNat 32 0) = x := by
  rw [BitVec.and_zero, BitVec.zero_or, BitVec.not_zero, BitVec.and_allOnes]

theorem rd_keepRet {r : RegFile} {o : Nat} {d : RegDef} (hd : RegMap.strandReg o = some d) (hm : retMask d = 0) :
    RegFile.read strandReset (keepRet r) o = strandReset o := by
  induction r with
  | nil => rfl
  | cons p r ih =>
    obtain ⟨q, w⟩ := p
    unfold keepRet
    by_cases hq : q = o
    · subst hq
      simp only [hd, hm, word_kept_none, if_true]
      exact ih
    · split
      · dsimp only
        split
        · exact ih
        · rw [RegFile.read, if_neg (Ne.symm hq), ih]
      · exact ih

/-- A program cut short touches the flash and the draws alone, R567. -/
theorem spoil_eq (st : Strand) (p : ProgRun) : ∃ draws flash, st.spoil p = { st with draws := draws, nv := { st.nv with flash := flash } } := by
  unfold spoil
  generalize p.words = l
  induction l generalizing st with
  | nil => exact ⟨_, _, rfl⟩
  | cons w r ih =>
    obtain ⟨_, _, h⟩ := ih _
    rw [List.foldl_cons, h]
    exact ⟨_, _, rfl⟩

/-- The strand with its page program cut short. -/
def programCut (st : Strand) : Strand := match st.agt.prog with | some p => st.spoil p | none => st

theorem programCut_eq (st : Strand) : ∃ draws flash, st.programCut = { st with draws := draws, nv := { st.nv with flash := flash } } := by
  unfold programCut
  split
  · exact spoil_eq ..
  · exact ⟨_, _, rfl⟩

theorem rd_foldl_wr (g : Nat → Word) {l : List Nat} {p : Nat} (h : p ∉ l) (x : Strand) : (l.foldl (fun x o => x.wr o (g o)) x).rd p = x.rd p := by
  induction l generalizing x with
  | nil => rfl
  | cons o r ih =>
    rw [List.mem_cons, not_or] at h
    rw [List.foldl_cons, ih h.2, rd_wr_other _ _ h.1]

/-- What no loss of volatile state takes, before the progress registers are written back. -/
def bare (st : Strand) : Strand :=
  { Strand.reset st.id with
    nv := { st.nv with vault := { st.nv.vault with attestDraw := if st.mode = 5 then 0 else st.nv.vault.attestDraw } }
    draws := st.draws, regs := keepRet st.regs, fenced := st.fenced, jnl := { index := st.jnl.index, base := st.jnl.base }
    sent := st.sent, quar := st.quar, jsp := { window := st.jsp.window } }

theorem fresh_eq (st : Strand) :
    st.fresh = ((progRegs.foldl (fun x o => x.wr o (progKeep (st.programCut.rd o))) st.programCut.bare).put R.JSP_FUSE_OFF_FUSED
      (st.programCut.get R.JSP_FUSE_OFF_FUSED)).put R.JSP_STATUS_TEST (st.programCut.get R.JSP_STATUS_TEST) := rfl

theorem fresh_roots (st : Strand) : st.fresh.nv.roots = st.nv.roots := by
  obtain ⟨_, _, hp⟩ := programCut_eq st
  rw [show st.fresh.nv.roots = st.programCut.nv.roots from rfl, hp]

theorem fresh_lost (st : Strand) : st.fresh.sram = [] ∧ st.fresh.taken = [] ∧ st.fresh.done = [] := ⟨rfl, rfl, rfl⟩

theorem retained_mode : ∃ d, RegMap.strandReg 0 = some d ∧ retMask d = 0 := ⟨_, rfl, rfl⟩

theorem fresh_rd_mode (st : Strand) : st.fresh.rd 0 = strandReset 0 := by
  obtain ⟨d, hd, hm⟩ := retained_mode
  rw [fresh_eq, rd_put_other _ _ (by decide), rd_put_other _ _ (by decide), rd_foldl_wr _ (by decide)]
  exact rd_keepRet hd hm

theorem fresh_halted (st : Strand) : st.fresh.halted = false := by
  have h : st.fresh.halted = (R.CHT_MODE_HALTED.ofWord (strandReset 0) == 1) := congrArg (fun w => R.CHT_MODE_HALTED.ofWord w == 1) (fresh_rd_mode st)
  exact h.trans (by decide)

end Strand
end Sys2Proof.Machine
end

section
/-! O13: loss and return of main power (R37, R56, R70, R598). -/

namespace Sys2Proof.Machine
open Sys2Proof Sys2Proof.Claims

theorem exec_mainPowerLoss (vbat : Nat) (s : State) : exec (.mainPowerLoss vbat) s = execMainPowerLoss vbat s := rfl

theorem exec_mainPowerReturn (lost : List Nat) (s : State) : exec (.mainPowerReturn lost) s = execMainPowerReturn lost s := rfl

/-! ### The loss -/

/-- A strand in VIGIL: its mode word, and what it keeps and loses, R37, R56. -/
structure Dark (a b : Strand) : Prop where
  mode : b.mode = 0
  cause : b.get R.CHT_MODE_CAUSE = 1
  prev : b.get R.CHT_MODE_PREV_MODE = a.mode
  roots : b.nv.roots = a.nv.roots
  sram : b.sram = []
  taken : b.taken = []

/-- The last of a strand's entry to VIGIL, once its volatile state is lost: the mode word, and the SENTINEL section in force, R595. -/
def Strand.darkened (x : Strand) (prev : Nat) (cfg : List (Nat × Nat)) (tamp t : Nat) : Strand :=
  let x := x.modeWord prev 0 1
  { x.put R.JSP_STATUS_TEST 0 with jsp := {}, nv := { x.nv with vigilCfg := cfg, vigilTamp := tamp, downAt := t }, quar := [] }

theorem Strand.darken_eq (st : Strand) (t : Nat) :
    st.darken t = st.flashStop.fresh.darkened st.mode ((List.range 14).map fun i => (i + 1, st.get R.JSP_SRC_CFG_VIGIL_RANK (i + 1)))
      (st.get R.JSP_CTL_TAMP_EN) t := rfl

theorem Strand.darkened_regs (x : Strand) (prev : Nat) (cfg : List (Nat × Nat)) (tamp t : Nat) :
    (x.darkened prev cfg tamp t).regs = ((x.modeWord prev 0 1).put R.JSP_STATUS_TEST 0).regs := rfl

theorem Strand.darkened_get (x : Strand) (prev : Nat) (cfg : List (Nat × Nat)) (tamp t : Nat) {f : Fld} (hf : f.at 0 ≠ R.JSP_STATUS_TEST.at 0) :
    (x.darkened prev cfg tamp t).get f = (x.modeWord prev 0 1).get f :=
  (congrArg f.ofWord (rd_congr (darkened_regs ..) _)).trans (get_put_other _ 0 hf)

theorem Strand.darkened_kept (x : Strand) (prev : Nat) (cfg : List (Nat × Nat)) (tamp t : Nat) :
    (x.darkened prev cfg tamp t).nv.roots = x.nv.roots ∧ (x.darkened prev cfg tamp t).sram = x.sram ∧ (x.darkened prev cfg tamp t).taken = x.taken := by
  simp [darkened, modeWord]

theorem Strand.flashStop_roots (st : Strand) : st.flashStop.nv.roots = st.nv.roots := by
  obtain ⟨_, _, h⟩ := programCut_eq st
  calc _ = st.programCut.nv.roots := congrArg (·.roots) (agtSync_shown { st.programCut with agt := {} }).nv
    _ = st.nv.roots := by rw [h]

theorem Strand.darken_dark (st : Strand) (t : Nat) : Dark st (st.darken t) := by
  obtain ⟨hsram, htaken, -⟩ := fresh_lost st.flashStop
  have hroots := (fresh_roots _).trans (flashStop_roots st)
  rw [darken_eq]
  generalize st.flashStop.fresh = x at *
  obtain ⟨hr, hs, ht⟩ := darkened_kept x st.mode ((List.range 14).map fun i => (i + 1, st.get R.JSP_SRC_CFG_VIGIL_RANK (i + 1)))
    (st.get R.JSP_CTL_TAMP_EN) t
  exact ⟨(darkened_get _ _ _ _ _ (by decide)).trans (modeWord_mode ..), (darkened_get _ _ _ _ _ (by decide)).trans (modeWord_cause ..),
    (darkened_get _ _ _ _ _ (by decide)).trans ((modeWord_prev ..).trans (Nat.mod_eq_of_lt st.mode_lt)), hr.trans hroots, hs.trans hsram, ht.trans htaken⟩

theorem Dark.of_workLost {a b c : Strand} (h : WorkLost a b) (hd : Dark b c) : Dark a c := by
  obtain ⟨_, _, _, _, rfl⟩ := h
  exact ⟨hd.mode, hd.cause, hd.prev, hd.roots, hd.sram, hd.taken⟩

/-- Where VBAT is present, every strand is dark, and nothing else of a strand's is asked. -/
theorem exec_mainPowerLoss_dark {s : State} {vbat : Nat} (hp : s.ring.power = true) (hv : vbat ≠ 0) :
    ∃ t, exec (.mainPowerLoss vbat) s = .next t ∧ t.ring.power = false ∧ t.mem = s.mem ∧ t.now = s.now ∧ ∀ n, Dark (s.sd n) (t.sd n) := by
  have hdrops : Drops s ([0, 1, 2, 3].foldl (fun s (n : Fin 4) => s.loseWork n) s) := Drops.foldl (fun s n => State.loseWork_drops s n) _ s
  rw [exec_mainPowerLoss, execMainPowerLoss]
  simp only [hp, Bool.not_true, Bool.false_eq_true, if_false, hv]
  generalize [0, 1, 2, 3].foldl (fun s (n : Fin 4) => s.loseWork n) s = u at *
  refine ⟨_, rfl, rfl, hdrops.mem, hdrops.now, fun n => ?_⟩
  rw [State.fieldDet, State.upTag, State.upR_sd, State.upR_sd, State.upR_sd, State.sd_upAll]
  exact Dark.of_workLost (hdrops.sd n) (Strand.darken_dark ..)

/-! ### The return -/

/-- A strand that leaves VIGIL: its mode word, and its roots where their SRAM retained them, R56, R598. -/
structure Lit (lost : List Nat) (a b : Strand) : Prop where
  mode : b.mode = 1
  cause : b.get R.CHT_MODE_CAUSE = 2
  prev : b.get R.CHT_MODE_PREV_MODE = 0
  kept : a.id.val ∉ lost → b.nv.roots = a.nv.roots
  lost : a.id.val ∈ lost → b.nv.roots = [] ∧ b.nv.canaryOk = false

/-- The root SRAM and the canary of a strand that `lost` names, R598. -/
def Strand.rootsLost (lost : List Nat) (st : Strand) : Strand :=
  if lost.contains st.id.val then { st with nv := { st.nv with canaryOk := false, canaryVoid := st.nv.reprov.isSome, roots := [] } } else st

/-- Device time is taken up again; where the crystal stood still, with the error of the interval. -/
def Strand.reclocked (now : Nat) (stood : Bool) (st : Strand) : Strand :=
  if stood then
    let (e, st) := st.draw
    let us := (now - st.nv.downAt) / 1000
    st.rebase now (st.deviceTime now + e % (us / 5 + 1) - us / 10) st.nv.slew
  else st

/-- What the return of main power makes of a strand. -/
def Strand.relit (now : Nat) (lost : List Nat) (stood : Bool) (st : Strand) : Strand :=
  let st := (st.rootsLost lost).reclocked now stood
  (({ st with jsp := { st.jsp with sample := none } } : Strand).modeWord 0 1 2).tagModeUpdate 1

theorem Strand.rootsLost_lit (lost : List Nat) (st : Strand) :
    (st.id.val ∉ lost → (st.rootsLost lost).nv.roots = st.nv.roots)
      ∧ (st.id.val ∈ lost → (st.rootsLost lost).nv.roots = [] ∧ (st.rootsLost lost).nv.canaryOk = false) := by
  unfold rootsLost
  split
  · next h => exact ⟨fun hn => absurd (List.contains_iff_mem.mp h) hn, fun _ => ⟨rfl, rfl⟩⟩
  · next h => exact ⟨fun _ => rfl, fun hm => absurd (List.contains_iff_mem.mpr hm) h⟩

theorem Strand.reclocked_nv (now : Nat) (stood : Bool) (st : Strand) :
    (st.reclocked now stood).nv.roots = st.nv.roots ∧ (st.reclocked now stood).nv.canaryOk = st.nv.canaryOk := by
  unfold reclocked; split <;> exact ⟨rfl, rfl⟩

theorem Strand.relit_lit (now : Nat) (lost : List Nat) (stood : Bool) (st : Strand) : Lit lost st (st.relit now lost stood) := by
  obtain ⟨hk, hl⟩ := rootsLost_lit lost st
  obtain ⟨hr, hc⟩ := reclocked_nv now stood (st.rootsLost lost)
  unfold relit
  generalize (st.rootsLost lost).reclocked now stood = y at *
  extract_lets z
  have hnv : ((z.modeWord 0 1 2).tagModeUpdate 1).nv.roots = y.nv.roots ∧ ((z.modeWord 0 1 2).tagModeUpdate 1).nv.canaryOk = y.nv.canaryOk :=
    ⟨congrArg (·.roots) (modeWord_shown z 0 1 2).nv, congrArg (·.canaryOk) (modeWord_shown z 0 1 2).nv⟩
  clear_value z
  have hget (f : Fld) := get_congr (tagModeUpdate_regs (z.modeWord 0 1 2) 1) f 0
  exact ⟨(hget _).trans (modeWord_mode ..), (hget _).trans (modeWord_cause ..), (hget _).trans (modeWord_prev ..), fun h => hnv.1.trans (hr.trans (hk h)),
    fun h => ⟨hnv.1.trans (hr.trans (hl h).1), hnv.2.trans (hc.trans (hl h).2)⟩⟩

theorem Lit.drawn {lost : List Nat} {a b : Strand} (h : Lit lost a b) (d : Nat) : Lit lost a { b with draws := d } := ⟨h.mode, h.cause, h.prev, h.kept, h.lost⟩

/-- The ring starts afresh, with a new challenge, R70. -/
def State.ringLit (s : State) : State :=
  let (c, st) := (s.sd 0).drawBytes 32
  let s := s.setSd 0 st
  let s := s.upR fun r => { r with
    power := true, hpFailed := false, tfFailed := false, rsFailed := false, challenge := some c, wrongDebug := 0, wrongScrap := 0
    retainPend := [], refBad := [], tag := { r.tag with held0 := none } }
  let s := s.rput R.TAG_STATUS_SECRET_SET (b2n s.ring.tag.secret.isSome)
  let s := s.rput R.TAG_STATUS_KILLED (b2n s.tagKilled)
  let s := s.rput R.TAG_STATUS_FIELD (b2n (s.ring.tag.st != .off && !s.tagKilled))
  (s.rput R.RNG_STATUS_RS_REF 0).fieldDet

theorem exec_mainPowerReturn_lit {s : State} (hp : s.ring.power = false) (lost : List Nat) :
    exec (.mainPowerReturn lost) s = .next (s.upAll (Strand.relit s.now lost s.ring.xtalStopped)).ringLit := by
  rw [exec_mainPowerReturn, execMainPowerReturn, hp]
  rfl

theorem State.ringLit_ring (s : State) : s.ringLit.ring.power = true ∧ s.ringLit.ring.challenge.isSome = true ∧ s.ringLit.mem = s.mem ∧ s.ringLit.now = s.now :=
  ⟨rfl, rfl, rfl, rfl⟩

theorem State.ringLit_sd (s : State) (n : Fin 4) : ∃ d, s.ringLit.sd n = { s.sd n with draws := d } := by
  change ∃ d, (s.setSd 0 ((s.sd 0).drawBytes 32).2).sd n = { s.sd n with draws := d }
  by_cases h : n = 0
  · rw [h, sd_setSd_same]; exact ⟨_, rfl⟩
  · rw [sd_setSd_other _ _ h]; exact ⟨_, rfl⟩

/-- Settles O13, by what an entry to VIGIL and the leaving of it make of each strand: its mode word, and its roots. -/
theorem mainPowerLossAndReturn : Obligations.MainPowerLossAndReturn := by
  unfold Obligations.MainPowerLossAndReturn
  refine fun s vbat lost => ⟨fun hp hv => ?_, fun hp => ?_⟩
  · obtain ⟨t, he, hpow, hmem, hnow, hdark⟩ := exec_mainPowerLoss_dark hp hv
    exact ⟨t, he, hpow, hmem, hnow, fun n => ⟨(hdark n).mode, (hdark n).cause, (hdark n).prev, (hdark n).roots, (hdark n).sram, (hdark n).taken⟩⟩
  · obtain ⟨hpow, hchal, hmem, hnow⟩ := (s.upAll (Strand.relit s.now lost s.ring.xtalStopped)).ringLit_ring
    refine ⟨_, exec_mainPowerReturn_lit hp lost, hpow, hchal, hmem, hnow, fun n => ?_⟩
    obtain ⟨d, hd⟩ := (s.upAll (Strand.relit s.now lost s.ring.xtalStopped)).ringLit_sd n
    rw [State.sd_upAll] at hd
    have hlit := hd ▸ (Strand.relit_lit s.now lost s.ring.xtalStopped (s.sd n)).drawn d
    exact ⟨hlit.mode, hlit.cause, hlit.prev, hlit.kept, hlit.lost⟩

end Sys2Proof.Machine
end

section
/-! O15: entry to service, restart, freeze and thaw (R51, R56, R60, R62, R74). -/

namespace Sys2Proof.Machine
open Sys2Proof Sys2Proof.Claims

theorem onlyStrand_up (s : State) (n : Fin 4) (f : Strand → Strand) : OnlyStrand s (s.up n f) n := ⟨aside_up .., rfl⟩

theorem onlyStrand_upTo (s : State) (t : Nat) (n : Fin 4) : OnlyStrand s (s.upTo t) n := ⟨aside_upTo .., rfl⟩

theorem onlyStrand_trans {s t u : State} {n : Fin 4} (h : OnlyStrand s t n) (g : OnlyStrand t u n) : OnlyStrand s u n :=
  ⟨aside_trans h.1 g.1, g.2.trans h.2⟩

namespace Strand

/-! ### A checkpoint and an event of the sentinel -/

/-- A checkpoint writes the journal's state alone, R170. -/
theorem modeCheckpoint_eq (st : Strand) (t : Nat) :
    ∃ kept jnl, st.modeCheckpoint t = { st with nv := { st.nv with jnl := kept }, jnl := jnl } := by
  unfold modeCheckpoint
  extract_lets none'
  split
  · exact ⟨_, _, rfl⟩
  · exact ⟨_, _, rfl⟩

/-- A mismatch is counted, and joins the sentinel's events and alarm; of a strand nothing else changes, R60, R602. -/
theorem mismatch_eq_signal (st : Strand) (t : Nat) :
    ∃ regs jsp, st.mismatch t = { st with regs := regs, jsp := jsp } := by
  rw [mismatch_eq]
  unfold countEvent
  extract_lets x f y old h keep
  split
  · exact ⟨_, _, rfl⟩
  · split
    · split
      · exact ⟨_, _, rfl⟩
      · exact ⟨_, _, rfl⟩
    · exact ⟨_, _, rfl⟩

theorem mismatch_rd (st : Strand) (t : Nat) {o : Nat} (ho : NotCount 12 o) : (st.mismatch t).rd o = st.rd o := by
  rw [mismatch_eq]; exact countEvent_rd st (by decide) ho

/-! ### SERVICE or DEGRADED, R56 -/

theorem servingMode_congr {a b : Strand} (hf : b.fenced = a.fenced) (hh : b.hlt = a.hlt)
    (hl : b.flag R.MIR_STATUS_LEASE = a.flag R.MIR_STATUS_LEASE) : b.servingMode = a.servingMode := by
  unfold servingMode fullLanes usable leaseHeld
  rw [hf, hh, hl]

theorem servingMode_lt (st : Strand) : st.servingMode < 8 := by
  unfold servingMode; split <;> decide

theorem setMode_regs (st : Strand) (m cause : Nat) : (st.setMode m cause).regs = (st.modeWord st.mode m cause).regs := by
  rw [setMode_eq_modeWord, tagModeUpdate_regs]; rfl

theorem setMode_mode (st : Strand) (m cause : Nat) : (st.setMode m cause).mode = m % 8 :=
  (get_congr (setMode_regs ..) _ 0).trans (modeWord_mode ..)

theorem setMode_cause (st : Strand) (m cause : Nat) : (st.setMode m cause).get R.CHT_MODE_CAUSE = cause % 16 :=
  (get_congr (setMode_regs ..) _ 0).trans (modeWord_cause ..)

theorem setMode_prev (st : Strand) (m cause : Nat) : (st.setMode m cause).get R.CHT_MODE_PREV_MODE = st.mode :=
  (get_congr (setMode_regs ..) _ 0).trans ((modeWord_prev ..).trans (Nat.mod_eq_of_lt st.mode_lt))

theorem setMode_halted (st : Strand) (m cause : Nat) : (st.setMode m cause).halted = st.halted :=
  (flag_congr (setMode_regs ..) _ 0).trans (modeWord_halted ..)

theorem setMode_rd (st : Strand) (m cause : Nat) {o : Nat} (ho : o ≠ 0) : (st.setMode m cause).rd o = st.rd o :=
  (rd_congr (setMode_regs ..) o).trans ((modeWord_shown ..).rd o ho)

/-- An applet that loads shows in one register and in work SRAM, R419. -/
theorem loadApplets_rd (st : Strand) {o : Nat} (ho : o ≠ R.GAR_APPLET_REFUSED.at 0) : st.loadApplets.rd o = st.rd o := by
  have hload (refused : Charter.Applet → Bool) (l : List Charter.Applet) (x : Strand) :
      (l.foldl (fun st a => if refused a then st else { st with sram := Mem.writeBytes st.sram a.load a.image }) x).rd o = x.rd o := by
    induction l generalizing x with
    | nil => rfl
    | cons a r ih =>
      rw [List.foldl_cons, ih]
      split <;> rfl
  unfold loadApplets
  split
  · rfl
  · split
    · rfl
    · exact (hload ..).trans (rd_put_other _ _ ho)

/-- The strand as it enters SERVICE or DEGRADED, before what follows a start. -/
def serves (st : Strand) (cause : Nat) : Strand := { st.setMode st.servingMode cause with retry := none, freezeOpen := false }

theorem serves_regs (st : Strand) (cause : Nat) : (st.serves cause).regs = (st.setMode st.servingMode cause).regs := rfl

theorem serves_mode (st : Strand) (cause : Nat) : (st.serves cause).mode = st.servingMode :=
  (get_congr (serves_regs ..) _ 0).trans ((setMode_mode ..).trans (Nat.mod_eq_of_lt st.servingMode_lt))

theorem enterServing_thawed (st : Strand) (t : Nat) : ∃ cause, st.enterServing t false = st.serves cause := ⟨4, rfl⟩

theorem enterServing_started (st : Strand) (t : Nat) : ∃ cause, st.enterServing t true =
    (((st.serves cause).put R.CHT_START_STATUS_STEP 10).put R.CHT_START_STATUS_ELAPSED ((st.serves cause).elapsed t)).loadApplets := ⟨_, rfl⟩

theorem enterServing_thawed_mode (st : Strand) (t : Nat) : (st.enterServing t false).mode = st.servingMode := by
  obtain ⟨_, h⟩ := enterServing_thawed st t
  rw [h, serves_mode]

/-- What follows a start shows in two registers, R419, R51. -/
theorem enterServing_started_rd_serves (st : Strand) (t : Nat) : ∃ cause, ∀ o, o ≠ R.CHT_START_STATUS_STEP.at 0 → o ≠ R.GAR_APPLET_REFUSED.at 0 →
    (st.enterServing t true).rd o = (st.serves cause).rd o := by
  obtain ⟨cause, h⟩ := enterServing_started st t
  refine ⟨cause, fun o hs ha => ?_⟩
  rw [h]
  generalize st.serves cause = x
  rw [loadApplets_rd _ ha, rd_put_other _ (f := R.CHT_START_STATUS_ELAPSED) _ hs, rd_put_other _ _ hs]

theorem enterServing_started_mode (st : Strand) (t : Nat) : (st.enterServing t true).mode = st.servingMode := by
  obtain ⟨cause, h⟩ := enterServing_started_rd_serves st t
  exact (congrArg R.CHT_MODE_MODE.ofWord (h 0 (by decide) (by decide))).trans (serves_mode st cause)

theorem enterServing_started_rd (st : Strand) (t : Nat) {o : Nat} (hm : o ≠ 0) (hs : o ≠ R.CHT_START_STATUS_STEP.at 0)
    (ha : o ≠ R.GAR_APPLET_REFUSED.at 0) : (st.enterServing t true).rd o = st.rd o := by
  obtain ⟨cause, h⟩ := enterServing_started_rd_serves st t
  exact (h o hs ha).trans ((rd_congr (serves_regs st cause) o).trans (setMode_rd _ _ _ hm))

theorem enterServing_started_step (st : Strand) (t : Nat) : (st.enterServing t true).get R.CHT_START_STATUS_STEP = 10 := by
  obtain ⟨cause, h⟩ := enterServing_started st t
  rw [h]
  generalize st.serves cause = x
  have hload : ∀ y : Strand, y.loadApplets.get R.CHT_START_STATUS_STEP = y.get R.CHT_START_STATUS_STEP :=
    fun y => congrArg R.CHT_START_STATUS_STEP.ofWord (loadApplets_rd y (by decide))
  rw [hload, get_put_apart (f := R.CHT_START_STATUS_ELAPSED) (g := R.CHT_START_STATUS_STEP) _ _ rfl (by decide) (by decide), get_put_same _ _ _ _ (by decide)]
  rfl

theorem modeCheckpoint_servingMode (st : Strand) (t : Nat) : (st.modeCheckpoint t).servingMode = st.servingMode := by
  obtain ⟨_, _, h⟩ := modeCheckpoint_eq st t
  rw [h]
  exact servingMode_congr rfl rfl rfl

theorem modeCheckpoint_rd (st : Strand) (t o : Nat) : (st.modeCheckpoint t).rd o = st.rd o := by
  obtain ⟨_, _, h⟩ := modeCheckpoint_eq st t
  rw [h]; rfl

theorem awaitRetry_mode (st : Strand) (t : Nat) (d : Decision) : (st.awaitRetry t d).mode = st.mode :=
  congrArg R.CHT_MODE_MODE.ofWord (mismatch_rd st t (o := 0) (by decide))

/-- A halt leaves the Charter's registers as they are, but HALTED, R59. -/
theorem halt_rd (st : Strand) {o : Nat} (h0 : o ≠ 0) (ho : o < 0x100000) : st.halt.rd o = st.rd o := by
  unfold halt
  extract_lets x fab
  have hx : x.rd o = st.rd o := by
    have hg : o ≠ R.GAR_STATUS_ACTIVE.at 0 := by rw [show R.GAR_STATUS_ACTIVE.at 0 = 0x900008 from rfl]; omega
    exact (rd_put_other _ _ hg).trans (rd_put_other _ _ h0)
  exact ((progDropAll_shown (P := (· < 0x100000)) (by decide) _).rd _ ho).trans hx

theorem halt_mode (st : Strand) : st.halt.mode = st.mode := by
  unfold halt
  extract_lets x fab
  have hx : x.mode = st.mode := (get_put_other _ 0 (by decide)).trans (get_put_apart _ _ rfl (by decide) (by decide))
  exact ((progDropAll_shown (P := (· = R.CHT_MODE_MODE.at 0)) (by decide) _).get _ rfl).trans hx

theorem progDrop_retry (st : Strand) (o : Nat) : (st.progDrop o).retry = st.retry := by
  unfold progDrop
  extract_lets w
  split <;> rfl

theorem progDropAll_retry (st : Strand) : st.progDropAll.retry = st.retry := by
  unfold progDropAll
  generalize progRegs = l
  induction l generalizing st with
  | nil => rfl
  | cons o r ih => exact (ih _).trans (progDrop_retry st o)

theorem halt_retry (st : Strand) : st.halt.retry = st.retry := progDropAll_retry _

end Strand

namespace State

/-! ### A strand's work is its own, R354 -/

theorem foldl_sd {α : Type} {f : State → α → State} {l : List α} {m : Fin 4} (h : ∀ x ∈ l, ∀ s, (f s x).sd m = s.sd m) (s : State) :
    (l.foldl f s).sd m = s.sd m := by
  induction l generalizing s with
  | nil => rfl
  | cons x r ih => exact (ih (fun y hy => h y (by simp [hy])) _).trans (h x (by simp) s)

theorem advanceGen_sd (s : State) (f : Nat) (m : Fin 4) : (s.advanceGen f).sd m = s.sd m := by
  unfold advanceGen
  extract_lets g
  split
  · exact setFn_sd ..
  · exact setFn_sd ..

theorem unmapRange_sd (s : State) (home : Fin 4) (p : Pool) (m : Fin 4) : (s.unmapRange home p).sd m = s.sd m := by
  unfold unmapRange
  refine foldl_sd (fun i _ u => ?_) s
  exact (rput_sd ..).trans (rput_sd ..)

theorem restoreGone_sd (s : State) (f : Fn) (m : Fin 4) : (s.restoreGone f).sd m = s.sd m := by
  unfold restoreGone
  dsimp only
  split
  · rw [rput_sd, setFn_sd, unmapRange_sd]
  · rw [advanceGen_sd, rput_sd, setFn_sd, unmapRange_sd]

theorem dropImage_sd_other (s : State) {f : Fn} {m : Fin 4} (h : m ≠ f.home) : (s.dropImage f).sd m = s.sd m := by
  unfold dropImage
  split
  · rw [rput_sd, setFn_sd]
  · rw [sd_up_other _ _ h, restoreGone_sd]
  · exact setFn_sd ..

theorem loseJobs_sd_other (s : State) {n m : Fin 4} (h : m ≠ n) : (s.loseJobs n).sd m = s.sd m := by
  unfold loseJobs
  dsimp only
  rw [sd_up_other _ _ h, radd_sd]
  exact foldl_sd (fun j _ u => setCq_sd ..) s

theorem loseWork_sd_other (s : State) {n m : Fin 4} (h : m ≠ n) : (s.loseWork n).sd m = s.sd m := by
  refine (foldl_sd (fun f hf u => dropImage_sd_other u fun e => h ?_) _).trans (loseJobs_sd_other s h)
  have hhome := (List.mem_filter.mp hf).2
  rw [Bool.and_eq_true, beq_iff_eq] at hhome
  exact e.trans hhome.1

theorem loseWork_aside (s : State) (n : Fin 4) : Aside s (s.loseWork n) n := ⟨fun _ h => loseWork_sd_other s h, (loseWork_drops s n).mem⟩

theorem haltStrand_aside (s : State) (n : Fin 4) : Aside s (s.haltStrand n) n := by
  unfold haltStrand
  split
  · exact ⟨fun _ _ => rfl, rfl⟩
  · exact aside_trans (loseWork_aside s n) (aside_up ..)

end State

namespace Strand

/-- Step 9 begins: the lease that is not held counts as lost from now on, R182. -/
def admits (st : Strand) (now : Nat) : Strand :=
  let st := { st.put R.CHT_START_STATUS_STEP 9 with pairDue := none }
  if st.leaseHeld then st else st.upMir fun m => { m with lostAt := some (m.lostAt.getD now) }

/-- Of a strand at step 9, the step shows, and the pairing alone has changed. -/
theorem admits_eq (st : Strand) (now : Nat) : ∃ mir, st.admits now = { st.put R.CHT_START_STATUS_STEP 9 with pairDue := none, mir := mir } := by
  unfold admits
  extract_lets x
  split
  · exact ⟨_, rfl⟩
  · exact ⟨_, rfl⟩

theorem admits_rd (st : Strand) (now : Nat) {o : Nat} (ho : o ≠ R.CHT_START_STATUS_STEP.at 0) : (st.admits now).rd o = st.rd o := by
  obtain ⟨_, h⟩ := admits_eq st now
  rw [h]
  exact rd_put_other st 9 ho

theorem admits_servingMode (st : Strand) (now : Nat) : (st.admits now).servingMode = st.servingMode := by
  have hl := congrArg (R.MIR_STATUS_LEASE.ofWord · == 1) (admits_rd st now (o := R.MIR_STATUS_LEASE.at 0) (by decide))
  obtain ⟨_, h⟩ := admits_eq st now
  rw [h] at hl ⊢
  exact servingMode_congr rfl rfl hl

/-- The strand that step 9 admits to SERVICE or DEGRADED. -/
def admitted (st : Strand) (now : Nat) : Strand := ((st.admits now).modeCheckpoint now).enterServing now true

theorem admitted_mode (st : Strand) (now : Nat) : (st.admitted now).mode = st.servingMode := by
  unfold admitted
  rw [enterServing_started_mode, modeCheckpoint_servingMode, admits_servingMode]

theorem admitted_step (st : Strand) (now : Nat) : (st.admitted now).get R.CHT_START_STATUS_STEP = 10 := enterServing_started_step ..

theorem admitted_rd (st : Strand) (now : Nat) {o : Nat} (hm : o ≠ 0) (hs : o ≠ R.CHT_START_STATUS_STEP.at 0)
    (ha : o ≠ R.GAR_APPLET_REFUSED.at 0) : (st.admitted now).rd o = st.rd o := by
  unfold admitted
  rw [enterServing_started_rd _ _ hm hs ha, modeCheckpoint_rd, admits_rd _ _ hs]

theorem put_servingMode (st : Strand) (f : Fld) (v : Nat) (hf : R.MIR_STATUS_LEASE.at 0 ≠ f.at 0) : (st.put f v).servingMode = st.servingMode :=
  servingMode_congr rfl rfl (congrArg (· == 1) (get_put_other st v hf))

end Strand

namespace State

theorem admitWork_serves {s : State} (n : Fin 4) (hl : s.life = 1 ∨ s.life = 3) : s.admitWork n true = s.up n fun st => st.admitted s.now := by
  have hlife : (s.life == 1 || s.life == 3) = true := by simpa using hl
  calc s.admitWork n true
      = (s.up n fun st => st.admits s.now).up n fun st =>
          if s.life == 1 || s.life == 3 then (st.modeCheckpoint s.now).enterServing s.now true
          else (st.put R.CHT_START_STATUS_ELAPSED (st.elapsed s.now)).put R.CHT_START_STATUS_STEP 10 := rfl
    _ = s.up n fun st => st.admitted s.now := by rw [hlife, up_up]; rfl

end State

/-! ### The commands -/

theorem exec_pairWaitExpired (n : Fin 4) (agree : Bool) (s : State) : exec (.pairWaitExpired n agree) s = execPairWaitExpired n agree s := rfl

/-- The end of the wait for the twin admits the strand, R51. -/
theorem exec_pairWaitExpired_admitted {s : State} {n : Fin 4} {t0 : Nat} (hh : (s.sd n).halted = false) (hp : (s.sd n).pairDue = some t0)
    (hl : s.life = 1 ∨ s.life = 3) : exec (.pairWaitExpired n true) s
      = .next ((s.upTo t0).up n fun st => (st.put R.CHT_STATUS_PAIR_EXPIRED 1).admitted (max s.now t0)) := by
  rw [exec_pairWaitExpired, execPairWaitExpired, hp]
  simp only [hh, Bool.false_eq_true, if_false]
  rw [State.admitWork_serves (s := (s.upTo t0).up n fun st => st.put R.CHT_STATUS_PAIR_EXPIRED 1) n hl, State.up_up]
  rfl

theorem exec_modeReqThaw (n : Fin 4) (who : Requester) (agree : Bool) (s : State) : exec (.modeReqThaw n who agree) s = execModeReqThaw n who agree s := rfl

theorem exec_modeReqThaw_asked {s : State} {n : Fin 4} (hh : (s.sd n).halted = false) (hm : (s.sd n).mode = 4) (hr : (s.sd n).retry = none)
    (agree : Bool) : exec (.modeReqThaw n .manager agree) s = .next (s.up n fun st =>
      if agree then (st.modeCheckpoint s.now).enterServing s.now false else st.awaitRetry s.now .thaw) := by
  rw [exec_modeReqThaw, execModeReqThaw]
  simp only [modeRequester, hm, hh, hr]
  cases agree <;> rfl

theorem exec_doubledDecisionRetry (n : Fin 4) (agree : Bool) (s : State) :
    exec (.doubledDecisionRetry n agree) s = execDoubledDecisionRetry n agree s := rfl

/-- The strand of a state whose retry of a decision is taken up. -/
def State.retried (s : State) (n : Fin 4) (t0 : Nat) : State := (s.upTo t0).up n fun st => { st with retry := none }

theorem exec_doubledDecisionRetry_thaw {s : State} {n : Fin 4} {t0 : Nat} (hh : (s.sd n).halted = false) (hm : (s.sd n).mode = 4)
    (hr : (s.sd n).retry = some (.thaw, t0)) (agree : Bool) : exec (.doubledDecisionRetry n agree) s = .next
      (if agree then (s.retried n t0).up n fun st => (st.modeCheckpoint (max s.now t0)).enterServing (max s.now t0) false
       else (s.retried n t0).refusedTwice n 0) := by
  have hsd : (s.retried n t0).sd n = { s.sd n with retry := none } := State.sd_up_same ..
  have hh' : ((s.retried n t0).sd n).halted = false := by rw [hsd]; exact hh
  have hm' : ((s.retried n t0).sd n).mode = 4 := by rw [hsd]; exact hm
  rw [exec_doubledDecisionRetry, execDoubledDecisionRetry, hr]
  dsimp -zeta only
  extract_lets u m serve
  have hu : (u.sd n).halted ≠ true := by rw [show (u.sd n).halted = false from hh']; decide
  rw [if_neg hu, if_pos (show m = 4 from hm')]
  rfl

theorem exec_ceremonyIdleExpired (n : Fin 4) (agree : Bool) (s : State) :
    exec (.ceremonyIdleExpired n agree) s = execCeremonyIdleExpired n agree s := rfl

/-- When the ceremony that stands idle closes, R78. -/
def Strand.idleEnd (st : Strand) : Nat := st.ceremonyBeat + 60000000000 * st.get R.CHT_START_CFG_CEREMONY_IDLE

theorem exec_ceremonyIdleExpired_closes {s : State} {n : Fin 4} (hh : (s.sd n).halted = false) (hm : (s.sd n).mode = 5)
    (hr : (s.sd n).retry = none) (agree : Bool) :
    exec (.ceremonyIdleExpired n agree) s = .next ((s.upTo (s.sd n).idleEnd).closeCeremony n agree) := by
  rw [exec_ceremonyIdleExpired, execCeremonyIdleExpired]
  simp only [hm, hh, hr]
  rfl

theorem State.closeCeremony_transit {s : State} (n : Fin 4) (agree : Bool) (hl : ¬ (s.life = 1 ∨ s.life = 3)) : s.closeCeremony n agree = s :=
  if_pos (.inr hl)

/-- The ceremony of a strand, closed: what it opened is shut, R240, R519. -/
def Strand.ceremonyShut (st : Strand) (now : Nat) : Strand :=
  let st := ((st.modeCheckpoint now).enterServing now false).put R.CC_STATUS_QUORUM 0
  { st with newOwner := none, cc := { st.cc with openers := [], pairPermit := false }
            nv := { st.nv with vault := { st.nv.vault with attestDraw := 0 } } }

theorem Strand.ceremonyShut_mode (st : Strand) (now : Nat) : (st.ceremonyShut now).mode = st.servingMode := by
  have h : ((st.modeCheckpoint now).enterServing now false).mode = st.servingMode := by
    rw [enterServing_thawed_mode, modeCheckpoint_servingMode]
  unfold ceremonyShut
  generalize (st.modeCheckpoint now).enterServing now false = x at *
  exact (get_put_other x 0 (f := R.CC_STATUS_QUORUM) (g := R.CHT_MODE_MODE) (by decide)).trans h

theorem State.closeCeremony_agreed {s : State} {n : Fin 4} (hm : (s.sd n).mode = 5) (hl : s.life = 1 ∨ s.life = 3) :
    s.closeCeremony n true = s.up n fun st => st.ceremonyShut s.now := by
  rw [closeCeremony, if_neg (by simp [hm, hl]), if_pos rfl]
  rfl

theorem State.closeCeremony_refused {s : State} {n : Fin 4} (hm : (s.sd n).mode = 5) (hl : s.life = 1 ∨ s.life = 3) :
    s.closeCeremony n false = s.up n fun st => st.awaitRetry s.now .ceremonyClose := by
  rw [closeCeremony, if_neg (by simp [hm, hl]), if_neg (by decide)]

/-! ### A restart, a freeze and its end -/

theorem exec_modeReqRestart (n : Fin 4) (who : Requester) (s : State) : exec (.modeReqRestart n who) s = execModeReqRestart n who s := rfl

theorem exec_modeReqRestart_asked {s : State} {n : Fin 4} (h0 : (s.sd n).mode ≠ 0) (h7 : (s.sd n).mode ≠ 7) (hc : (s.sd n).chkAt = none) :
    exec (.modeReqRestart n .manager) s = .next ((s.up n fun st => st.modeCheckpoint s.now).restartStrand n 9) := by
  rw [exec_modeReqRestart, execModeReqRestart]
  simp only [modeRequester, hc]
  simp [h0, h7]

/-- A strand that restarts: CHARTER, by its cause, R56. -/
def Strand.restarted (st : Strand) (cause : Nat) : Strand := (st.fresh.modeWord st.mode 1 cause).tagModeUpdate 1

theorem Strand.restarted_get (st : Strand) (cause : Nat) (f : Fld) : (st.restarted cause).get f = (st.fresh.modeWord st.mode 1 cause).get f :=
  get_congr (tagModeUpdate_regs ..) f 0

theorem Strand.restarted_lost (st : Strand) (cause : Nat) :
    (st.restarted cause).taken = [] ∧ (st.restarted cause).done = [] ∧ (st.restarted cause).nv.roots = st.nv.roots := by
  have h (x : Strand) : ((x.modeWord st.mode 1 cause).tagModeUpdate 1).taken = x.taken ∧ ((x.modeWord st.mode 1 cause).tagModeUpdate 1).done = x.done
      ∧ ((x.modeWord st.mode 1 cause).tagModeUpdate 1).nv.roots = x.nv.roots := ⟨rfl, rfl, rfl⟩
  obtain ⟨ht, hd, hr⟩ := h st.fresh
  obtain ⟨-, hft, hfd⟩ := fresh_lost st
  exact ⟨ht.trans hft, hd.trans hfd, hr.trans (fresh_roots st)⟩

/-- A restart loses the strand's work, and no other strand's; the strand that stands then starts afresh. -/
theorem State.restartStrand_sd (s : State) (n : Fin 4) (cause : Nat) :
    Aside s (s.restartStrand n cause) n ∧ (s.restartStrand n cause).sd n = ((s.loseWork n).sd n).restarted cause := by
  refine ⟨aside_trans (loseWork_aside s n) (aside_trans (t := (s.loseWork n).upR _) ⟨fun _ _ => rfl, rfl⟩ (aside_up ..)), ?_⟩
  exact sd_up_same ..

theorem exec_modeReqFreeze (n : Fin 4) (who : Requester) (s : State) : exec (.modeReqFreeze n who) s = execModeReqFreeze n who s := rfl

/-- Intake closed, R62. -/
def Strand.intakeShut (x : Strand) : Strand := { x with freezeOpen := true, retry := none }.holdRelays

theorem Strand.intakeShut_regs (x : Strand) : x.intakeShut.regs = x.regs ∧ x.intakeShut.freezeOpen = true := ⟨rfl, rfl⟩

/-- A strand as it freezes, R62. -/
def Strand.freezes (st : Strand) (now : Nat) : Strand := ((st.modeCheckpoint now).setMode 4 8).intakeShut

theorem Strand.freezes_get (st : Strand) (now : Nat) (f : Fld) : (st.freezes now).get f = ((st.modeCheckpoint now).setMode 4 8).get f :=
  get_congr (intakeShut_regs _).1 f 0

theorem exec_modeReqFreeze_asked {s : State} {n : Fin 4} (hm : (s.sd n).mode = 2 ∨ (s.sd n).mode = 3) (hh : (s.sd n).halted = false) :
    exec (.modeReqFreeze n .manager) s = .next (s.up n fun st => st.freezes s.now) := by
  rw [exec_modeReqFreeze, execModeReqFreeze]
  have hm' : ((s.sd n).mode == 2 || (s.sd n).mode == 3) = true := by simpa using hm
  simp only [modeRequester, hm', hh]
  rfl

theorem exec_strandFreezeComplete_closes {s : State} {n : Fin 4} (hm : (s.sd n).mode = 4) (hf : (s.sd n).freezeOpen = true)
    (hb : (s.sd n).batchOpen = false) : exec (.strandFreezeComplete n) s = .next (s.up n fun st => { st with freezeOpen := false }) := by
  rw [show exec (.strandFreezeComplete n) s = execStrandFreezeComplete n s from rfl, execStrandFreezeComplete]
  rw [if_pos ⟨hm, hf, by rw [hb]; decide⟩]
  rfl

/-! ### The second mismatch, R60 -/

theorem WorkLost.retry {a b : Strand} (h : WorkLost a b) : b.retry = a.retry := by
  obtain ⟨_, _, _, _, rfl⟩ := h
  rfl

theorem WorkLost.mode_roots {a b : Strand} (h : WorkLost a b) : b.mode = a.mode ∧ b.nv.roots = a.nv.roots := by
  obtain ⟨_, _, _, _, rfl⟩ := h
  exact ⟨rfl, rfl⟩

namespace State

theorem haltStrand_ind {P : Strand → Strand → Prop} (hr : ∀ a, P a a) (hl : ∀ a b, WorkLost a b → P a b.halt) (s : State) (n : Fin 4) :
    P (s.sd n) ((s.haltStrand n).sd n) := by
  unfold haltStrand
  split
  · exact hr _
  · rw [sd_up_same]
    exact hl _ _ ((loseWork_drops s n).sd n)

theorem haltStrand_retry (s : State) (n : Fin 4) : ((s.haltStrand n).sd n).retry = (s.sd n).retry :=
  haltStrand_ind (P := fun a b => b.retry = a.retry) (fun _ => rfl) (fun _ b h => b.halt_retry.trans h.retry) s n

theorem haltStrand_mode (s : State) (n : Fin 4) : ((s.haltStrand n).sd n).mode = (s.sd n).mode :=
  haltStrand_ind (P := fun a b => b.mode = a.mode) (fun _ => rfl) (fun _ b h => b.halt_mode.trans h.mode_roots.1) s n

theorem haltStrand_failCode (s : State) (n : Fin 4) :
    ((s.haltStrand n).sd n).get R.CHT_START_STATUS_FAIL_CODE = (s.sd n).get R.CHT_START_STATUS_FAIL_CODE :=
  haltStrand_ind (P := fun a b => b.get R.CHT_START_STATUS_FAIL_CODE = a.get R.CHT_START_STATUS_FAIL_CODE) (fun _ => rfl)
    (fun _ b h => congrArg R.CHT_START_STATUS_FAIL_CODE.ofWord ((b.halt_rd (by decide) (by decide)).trans (h.rd _))) s n

end State

/-- The strand that a second mismatch halts. -/
def Strand.refused (st : Strand) (now step : Nat) : Strand :=
  ((st.mismatch now).put R.CHT_START_STATUS_FAIL_STEP step).put R.CHT_START_STATUS_FAIL_CODE 8

theorem Strand.mismatch_mode_retry (st : Strand) (now : Nat) : (st.mismatch now).mode = st.mode ∧ (st.mismatch now).retry = st.retry := by
  refine ⟨congrArg R.CHT_MODE_MODE.ofWord (mismatch_rd st now (o := 0) (by decide)), ?_⟩
  obtain ⟨_, _, h⟩ := mismatch_eq_signal st now
  rw [h]

theorem Strand.refused_kept (st : Strand) (now step : Nat) : (st.refused now step).mode = st.mode
    ∧ (st.refused now step).get R.CHT_START_STATUS_FAIL_CODE = 8 ∧ (st.refused now step).retry = st.retry := by
  obtain ⟨hm, hr⟩ := mismatch_mode_retry st now
  unfold refused
  generalize st.mismatch now = x at *
  refine ⟨?_, get_put_same _ _ _ _ (by decide), by rw [put_retry, put_retry, hr]⟩
  rw [← hm]
  unfold mode
  simp (disch := decide) only [get_put_other]

/-- The strand is halted, with code 8, and where it was. -/
theorem State.refusedTwice_sd (s : State) (n : Fin 4) (step : Nat) (hr : (s.sd n).retry = none) :
    Aside s (s.refusedTwice n step) n ∧ (s.refusedTwice n step).now = s.now ∧ ((s.refusedTwice n step).sd n).retry = none
      ∧ ((s.refusedTwice n step).sd n).mode = (s.sd n).mode ∧ ((s.refusedTwice n step).sd n).halted = true
      ∧ ((s.refusedTwice n step).sd n).get R.CHT_START_STATUS_FAIL_CODE = 8 := by
  obtain ⟨hmode, hcode, hretry⟩ := Strand.refused_kept (s.sd n) s.now step
  have hsd : (s.up n fun st => st.refused s.now step).sd n = (s.sd n).refused s.now step := sd_up_same ..
  rw [← hsd] at hmode hcode hretry
  have heq : s.refusedTwice n step = (s.up n fun st => st.refused s.now step).haltStrand n := rfl
  have haside := aside_up s n fun st => st.refused s.now step
  have hnow : (s.up n fun st => st.refused s.now step).now = s.now := rfl
  rw [heq]
  generalize (s.up n fun st => st.refused s.now step) = u at *
  refine ⟨aside_trans haside (haltStrand_aside u n), (haltStrand_now u n).trans hnow, ?_, ?_, halted_haltStrand u n, ?_⟩
  · exact (haltStrand_retry u n).trans (hretry.trans hr)
  · exact (haltStrand_mode u n).trans hmode
  · exact (haltStrand_failCode u n).trans hcode

/-! ### The statement -/

/-- Settles O15, by what each entry to SERVICE or DEGRADED, each restart and each freeze makes of the strand's mode word. -/
theorem servingRestartAndFreeze : Obligations.ServingRestartAndFreeze := by
  unfold Obligations.ServingRestartAndFreeze
  refine ⟨fun s n agree hh => ⟨fun t0 hp hl => ?_, fun hm hr => ?_, fun t0 hm hr => ?_, fun hm hr hl => ?_, fun hm hr hl => ?_⟩,
    fun s n => ⟨fun h0 h7 hc => ?_, fun hm hh => ?_, exec_strandFreezeComplete_closes, fun f agree => ⟨rfl, rfl, rfl⟩⟩⟩
  case refine_1 =>
    refine ⟨_, exec_pairWaitExpired_admitted hh hp hl, rfl, ?_, ?_, ?_, onlyStrand_trans (onlyStrand_upTo s t0 n) (onlyStrand_up ..)⟩
    all_goals rw [State.sd_up_same]
    · rw [Strand.admitted_mode]
      exact Strand.put_servingMode _ _ _ (by decide)
    · exact Strand.admitted_step ..
    · have hget := congrArg R.CHT_STATUS_PAIR_EXPIRED.ofWord (((s.sd n).put R.CHT_STATUS_PAIR_EXPIRED 1).admitted_rd (max s.now t0)
        (o := R.CHT_STATUS_PAIR_EXPIRED.at 0) (by decide) (by decide) (by decide))
      exact congrArg (· == 1) (hget.trans (Strand.get_put_same (s.sd n) R.CHT_STATUS_PAIR_EXPIRED 1 0 (by decide)))
  case refine_2 =>
    refine ⟨_, exec_modeReqThaw_asked hh hm hr agree, onlyStrand_up .., ?_, ?_⟩
    all_goals rw [State.sd_up_same]; rintro rfl
    · rw [if_pos rfl]
      exact ⟨(Strand.enterServing_thawed_mode ..).trans (Strand.modeCheckpoint_servingMode ..), rfl⟩
    · rw [if_neg (by decide)]
      exact ⟨(Strand.awaitRetry_mode ..).trans hm, rfl⟩
  case refine_3 =>
    refine ⟨_, exec_doubledDecisionRetry_thaw hh hm hr agree, ?_⟩
    have hsd : (s.retried n t0).sd n = { s.sd n with retry := none } := State.sd_up_same ..
    have haside : Aside s (s.retried n t0) n := aside_trans (aside_upTo s t0 n) (aside_up ..)
    cases agree
    · rw [if_neg (by decide)]
      obtain ⟨ha, hn, hret, hmode, hhalt, hcode⟩ := (s.retried n t0).refusedTwice_sd n 0 (by rw [hsd])
      exact ⟨hn, hret, aside_trans haside ha, fun h => absurd h (by decide), fun _ => ⟨hmode.trans (by rw [hsd]; exact hm), hhalt, hcode⟩⟩
    · rw [if_pos rfl]
      refine ⟨rfl, ?_, aside_trans haside (aside_up ..), fun _ => ?_, fun h => absurd h (by decide)⟩
      · rw [State.sd_up_same]; rfl
      · rw [State.sd_up_same, Strand.enterServing_thawed_mode, Strand.modeCheckpoint_servingMode, hsd]
        exact Strand.servingMode_congr rfl rfl rfl
  case refine_4 =>
    refine ⟨_, exec_ceremonyIdleExpired_closes hh hm hr agree, ?_⟩
    rw [State.closeCeremony_transit n agree (by rw [show (s.upTo (s.sd n).idleEnd).life = s.life from rfl, hl]; decide)]
    exact ⟨hm, onlyStrand_upTo ..⟩
  case refine_5 =>
    refine ⟨_, exec_ceremonyIdleExpired_closes hh hm hr true, ?_⟩
    rw [State.closeCeremony_agreed (s := s.upTo (s.sd n).idleEnd) hm hl, State.sd_up_same]
    exact ⟨Strand.ceremonyShut_mode .., onlyStrand_trans (onlyStrand_upTo ..) (onlyStrand_up ..), rfl⟩
  case refine_6 =>
    obtain ⟨ha, hsd⟩ := (s.up n fun st => st.modeCheckpoint s.now).restartStrand_sd n 9
    refine ⟨_, exec_modeReqRestart_asked h0 h7 hc, aside_trans (aside_up ..) ha, ?_⟩
    rw [hsd]
    have hwork := ((s.up n fun st => st.modeCheckpoint s.now).loseWork_drops n).sd n
    rw [State.sd_up_same] at hwork
    obtain ⟨hrd, hroots⟩ := hwork.mode_roots
    generalize ((s.up n fun st => st.modeCheckpoint s.now).loseWork n).sd n = x at *
    obtain ⟨htaken, hdone, hx⟩ := x.restarted_lost 9
    refine ⟨(Strand.restarted_get ..).trans (Strand.modeWord_mode ..), (Strand.restarted_get ..).trans (Strand.modeWord_cause ..), ?_, ?_, htaken, hdone, ?_⟩
    · exact (Strand.restarted_get ..).trans ((Strand.modeWord_prev ..).trans ((Nat.mod_eq_of_lt x.mode_lt).trans
        (hrd.trans (congrArg R.CHT_MODE_MODE.ofWord (Strand.modeCheckpoint_rd ..)))))
    · exact (congrArg (· == 1) (Strand.restarted_get x 9 R.CHT_MODE_HALTED)).trans ((Strand.modeWord_halted ..).trans (Strand.fresh_halted x))
    · obtain ⟨_, _, hc⟩ := (s.sd n).modeCheckpoint_eq s.now
      rw [hx, hroots, hc]
  case refine_7 =>
    refine ⟨_, exec_modeReqFreeze_asked hm hh, ?_, ?_, ?_, onlyStrand_up ..⟩
    all_goals rw [State.sd_up_same]
    · exact (Strand.freezes_get ..).trans (Strand.setMode_mode ..)
    · exact (Strand.freezes_get ..).trans (Strand.setMode_cause ..)
    · exact (Strand.intakeShut_regs _).2

end Sys2Proof.Machine
end

section
/-! The charter that a start has accepted and retained: what the steps after it leave alone (R43, R52, R55). -/

namespace Sys2Proof.Machine
open Sys2Proof Sys2Proof.Claims

/-- `b` has the accepted charter of `a`, and retains what `a` retains of it, R52. -/
structure Held (a b : Strand) : Prop where
  accepted : b.accepted = a.accepted
  charter : b.nv.retCharter = a.nv.retCharter
  digest : b.nv.retDigest = a.nv.retDigest

namespace Held

variable {a b c : Strand}

theorem refl (a : Strand) : Held a a := ⟨rfl, rfl, rfl⟩

theorem trans (h : Held a b) (g : Held b c) : Held a c :=
  ⟨g.accepted.trans h.accepted, g.charter.trans h.charter, g.digest.trans h.digest⟩

theorem of_nv (ha : b.accepted = a.accepted) (hn : b.nv = a.nv) : Held a b := ⟨ha, by rw [hn], by rw [hn]⟩

theorem wr (h : Held a b) (o : Nat) (w : Word) : Held a (b.wr o w) := h.trans ⟨rfl, rfl, rfl⟩

theorem put (h : Held a b) (f : Fld) (v : Nat) (k : Nat := 0) : Held a (b.put f v k) := h.wr _ _

theorem bump (h : Held a b) (f : Fld) (k : Nat := 0) : Held a (b.bump f k) := h.put f _ k

theorem foldl {α : Type} {f : Strand → α → Strand} (h : ∀ st x, Held st (f st x)) (l : List α) (st : Strand) : Held st (l.foldl f st) := by
  induction l generalizing st with
  | nil => exact refl st
  | cons x r ih => exact (h st x).trans (ih _)

end Held

namespace Strand

variable (st : Strand)

theorem snapTrigger_held (source : Nat) : Held st (st.snapTrigger source) := by
  unfold snapTrigger
  split
  · exact (Held.refl st).bump _
  · extract_lets no x y
    have hx : Held st x := (((Held.refl st).put _ _).put _ _).put _ _
    have hy : Held st y := ((hx.put _ _).put _ _).put _ _
    exact hy.trans ⟨rfl, rfl, rfl⟩

theorem vector_held (v core : Nat) : Held st (st.vector v core) := by
  unfold vector
  extract_lets ev x
  have hx : Held st x := by
    by_cases hc : core < 4
    · simp only [x, hc, dite_true]; exact ⟨rfl, rfl, rfl⟩
    · simp only [x, hc, dite_false]; exact .refl st
  split
  · exact hx.trans (snapTrigger_held x 5)
  · exact hx

theorem noteErr_held {info : Strand → Strand} (hi : ∀ x, Held x (info x)) (valid code ovf : Fld) (c : Nat) :
    Held st (st.noteErr valid code ovf c info) := by
  have hp : Held st (info ((st.put valid 1).put code c)) := (((Held.refl st).put _ _).put _ _).trans (hi _)
  unfold noteErr
  split
  · exact (Held.refl st).bump _
  · dsimp only
    split
    · exact hp.trans (vector_held ..)
    · exact hp

theorem mismatch_held (t : Nat) : Held st (st.mismatch t) := by
  obtain ⟨_, _, h⟩ := mismatch_eq_signal st t
  rw [h]; exact ⟨rfl, rfl, rfl⟩

theorem modeCheckpoint_held (t : Nat) : Held st (st.modeCheckpoint t) := by
  obtain ⟨_, _, h⟩ := modeCheckpoint_eq st t
  rw [h]; exact ⟨rfl, rfl, rfl⟩

theorem modeWord_held (prev m cause : Nat) : Held st (st.modeWord prev m cause) := (((Held.refl st).put _ _).put _ _).put _ _

theorem tagModeUpdate_held (m : Nat) : Held st (st.tagModeUpdate m) := by
  unfold tagModeUpdate
  split
  · exact .refl st
  · exact ⟨rfl, rfl, rfl⟩

theorem setMode_held (m cause : Nat) : Held st (st.setMode m cause) := by
  rw [setMode_eq_modeWord]
  have he : Held (st.modeWord st.mode m cause) (st.modeWord st.mode m cause).emptyWindows := ⟨rfl, rfl, rfl⟩
  exact ((modeWord_held ..).trans he).trans (tagModeUpdate_held ..)

theorem loadApplets_held : Held st st.loadApplets := by
  unfold loadApplets
  split
  · exact .refl st
  · split
    · exact .refl st
    · extract_lets l refused word x
      have hx : Held st x := (Held.refl st).put _ _
      refine hx.trans (Held.foldl (fun y a => ?_) l x)
      split
      · exact .refl y
      · exact ⟨rfl, rfl, rfl⟩

theorem serves_held (cause : Nat) : Held st (st.serves cause) :=
  (setMode_held st st.servingMode cause).trans ⟨rfl, rfl, rfl⟩

theorem enterServing_started_held (t : Nat) : Held st (st.enterServing t true) := by
  obtain ⟨cause, h⟩ := enterServing_started st t
  rw [h]
  exact (((serves_held st cause).put _ _).put _ _).trans (loadApplets_held _)

theorem admits_held (now : Nat) : Held st (st.admits now) := by
  obtain ⟨_, h⟩ := admits_eq st now
  rw [h]; exact ⟨rfl, rfl, rfl⟩

theorem progDrop_held (o : Nat) : Held st (st.progDrop o) := by
  unfold progDrop
  extract_lets w
  split
  · exact .refl st
  · exact (Held.refl st).wr _ _

theorem halt_held : Held st st.halt := by
  unfold halt
  extract_lets x fab
  have hx : Held st x := ((Held.refl st).put _ _).put _ _
  clear_value x
  refine hx.trans (Held.trans ?_ (Held.foldl progDrop_held progRegs _))
  exact ⟨rfl, rfl, rfl⟩

/-! ### The cores' start -/

theorem agtSync_held : Held st st.agtSync := by
  unfold agtSync
  extract_lets f x y z w susp
  have hz : Held st z := (((((Held.refl st).put _ _).put _ _).put _ _).put _ _).put _ _ |>.put _ _
  have hw : Held st w := by
    unfold w
    split
    · exact hz.put _ _
    · exact hz
  exact (hw.put _ _).put _ _

theorem flashMend_held (t : Nat) : Held st (st.flashMend t) := by
  have hlog (x : Strand) (i : Nat) : Held x (x.eraseLog i) := by
    unfold eraseLog
    split
    · exact .refl x
    · exact ⟨rfl, rfl, rfl⟩
  unfold flashMend
  refine (Held.foldl (fun x i => ?_) _ st).trans (agtSync_held _)
  have hf (f : Flash → Flash) : Held x (x.upFlash f) := ⟨rfl, rfl, rfl⟩
  exact (hf _).trans (hlog _ i)

/-! ### The journal, R170 -/

theorem gateSync_held : Held st st.gateSync := (Held.refl st).put _ _

theorem put64_held (lo : Fld) (v : Nat) : Held st (st.put64 lo v) := ((Held.refl st).wr _ _).wr _ _

theorem putBytes_held (f : Fld) (b : Bytes) (k len : Nat) : Held st (st.putBytes f b k len) := by
  induction len generalizing st k with
  | zero => exact .refl st
  | succ len ih => exact ((Held.refl st).wr _ _).trans (ih _ _)

theorem jnlSync_held : Held st st.jnlSync := by
  unfold jnlSync
  extract_lets j x1 x2 x3 x4 x5 x6 x7 x8
  have h2 : Held st x2 := (put64_held st _ _).trans (put64_held x1 _ _)
  have h4 : Held x2 x4 := (put64_held x2 _ _).trans (put64_held x3 _ _)
  have h5 : Held st x5 := ((h2.trans h4).put _ _).put _ _
  have h8 : Held st x8 := ((h5.put _ _).put _ _).put _ _
  exact (h8.trans (putBytes_held x8 _ _ _ _)).trans (putBytes_held ..)

theorem jnlErr_held (code no : Nat) : Held st (State.jnlErr st code no) := noteErr_held st (fun x => (Held.refl x).put _ _) ..

theorem jcErr_held (code info : Nat) : Held st (State.jcErr st code info) := noteErr_held st (fun x => (Held.refl x).put _ _) ..

theorem cardRefused_held (code no : Nat) : Held st (State.cardRefused st code no) := (jcErr_held ..).trans (jnlErr_held ..)

theorem putCtx_held (c : Ctx) : Held st (st.putCtx c) := by
  unfold putCtx syncPersist
  split <;> exact ⟨rfl, rfl, rfl⟩

theorem poison_held (t slot base : Nat) : Held st (State.poison st t slot base) := by
  unfold State.poison
  extract_lets x
  have hx : Held st x := ⟨rfl, rfl, rfl⟩
  split
  · split
    · exact hx.trans (putCtx_held ..)
    · exact hx
  · exact hx

theorem distrust_held (t : Nat) : Held st (st.distrust t) := by
  have hone (x : Strand) (k : Option Nat) : Held x (match k.bind x.slot with
      | some c => State.poison x t c.idx c.baseGen
      | none => x) := by
    split
    · exact poison_held ..
    · exact .refl x
  unfold distrust
  extract_lets one x
  have hx : Held st x := (hone st _).trans (hone _ _)
  have hd (y : Strand) : Held y { y with nv := { y.nv with distrust := true } } := ⟨rfl, rfl, rfl⟩
  exact (hx.put _ _).trans (hd _)

theorem rebuild_held (l : List Bytes) : Held st (st.rebuild l) := by
  induction l generalizing st with
  | nil => exact .refl st
  | cons h r ih =>
    have hx (x : Jnl) : Held st { st with jnl := x } := ⟨rfl, rfl, rfl⟩
    unfold rebuild
    extract_lets e j
    split
    · exact .refl st
    · exact (hx _).trans (ih _)

theorem loadJournal_held (heads : List Bytes) (anchor : Option (Nat × Bytes)) (macOk : Bool) : Held st (st.loadJournal heads anchor macOk) := by
  unfold loadJournal
  extract_lets s src x y z role acked
  have hx : Held st x := ⟨rfl, rfl, rfl⟩
  have hy : Held st y := by
    unfold y
    split
    · exact hx
    · exact hx.trans (rebuild_held ..)
  have hz : Held st z := by
    unfold z
    split
    · exact hy
    · next no j =>
      extract_lets ok u v
      have hu : Held y u := by
        unfold u
        split
        · exact .refl y
        · exact cardRefused_held ..
      have hv : Held u v := by
        unfold v
        split
        · exact .refl u
        · exact distrust_held ..
      have h := (hy.trans hu).trans hv
      clear_value v
      exact h.trans ⟨rfl, rfl, rfl⟩
  have hw : Held z { z with jnl := { z.jnl with acked := acked } } := ⟨rfl, rfl, rfl⟩
  exact ((hz.trans hw).put _ _).trans (jnlSync_held _)

theorem oplSync_held : Held st st.oplSync := by
  unfold oplSync
  split
  extract_lets level h x y z
  have hx : Held st x := ⟨rfl, rfl, rfl⟩
  have hy : Held st y := (hx.put _ _).put _ _
  have hz : Held st z := (hy.put _ _).put _ _
  exact hz.put _ _

/-! ### The vault and the card, R210, R226, R508 -/

theorem onxErr_held (code idx receiver : Nat) : Held st (st.onxErr code idx receiver) :=
  noteErr_held st (fun x => ((Held.refl x).put _ _).put _ _) ..

theorem onxSync_held : Held st st.onxSync := by
  unfold onxSync
  extract_lets v x1 x2 x3 x4 x5 x6 x7 x8
  have h3 : Held st x3 := (((Held.refl st).put _ _).put _ _).put _ _
  have h6 : Held st x6 := ((h3.put _ _).put _ _).put _ _
  exact ((h6.put _ _).put _ _).put _ _

theorem dropStore_held : Held st st.dropStore := by
  unfold dropStore
  split
  · exact .refl st
  · exact ⟨rfl, rfl, rfl⟩

theorem onxErrs_held (l : List Persist) : Held st (l.foldl (fun st p => st.onxErr 4 p.ctx.idx 0) st) := by
  refine Held.foldl ?_ l st
  intro x p
  exact onxErr_held x 4 p.ctx.idx 0

theorem openVault_held (t : Nat) : Held st (st.openVault t) := by
  unfold openVault
  extract_lets mirror x ctxs bad gens v keep src src' y z
  have hy : Held st y := ⟨rfl, rfl, rfl⟩
  have hz : Held y z := onxErrs_held y bad
  clear_value z
  exact ((hy.trans hz).put _ _).trans (onxSync_held _)

theorem drawRoots_held : Held st st.drawRoots := by
  have hone (x : Strand) (k : Nat) : Held x (let (v, y) := x.draw; y.setRoot k (BitVec.ofNat 256 v)) := ⟨rfl, rfl, rfl⟩
  unfold drawRoots
  extract_lets one x
  have hx : Held st x := ((hone st 0).trans (hone _ 3)).trans (hone _ 4)
  exact hx.trans ⟨rfl, rfl, rfl⟩

theorem reprovisioned_held : Held st st.reprovisioned := by
  unfold reprovisioned
  split
  · exact .refl st
  · exact (drawRoots_held st).trans ⟨rfl, rfl, rfl⟩

theorem freeCtx_held (c : Ctx) : Held st (st.freeCtx c) := ⟨rfl, rfl, rfl⟩

theorem deliver_held (env : JobEnv) (idx receiver : Nat) (key : Bytes) : Held st (st.deliver env idx receiver key).1 := by
  obtain ⟨-, -, h⟩ | ⟨-, h⟩ := deliver_cases st env idx receiver key
  · rw [h]; exact ⟨rfl, rfl, rfl⟩
  · rw [h]
    have hx : Held st { st.transfer receiver key with keyBus := none } := ⟨rfl, rfl, rfl⟩
    exact hx.trans (onxErr_held ..)

theorem rootRelease_held (t : Nat) (env : JobEnv) (k : Nat) : Held st (st.rootRelease t env k).1 := by
  unfold rootRelease
  split
  · exact (onxErr_held ..).trans (mismatch_held ..)
  · dsimp only
    have h := deliver_held st env k (rootReceiver k) (bvBytes (st.root k))
    generalize st.deliver env k (rootReceiver k) (bvBytes (st.root k)) = d at *
    obtain ⟨y, ok⟩ := d
    cases ok <;> exact h

theorem loadSession_held (t : Nat) (env : JobEnv) (c : Ctx) (dest : Nat) : Held st (st.loadSession t env c dest).1 := by
  unfold loadSession
  split
  · exact (Held.refl st).bump _
  · split
    · exact (onxErr_held ..).trans (mismatch_held ..)
    · have h := deliver_held st env c.idx (receiverCode dest) c.key
      generalize st.deliver env c.idx (receiverCode dest) c.key = d at *
      obtain ⟨y, ok⟩ := d
      cases ok <;> exact h

theorem issueGen_held (i : Nat) : Held st (st.issueGen i).2 := by
  unfold issueGen
  extract_lets last res g src src' x
  have hx : Held st x := by
    unfold x
    split
    · exact ⟨rfl, rfl, rfl⟩
    · exact .refl st
  exact hx.trans ⟨rfl, rfl, rfl⟩

theorem slotOrEvict_held {i : Nat} {x : Strand} (h : st.slotOrEvict = some (i, x)) : Held st x := by
  unfold slotOrEvict at h
  split at h
  · cases h; exact .refl st
  · split at h
    · cases h
    · split at h
      · obtain ⟨k, -, hk⟩ := Option.map_eq_some_iff.mp h
        cases hk
        exact (freeCtx_held ..).bump _
      · cases h

theorem takeSlot_held (i : Nat) : Held st (st.takeSlot i) := by
  unfold takeSlot
  split <;> exact ⟨rfl, rfl, rfl⟩

theorem place_held {a : Attr} {key : Bytes} {quota : Nat × Nat} {c : Ctx} {x : Strand} (h : st.place a key quota = some (c, x)) : Held st x := by
  unfold place at h
  extract_lets use need at h
  split at h
  · cases h
  · split at h
    · cases h
    · split at h
      · cases h
      · next i y hs =>
        have hy := slotOrEvict_held st hs
        split at h
        · cases h
        · have hg := ((takeSlot_held y i).trans (issueGen_held _ i))
          generalize (y.takeSlot i).issueGen i = p at *
          cases h
          exact (hy.trans hg).trans ⟨rfl, rfl, rfl⟩

theorem placeSession_held (t : Nat) (env : JobEnv) (a : Attr) (key : Bytes) (dest : Nat) : Held st (st.placeSession t env a key dest).1 := by
  unfold placeSession
  cases hp : st.place a key (0, 0) with
  | none => exact .refl st
  | some p =>
    obtain ⟨c, x⟩ := p
    have hx := place_held st hp
    have hl := loadSession_held x t env c dest
    dsimp only
    generalize x.loadSession t env c dest = r at *
    obtain ⟨y, e⟩ := r
    cases e with
    | zero => exact hx.trans hl
    | succ e => exact (hx.trans hl).trans (freeCtx_held ..)

theorem deriveCardKeys_held (t : Nat) (env : JobEnv) (cardId : Bytes) (no : Nat) : Held st (st.deriveCardKeys t env cardId no).1 := by
  unfold deriveCardKeys
  have hr := rootRelease_held st t env 4
  generalize st.rootRelease t env 4 = r at *
  obtain ⟨x, root⟩ := r
  cases root with
  | none => exact hr
  | some root =>
    dsimp -zeta only
    extract_lets key
    clear_value key
    have h1 := placeSession_held x t env (strandKey 8 32 (4 + 8) 256) (key "JCM") 5
    generalize x.placeSession t env (strandKey 8 32 (4 + 8) 256) (key "JCM") 5 = p at *
    obtain ⟨y, e | c⟩ := p
    · exact hr.trans h1
    · have h2 := placeSession_held y t env (strandKey 3 1 (2048 + 4096) 256) (key "JC1") 0
      dsimp only
      generalize y.placeSession t env (strandKey 3 1 (2048 + 4096) 256) (key "JC1") 0 = p at *
      obtain ⟨z, e | d⟩ := p
      · exact ((hr.trans h1).trans h2).trans (freeCtx_held ..)
      · have h3 := placeSession_held z t env (strandKey 3 1 (2048 + 4096) 256) (key "JC2") 0
        dsimp only
        generalize z.placeSession t env (strandKey 3 1 (2048 + 4096) 256) (key "JC2") 0 = p at *
        obtain ⟨w, e | f⟩ := p
        · exact ((((hr.trans h1).trans h2).trans h3).trans (freeCtx_held ..)).trans (freeCtx_held ..)
        · exact ((hr.trans h1).trans h2).trans h3

theorem takeCardKeys_held (k : Ctx × Ctx × Ctx) : Held st (st.takeCardKeys k) := by
  have hfree (x : Strand) (k : Option Nat) : Held x (match k.bind x.slot with
      | some c => x.freeCtx c
      | none => x) := by
    split
    · exact freeCtx_held ..
    · exact .refl x
  unfold takeCardKeys
  extract_lets free x
  have hx : Held st x := ((hfree st _).trans (hfree _ _)).trans (hfree _ _)
  have hj (y : Strand) (f : Jc → Jc) : Held y (y.upJc f) := ⟨rfl, rfl, rfl⟩
  exact (hx.trans (hj ..)).trans (onxSync_held _)

theorem startCard_held (t : Nat) (env : JobEnv) : Held st (st.startCard t env) := by
  unfold startCard
  split
  · next id no _ =>
    have h := deriveCardKeys_held st t env id no
    generalize st.deriveCardKeys t env id no = d at *
    obtain ⟨x, e | k⟩ := d
    · exact h
    · dsimp only
      split
      · exact (h.trans (takeCardKeys_held ..)).trans (distrust_held ..)
      · exact h.trans (takeCardKeys_held ..)
  · exact .refl st

/-- Step 7's work on the strand, R51, R210, R226, R508. -/
theorem stepSeven_held (t : Nat) (env : JobEnv) : Held st (((((st.atStep 7).dropStore).openVault t).reprovisioned).startCard t env) :=
  (((((Held.refl st).put _ _).trans (dropStore_held _)).trans (openVault_held ..)).trans (reprovisioned_held _)).trans (startCard_held ..)

end Strand

theorem WorkLost.held {a b : Strand} (h : WorkLost a b) : Held a b := by
  obtain ⟨_, _, _, _, rfl⟩ := h
  exact ⟨rfl, rfl, rfl⟩

namespace State

/-- From `s` on, a start of strand `n` keeps the clock, host memory and the charter that it has accepted and retained. -/
structure Starts (n : Fin 4) (s t : State) : Prop where
  now : t.now = s.now
  mem : t.mem = s.mem
  held : Held (s.sd n) (t.sd n)

variable {n : Fin 4} {s t u : State}

theorem Starts.refl (n : Fin 4) (s : State) : Starts n s s := ⟨rfl, rfl, .refl _⟩

theorem Starts.trans (h : Starts n s t) (g : Starts n t u) : Starts n s u := ⟨g.now.trans h.now, g.mem.trans h.mem, h.held.trans g.held⟩

theorem Starts.up {f : Strand → Strand} (hf : ∀ x, Held x (f x)) (h : Starts n s t) : Starts n s (t.up n f) :=
  h.trans ⟨rfl, rfl, by rw [sd_up_same]; exact hf _⟩

theorem haltStrand_starts (s : State) (n : Fin 4) : Starts n s (s.haltStrand n) :=
  ⟨haltStrand_now s n, (haltStrand_aside s n).2, haltStrand_ind (P := Held) Held.refl (fun _ b h => h.held.trans b.halt_held) s n⟩

theorem checkstop_starts (s : State) (n c : Fin 4) (v : Nat) : Starts n s (s.checkstop n c v) := by
  unfold checkstop
  extract_lets st x y z w
  have hy : Held st y := (((Held.refl st).put _ _).put _ _).put _ _
  have hz : Held st z := by
    unfold z
    split
    · exact (Held.refl st).bump _
    · exact ((hy.put _ _).put _ _).put _ _
  have hw : Held st w := hz.put _ _
  clear_value w
  refine Starts.trans ?_ (haltStrand_starts _ n)
  refine ⟨rfl, rfl, ?_⟩
  rw [sd_setSd_same]
  exact hw.trans ⟨rfl, rfl, rfl⟩

theorem startCore_starts (s : State) (n c : Fin 4) (vdt : Word) : Starts n s (s.startCore n c vdt) := by
  unfold startCore
  extract_lets u
  have hu : Starts n s u := (Starts.refl n s).up fun x => ⟨rfl, rfl, rfl⟩
  clear_value u
  split
  · split
    · exact hu.up fun x => ⟨rfl, rfl, rfl⟩
    · exact hu.trans (checkstop_starts ..)
  · exact hu.trans (checkstop_starts ..)

theorem startCores_starts (s : State) (n : Fin 4) (vdt : Word) : Starts n s (s.startCores n vdt) := by
  unfold startCores
  generalize ([0, 1, 2, 3] : List (Fin 4)) = l
  induction l generalizing s with
  | nil => exact .refl n s
  | cons c r ih =>
    refine Starts.trans ?_ (ih _)
    dsimp only
    split
    · exact startCore_starts ..
    · exact .refl n s

theorem startFails_starts (s : State) (n : Fin 4) (step code : Nat) : Starts n s (s.startFails n step code) :=
  (Starts.refl n s).up fun x => ((((Held.refl x).put _ _).put _ _).put _ _ |>.put _ _).trans (Strand.halt_held _)

theorem admitWork_starts (s : State) (n : Fin 4) (agree : Bool) : Starts n s (s.admitWork n agree) := by
  have hadmits : Starts n s (s.up n fun st => st.admits s.now) := (Starts.refl n s).up fun x => x.admits_held _
  unfold admitWork
  extract_lets u
  have hu : Starts n s u := hadmits
  clear_value u
  split
  · unfold admitted
    dsimp only
    refine hu.up fun x => ?_
    split
    · exact (x.modeCheckpoint_held _).trans (Strand.enterServing_started_held ..)
    · exact ((Held.refl x).put _ _).put _ _
  · exact hu.up fun x => (x.mismatch_held _).trans ⟨rfl, rfl, rfl⟩

theorem stepEight_starts (s : State) (n : Fin 4) (agree : Bool) : Starts n s (s.stepEight n agree) := by
  unfold stepEight
  extract_lets u
  have hu : Starts n s u := (Starts.refl n s).up fun x => ⟨rfl, rfl, rfl⟩
  clear_value u
  split
  · exact hu
  · exact hu.trans (admitWork_starts ..)

theorem stepSeven_starts (s : State) (n : Fin 4) (env : StartEnv) : Starts n s (s.stepSeven n env) := by
  unfold stepSeven
  split
  · exact startFails_starts ..
  · exact ((Starts.refl n s).up fun x => x.stepSeven_held s.now env.keys).trans (stepEight_starts ..)

end State
end Sys2Proof.Machine
end

section
/-! O14, the later steps: a start from step 5 on keeps the charter that step 5 accepts and retains (R51 to R55, R170, R357). -/

namespace Sys2Proof.Machine
open Sys2Proof Sys2Proof.Claims

namespace Strand

/-! ### What step 5 makes of the strand -/

theorem retain_new (st : Strand) (image : Bytes) :
    (st.retain true image).nv.retCharter = some image ∧ (st.retain true image).nv.retDigest = Charter.digest image := ⟨rfl, rfl⟩

theorem setBits_held (st : Strand) (off val mask : Nat) : Held st (st.setBits off val mask) := (Held.refl st).wr _ _

theorem applyEntries_held (st : Strand) (l : List FieldEntry) : Held st (st.applyEntries l) := Held.foldl (fun _ _ => setBits_held ..) l st

theorem applyCht_held (st : Strand) (l : List FieldEntry) : Held st (st.applyCht l) := by
  refine Held.foldl (fun x e => ?_) l st
  split
  · exact setBits_held ..
  · exact .refl x

theorem normalise_held (st : Strand) : Held st st.normalise := Held.foldl (fun x _ => (Held.refl x).wr _ _) _ st

theorem literals_held (st : Strand) : Held st st.literals := by
  refine Held.foldl (fun x o => ?_) _ st
  split
  · exact setBits_held ..
  · exact .refl x

theorem merge_held (st : Strand) (isNew : Bool) (image : Bytes) : Held st (st.merge isNew image) := by
  unfold merge
  extract_lets now x
  have hx : Held st x := ((literals_held st).trans (applyEntries_held ..)).trans (applyEntries_held ..)
  clear_value x
  refine Held.trans ?_ (normalise_held _)
  split
  · exact hx
  · exact hx.trans (applyCht_held ..)

/-- The strand with an image's sections applied, before the registers show them. -/
def sectioned (st : Strand) (image : Bytes) : Strand :=
  let sec := fun (ty : Nat) => Charter.sectionOf image st.id ty
  let cad := (sec 2).map Charter.cadence
  let fab := sec 4
  { st with
    accepted := some image
    post := { st.post with cad := cad.getD [], cadAbsent := cad.isNone }
    stations := ((sec 3).map Charter.stations).getD {}
    quorum := ((sec 7).map Charter.quorum).getD {}
    fab := { st.fab with fmts := (fab.map Charter.formats).getD [], decls := (fab.map Charter.decls).getD [] } }

theorem sectioned_charter (st : Strand) (image : Bytes) :
    (st.sectioned image).accepted = some image ∧ (st.sectioned image).nv = st.nv := ⟨rfl, rfl⟩

theorem applySections_held (st : Strand) (image : Bytes) : Held (st.sectioned image) (st.applySections image) := by
  have heq : st.applySections image = (((((st.sectioned image).put R.PST_CAD_SEL_COUNT
      (((Charter.sectionOf image st.id 2).map Charter.cadence).getD []).length).put64 R.CHT_SERIAL_LO (Charter.serial image)).putBytes
      R.CHT_DIGEST (bvBytes (Charter.digest image)) 0 12).put R.CHT_STATUS_OWNER_SLOT
      (if Charter.keySlot image = 0xFF then 15 else Charter.keySlot image)) := rfl
  rw [heq]
  generalize st.sectioned image = x
  exact ((((Held.refl x).put _ _).trans (put64_held ..)).trans (putBytes_held ..)).put _ _

/-- The strand at step 5, with an image accepted and the journal loaded. -/
def accepts (st : Strand) (env : StartEnv) (isNew : Bool) (image : Bytes) : Strand :=
  let st := ((((st.atStep 5).retain isNew image).merge isNew image).applySections image).gateSync
  (st.loadJournal env.heads env.anchor env.anchorOk).oplSync

/-- A new charter is accepted and retained. -/
theorem accepts_new (st : Strand) (env : StartEnv) (image : Bytes) : (st.accepts env true image).accepted = some image
    ∧ (st.accepts env true image).nv.retCharter = some image ∧ (st.accepts env true image).nv.retDigest = Charter.digest image := by
  obtain ⟨hc, hd⟩ := retain_new (st.atStep 5) image
  unfold accepts
  generalize (st.atStep 5).retain true image = x at *
  have hm := merge_held x true image
  generalize x.merge true image = y at *
  obtain ⟨ha, hn⟩ := sectioned_charter y image
  have hs := applySections_held y image
  generalize y.applySections image = z at *
  have hz : Held z ((z.gateSync.loadJournal env.heads env.anchor env.anchorOk).oplSync) :=
    ((gateSync_held z).trans (loadJournal_held ..)).trans (oplSync_held _)
  have hsz := hs.trans hz
  exact ⟨hsz.accepted.trans ha, hsz.charter.trans ((congrArg (·.retCharter) hn).trans (hm.charter.trans hc)),
    hsz.digest.trans ((congrArg (·.retDigest) hn).trans (hm.digest.trans hd))⟩

/-- The strand with Warden's image in bank W0, at step 6. -/
def booted (st : Strand) (k : Nat) (b : BootImage) (t : Nat) : Strand :=
  let nv := { st.nv with bootActive := k }
  let m := Mem.writeBytes st.sram 0 (b.image.take 0x80000)
  let st : Strand := { st.atStep 6 with nv := nv, bootVdt := b.vdt, measure := bvBytes (Config.sha384 b.image), sram := m }
  let act : Nat := ((List.range 4).map fun (c : Nat) => if st.phys c < 5 then 2 ^ c else 0).sum
  (st.put R.GAR_STATUS_ACTIVE act).flashMend t

theorem booted_held (st : Strand) (k : Nat) (b : BootImage) (t : Nat) : Held st (st.booted k b t) := by
  unfold booted
  extract_lets src nv m x y act
  have hy : Held st y := ⟨rfl, rfl, rfl⟩
  clear_value y
  exact (hy.put _ _).trans (flashMend_held ..)

end Strand

namespace State

/-! ### The ring's settings, R357 -/

/-- `t` differs from `s` in the ring alone. -/
structure RingOnly (s t : State) : Prop where
  now : t.now = s.now
  mem : t.mem = s.mem
  strands : t.strands = s.strands

theorem RingOnly.refl (s : State) : RingOnly s s := ⟨rfl, rfl, rfl⟩

theorem RingOnly.trans {s t u : State} (h : RingOnly s t) (g : RingOnly t u) : RingOnly s u :=
  ⟨g.now.trans h.now, g.mem.trans h.mem, g.strands.trans h.strands⟩

theorem RingOnly.foldl {α : Type} {f : State → α → State} (h : ∀ s x, RingOnly s (f s x)) (l : List α) (s : State) : RingOnly s (l.foldl f s) := by
  induction l generalizing s with
  | nil => exact refl s
  | cons x r ih => exact (h s x).trans (ih _)

theorem rwr_ringOnly (s : State) (o : Nat) (w : Word) : RingOnly s (s.rwr o w) := ⟨rfl, rfl, rfl⟩

theorem ringSettings_ringOnly (s : State) (n : Fin 4) (isNew : Bool) (image : Bytes) : RingOnly s (s.ringSettings n isNew image) := by
  unfold ringSettings
  extract_lets st sec now setBits all cht s1 s2 s3 s4 s5 s6
  have hset (s : State) (off val mask : Nat) : RingOnly s (setBits s off val mask) := rwr_ringOnly ..
  have hall (s : State) (l : List FieldEntry) : RingOnly s (all s l) := RingOnly.foldl (fun s e => hset ..) l s
  have hcht (s : State) (l : List FieldEntry) : RingOnly s (cht s l) := by
    refine RingOnly.foldl (fun s e => ?_) l s
    split
    · exact hset ..
    · exact .refl s
  have h1 : RingOnly s s1 := by
    refine RingOnly.foldl (fun s o => ?_) _ s
    split
    · exact hset ..
    · exact .refl s
  have h2 : RingOnly s1 s2 := (hall ..).trans (hall ..)
  have h3 : RingOnly s2 s3 := by
    unfold s3
    split
    · exact .refl s2
    · exact hcht ..
  have h4 : RingOnly s3 s4 := RingOnly.foldl (fun s o => rwr_ringOnly ..) _ s3
  have h5 : RingOnly s4 s5 := (rwr_ringOnly ..).trans (rwr_ringOnly ..)
  have h := (((h1.trans h2).trans h3).trans h4).trans h5
  clear_value s5
  exact h.trans ⟨rfl, rfl, rfl⟩

theorem ringStep_ringOnly (s : State) (n : Fin 4) (isNew : Bool) (image : Bytes) : RingOnly s (s.ringStep n isNew image) := by
  unfold ringStep
  split
  · exact .refl s
  · split
    · exact ringSettings_ringOnly ..
    · split
      · exact .refl s
      · exact rwr_ringOnly ..

theorem RingOnly.starts {s t : State} (h : RingOnly s t) (n : Fin 4) : Starts n s t :=
  ⟨h.now, h.mem, by rw [sd, sd, h.strands]; exact .refl _⟩

/-! ### Steps 6 and 5 -/

theorem stepSix_starts (s : State) (n : Fin 4) (env : StartEnv) : Starts n s (s.stepSix n env) := by
  unfold stepSix
  extract_lets st least img whole ok a go
  have hgo (u : State) (k : Nat) : Starts n u (go u k) := by
    have hcores := ((Starts.refl n u).up fun x => x.booted_held k (img k) u.now).trans (startCores_starts _ n (img k).vdt)
    have heq : go u k = if (((u.up n fun st => st.booted k (img k) u.now).startCores n (img k).vdt).sd n).halted
        then (u.up n fun st => st.booted k (img k) u.now).startCores n (img k).vdt
        else ((u.up n fun st => st.booted k (img k) u.now).startCores n (img k).vdt).stepSeven n env := rfl
    rw [heq]
    split
    · exact hcores
    · exact hcores.trans (stepSeven_starts ..)
  clear_value go
  split
  · exact hgo ..
  · split
    · exact ((Starts.refl n s).up fun x => ((Held.refl x).put _ _).put _ _).trans (hgo ..)
    · exact startFails_starts ..

end State
end Sys2Proof.Machine
end

section
/-! O14, the first steps and the ends of a start (R51, R52, R56, R61, R76). -/

namespace Sys2Proof.Machine
open Sys2Proof Sys2Proof.Claims

/-- The registers of the Charter's block. -/
abbrev InCht (o : Nat) : Prop := o < 0x100000

/-- `b` may show other values than `a` outside the Charter's block, and what Agate and island V hold stays but for the Vigil record, R597. -/
structure Noted (a b : Strand) : Prop where
  rd : ∀ o, InCht o → b.rd o = a.rd o
  nv : ∃ vigil lost, b.nv = { a.nv with vigil := vigil, vigilOver := lost }

namespace Noted

variable {a b c : Strand}

theorem refl (a : Strand) : Noted a a := ⟨fun _ _ => rfl, _, _, rfl⟩

theorem trans (h : Noted a b) (g : Noted b c) : Noted a c := by
  obtain ⟨_, _, hn⟩ := h.nv
  obtain ⟨_, _, gn⟩ := g.nv
  exact ⟨fun o ho => (g.rd o ho).trans (h.rd o ho), _, _, by rw [gn, hn]⟩

theorem of_nv (hr : ∀ o, InCht o → b.rd o = a.rd o) (hn : b.nv = a.nv) : Noted a b := ⟨hr, a.nv.vigil, a.nv.vigilOver, hn⟩

theorem of_shown {P : Nat → Prop} (h : Shown P a b) (hP : ∀ o, InCht o → P o) : Noted a b := of_nv (fun o ho => h.rd o (hP o ho)) h.nv

theorem of_eq (hr : b.regs = a.regs) (hn : b.nv = a.nv) : Noted a b := of_nv (fun o _ => Strand.rd_congr hr o) hn

theorem put (h : Noted a b) (f : Fld) (v : Nat) (k : Nat := 0) (hf : 0x100000 ≤ f.off := by decide) : Noted a (b.put f v k) :=
  h.trans (of_nv (fun o ho => Strand.rd_put_other _ _ (by simp only [InCht] at ho; simp only [Fld.at]; omega)) rfl)

theorem bump (h : Noted a b) (f : Fld) (k : Nat := 0) (hf : 0x100000 ≤ f.off := by decide) : Noted a (b.bump f k) := h.put f _ k hf

theorem foldl {α : Type} {f : Strand → α → Strand} (h : ∀ st x, Noted st (f st x)) (l : List α) (st : Strand) : Noted st (l.foldl f st) := by
  induction l generalizing st with
  | nil => exact refl st
  | cons x r ih => exact (h st x).trans (ih _)

theorem get (h : Noted a b) (f : Fld) (hf : InCht (f.at 0)) : b.get f = a.get f := congrArg f.ofWord (h.rd _ hf)

theorem mode (h : Noted a b) : b.mode = a.mode := h.get _ (by decide)

theorem halted (h : Noted a b) : b.halted = a.halted := congrArg (· == 1) (h.get R.CHT_MODE_HALTED (by decide))

end Noted

namespace Strand

variable (st : Strand)

theorem noteErr_noted {valid code ovf : Fld} (c : Nat) {info : Strand → Strand} (hv : 0x100000 ≤ valid.off) (hc : 0x100000 ≤ code.off)
    (ho : 0x100000 ≤ ovf.off) (hi : ∀ x, Shown InCht x (info x)) : Noted st (st.noteErr valid code ovf c info) := by
  have hat {f : Fld} (hf : 0x100000 ≤ f.off) : ¬ InCht (f.at 0) := by simp only [InCht, Fld.at]; omega
  exact .of_shown (noteErr_shown (P := InCht) (fun o ho => by simp only [OffSnap]; omega) st c (hat hv) (hat hc) (hat ho) hi) fun _ h => h

theorem agtErr_noted (code block page word : Nat) : Noted st (st.agtErr code block page word) :=
  noteErr_noted st code (by decide) (by decide) (by decide)
    fun x => (((Shown.refl x).put _ _ (by decide)).put _ _ (by decide)).put _ _ (by decide)

theorem agtSync_noted : Noted st st.agtSync := by
  unfold agtSync
  extract_lets f x y z w susp
  have hy : Noted st y := ((((Noted.refl st).put _ _).put _ _).put _ _).put _ _
  have hz : Noted st z := (hy.put _ _).put _ _
  have hw : Noted st w := by
    unfold w
    split
    · exact hz.put _ _
    · exact hz
  exact (hw.put _ _).put _ _

theorem berSync_noted : Noted st st.berSync := ((Noted.refl st).put _ _).put _ _

theorem hltSync_noted : Noted st st.hltSync := by
  unfold hltSync
  extract_lets x1 x2 x3 x4 has x5
  have h2 : Noted st x2 := ((((Noted.refl st).put _ _).put _ _).put _ _).put _ _
  have h4 : Noted st x4 := (((h2.put _ _).put _ _).put _ _).put _ _
  exact (((h4.put _ _).put _ _).put _ _).put _ _

theorem gateSync_noted : Noted st st.gateSync := (Noted.refl st).put _ _

/-! ### Step 1 -/

theorem copyVigil_noted : Noted st st.copyVigil := by
  unfold copyVigil
  extract_lets rec' q x y
  have hx : Noted st x := (Noted.refl st).put _ _
  have hy : Noted st y := by
    unfold y
    split
    · exact hx
    · exact hx.trans (noteErr_noted x 3 (by decide) (by decide) (by decide) fun x => .refl x)
  exact hy.trans ⟨fun _ _ => rfl, _, _, rfl⟩

/-! ### Step 3 -/

theorem assignLanes_noted : Noted st st.assignLanes := by
  unfold assignLanes
  extract_lets good g b t map x1 x2 x3 x4 x5 x6 x7 any x8
  have h2 : Noted st x2 := (((Noted.refl st).put _ _).put _ _).put _ _
  have h4 : Noted st x4 := ((h2.put _ _).put _ _).put _ _
  have h5 : Noted st x5 := h4.put _ _
  have h6 : Noted x5 x6 := Noted.foldl (fun x i => (Noted.refl x).put _ _ i) _ x5
  have h7 : Noted x6 x7 := Noted.foldl (fun x i => ((Noted.refl x).put _ _ i).put _ _ i) _ x6
  have h8 : Noted x7 x8 := ((Noted.refl x7).put _ _).put _ _
  exact (((h5.trans h6).trans h7).trans h8).trans ((berSync_noted _).trans (hltSync_noted _))

theorem flashScan_noted (anchorOk : Bool) : Noted st (st.flashScan anchorOk) := by
  unfold flashScan
  extract_lets f x odd y
  have hx : Noted st x := by
    unfold x
    split
    · exact .refl st
    · exact agtErr_noted ..
  have hy : Noted x y := Noted.foldl (fun u i => agtErr_noted u 6 i 0 0) odd x
  exact ((hx.trans hy).put _ _).trans (agtSync_noted _)

theorem healthFail_noted (f : Fld) (src : Nat) (hf : 0x100000 ≤ f.off) : Noted st (st.healthFail f src) :=
  (((Noted.refl st).bump f src hf).bump _).trans (gateSync_noted _)

theorem quartzStart_noted (bad : List (Nat × Bool)) : Noted st (st.quartzStart bad) := by
  unfold quartzStart
  extract_lets zero x
  have hzero : Noted st ((List.range 4).foldl zero st) := Noted.foldl (fun u k => ((Noted.refl u).put _ _ k).put _ _ k) _ st
  have hx : Noted st x := (hzero.put _ _).trans (gateSync_noted _)
  refine hx.trans (Noted.foldl (fun u e => ?_) _ x)
  split
  · exact (healthFail_noted u _ e.1 (by decide)).put _ _
  · exact (healthFail_noted u _ e.1 (by decide)).put _ _

/-- The self-test's work on the strand, once step 3 shows, R51. -/
def tested (st : Strand) (env : StartEnv) : Strand :=
  let st := { st with fenced := st.fenced ++ env.failed.filter fun i => decide (i ≤ 20) && !st.fenced.contains i }
  let st := if env.detectorsOk then st else st.noteErr R.JSP_ERR_VALID R.JSP_ERR_CODE R.JSP_ERR_OVERFLOW 1 fun st => st
  let st := { st with quar := [] }
  ((st.assignLanes).flashScan env.anchorsOk).quartzStart env.quartz

theorem scanned_noted (a : Bool) (b : List (Nat × Bool)) : Noted st (((st.assignLanes).flashScan a).quartzStart b) := by
  have hs := (assignLanes_noted st).trans (flashScan_noted st.assignLanes a)
  have hq := quartzStart_noted (st.assignLanes.flashScan a) b
  generalize st.assignLanes.flashScan a = y at *
  exact hs.trans hq

theorem tested_noted (env : StartEnv) : Noted st (st.tested env) := by
  unfold tested
  extract_lets x y z
  have hx : Noted st x := .of_eq rfl rfl
  have hy : Noted st y := by
    unfold y
    split
    · exact hx
    · exact hx.trans (noteErr_noted x 1 (by decide) (by decide) (by decide) fun x => .refl x)
  clear_value y
  have hz : Noted y z := .of_eq rfl rfl
  exact (hy.trans hz).trans (scanned_noted z ..)

/-! ### A start that fails, R51, R76 -/

/-- The strand whose start fails. -/
def startFailed (st : Strand) (now step code : Nat) : Strand :=
  ((st.atStep step).put R.CHT_START_STATUS_ELAPSED (st.elapsed now)).failStart step code

/-- A start that fails shows its step and code in a halted strand; the mode and the other registers of the Charter's block stay. -/
theorem startFailed_shows (now step code : Nat) : (st.startFailed now step code).mode = st.mode ∧ (st.startFailed now step code).halted = true
    ∧ (st.startFailed now step code).get R.CHT_START_STATUS_FAIL_STEP = step % 16
    ∧ (st.startFailed now step code).get R.CHT_START_STATUS_FAIL_CODE = code % 256
    ∧ (st.startFailed now step code).get R.CHT_STATUS_FALLBACK_WHY = st.get R.CHT_STATUS_FALLBACK_WHY := by
  unfold startFailed failStart
  have hget {x : Strand} (f : Fld) (h0 : f.at 0 ≠ 0) (hf : f.at 0 < 0x100000) : x.halt.get f = x.get f := congrArg f.ofWord (halt_rd x h0 hf)
  refine ⟨(halt_mode _).trans ?_, halted_halt _, (hget _ (by decide) (by decide)).trans ?_, (hget _ (by decide) (by decide)).trans ?_,
    (hget _ (by decide) (by decide)).trans ?_⟩
  · unfold mode atStep
    simp (disch := decide) only [get_put_other]
  · rw [get_put_apart (f := R.CHT_START_STATUS_FAIL_CODE) (g := R.CHT_START_STATUS_FAIL_STEP) _ _ rfl (by decide) (by decide), get_put_same _ _ _ _ (by decide)]
    rfl
  · rw [get_put_same _ _ _ _ (by decide)]
    rfl
  · unfold atStep
    simp (disch := decide) only [get_put_other]

/-! ### The steps that end a start -/

/-- Step 2 shows, and the sources fused off, R51, R583. -/
def fused (st : Strand) (off : Nat) : Strand := (st.atStep 2).put R.JSP_FUSE_OFF_FUSED off

/-- A strand at a later step of its start: the mode word, and what Agate and island V hold, stay, R51. -/
structure AtStep (a b : Strand) : Prop where
  mode : b.rd 0 = a.rd 0
  nv : ∃ vigil lost, b.nv = { a.nv with vigil := vigil, vigilOver := lost }

theorem AtStep.of_noted {a b : Strand} (h : Noted a b) : AtStep a b := ⟨h.rd 0 (by decide), h.nv⟩

theorem AtStep.trans {a b c : Strand} (h : AtStep a b) (g : AtStep b c) : AtStep a c := by
  obtain ⟨_, _, hn⟩ := h.nv
  obtain ⟨_, _, gn⟩ := g.nv
  exact ⟨g.mode.trans h.mode, _, _, by rw [gn, hn]⟩

theorem AtStep.modeOf {a b : Strand} (h : AtStep a b) : b.mode = a.mode := congrArg R.CHT_MODE_MODE.ofWord h.mode

theorem AtStep.haltedOf {a b : Strand} (h : AtStep a b) : b.halted = a.halted := congrArg (R.CHT_MODE_HALTED.ofWord · == 1) h.mode

theorem put_atStep {f : Fld} (v : Nat) (hf : 0 ≠ f.at 0) : AtStep st (st.put f v) := ⟨rd_put_other _ _ hf, _, _, rfl⟩

theorem atStep_atStep (k : Nat) : AtStep st (st.atStep k) := put_atStep st k (by decide)

theorem fused_atStep (off : Nat) : AtStep st (st.fused off) := (atStep_atStep st 2).trans (put_atStep _ _ (by decide))

/-- The strand after step 1. -/
def copied (st : Strand) : Strand := (st.atStep 1).copyVigil

theorem copied_atStep : AtStep st st.copied := (atStep_atStep st 1).trans (.of_noted (copyVigil_noted _))

/-- The strand after the self-test. -/
def selfTested (st : Strand) (env : StartEnv) : Strand := (st.atStep 3).tested env

theorem selfTested_atStep (env : StartEnv) : AtStep st (st.selfTested env) := (atStep_atStep st 3).trans (.of_noted (tested_noted ..))

theorem selfTested_step (env : StartEnv) : (st.selfTested env).get R.CHT_START_STATUS_STEP = 3 :=
  ((tested_noted (st.atStep 3) env).get _ (by decide)).trans (get_put_same st R.CHT_START_STATUS_STEP 3 0 (by decide))

/-- The strand at step 4, with the mode of its charter port. -/
def choosing (st : Strand) (quad : Nat) : Strand := (st.atStep 4).put R.CHT_STATUS_PORT_QUAD quad

theorem choosing_atStep (quad : Nat) : AtStep st (st.choosing quad) := (atStep_atStep st 4).trans (put_atStep _ _ (by decide))

/-- Whether a slot of the retained state holds a block whose erase was not finished, R566. -/
def slotTorn (st : Strand) (lo : Nat) : Bool := st.nv.flash.incomplete.any fun i => decide (lo ≤ i) && decide (i < lo + 528)

theorem slotTorn_iff (lo : Nat) : st.slotTorn lo = true ↔ ∃ i ∈ st.nv.flash.incomplete, lo ≤ i ∧ i < lo + 528 := by
  simp [slotTorn]

/-- A strand as it enters QUARANTINE at step 1, R57. -/
def quarantined (st : Strand) (n : Fin 4) (now : Nat) : Strand :=
  let st := { (st.setMode 6 3).put R.JSP_STATUS_LATCH 1 with nv := { st.nv with quarantine := true, latch := true, reprov := none } }
  let q := (st.nv.retCharter.bind fun b => Charter.sectionOf b n 7).map Charter.quorum
  { st.put R.CHT_START_STATUS_ELAPSED (st.elapsed now) with quorum := q.getD {} }

/-- QUARANTINE shows in the mode word, and the latch and the record stand; HALTED stays as it was, R56, R57. -/
theorem quarantined_shows (n : Fin 4) (now : Nat) : (st.quarantined n now).mode = 6 ∧ (st.quarantined n now).get R.CHT_MODE_CAUSE = 3
    ∧ (st.quarantined n now).halted = st.halted ∧ (st.quarantined n now).nv.latch = true ∧ (st.quarantined n now).nv.quarantine = true := by
  have hshape : ∃ nv q e, nv.latch = true ∧ nv.quarantine = true ∧ st.quarantined n now
      = { ({ (st.setMode 6 3).put R.JSP_STATUS_LATCH 1 with nv := nv } : Strand).put R.CHT_START_STATUS_ELAPSED e with quorum := q } :=
    ⟨_, _, _, rfl, rfl, rfl⟩
  obtain ⟨nv, q, e, hl, hq, h⟩ := hshape
  have hrd (x : Strand) : ({ ({ x.put R.JSP_STATUS_LATCH 1 with nv := nv } : Strand).put R.CHT_START_STATUS_ELAPSED e with quorum := q } : Strand).rd 0
      = x.rd 0 := (rd_put_other { x.put R.JSP_STATUS_LATCH 1 with nv := nv } e (by decide)).trans (rd_put_other x 1 (by decide))
  have hrd := hrd (st.setMode 6 3)
  rw [h]
  exact ⟨(congrArg R.CHT_MODE_MODE.ofWord hrd).trans (setMode_mode ..), (congrArg R.CHT_MODE_CAUSE.ofWord hrd).trans (setMode_cause ..),
    (congrArg (R.CHT_MODE_HALTED.ofWord · == 1) hrd).trans (setMode_halted ..), hl, hq⟩

end Strand

namespace State

theorem tamperBlock_now (s : State) (n : Fin 4) (latched line : Bool) (evs : List (Nat × Nat)) : (s.tamperBlock n latched line evs).now = s.now := by
  unfold tamperBlock
  split <;> rfl

theorem startFails_sd (s : State) (n : Fin 4) (step code : Nat) : (s.startFails n step code).sd n = (s.sd n).startFailed s.now step code :=
  sd_up_same ..

/-- A start has begun: the clock is past it, and step 1 is at hand. -/
def starting (s : State) (n : Fin 4) (took : Nat) : State := { s.up n fun st => { st with startedAt := s.now } with now := s.now + took }

theorem starting_sd (s : State) (n : Fin 4) (took : Nat) : (s.starting n took).sd n = { s.sd n with startedAt := s.now } :=
  sd_up_same s n fun st => { st with startedAt := s.now }

/-- Where no latch, no QUARANTINE record and no changed canary stands, step 1 leads to step 2. -/
theorem stepOne_clear {s : State} {n : Fin 4} (env : StartEnv) (hl : (s.sd n).nv.latch = false) (hq : (s.sd n).nv.quarantine = false)
    (hb : (s.sd n).canaryBad s.life = false) : s.stepOne n env = (s.up n Strand.copied).stepTwo n env := by
  unfold stepOne
  simp only [hl, hq, hb]
  simp
  rfl

/-- Where the latch stands with no valid mark and no RETURN record, step 1 leads to QUARANTINE. -/
theorem stepOne_latched {s : State} {n : Fin 4} (env : StartEnv) (hl : (s.sd n).nv.latch = true) (hm : (s.sd n).markValid = false)
    (hr : (s.sd n).nv.returnRec = false) :
    ∃ u : State, s.stepOne n env = u.startQuarantine n ∧ u.now = s.now ∧ u.mem = s.mem ∧ (u.sd n).rd 0 = (s.sd n).rd 0 := by
  have hmode := (s.sd n).copied_atStep.mode
  unfold stepOne
  extract_lets st mark bad tamper u evs evs' v w
  have hu : u.now = s.now ∧ u.mem = s.mem ∧ (u.sd n).rd 0 = (s.sd n).rd 0 := ⟨rfl, rfl, by rw [sd_up_same]; exact hmode⟩
  clear_value u
  have hv : v.now = s.now ∧ v.mem = s.mem ∧ (v.sd n).rd 0 = (s.sd n).rd 0 := by
    unfold v
    split
    · rw [tamperBlock_now, tamperBlock_mem, tamperBlock_sd]; exact hu
    · exact hu
  clear_value v
  have hw : w.now = s.now ∧ w.mem = s.mem ∧ (w.sd n).rd 0 = (s.sd n).rd 0 := by
    unfold w
    split
    · exact ⟨hv.1, hv.2.1, by rw [sd_up_same]; exact hv.2.2⟩
    · exact hv
  clear_value w
  have hcond : (tamper && !mark && !st.nv.returnRec) = true := by
    simp only [tamper, mark, st, hl, hm, hr]
    rfl
  rw [if_pos hcond]
  exact ⟨w, rfl, hw⟩

theorem startQuarantine_eq (s : State) (n : Fin 4) : s.startQuarantine n = (s.up n fun st => st.quarantined n s.now).tamperBlock n true false [] := rfl

/-! ### The ends -/

theorem stepTwo_eq (s : State) (n : Fin 4) (env : StartEnv) : s.stepTwo n env =
    if !env.fusesOk then (s.up n fun st => st.fused s.ring.ident.sourceOff).startFails n 2 3
    else if s.life = 5 then (s.up n fun st => st.fused s.ring.ident.sourceOff).startFails n 2 9
    else (s.up n fun st => st.fused s.ring.ident.sourceOff).stepThree n env := rfl

theorem stepThree_eq {env : StartEnv} (h : env.failed = []) (s : State) (n : Fin 4) : s.stepThree n env =
    if s.life = 0 then (s.up n fun st => st.selfTested env).up n fun st => st.put R.CHT_START_STATUS_ELAPSED (st.elapsed s.now)
    else if ((s.up n fun st => st.selfTested env).sd n).nv.returnRec ∨ s.life = 4 then
      (s.up n fun st => st.selfTested env).up n fun st => (st.setMode 7 6).put R.CHT_START_STATUS_ELAPSED (st.elapsed s.now)
    else (s.up n fun st => st.selfTested env).stepFour n env := by
  have hfatal : (env.failed.any fun i => decide (i ≤ 20) && Strand.kindOf i == 0) = false := by rw [h]; rfl
  unfold stepThree
  rw [hfatal]
  rfl

/-- Step 4 with nothing retained: the charter chosen is new, or the start fails, R46, R47. -/
theorem stepFour_none {s : State} {n : Fin 4} (env : StartEnv) (hc : (s.sd n).nv.retCharter = none) : ∃ quad, s.stepFour n env =
    match Charter.choose s.ring.ident s.life n (s.sd n).nv.charterMem with
    | .inr why => ((s.up n fun st => st.choosing quad).up n fun st => st.put R.CHT_STATUS_FALLBACK_WHY why).startFails n 4 4
    | .inl (b, kept) => ((if kept = 0 then s.up n fun st => st.choosing quad
        else (s.up n fun st => st.choosing quad).up n fun st => st.put R.CHT_STATUS_FALLBACK_WHY kept).up n
          fun st => st.put R.CHT_STATUS_NEW_CHARTER 1).stepFive n env true (Charter.signed b) := by
  refine ⟨b2n ((s.sd n).nv.charterMem.present && !(s.sd n).nv.charterMem.octal), ?_⟩
  have hu : ((s.up n fun st => st.choosing (b2n ((s.sd n).nv.charterMem.present && !(s.sd n).nv.charterMem.octal))).sd n).nv.retCharter = none := by
    rw [sd_up_same]; exact hc
  unfold stepFour
  extract_lets st m quad back u
  have hi : u.ring.ident = s.ring.ident := rfl
  have hlife : u.life = s.life := rfl
  rw [hi, hlife]
  cases Charter.choose s.ring.ident s.life n m with
  | inr why =>
    have hback : back u why = (u.up n fun st => st.put R.CHT_STATUS_FALLBACK_WHY why).startFails n 4 4 := by
      unfold back
      rw [show (u.sd n).nv.retCharter = none from hu]
    exact hback
  | inl p =>
    obtain ⟨b, kept⟩ := p
    have hst : st.nv.retCharter = none := hc
    dsimp -zeta only
    extract_lets v img
    rw [hst]
    rfl

theorem stepFive_torn {s : State} {n : Fin 4} (env : StartEnv) (isNew : Bool) (image : Bytes)
    (h : (s.sd n).slotTorn 8 = true ∧ (s.sd n).slotTorn 536 = true) : s.stepFive n env isNew image = s.startFails n 5 5 :=
  if_pos (.inr h)

theorem stepFive_whole {s : State} {n : Fin 4} (env : StartEnv) (image : Bytes) (hr : env.retainedOk = true)
    (h : ¬ ((s.sd n).slotTorn 8 = true ∧ (s.sd n).slotTorn 536 = true)) :
    Starts n (s.up n fun st => st.accepts env true image) (s.stepFive n env true image) := by
  have hgo := ((ringStep_ringOnly (s.up n fun st => st.accepts env true image) n true image).starts n).trans (stepSix_starts _ n env)
  have heq : s.stepFive n env true image = ((s.up n fun st => st.accepts env true image).ringStep n true image).stepSix n env :=
    if_neg (not_or.mpr ⟨by rw [hr]; decide, h⟩)
  rw [heq]
  exact hgo

end State

theorem exec_strandStart {s : State} {n : Fin 4} (env : StartEnv) (hp : s.ring.power = true) (hm : (s.sd n).mode = 1)
    (hh : (s.sd n).halted = false) (hs : (s.sd n).get R.CHT_START_STATUS_STEP = 0) :
    exec (.strandStart n env) s = .next ((s.starting n env.took).stepOne n env) := by
  rw [show exec (.strandStart n env) s = execStrandStart n env s from rfl, execStrandStart]
  simp only [hp, hm, hh, hs]
  rfl

end Sys2Proof.Machine
end

section
/-! O14: where a start of a strand ends (R51, R52, R56, R61, R76). -/

namespace Sys2Proof.Machine
open Sys2Proof Sys2Proof.Claims

section
variable {s : State} {n : Fin 4} {env : StartEnv}

theorem life_congr {s t : State} (h : t.ring = s.ring) : t.life = s.life := by
  unfold State.life State.lifeCode
  rw [h]

/-- What leads past step 1: no latch, no QUARANTINE record and no changed canary. -/
structure Clear (s : State) (n : Fin 4) : Prop where
  latch : (s.sd n).nv.latch = false
  quarantine : (s.sd n).nv.quarantine = false
  canary : (s.sd n).canaryBad s.life = false

/-- A start of a clear strand reaches step 2 as it was, at the clock past the start. -/
theorem stepOne_starting (hc : Clear s n) : ∃ u : State, (s.starting n env.took).stepOne n env = u.stepTwo n env ∧ u.now = s.now + env.took
    ∧ u.mem = s.mem ∧ u.ring = s.ring ∧ (s.sd n).AtStep (u.sd n) := by
  have hsd := s.starting_sd n env.took
  refine ⟨_, State.stepOne_clear env (by rw [hsd]; exact hc.latch) (by rw [hsd]; exact hc.quarantine) (by rw [hsd]; exact hc.canary),
    rfl, rfl, rfl, ?_⟩
  rw [State.sd_up_same, hsd]
  refine Strand.AtStep.trans ?_ (Strand.copied_atStep _)
  exact ⟨rfl, _, _, rfl⟩

/-- The self-test of a strand in life that its fuses do not end: what it leaves stands as it was. -/
theorem stepTwo_tested {u : State} (hf : env.fusesOk = true) (hl : u.life ≠ 5) :
    ∃ v : State, u.stepTwo n env = v.stepThree n env ∧ v.now = u.now ∧ v.mem = u.mem ∧ v.ring = u.ring ∧ (u.sd n).AtStep (v.sd n) := by
  refine ⟨u.up n fun st => st.fused u.ring.ident.sourceOff, ?_, rfl, rfl, rfl, ?_⟩
  · rw [State.stepTwo_eq, hf, if_neg (by decide), if_neg hl]
  · rw [State.sd_up_same]
    exact Strand.fused_atStep ..

theorem startFails_ends (u : State) (step code : Nat) : ((u.startFails n step code).sd n).mode = (u.sd n).mode
    ∧ ((u.startFails n step code).sd n).halted = true
    ∧ ((u.startFails n step code).sd n).get R.CHT_START_STATUS_FAIL_STEP = step % 16
    ∧ ((u.startFails n step code).sd n).get R.CHT_START_STATUS_FAIL_CODE = code % 256
    ∧ ((u.startFails n step code).sd n).get R.CHT_STATUS_FALLBACK_WHY = (u.sd n).get R.CHT_STATUS_FALLBACK_WHY := by
  rw [State.startFails_sd]
  exact Strand.startFailed_shows ..

/-- The fuses cannot be read, or the strand is SCRAPPED. -/
theorem stepTwo_fails {u : State} (h : env.fusesOk = false ∨ env.fusesOk = true ∧ u.life = 5) (hm : (u.sd n).mode = 1) :
    (u.stepTwo n env).now = u.now ∧ (u.stepTwo n env).mem = u.mem ∧ ((u.stepTwo n env).sd n).mode = 1 ∧ ((u.stepTwo n env).sd n).halted = true
      ∧ ((u.stepTwo n env).sd n).get R.CHT_START_STATUS_FAIL_STEP = 2
      ∧ ((u.stepTwo n env).sd n).get R.CHT_START_STATUS_FAIL_CODE = if env.fusesOk then 9 else 3 := by
  have hmode : ((u.up n fun st => st.fused u.ring.ident.sourceOff).sd n).mode = 1 := by
    rw [State.sd_up_same]
    exact (Strand.fused_atStep _ _).modeOf.trans hm
  rw [State.stepTwo_eq]
  obtain hf | ⟨hf, hl⟩ := h
  · obtain ⟨h1, h2, h3, h4, -⟩ := startFails_ends (n := n) (u.up n fun st => st.fused u.ring.ident.sourceOff) 2 3
    rw [hf, if_pos (by decide)]
    exact ⟨rfl, rfl, h1.trans hmode, h2, h3, h4⟩
  · obtain ⟨h1, h2, h3, h4, -⟩ := startFails_ends (n := n) (u.up n fun st => st.fused u.ring.ident.sourceOff) 2 9
    rw [hf, if_neg (by decide), if_pos hl]
    exact ⟨rfl, rfl, h1.trans hmode, h2, h3, h4⟩

/-- BLANK stops after the self-test, R61. -/
theorem stepThree_blank {v : State} (hf : env.failed = []) (hl : v.life = 0) : (v.stepThree n env).now = v.now ∧ (v.stepThree n env).mem = v.mem
    ∧ ((v.stepThree n env).sd n).mode = (v.sd n).mode ∧ ((v.stepThree n env).sd n).halted = (v.sd n).halted
    ∧ ((v.stepThree n env).sd n).get R.CHT_START_STATUS_STEP = 3 := by
  rw [State.stepThree_eq hf, if_pos hl, State.up_up, State.sd_up_same]
  have hat := (Strand.selfTested_atStep (v.sd n) env).trans (Strand.put_atStep ((v.sd n).selfTested env) (f := R.CHT_START_STATUS_ELAPSED)
    (((v.sd n).selfTested env).elapsed v.now) (by decide))
  exact ⟨rfl, rfl, hat.modeOf, hat.haltedOf, (Strand.get_put_apart (f := R.CHT_START_STATUS_ELAPSED)
    (g := R.CHT_START_STATUS_STEP) _ _ rfl (by decide) (by decide)).trans (Strand.selfTested_step ..)⟩

/-- RETURNED leads to RETURN, R56. -/
theorem stepThree_returned {v : State} (hf : env.failed = []) (hl : v.life = 4) : (v.stepThree n env).now = v.now ∧ (v.stepThree n env).mem = v.mem
    ∧ ((v.stepThree n env).sd n).mode = 7 ∧ ((v.stepThree n env).sd n).get R.CHT_MODE_CAUSE = 6
    ∧ ((v.stepThree n env).sd n).halted = (v.sd n).halted := by
  rw [State.stepThree_eq hf, if_neg (by rw [hl]; decide), if_pos (.inr hl), State.up_up, State.sd_up_same]
  have htest := Strand.selfTested_atStep (v.sd n) env
  generalize (v.sd n).selfTested env = x at *
  have hput (y : Strand) (k : Nat) : y.AtStep (y.put R.CHT_START_STATUS_ELAPSED k) := Strand.put_atStep y k (by decide)
  refine ⟨rfl, rfl, (hput ..).modeOf.trans (Strand.setMode_mode ..), ?_, (hput ..).haltedOf.trans ((Strand.setMode_halted ..).trans htest.haltedOf)⟩
  exact (congrArg R.CHT_MODE_CAUSE.ofWord (hput ..).mode).trans (Strand.setMode_cause ..)

/-- An owned strand with no RETURN record goes on to step 4. -/
theorem stepThree_owned {v : State} (hf : env.failed = []) (hl : v.life = 1 ∨ v.life = 3) (hr : (v.sd n).nv.returnRec = false) :
    ∃ w : State, v.stepThree n env = w.stepFour n env ∧ w.now = v.now ∧ w.mem = v.mem ∧ w.ring = v.ring ∧ (v.sd n).AtStep (w.sd n) := by
  have htest := Strand.selfTested_atStep (v.sd n) env
  refine ⟨v.up n fun st => st.selfTested env, ?_, rfl, rfl, rfl, by rw [State.sd_up_same]; exact htest⟩
  obtain ⟨_, _, hn⟩ := htest.nv
  have hr' : ((v.up n fun st => st.selfTested env).sd n).nv.returnRec = false := by rw [State.sd_up_same, hn]; exact hr
  rw [State.stepThree_eq hf, if_neg (by omega), if_neg (by rw [hr']; simp; omega)]

/-- Step 4 of a strand with nothing retained: no charter serves, or it is new. -/
theorem stepFour_unserved {w : State} {why : Nat} (hc : (w.sd n).nv.retCharter = none)
    (hch : Charter.choose w.ring.ident w.life n (w.sd n).nv.charterMem = .inr why) :
    (w.stepFour n env).now = w.now ∧ (w.stepFour n env).mem = w.mem ∧ ((w.stepFour n env).sd n).halted = true
      ∧ ((w.stepFour n env).sd n).get R.CHT_START_STATUS_FAIL_STEP = 4 ∧ ((w.stepFour n env).sd n).get R.CHT_START_STATUS_FAIL_CODE = 4
      ∧ ((w.stepFour n env).sd n).get R.CHT_STATUS_FALLBACK_WHY = why % 8 := by
  obtain ⟨quad, heq⟩ := State.stepFour_none env hc
  rw [hch] at heq
  rw [heq]
  obtain ⟨-, hh, hs, hcode, hwhy⟩ := startFails_ends (n := n) ((w.up n fun st => st.choosing quad).up n fun st => st.put R.CHT_STATUS_FALLBACK_WHY why) 4 4
  refine ⟨rfl, rfl, hh, hs, hcode, hwhy.trans ?_⟩
  rw [State.sd_up_same]
  exact Strand.get_put_same _ _ _ _ (by decide)

/-- The state that reaches step 5 with a new charter. -/
theorem stepFour_new {w : State} {b : Bytes} {kept : Nat} (hc : (w.sd n).nv.retCharter = none)
    (hch : Charter.choose w.ring.ident w.life n (w.sd n).nv.charterMem = .inl (b, kept)) :
    ∃ x : State, w.stepFour n env = x.stepFive n env true (Charter.signed b) ∧ x.now = w.now ∧ x.mem = w.mem ∧ (w.sd n).AtStep (x.sd n) := by
  obtain ⟨quad, heq⟩ := State.stepFour_none env hc
  rw [hch] at heq
  have hput (y : Strand) (f : Fld) (k : Nat) (hf : 0 ≠ f.at 0) : y.AtStep (y.put f k) := Strand.put_atStep y k hf
  refine ⟨_, heq, ?_, ?_, ?_⟩
  · split <;> rfl
  · split <;> rfl
  · rw [State.sd_up_same]
    refine Strand.AtStep.trans ?_ (hput _ _ _ (by decide))
    split
    · rw [State.sd_up_same]; exact Strand.choosing_atStep ..
    · rw [State.sd_up_same, State.sd_up_same]; exact (Strand.choosing_atStep ..).trans (hput _ _ _ (by decide))

theorem slotTorn_of_atStep {a b : Strand} (h : a.AtStep b) (lo : Nat) : b.slotTorn lo = a.slotTorn lo := by
  obtain ⟨_, _, hn⟩ := h.nv
  unfold Strand.slotTorn
  rw [hn]

/-- How a strand ends whose step 5 begins with a new charter: both slots torn, or the charter accepted and retained, R52, R566. -/
structure Decided (image : Bytes) (torn : Prop) (x : Strand) : Prop where
  failed : torn → x.halted = true ∧ x.get R.CHT_START_STATUS_FAIL_STEP = 5 ∧ x.get R.CHT_START_STATUS_FAIL_CODE = 5
  accepted : ¬ torn → x.accepted = some image ∧ x.nv.retCharter = some image ∧ x.nv.retDigest = Charter.digest image

theorem stepFour_decides {w : State} {b : Bytes} {kept : Nat} (hc : (w.sd n).nv.retCharter = none) (hok : env.retainedOk = true)
    (hch : Charter.choose w.ring.ident w.life n (w.sd n).nv.charterMem = .inl (b, kept)) :
    (w.stepFour n env).now = w.now ∧ (w.stepFour n env).mem = w.mem
      ∧ Decided (Charter.signed b) ((w.sd n).slotTorn 8 = true ∧ (w.sd n).slotTorn 536 = true) ((w.stepFour n env).sd n) := by
  obtain ⟨x, hx, hxn, hxm, hxs⟩ := stepFour_new (env := env) hc hch
  have htorn := slotTorn_of_atStep hxs
  rw [hx, ← htorn, ← htorn]
  by_cases ht : (x.sd n).slotTorn 8 = true ∧ (x.sd n).slotTorn 536 = true
  · obtain ⟨-, hh, hs, hcode, -⟩ := startFails_ends (n := n) x 5 5
    rw [State.stepFive_torn env true _ ht]
    exact ⟨hxn, hxm, fun _ => ⟨hh, hs, hcode⟩, fun hnt => absurd ht hnt⟩
  · have hst := State.stepFive_whole (s := x) (n := n) env (Charter.signed b) hok ht
    obtain ⟨ha, hcd, hd⟩ := (x.sd n).accepts_new env (Charter.signed b)
    have hheld := hst.held
    rw [State.sd_up_same] at hheld
    exact ⟨hst.now.trans hxn, hst.mem.trans hxm, fun h => absurd h ht, fun _ =>
      ⟨hheld.accepted.trans ha, hheld.charter.trans hcd, hheld.digest.trans hd⟩⟩

end

/-- Settles O14, by a walk through the steps: what each leaves of the mode word and of what Agate holds, and what the later ones keep. -/
theorem startOfAStrand : Obligations.StartOfAStrand := by
  unfold Obligations.StartOfAStrand
  intro s n env hp hm hh hs Ends
  have hexec := exec_strandStart env hp hm hh hs
  refine ⟨fun hl hmark hr => ?_, fun hl hq hb => ?_⟩
  · have hsd := s.starting_sd n env.took
    obtain ⟨u, heq, hn, hmem, hrd⟩ := State.stepOne_latched (s := s.starting n env.took) env (by rw [hsd]; exact hl) (by rw [hsd]; exact hmark)
      (by rw [hsd]; exact hr)
    obtain ⟨h1, h2, h3, h4⟩ := (u.sd n).quarantined_shows n u.now
    have hhalt : (u.sd n).halted = false := (congrArg (R.CHT_MODE_HALTED.ofWord · == 1) hrd).trans (by rw [hsd]; exact hh)
    refine ⟨_, hexec, ?_⟩
    rw [heq, State.startQuarantine_eq, State.tamperBlock_now, State.tamperBlock_mem, State.tamperBlock_sd, State.sd_up_same]
    exact ⟨hn, hmem, h1, h2, h3.trans hhalt, h4⟩
  obtain ⟨u, hu, hun, hum, hur, hus⟩ := stepOne_starting (env := env) (⟨hl, hq, hb⟩ : Clear s n)
  have hulife : u.life = s.life := life_congr hur
  have humode := hus.modeOf.trans hm
  have huhalt := hus.haltedOf.trans hh
  rw [hu] at hexec
  refine ⟨fun hf => ?_, fun hf hlife => ?_, fun hf hfail => ⟨fun hlife => ?_, fun hlife => ?_, fun hlife hr hc hok => ?_⟩⟩
  · obtain ⟨h1, h2, h3, h4, h5, h6⟩ := stepTwo_fails (.inl hf) humode
    rw [hf] at h6
    exact ⟨_, hexec, h1.trans hun, h2.trans hum, h3, h4, h5, h6⟩
  · obtain ⟨h1, h2, h3, h4, h5, h6⟩ := stepTwo_fails (.inr ⟨hf, hulife.trans hlife⟩) humode
    rw [hf] at h6
    exact ⟨_, hexec, h1.trans hun, h2.trans hum, h3, h4, h5, h6⟩
  all_goals
    obtain ⟨v, hv, hvn, hvm, hvr, hvs⟩ := stepTwo_tested (n := n) hf (u := u) (by rw [hulife]; omega)
    have hvlife : v.life = s.life := (life_congr hvr).trans hulife
    rw [hv] at hexec
  · obtain ⟨h1, h2, h3, h4, h5⟩ := stepThree_blank (n := n) (v := v) hfail (hvlife.trans hlife)
    exact ⟨_, hexec, h1.trans (hvn.trans hun), h2.trans (hvm.trans hum), h3.trans (hvs.modeOf.trans humode), h4.trans (hvs.haltedOf.trans huhalt), h5⟩
  · obtain ⟨h1, h2, h3, h4, h5⟩ := stepThree_returned (n := n) (v := v) hfail (hvlife.trans hlife)
    exact ⟨_, hexec, h1.trans (hvn.trans hun), h2.trans (hvm.trans hum), h3, h4, h5.trans (hvs.haltedOf.trans huhalt)⟩
  · have hsv := hus.trans hvs
    obtain ⟨_, _, hnv⟩ := hsv.nv
    obtain ⟨w, hw, hwn, hwm, hwr, hws⟩ := stepThree_owned (n := n) hfail (by rw [hvlife]; exact hlife) (by rw [hnv]; exact hr)
    have hsw := hsv.trans hws
    obtain ⟨_, _, hnw⟩ := hsw.nv
    have hring : w.ring = s.ring := hwr.trans (hvr.trans hur)
    have hwc : (w.sd n).nv.retCharter = none := by rw [hnw]; exact hc
    have hwlife : w.life = s.life := life_congr hring
    have hchoose : Charter.choose w.ring.ident w.life n (w.sd n).nv.charterMem = Charter.choose s.ring.ident s.life n (s.sd n).nv.charterMem := by
      rw [hwlife, hring, hnw]
    have hnow : w.now = s.now + env.took := hwn.trans (hvn.trans hun)
    have hmem : w.mem = s.mem := hwm.trans (hvm.trans hum)
    rw [hw] at hexec
    cases hch : Charter.choose s.ring.ident s.life n (s.sd n).nv.charterMem with
    | inr why =>
      obtain ⟨h1, h2, h3, h4, h5, h6⟩ := stepFour_unserved (env := env) hwc (hchoose.trans hch)
      exact ⟨_, hexec, h1.trans hnow, h2.trans hmem, h3, h4, h5, h6⟩
    | inl p =>
      obtain ⟨b, kept⟩ := p
      obtain ⟨h1, h2, hd⟩ := stepFour_decides (env := env) hwc hok (hchoose.trans hch)
      rw [slotTorn_of_atStep hsw, slotTorn_of_atStep hsw, Strand.slotTorn_iff, Strand.slotTorn_iff] at hd
      exact ⟨_, hexec, h1.trans hnow, h2.trans hmem, hd.failed, hd.accepted⟩

end Sys2Proof.Machine
end

section
/-! The custodian slot: what a fault record, a command to the card, and the end of a session leave alone, and how a job's outcome stands
(R515, R516, R520, R530). -/

namespace Sys2Proof.Machine
open Sys2Proof Sys2Proof.Claims

/-- `b` is `a` with other registers, another snapshot and other vectors pending. -/
def Notified (a b : Strand) : Prop := ∃ regs snap ipend, b = { a with regs := regs, snap := snap, ipend := ipend }

namespace Notified

variable {a b c : Strand}

theorem refl (a : Strand) : Notified a a := ⟨_, _, _, rfl⟩

theorem trans (h : Notified a b) (g : Notified b c) : Notified a c := by
  obtain ⟨_, _, _, rfl⟩ := h
  obtain ⟨_, _, _, rfl⟩ := g
  exact ⟨_, _, _, rfl⟩

theorem put (h : Notified a b) (f : Fld) (v : Nat) (k : Nat := 0) : Notified a (b.put f v k) := h.trans ⟨_, _, _, rfl⟩

theorem bump (h : Notified a b) (f : Fld) (k : Nat := 0) : Notified a (b.bump f k) := h.put f _ k

theorem cc (h : Notified a b) : b.cc = a.cc := by obtain ⟨_, _, _, rfl⟩ := h; rfl

theorem sent (h : Notified a b) : b.sent = a.sent := by obtain ⟨_, _, _, rfl⟩ := h; rfl

end Notified

namespace Strand

variable (st : Strand)

theorem snapTrigger_notified (source : Nat) : Notified st (st.snapTrigger source) := by
  unfold snapTrigger
  split
  · exact (Notified.refl st).bump _
  · extract_lets no x y
    have hx : Notified st x := (((Notified.refl st).put _ _).put _ _).put _ _
    have hy : Notified st y := ((hx.put _ _).put _ _).put _ _
    exact hy.trans ⟨_, _, _, rfl⟩

theorem vector_notified (v core : Nat) : Notified st (st.vector v core) := by
  unfold vector
  extract_lets ev x
  have hx : Notified st x := by
    by_cases hc : core < 4
    · simp only [x, hc, dite_true]; exact ⟨_, _, _, rfl⟩
    · simp only [x, hc, dite_false]; exact .refl st
  split
  · exact hx.trans (snapTrigger_notified x 5)
  · exact hx

theorem noteErr_notified {info : Strand → Strand} (hi : ∀ x, Notified x (info x)) (valid code ovf : Fld) (c : Nat) :
    Notified st (st.noteErr valid code ovf c info) := by
  have hp : Notified st (info ((st.put valid 1).put code c)) := (((Notified.refl st).put _ _).put _ _).trans (hi _)
  unfold noteErr
  split
  · exact (Notified.refl st).bump _
  · dsimp only
    split
    · exact hp.trans (vector_notified ..)
    · exact hp

/-- The info words of a slot's fault, R530. -/
def ccInfo (sw : Nat) (st : Strand) : Strand :=
  (st.put R.CC_ERR_INFO_SW sw).put R.CC_ERR_INFO_ORDER_TYPE ((st.cc.order.map (·.kind)).getD 0)

theorem ccErr_eq (code sw : Nat) : st.ccErr code sw = st.noteErr R.CC_ERR_VALID R.CC_ERR_CODE R.CC_ERR_OVERFLOW code (ccInfo sw) := rfl

theorem ccErr_notified (code sw : Nat) : Notified st (st.ccErr code sw) := by
  rw [ccErr_eq]
  exact noteErr_notified st (fun x => ((Notified.refl x).put _ _).put _ _) ..

theorem ccErr_shown (code sw : Nat) : Shown (fun o => OffSnap o ∧ o ≠ 0xE00014 ∧ o ≠ 0xE00018) st (st.ccErr code sw) := by
  rw [ccErr_eq]
  exact noteErr_shown (fun _ h => h.1) st code (by decide) (by decide) (by decide) fun x => ((Shown.refl x).put _ _ (by decide)).put _ _ (by decide)

theorem ccErr_valid (code sw : Nat) : (st.ccErr code sw).flag R.CC_ERR_VALID = true := by
  rw [ccErr_eq]
  cases h : st.flag R.CC_ERR_VALID with
  | true =>
    rw [noteErr_later h]
    exact (congrArg (· == 1) (get_put_apart st (f := R.CC_ERR_OVERFLOW) (g := R.CC_ERR_VALID) _ rfl (by decide) (by decide))).trans h
  | false =>
    refine ((noteErr_first_shown h).flag _ (by decide)).trans (congrArg (· == 1) ?_ : _ = ((1 : Nat) == 1))
    unfold ccInfo
    simp (disch := decide) only [get_put_same, get_put_apart, get_put_other]
    rfl

/-! ### Commands to the card -/

/-- The blocks of a command turn the send sequence, and nothing else of the protocol's state. -/
theorem t1Chain_kept (t : T1) (data : Bytes) (f : Nat) : (t1Chain t data f).1.ifsc = t.ifsc ∧ (t1Chain t data f).1.crc = t.crc := by
  induction f generalizing t data with
  | zero => exact ⟨rfl, rfl⟩
  | succ f ih =>
    unfold t1Chain
    extract_lets k more b u
    split
    · exact ih u _
    · exact ⟨rfl, rfl⟩

/-- A command goes out once, and the card's protocol state alone follows it. -/
theorem apdu_eq (ins : Nat) (data : Bytes) : ∃ t wire, t.ifsc = st.cc.t1.ifsc ∧ t.crc = st.cc.t1.crc
    ∧ st.apdu ins data = { st with cc := { st.cc with t1 := t }, sent := st.sent ++ [⟨.custodianCard, ins, data, wire⟩] } := by
  obtain ⟨hi, hc⟩ := t1Chain_kept st.cc.t1 data (data.length + 1)
  exact ⟨_, _, hi, hc, rfl⟩

/-- Of a strand that may begin a card's session, the session and what is sent alone change, R520. -/
theorem startSession_eq : ∃ t step ended sent, t.ifsc = st.cc.t1.ifsc ∧ t.crc = st.cc.t1.crc
    ∧ (step = if st.flag R.CC_STATUS_ACTIVE = true ∧ st.cc.order.isSome = true ∧ (st.cc.step = .idle ∨ st.cc.step = .over) then .select else st.cc.step)
    ∧ st.startSession = { st with cc := { st.cc with t1 := t, step := step, ended := ended }, sent := sent } := by
  unfold startSession
  split
  · next h =>
    obtain ⟨t, wire, hi, hc, he⟩ := apdu_eq (st.upCc fun c => { c with step := .select, ended := 0 }) 0xA4
      [0x00, 0xA4, 0x04, 0x00, 0x08, 0xF0, 0x4A, 0x52, 0x54, 0x58, 0x43, 0x55, 0x53]
    exact ⟨t, .select, 0, _, hi, hc, rfl, he⟩
  · next h => exact ⟨_, _, _, _, rfl, rfl, rfl, rfl⟩

/-- A session that begins changes neither the order nor the registers, R520. -/
theorem startSession_kept : st.startSession.cc.order = st.cc.order ∧ st.startSession.nv = st.nv ∧ st.startSession.regs = st.regs := by
  obtain ⟨_, _, _, _, -, -, -, h⟩ := startSession_eq st
  rw [h]
  exact ⟨rfl, rfl, rfl⟩

theorem length_drawBytes (k : Nat) : (st.drawBytes k).1.length = k := by
  rw [drawBytes, toBE, List.length_reverse, length_toLE]

end Strand

/-! ### Outcomes -/

/-- An outcome of a job stands on a strand. -/
def Ended (j : Job) (x : Strand) (status : Nat) : Prop := ∃ d ∈ x.done, d.job.id = j.id ∧ d.status = status

theorem ended_congr {j : Job} {x y : Strand} {status : Nat} (h : y.done = x.done) (e : Ended j x status) : Ended j y status := by
  unfold Ended
  rw [h]; exact e

theorem finish_ended (st : Strand) (t : Nat) (j : Job) (records status resLen detail : Nat) :
    Ended j (st.finish t j records status resLen detail) status := by
  obtain ⟨_, d, h, hj, hs, -⟩ := Strand.finish_eq st t j records status resLen detail []
  rw [h]
  exact ⟨d, by simp, congrArg (·.id) hj, hs⟩

theorem finishEarly_eq (st : Strand) (t : Nat) (j : Job) (records status detail : Nat) :
    ∃ taken done, st.finishEarly t j records status detail = { st with taken := taken, done := done } := by
  unfold Strand.finishEarly
  extract_lets last x
  clear_value last
  cases last with
  | none => exact ⟨_, _, rfl⟩
  | some b =>
    dsimp only
    split
    · exact ⟨_, _, rfl⟩
    · exact ⟨_, _, rfl⟩

theorem finishEarly_ended (st : Strand) (t : Nat) (j : Job) (records status detail : Nat) :
    Ended j (st.finishEarly t j records status detail) status := by
  unfold Strand.finishEarly
  extract_lets last x
  obtain ⟨d, hd, hj, hs⟩ := finish_ended st t { j with origin := max j.origin st.post.parseDone } records status 0 detail
  clear_value last
  cases last with
  | none => exact ⟨d, hd, hj, hs⟩
  | some b =>
    dsimp only
    split
    · refine ⟨if d.job.id = j.id then { d with after := some b.order } else d, List.mem_map.mpr ⟨d, hd, rfl⟩, ?_⟩
      rw [if_pos hj]
      exact ⟨hj, hs⟩
    · exact ⟨d, hd, hj, hs⟩

namespace State

/-- A job that fails leaves its outcome, and nothing else of the strand changes. -/
theorem fail_ends (s : State) (n : Fin 4) (j : Job) (status detail : Nat) : Ended j ((s.fail n j status detail).sd n) status
    ∧ ∃ taken done, (s.fail n j status detail).sd n = { s.sd n with taken := taken, done := done } := by
  unfold fail
  split
  · rw [sd_up_same]
    exact ⟨finishEarly_ended .., finishEarly_eq ..⟩
  · rw [sd_up_same]
    exact ⟨finish_ended .., _, _, rfl⟩

/-- A job's output leaves the strand as it was, but for work SRAM and the copies of it, R406. -/
theorem writeJob_eq (s : State) (n : Fin 4) (j : Job) (a : Nat) (b : Bytes) :
    (∃ sram cores, (s.writeJob n j a b).sd n = { s.sd n with sram := sram, cores := cores }) ∧ ∀ m, m ≠ n → (s.writeJob n j a b).sd m = s.sd m := by
  unfold writeJob
  split
  · exact ⟨⟨_, _, rfl⟩, fun _ _ => rfl⟩
  · exact ⟨by rw [sd_up_same]; exact ⟨_, _, rfl⟩, fun m hm => sd_up_other _ _ hm⟩

/-- A job that succeeds leaves its outcome; of the strand, work SRAM and the job lists alone change. -/
theorem succeed_ends {s : State} {j : Job} {out : Bytes} (h : (j.env.writeOk || out.isEmpty) = true) (n : Fin 4) :
    Ended j ((s.succeed n j out).sd n) 0
    ∧ (∃ taken done sram cores, (s.succeed n j out).sd n = { s.sd n with taken := taken, done := done, sram := sram, cores := cores })
    ∧ ∀ m, m ≠ n → (s.succeed n j out).sd m = s.sd m := by
  obtain ⟨⟨_, _, hw⟩, ho⟩ := writeJob_eq s n j j.seg0.outAddr out
  rw [succeed_ok h, sd_up_same]
  refine ⟨finish_ended .., ?_, fun m hm => (sd_up_other _ _ hm).trans (ho m hm)⟩
  rw [hw]
  exact ⟨_, _, _, _, rfl⟩

/-! ### The custodian opcodes -/

/-- The strand of a custodian job, as its work meets it: the custodian has been active, R78. -/
def ccMet (s : State) (n : Fin 4) : State := s.up n fun st => st.custodianActive s.now

theorem ccMet_sd (s : State) (n : Fin 4) : (s.ccMet n).sd n = (s.sd n).custodianActive s.now := sd_up_same ..

theorem ccMet_sd_other (s : State) {n m : Fin 4} (h : m ≠ n) : (s.ccMet n).sd m = s.sd m := sd_up_other _ _ h

/-- What a custodian job needs to reach its work, R522, R524. -/
structure CcServed (s : State) (n : Fin 4) (j : Job) : Prop where
  halted : (s.sd n).halted = false
  mode : (s.sd n).mode ≠ 0
  copies : s.dupHits n j.op = false
  input : j.env.readOk = true
  manager : j.fn = 0

theorem ccJob_served {s : State} {n : Fin 4} {j : Job} (h : CcServed s n j) (work : State → State) : s.ccJob n j work = work (s.ccMet n) := by
  unfold ccJob
  simp only [h.halted, h.mode, h.copies, h.input, h.manager]
  rfl

end State

/-- A command answers a state that differs from `s` in strand `n` alone of the strands, and of which `P` holds. -/
def CcGoes (s : State) (n : Fin 4) (c : Instr) (P : State → Strand → Prop) : Prop :=
  ∃ t, exec c s = .next t ∧ (∀ m, m ≠ n → t.sd m = s.sd m) ∧ P t (t.sd n)

/-- A command that changes the strand by itself. -/
theorem CcGoes.of_setSd {s : State} {n : Fin 4} {c : Instr} {x : Strand} {P : State → Strand → Prop} (he : exec c s = .next (s.setSd n x))
    (hP : P (s.setSd n x) x) : CcGoes s n c P :=
  ⟨_, he, fun _ hm => State.sd_setSd_other s x hm, by rw [State.sd_setSd_same]; exact hP⟩

/-- A custodian job that fails leaves its status and the slot as its work left it. -/
theorem CcGoes.of_fail {s : State} {n : Fin 4} {c : Instr} {j : Job} {x : Strand} {status : Nat}
    (he : exec c s = .next (((s.ccMet n).setSd n x).fail n j status)) : CcGoes s n c fun _ y => Ended j y status ∧ y.cc = x.cc := by
  obtain ⟨hend, _, _, hx⟩ := ((s.ccMet n).setSd n x).fail_ends n j status 0
  refine ⟨_, he, fun m hm => ?_, hend, ?_⟩
  · rw [State.sd_fail_other _ _ _ _ hm, State.sd_setSd_other _ _ hm, State.ccMet_sd_other _ hm]
  · rw [hx, State.sd_setSd_same]

/-- `y` has the slot, the registers and what is sent of `x`, and what `x` holds in Agate and island V. -/
structure SlotKept (x y : Strand) : Prop where
  cc : y.cc = x.cc
  sent : y.sent = x.sent
  nv : y.nv = x.nv
  regs : y.regs = x.regs

theorem SlotKept.get {x y : Strand} (h : SlotKept x y) (f : Fld) : y.get f = x.get f := Strand.get_congr h.regs f 0

/-- A custodian job that succeeds leaves its outcome, and the slot as its work left it. -/
theorem CcGoes.of_succeed {s : State} {n : Fin 4} {c : Instr} {j : Job} {x : Strand} {out : Bytes} (hw : (j.env.writeOk || out.isEmpty) = true)
    (he : exec c s = .next (((s.ccMet n).setSd n x).succeed n j out)) : CcGoes s n c fun _ y => SlotKept x y ∧ Ended j y 0 := by
  obtain ⟨hend, ⟨_, _, _, _, hx⟩, ho⟩ := State.succeed_ends (s := (s.ccMet n).setSd n x) hw n
  refine ⟨_, he, fun m hm => ?_, ?_, hend⟩
  · rw [ho m hm, State.sd_setSd_other _ _ hm, State.ccMet_sd_other _ hm]
  · rw [hx, State.sd_setSd_same]; exact ⟨rfl, rfl, rfl, rfl⟩

end Sys2Proof.Machine
end

section
/-! O51, the custodian opcodes CC_ORDER, CC_PIN, CC_ORDER_Q and CC_CANCEL (R519 to R522). -/

namespace Sys2Proof.Machine
open Sys2Proof Sys2Proof.Claims

/-! ### CC_ORDER -/

/-- The order that CC_ORDER opens, R519, R521. -/
def orderOf (s : State) (n : Fin 4) (b : Bytes) (r : Rule) : Order :=
  let no := ((s.sd n).nv.orderNo + 1) % 2 ^ 32
  { kind := le b 0 1, no := no, block := sub b 0 4 ++ toLE 4 no ++ b.drop 8, m := if le b 0 1 = 7 then 1 else r.m
    groups := r.groups, deadline := s.now + 60000000000 * (s.sd n).get R.CC_CTL_ORDER_LIFE }

/-- The strand whose slot collects approvals of an order, R521. -/
def Strand.collecting (st : Strand) (o : Order) : Strand :=
  ({ st with nv := { st.nv with orderNo := o.no } }.upCc fun c => { c with order := some o, effected := false }).ccSync

theorem Strand.collecting_shows (st : Strand) (o : Order) (ho : o.no < 2 ^ 32) : (st.collecting o).cc.order = some o
    ∧ (st.collecting o).nv.orderNo = o.no ∧ (st.collecting o).get R.CC_ORDER_NO = o.no ∧ (st.collecting o).get R.CC_APPROVALS_STATE = 1 := by
  have hcc : (st.collecting o).cc.order = some o ∧ (st.collecting o).nv.orderNo = o.no := ⟨rfl, rfl⟩
  have hregs : ∃ x : Strand, (st.collecting o).regs = (((((x.put R.CC_ORDER_NO o.no).put R.CC_APPROVALS_HELD o.held.length).put
      R.CC_APPROVALS_M o.m)).put R.CC_APPROVALS_STATE 1).regs := ⟨_, rfl⟩
  obtain ⟨x, hx⟩ := hregs
  refine ⟨hcc.1, hcc.2, (get_congr hx _ 0).trans ?_, (get_congr hx _ 0).trans (get_put_same _ _ _ _ (by decide))⟩
  simp (disch := decide) only [get_put_same, get_put_other]
  exact Nat.mod_eq_of_lt ho

theorem State.orderAccepted_ccMet (s : State) (n : Fin 4) (kind : Nat) : (s.ccMet n).orderAccepted n kind = s.orderAccepted n kind := by
  unfold orderAccepted
  rw [ccMet_sd]
  rfl

/-- The block of an order that CC_ORDER can read, R519. -/
structure OrderBlock (j : Job) : Prop where
  length : j.input.length = 64
  zero1 : allZero j.input 1 3 = true
  zero4 : le j.input 4 4 = 0
  zero25 : allZero j.input 25 7 = true
  room : 4 ≤ j.seg0.outLen

theorem exec_ccOrder (n : Fin 4) (j : Job) (s : State) : exec (.ccOrder n j) s = execCcOrder n j s := rfl

theorem exec_ccOrder_accepted {s : State} {n : Fin 4} {j : Job} {r : Rule} (h : State.CcServed s n j) (hb : OrderBlock j)
    (ho : (s.sd n).cc.order = none) (hr : (s.sd n).quorum.rules.find? (·.order == le j.input 0 1) = some r)
    (hid : sub j.input 8 16 = fit 16 s.ring.ident.deviceId) (hn : le j.input 24 1 = n.val) (ha : s.orderAccepted n (le j.input 0 1) = true) :
    exec (.ccOrder n j) s = .next (((s.ccMet n).setSd n
      ((((s.sd n).custodianActive s.now).collecting (orderOf s n j.input r)).startSession)).succeed n j (toLE 4 (orderOf s n j.input r).no)) := by
  rw [exec_ccOrder, execCcOrder, State.ccJob_served h]
  have hsd := s.ccMet_sd n
  have ha' := (s.orderAccepted_ccMet n (le j.input 0 1)).trans ha
  have ho' : ((s.ccMet n).sd n).cc.order = none := by rw [hsd]; exact ho
  have hr' : ((s.ccMet n).sd n).quorum.rules.find? (·.order == le j.input 0 1) = some r := by rw [hsd]; exact hr
  dsimp only
  rw [State.room_fits hb.room, ho', hr', if_neg (by decide), if_neg (by rw [hb.length, hb.zero1, hb.zero4, hb.zero25]; decide)]
  dsimp only
  rw [if_neg (by rw [hn, ha']; simp; exact hid), hsd]
  rfl

/-- CC_ORDER opens the order, R519, R521. -/
theorem ccOrder_accepted {s : State} {n : Fin 4} {j : Job} {r : Rule} (h : State.CcServed s n j) (hb : OrderBlock j) (hw : j.env.writeOk = true)
    (hcop : j.cop = none) (ho : (s.sd n).cc.order = none) (hr : (s.sd n).quorum.rules.find? (·.order == le j.input 0 1) = some r)
    (hid : sub j.input 8 16 = fit 16 s.ring.ident.deviceId) (hn : le j.input 24 1 = n.val) (ha : s.orderAccepted n (le j.input 0 1) = true) :
    CcGoes s n (.ccOrder n j) fun t x => x.cc.order = some (orderOf s n j.input r) ∧ x.nv.orderNo = (orderOf s n j.input r).no
      ∧ x.get R.CC_ORDER_NO = (orderOf s n j.input r).no ∧ x.get R.CC_APPROVALS_STATE = 1 ∧ Ended j x 0
      ∧ t.mem = Mem.writeBytes s.mem j.seg0.outAddr (toLE 4 (orderOf s n j.input r).no) := by
  have he := exec_ccOrder_accepted h hb ho hr hid hn ha
  obtain ⟨hcc, hnv, hno, hst⟩ := ((s.sd n).custodianActive s.now).collecting_shows (orderOf s n j.input r) (Nat.mod_lt _ (by decide))
  generalize ((s.sd n).custodianActive s.now).collecting (orderOf s n j.input r) = x at *
  obtain ⟨hsc, hsn, hsr⟩ := x.startSession_kept
  obtain ⟨t, ht, hother, hk, hend⟩ := CcGoes.of_succeed (by rw [hw]; rfl) he
  refine ⟨t, ht, hother, by rw [hk.cc, hsc, hcc], by rw [hk.nv, hsn, hnv], ?_, ?_, hend, ?_⟩
  · rw [hk.get, Strand.get_congr hsr, hno]
  · rw [hk.get, Strand.get_congr hsr, hst]
  · injection ht.symm.trans he with ht'
    rw [ht', State.succeed_ok (by rw [hw]; rfl), State.up_mem, State.writeJob_host hcop]
    rfl

/-- CC_ORDER of a type that is not accepted now, R519. -/
theorem ccOrder_refused {s : State} {n : Fin 4} {j : Job} {r : Rule} (h : State.CcServed s n j) (hb : OrderBlock j)
    (ho : (s.sd n).cc.order = none) (hr : (s.sd n).quorum.rules.find? (·.order == le j.input 0 1) = some r)
    (ha : s.orderAccepted n (le j.input 0 1) = false) : CcGoes s n (.ccOrder n j) fun _ x => x.cc = (s.sd n).cc ∧ Ended j x 0x6A := by
  have hsd := s.ccMet_sd n
  have ha' := (s.orderAccepted_ccMet n (le j.input 0 1)).trans ha
  have ho' : ((s.ccMet n).sd n).cc.order = none := by rw [hsd]; exact ho
  have hr' : ((s.ccMet n).sd n).quorum.rules.find? (·.order == le j.input 0 1) = some r := by rw [hsd]; exact hr
  have he : exec (.ccOrder n j) s = .next ((s.ccMet n).fail n j 0x6A) := by
    rw [exec_ccOrder, execCcOrder, State.ccJob_served h]
    dsimp only
    rw [State.room_fits hb.room, ho', hr', if_neg (by decide), if_neg (by rw [hb.length, hb.zero1, hb.zero4, hb.zero25]; decide)]
    dsimp only
    rw [if_pos (.inr (.inr (by rw [ha']; decide)))]
  obtain ⟨hend, _, _, hx⟩ := (s.ccMet n).fail_ends n j 0x6A 0
  exact ⟨_, he, fun m hm => by rw [State.sd_fail_other _ _ _ _ hm, State.ccMet_sd_other _ hm], by rw [hx, hsd]; rfl, hend⟩

/-! ### CC_PIN, CC_ORDER_Q, CC_CANCEL -/

theorem exec_ccPin (n : Fin 4) (j : Job) (s : State) : exec (.ccPin n j) s = execCcPin n j s := rfl

/-- What CC_PIN needs to reach the opening of its block, R520. -/
structure PinReached (s : State) (n : Fin 4) (j : Job) (y : Strand) (c : Ctx) : Prop where
  live : (s.sd n).zeroised = false
  length : j.input.length = 16
  released : ((s.sd n).custodianActive s.now).release s.now j.env 0xFF 0 j.ctx (2 ^ 9) 0 true = (y, .inr c)
  aes : ∃ c0, (s.sd n).ctxFor 0xFF 0 j.ctx = some c0 ∧ 1 ≤ c0.attr.alg ∧ c0.attr.alg ≤ 3

/-- The strand that takes a clear PIN block: VERIFY goes out where the session waits, else the block is held, R520. -/
def Strand.pinTaken (y : Strand) (block : Bytes) (now : Nat) : Strand :=
  if y.cc.waitUntil.isSome then y.sendVerify block else y.upCc fun c => { c with pin := some (block, now + 60000000000) }

theorem exec_ccPin_reached {s : State} {n : Fin 4} {j : Job} {y : Strand} {c : Ctx} (h : State.CcServed s n j) (hp : PinReached s n j y c) :
    exec (.ccPin n j) s = .next (match Config.pinOpen 4 c.key j.input [] with
      | some d => if d.length < 4 ∨ d.length > 12 then ((s.ccMet n).setSd n y).fail n j 0x41
        else ((s.ccMet n).setSd n (y.pinTaken (pinBlock2 d) s.now)).succeed n j []
      | none => ((s.ccMet n).setSd n y).fail n j 0x41) := by
  obtain ⟨c0, hc0, hlo, hhi⟩ := hp.aes
  have hsd := s.ccMet_sd n
  have hz : ((s.ccMet n).sd n).zeroised = false := by rw [hsd]; exact hp.live
  have hctx : ((s.ccMet n).sd n).ctxFor 0xFF 0 j.ctx = some c0 := by rw [hsd]; exact hc0
  have hrel : ((s.ccMet n).sd n).release (s.ccMet n).now j.env 0xFF 0 j.ctx (2 ^ 9) 0 true = (y, .inr c) := by rw [hsd]; exact hp.released
  rw [exec_ccPin, execCcPin, State.ccJob_served h]
  extract_lets st
  rw [if_neg (by rw [show st.zeroised = false from hz]; decide), if_neg (by rw [hp.length]; decide)]
  rw [show st.ctxFor 0xFF 0 j.ctx = some c0 from hctx, if_neg (by simp; omega)]
  rw [show st.release (s.ccMet n).now j.env 0xFF 0 j.ctx (2 ^ 9) 0 true = (y, .inr c) from hrel]
  dsimp only
  cases Config.pinOpen 4 c.key j.input [] with
  | none => rfl
  | some d =>
    dsimp only
    split
    · rfl
    · rfl

/-- What becomes of CC_PIN once its context is released, R520. -/
theorem ccPin_goes {s : State} {n : Fin 4} {j : Job} {y : Strand} {c : Ctx} (h : State.CcServed s n j) (hp : PinReached s n j y c) :
    CcGoes s n (.ccPin n j) fun _ x =>
      match Config.pinOpen 4 c.key j.input [] with
      | some d => if d.length < 4 ∨ d.length > 12 then Ended j x 0x41 ∧ x.cc = y.cc
          else Ended j x 0 ∧ (y.cc.waitUntil = none → x.cc = { y.cc with pin := some (pinBlock2 d, s.now + 60000000000) })
            ∧ ∀ t0, y.cc.waitUntil = some t0 → x.cc.step = .verify ∧ x.cc.pin = none ∧ x.cc.waitUntil = none
              ∧ ∃ w, x.sent = y.sent ++ [⟨.custodianCard, 0x20, [0x00, 0x20, 0x00, 0x80, 0x08] ++ pinBlock2 d, w⟩]
      | none => Ended j x 0x41 ∧ x.cc = y.cc := by
  have he := exec_ccPin_reached h hp
  cases hd : Config.pinOpen 4 c.key j.input [] with
  | none => rw [hd] at he; exact CcGoes.of_fail he
  | some d =>
    rw [hd] at he
    dsimp only at he ⊢
    split at he
    · next hlen =>
      simp only [if_pos hlen]
      exact CcGoes.of_fail he
    · next hlen =>
      simp only [if_neg hlen]
      obtain ⟨t, ht, hother, hk, hend⟩ := CcGoes.of_succeed (by simp) he
      refine ⟨t, ht, hother, hend, fun hw => ?_, fun t0 hw => ?_⟩
      · rw [hk.cc, Strand.pinTaken, if_neg (by rw [hw]; decide)]
        rfl
      · obtain ⟨_, wire, -, -, ha⟩ := (y.upCc fun c => { c with step := .verify, pin := none, waitUntil := none }).apdu_eq 0x20
          ([0x00, 0x20, 0x00, 0x80, 0x08] ++ pinBlock2 d)
        have hv : y.pinTaken (pinBlock2 d) s.now = y.sendVerify (pinBlock2 d) := by rw [Strand.pinTaken, hw]; rfl
        rw [hk.cc, hk.sent, hv, Strand.sendVerify, ha]
        exact ⟨rfl, rfl, rfl, wire, rfl⟩

theorem exec_ccOrderQ_fits {s : State} {n : Fin 4} {j : Job} (h : State.CcServed s n j) (hr : 10 ≤ j.seg0.outLen) :
    exec (.ccOrderQ n j) s = .next ((s.up n fun x => x.custodianActive s.now).succeed n j
      (toLE 1 (if (s.sd n).cc.order.isSome then 1 else if (s.sd n).cc.effected then 2 else 0) ++ zeros 3 ++ toLE 4 ((s.sd n).get R.CC_ORDER_NO)
        ++ toLE 1 ((s.sd n).get R.CC_APPROVALS_HELD) ++ toLE 1 ((s.sd n).get R.CC_APPROVALS_M))) := by
  rw [show exec (.ccOrderQ n j) s = execCcOrderQ n j s from rfl, execCcOrderQ, State.ccJob_served h]
  dsimp only
  rw [State.room_fits hr, State.ccMet_sd]
  rfl

/-- An order that is discarded leaves no order and no approvals held, R521. -/
theorem Strand.discardOrder_shows (st : Strand) : st.discardOrder.cc.order = none
    ∧ (st.cc.order.isSome = true → st.discardOrder.get R.CC_APPROVALS_HELD = 0) := by
  unfold discardOrder
  split
  · next h => exact ⟨Option.isNone_iff_eq_none.mp h, fun hs => by rw [Option.isNone_iff_eq_none.mp h] at hs; cases hs⟩
  · extract_lets x
    clear_value x
    refine ⟨rfl, fun _ => ?_⟩
    have hregs : ((x.upCc fun c => { c with order := none, effected := false }).put R.CC_APPROVALS_HELD 0).ccSync.regs
        = ((x.put R.CC_APPROVALS_HELD 0).put R.CC_APPROVALS_STATE 0).regs := rfl
    rw [get_congr hregs, get_put_apart (f := R.CC_APPROVALS_STATE) (g := R.CC_APPROVALS_HELD) _ _ rfl (by decide) (by decide),
      get_put_same _ _ _ _ (by decide)]
    rfl

/-- CC_CANCEL discards the order, R521. -/
theorem ccCancel_goes {s : State} {n : Fin 4} {j : Job} (h : State.CcServed s n j) : CcGoes s n (.ccCancel n j) fun _ x => x.cc.order = none
    ∧ Ended j x 0 ∧ ((s.sd n).cc.order.isSome = true → x.get R.CC_APPROVALS_HELD = 0) := by
  have he : exec (.ccCancel n j) s = .next (((s.ccMet n).setSd n ((s.sd n).custodianActive s.now).discardOrder).succeed n j []) := by
    rw [show exec (.ccCancel n j) s = execCcCancel n j s from rfl, execCcCancel, State.ccJob_served h, ← State.ccMet_sd]
    rfl
  obtain ⟨hnone, hheld⟩ := ((s.sd n).custodianActive s.now).discardOrder_shows
  obtain ⟨t, ht, hother, hk, hend⟩ := CcGoes.of_succeed (by simp) he
  exact ⟨t, ht, hother, by rw [hk.cc, hnone], hend, fun hs => by rw [hk.get, hheld hs]⟩

end Sys2Proof.Machine
end

section
/-! O51, CC_CLOSE: the end of a ceremony, with and without a new owner key (R45, R56, R190, R522). -/

namespace Sys2Proof.Machine
open Sys2Proof Sys2Proof.Claims

namespace Strand

variable (st : Strand)

theorem setMode_done (m cause : Nat) : (st.setMode m cause).done = st.done := by
  rw [setMode_eq_modeWord]
  unfold tagModeUpdate
  split <;> rfl

theorem ceremonyShut_done (now : Nat) : (st.ceremonyShut now).done = st.done := by
  have hs (x : Strand) : (x.enterServing now false).done = x.done := by
    obtain ⟨cause, h⟩ := enterServing_thawed x now
    rw [h]; exact setMode_done ..
  obtain ⟨_, _, hc⟩ := modeCheckpoint_eq st now
  unfold ceremonyShut
  refine (hs (st.modeCheckpoint now)).trans ?_
  rw [hc]

theorem ceremonyShut_quorum (now : Nat) : (st.ceremonyShut now).flag R.CC_STATUS_QUORUM = false ∧ (st.ceremonyShut now).cc.openers = [] := by
  unfold ceremonyShut
  generalize (st.modeCheckpoint now).enterServing now false = x
  exact ⟨congrArg (· == 1) (get_put_same x R.CC_STATUS_QUORUM 0 0 (by decide)), rfl⟩

theorem awaitRetry_kept (t : Nat) (d : Decision) : (st.awaitRetry t d).done = st.done ∧ (st.awaitRetry t d).retry.isSome = true := by
  obtain ⟨_, _, h⟩ := mismatch_eq_signal st t
  unfold awaitRetry
  rw [h]
  exact ⟨rfl, rfl⟩

end Strand

namespace State

/-! ### The device's identity over a loss of work -/

theorem foldl_ident {α : Type} {f : State → α → State} (h : ∀ s x, (f s x).ring.ident = s.ring.ident) (l : List α) (s : State) :
    (l.foldl f s).ring.ident = s.ring.ident := by
  induction l generalizing s with
  | nil => rfl
  | cons x r ih => exact (ih _).trans (h s x)

theorem setFn_ident (s : State) (x : Fn) : (s.setFn x).ring.ident = s.ring.ident := rfl

theorem setCq_ident (s : State) (x : Cq) : (s.setCq x).ring.ident = s.ring.ident := rfl

theorem rput_ident (s : State) (f : Fld) (v k : Nat) : (s.rput f v k).ring.ident = s.ring.ident := rfl

theorem advanceGen_ident (s : State) (f : Nat) : (s.advanceGen f).ring.ident = s.ring.ident := by
  unfold advanceGen
  extract_lets g
  split
  · exact setFn_ident ..
  · exact setFn_ident ..

theorem unmapRange_ident (s : State) (home : Fin 4) (p : Pool) : (s.unmapRange home p).ring.ident = s.ring.ident := by
  unfold unmapRange
  refine foldl_ident (fun u i => ?_) _ s
  exact (rput_ident ..).trans (rput_ident ..)

theorem restoreGone_ident (s : State) (f : Fn) : (s.restoreGone f).ring.ident = s.ring.ident := by
  unfold restoreGone
  dsimp only
  split
  · rw [rput_ident, setFn_ident, unmapRange_ident]
  · rw [advanceGen_ident, rput_ident, setFn_ident, unmapRange_ident]

theorem dropImage_ident (s : State) (f : Fn) : (s.dropImage f).ring.ident = s.ring.ident := by
  unfold dropImage
  split
  · rw [rput_ident, setFn_ident]
  · rw [up_ring, restoreGone_ident]
  · exact setFn_ident ..

theorem loseWork_ident (s : State) (n : Fin 4) : (s.loseWork n).ring.ident = s.ring.ident := by
  have hjobs : (s.loseJobs n).ring.ident = s.ring.ident := by
    unfold loseJobs
    dsimp only
    rw [up_ring]
    exact foldl_ident (fun u j => setCq_ident ..) _ s
  exact (foldl_ident dropImage_ident _ _).trans hjobs

theorem restartStrand_ident (s : State) (n : Fin 4) (cause : Nat) : (s.restartStrand n cause).ring.ident = s.ring.ident := loseWork_ident s n

theorem restartStrand_other (s : State) {n m : Fin 4} (cause : Nat) (h : m ≠ n) : (s.restartStrand n cause).sd m = s.sd m :=
  (s.restartStrand_sd n cause).1.1 m h

/-- The step to OWNED programs the life-cycle fuses of the identity, and no strand changes, R67. -/
theorem advanceLife_owned (s : State) : (∀ m, (s.advanceLife 3).sd m = s.sd m) ∧ (s.advanceLife 3).ring.ident.ownerDigests = s.ring.ident.ownerDigests
    ∧ (s.advanceLife 3).ring.ident.constellation = s.ring.ident.constellation := ⟨fun _ => rfl, rfl, rfl⟩

/-! ### The owner key changes, R45 -/

/-- The owner slot after the last holds a digest, and the one before it is revoked, R45. -/
def ownerFused (s : State) (n : Fin 4) (d : BitVec 384) : State :=
  (s.up n fun st => { st with newOwner := none }).upR fun r =>
    { r with ident := { r.ident with
        ownerDigests := r.ident.ownerDigests ++ [(s.ring.ident.ownerDigests.length, d)]
        revoked := if s.ring.ident.ownerDigests.length = 0 then r.ident.revoked else r.ident.revoked ++ [s.ring.ident.ownerDigests.length - 1] } }

theorem ownerFused_sd_other (s : State) {n m : Fin 4} (d : BitVec 384) (h : m ≠ n) : (s.ownerFused n d).sd m = s.sd m :=
  sd_up_other s (fun st => { st with newOwner := none }) h

theorem closeOwnership_owned {s : State} {n : Fin 4} {d : BitVec 384} (hm : (s.sd n).mode = 5) (hk : s.ring.ident.ownerDigests.length < 8)
    (hl : s.life = 3) : s.closeOwnership n d true = (s.ownerFused n d).restartStrand n 9 := by
  unfold closeOwnership
  extract_lets k fuse
  rw [if_neg (by simp only [hm, k]; omega), if_pos hl]
  rfl

theorem closeOwnership_transit {s : State} {n : Fin 4} {d : BitVec 384} (hm : (s.sd n).mode = 5) (hk : s.ring.ident.ownerDigests.length < 8)
    (hl : s.life = 2) (hr : s.ring.rsFailed = false) : s.closeOwnership n d true
      = (((s.ownerFused n d).upR fun r => { r with ident := { r.ident with constellation := (s.sd n).accepted.map fun b => sub b 0x18 8 } }).advanceLife
          3).restartStrand n 9 := by
  unfold closeOwnership
  extract_lets k fuse c
  rw [if_neg (by simp only [hm, k]; omega), if_neg (by omega), if_neg (by simp [hl, hr]), if_neg (by decide)]
  rfl

end State

/-! ### CC_CLOSE -/

/-- The state in which a ceremony closes: the job's outcome stands. -/
def closing (s : State) (n : Fin 4) (j : Job) : State := (s.ccMet n).succeed n j []

/-- What a closing ceremony finds: the job's outcome, and the strand as it was. -/
structure Closing (s u : State) (n : Fin 4) (j : Job) : Prop where
  ended : Ended j (u.sd n) 0
  mode : (u.sd n).mode = (s.sd n).mode
  serving : (u.sd n).servingMode = (s.sd n).servingMode
  accepted : (u.sd n).accepted = (s.sd n).accepted
  ident : u.ring.ident = s.ring.ident
  rsFailed : u.ring.rsFailed = s.ring.rsFailed
  other : ∀ m, m ≠ n → u.sd m = s.sd m

theorem Closing.life {s u : State} {n : Fin 4} {j : Job} (h : Closing s u n j) : u.life = s.life := by
  unfold State.life State.lifeCode
  rw [h.ident]

theorem closing_closing (s : State) (n : Fin 4) (j : Job) : Closing s (closing s n j) n j := by
  have hw : (j.env.writeOk || ([] : Bytes).isEmpty) = true := by simp
  obtain ⟨hend, ⟨_, _, _, _, hx⟩, ho⟩ := State.succeed_ends (s := s.ccMet n) hw n
  have hring : ((s.ccMet n).succeed n j []).ring = s.ring := by rw [State.succeed_ok hw, State.up_ring, State.writeJob_ring]; rfl
  rw [State.ccMet_sd] at hx
  refine ⟨hend, ?_, ?_, ?_, congrArg (·.ident) hring, congrArg (·.rsFailed) hring, fun m hm => (ho m hm).trans (State.ccMet_sd_other s hm)⟩
  all_goals unfold closing; rw [hx]
  · rfl
  · exact Strand.servingMode_congr rfl rfl rfl
  · rfl

theorem exec_ccClose (n : Fin 4) (j : Job) (agree : Bool) (owner : Option (BitVec 384)) (s : State) :
    exec (.ccClose n j agree owner) s = execCcClose n j agree s owner := rfl

theorem exec_ccClose_outside {s : State} {n : Fin 4} {j : Job} (h : State.CcServed s n j) (hm : (s.sd n).mode ≠ 5) (agree : Bool)
    (owner : Option (BitVec 384)) : exec (.ccClose n j agree owner) s = .next ((s.ccMet n).fail n j 0x30) := by
  rw [exec_ccClose, execCcClose, State.ccJob_served h]
  dsimp only
  rw [if_pos (by rw [State.ccMet_sd]; exact hm)]

theorem exec_ccClose_ceremony {s : State} {n : Fin 4} {j : Job} (h : State.CcServed s n j) (hm : (s.sd n).mode = 5) (agree : Bool)
    (owner : Option (BitVec 384)) : exec (.ccClose n j agree owner) s = .next (match owner with
      | some d => (closing s n j).closeOwnership n d agree
      | none => (closing s n j).closeCeremony n agree) := by
  rw [exec_ccClose, execCcClose, State.ccJob_served h]
  dsimp only
  rw [if_neg (by rw [State.ccMet_sd]; exact not_not.mpr hm)]
  rfl

section
variable {s : State} {n : Fin 4} {j : Job}

/-- An agreed close of a ceremony with its owner key as it was leads back to service, R56. -/
theorem ccClose_agreed (h : State.CcServed s n j) (hm : (s.sd n).mode = 5) (hl : s.life = 1 ∨ s.life = 3) :
    CcGoes s n (.ccClose n j true none) fun _ x => x.mode = (s.sd n).servingMode ∧ Ended j x 0 ∧ x.flag R.CC_STATUS_QUORUM = false ∧ x.cc.openers = [] := by
  have hc := closing_closing s n j
  have he := exec_ccClose_ceremony h hm true none
  generalize closing s n j = u at *
  obtain ⟨hq, ho⟩ := (u.sd n).ceremonyShut_quorum u.now
  dsimp only at he
  rw [State.closeCeremony_agreed (hc.mode.trans hm) (by rw [hc.life]; exact hl)] at he
  refine ⟨_, he, fun m hne => (State.sd_up_other _ _ hne).trans (hc.other m hne), ?_⟩
  rw [State.sd_up_same]
  exact ⟨(Strand.ceremonyShut_mode ..).trans hc.serving, ended_congr (Strand.ceremonyShut_done ..) hc.ended, hq, ho⟩

theorem ccClose_disagreed (h : State.CcServed s n j) (hm : (s.sd n).mode = 5) (hl : s.life = 1 ∨ s.life = 3) :
    CcGoes s n (.ccClose n j false none) fun _ x => x.mode = 5 ∧ Ended j x 0 ∧ x.retry.isSome = true := by
  have hc := closing_closing s n j
  have he := exec_ccClose_ceremony h hm false none
  generalize closing s n j = u at *
  obtain ⟨hd, hr⟩ := (u.sd n).awaitRetry_kept u.now .ceremonyClose
  dsimp only at he
  rw [State.closeCeremony_refused (hc.mode.trans hm) (by rw [hc.life]; exact hl)] at he
  refine ⟨_, he, fun m hne => (State.sd_up_other _ _ hne).trans (hc.other m hne), ?_⟩
  rw [State.sd_up_same]
  exact ⟨(Strand.awaitRetry_mode ..).trans (hc.mode.trans hm), ended_congr hd hc.ended, hr⟩

/-- In TRANSIT a close with the owner key as it was keeps the ceremony open, R56. -/
theorem ccClose_transit (h : State.CcServed s n j) (hm : (s.sd n).mode = 5) (hl : s.life = 2) :
    CcGoes s n (.ccClose n j true none) fun _ x => x.mode = 5 ∧ Ended j x 0 := by
  have hc := closing_closing s n j
  have he := exec_ccClose_ceremony h hm true none
  dsimp only at he
  rw [State.closeCeremony_transit n true (by rw [hc.life]; omega)] at he
  exact ⟨_, he, hc.other, hc.mode.trans hm, hc.ended⟩

/-- The owner key of an OWNED device changes at the close, R45. -/
theorem ccClose_newOwner (h : State.CcServed s n j) (hm : (s.sd n).mode = 5) (hk : s.ring.ident.ownerDigests.length < 8) (hl : s.life = 3)
    (d : BitVec 384) : CcGoes s n (.ccClose n j true (some d)) fun t _ =>
      t.ring.ident.ownerDigests = s.ring.ident.ownerDigests ++ [(s.ring.ident.ownerDigests.length, d)]
      ∧ t.ring.ident.revoked = (if s.ring.ident.ownerDigests.length = 0 then s.ring.ident.revoked
          else s.ring.ident.revoked ++ [s.ring.ident.ownerDigests.length - 1])
      ∧ t.ring.ident.constellation = s.ring.ident.constellation := by
  have hc := closing_closing s n j
  have he := exec_ccClose_ceremony h hm true (some d)
  generalize closing s n j = u at *
  dsimp only at he
  rw [State.closeOwnership_owned (hc.mode.trans hm) (by rw [hc.ident]; exact hk) (hc.life.trans hl)] at he
  refine ⟨_, he, fun m hne => ?_, ?_⟩
  · rw [State.restartStrand_other _ _ hne]
    exact (State.ownerFused_sd_other u d hne).trans (hc.other m hne)
  · beta_reduce
    rw [State.restartStrand_ident, ← hc.ident]
    exact ⟨rfl, rfl, rfl⟩

/-- The first ownership installs the constellation of the accepted charter, R190. -/
theorem ccClose_firstOwner (h : State.CcServed s n j) (hm : (s.sd n).mode = 5) (hk : s.ring.ident.ownerDigests.length < 8) (hl : s.life = 2)
    (hr : s.ring.rsFailed = false) (d : BitVec 384) : CcGoes s n (.ccClose n j true (some d)) fun t _ =>
      t.ring.ident.ownerDigests = s.ring.ident.ownerDigests ++ [(s.ring.ident.ownerDigests.length, d)]
      ∧ t.ring.ident.constellation = (s.sd n).accepted.map (fun b => sub b 0x18 8) := by
  have hc := closing_closing s n j
  have he := exec_ccClose_ceremony h hm true (some d)
  generalize closing s n j = u at *
  dsimp only at he
  rw [State.closeOwnership_transit (hc.mode.trans hm) (by rw [hc.ident]; exact hk) (hc.life.trans hl) (hc.rsFailed.trans hr)] at he
  refine ⟨_, he, fun m hne => ?_, ?_⟩
  · rw [State.restartStrand_other _ _ hne, (State.advanceLife_owned _).1]
    exact (State.ownerFused_sd_other u d hne).trans (hc.other m hne)
  · beta_reduce
    rw [State.restartStrand_ident, (State.advanceLife_owned _).2.1, (State.advanceLife_owned _).2.2, ← hc.ident, ← hc.accepted]
    exact ⟨rfl, rfl⟩

end

end Sys2Proof.Machine
end

section
/-! O51, the card in the slot: its insertion and removal, its block timeouts, and its answers (R515, R516, R520, R524). -/

namespace Sys2Proof.Machine
open Sys2Proof Sys2Proof.Claims

section
variable {s : State} {n : Fin 4}

/-! ### Insertion and removal -/

/-- The strand whose slot has powered a card of a class, before PPS goes out, R515. -/
def Strand.powered (st : Strand) (cls : Nat) (atr : CardAtr) : Strand :=
  (((st.put R.CC_STATUS_CLASS cls).put R.CC_STATUS_ACTIVE 1).put R.CC_STATUS_CUSTODIAN_OK 0).upCc fun c =>
    { c with step := .idle, retries := 0, resyncs := 0, t1 := { ifsc := atr.ifsc, crc := atr.crc } }

/-- The strand that sees a card, R78. -/
def Strand.cardSeen (st : Strand) (now : Nat) : Strand := (st.custodianActive now).put R.CC_STATUS_PRESENT 1

theorem Strand.cardSeen_shows (st : Strand) (now : Nat) : (st.cardSeen now).flag R.CC_STATUS_PRESENT = true ∧ (st.cardSeen now).cc = st.cc
    ∧ (st.cardSeen now).ceremonyBeat = now :=
  ⟨congrArg (· == 1) (get_put_same (st.custodianActive now) R.CC_STATUS_PRESENT 1 0 (by decide)), rfl, rfl⟩

theorem Strand.powered_shows (st : Strand) {cls : Nat} (hc : cls ≤ 2) (atr : CardAtr) : (st.powered cls atr).flag R.CC_STATUS_ACTIVE = true
    ∧ (st.powered cls atr).flag R.CC_STATUS_PRESENT = st.flag R.CC_STATUS_PRESENT ∧ (st.powered cls atr).get R.CC_STATUS_CLASS = cls := by
  have hregs : (st.powered cls atr).regs = (((st.put R.CC_STATUS_CLASS cls).put R.CC_STATUS_ACTIVE 1).put R.CC_STATUS_CUSTODIAN_OK 0).regs := rfl
  refine ⟨(flag_congr hregs _ 0).trans (congrArg (· == 1) ?_ : _ = ((1 : Nat) == 1)), (flag_congr hregs _ 0).trans (congrArg (· == 1) ?_),
    (get_congr hregs _ 0).trans ?_⟩
  all_goals simp (disch := decide) only [get_put_same, get_put_apart]
  · rfl
  · exact Nat.mod_eq_of_lt (by rw [show R.CC_STATUS_CLASS.width = 2 from rfl]; omega)

/-- PPS and the IFS request go out, R515. -/
def Strand.greeted (st : Strand) (ta1 : Nat) : Strand :=
  let pps := [0xFF, 0x11] ++ toLE 1 (ppsRate ta1)
  let pps := pps ++ [pps.foldl (· ^^^ ·) 0]
  (st.emit .custodianCard 0xFF pps pps).t1Send 0xC1 [0xFE]

theorem Strand.greeted_eq (st : Strand) (ta1 : Nat) : ∃ sent, st.greeted ta1 = { st with sent := sent } := ⟨_, rfl⟩

theorem exec_ccCardInsert (n : Fin 4) (cls : Nat) (t1 : Bool) (atr : CardAtr) (s : State) :
    exec (.ccCardInsert n cls t1 atr) s = execCcCardInsert n cls t1 s atr := rfl

theorem ccCardInsert_powered (hr : ccRuns (s.sd n) = true) {cls : Nat} (h1 : 1 ≤ cls) (h2 : cls ≤ 2) (atr : CardAtr) :
    CcGoes s n (.ccCardInsert n cls true atr) fun _ x => x.flag R.CC_STATUS_ACTIVE = true ∧ x.flag R.CC_STATUS_PRESENT = true
      ∧ x.get R.CC_STATUS_CLASS = cls ∧ x.ceremonyBeat = s.now
      ∧ x.cc.step = (if (s.sd n).cc.order.isSome = true then .select else .idle) ∧ x.cc.t1.ifsc = atr.ifsc ∧ x.cc.t1.crc = atr.crc := by
  have he : exec (.ccCardInsert n cls true atr) s
      = .next (s.setSd n ((((s.sd n).cardSeen s.now).powered cls atr).greeted atr.ta1).startSession) := by
    rw [exec_ccCardInsert, execCcCardInsert]
    rw [if_neg (by rw [hr]; decide), if_neg (by omega), if_neg (by decide)]
    rfl
  obtain ⟨hp, hcc, hbeat⟩ := (s.sd n).cardSeen_shows s.now
  obtain ⟨ha, hpres, hclass⟩ := ((s.sd n).cardSeen s.now).powered_shows h2 atr
  have hpow : (((s.sd n).cardSeen s.now).powered cls atr).cc = { ((s.sd n).cardSeen s.now).cc with
    step := .idle, retries := 0, resyncs := 0, t1 := { ifsc := atr.ifsc, crc := atr.crc } } := rfl
  have hbeat' : (((s.sd n).cardSeen s.now).powered cls atr).ceremonyBeat = s.now := hbeat
  rw [hcc] at hpow
  have hpres' := hpres.trans hp
  generalize ((s.sd n).cardSeen s.now).powered cls atr = x at *
  obtain ⟨sent, hg⟩ := x.greeted_eq atr.ta1
  obtain ⟨t, step, ended, sent', hi, hcrc, hstep, hx⟩ := (x.greeted atr.ta1).startSession_eq
  have hcc : (x.greeted atr.ta1).cc = x.cc := by rw [hg]
  have hact : (x.greeted atr.ta1).flag R.CC_STATUS_ACTIVE = true := by rw [hg]; exact ha
  rw [hcc, hpow] at hi hcrc
  rw [hcc, hact, hpow] at hstep
  refine CcGoes.of_setSd he ?_
  rw [hx, hg]
  refine ⟨ha, hpres', hclass, hbeat', hstep.trans ?_, hi, hcrc⟩
  cases (s.sd n).cc.order <;> simp

theorem ccCardInsert_mute (hr : ccRuns (s.sd n) = true) {cls : Nat} (h1 : 1 ≤ cls) (h2 : cls ≤ 2) (atr : CardAtr) :
    CcGoes s n (.ccCardInsert n cls false atr) fun _ x => x.flag R.CC_STATUS_PRESENT = true ∧ x.flag R.CC_ERR_VALID = true ∧ x.cc = (s.sd n).cc := by
  have he : exec (.ccCardInsert n cls false atr) s = .next (s.setSd n (((s.sd n).cardSeen s.now).ccErr 6 0)) := by
    rw [exec_ccCardInsert, execCcCardInsert]
    rw [if_neg (by rw [hr]; decide), if_neg (by omega), if_pos (by decide)]
    rfl
  obtain ⟨hp, hcc, -⟩ := (s.sd n).cardSeen_shows s.now
  exact CcGoes.of_setSd he ⟨((Strand.ccErr_shown ..).flag _ (by decide)).trans hp, Strand.ccErr_valid .., (Strand.ccErr_notified ..).cc.trans hcc⟩

/-- The strand whose card is gone from the slot, R520. -/
def Strand.emptied (st : Strand) : Strand :=
  ((((st.put R.CC_STATUS_PRESENT 0).put R.CC_STATUS_CLASS 0).put R.CC_STATUS_ACTIVE 0).put R.CC_STATUS_CUSTODIAN_OK 0).upCc fun c =>
    { c with step := .idle, waitUntil := none, cardKey := [] }

theorem Strand.emptied_shows (st : Strand) : st.emptied.flag R.CC_STATUS_PRESENT = false ∧ st.emptied.flag R.CC_STATUS_ACTIVE = false := by
  have hregs : st.emptied.regs
      = ((((st.put R.CC_STATUS_PRESENT 0).put R.CC_STATUS_CLASS 0).put R.CC_STATUS_ACTIVE 0).put R.CC_STATUS_CUSTODIAN_OK 0).regs := rfl
  refine ⟨(flag_congr hregs _ 0).trans (congrArg (· == 1) ?_ : _ = ((0 : Nat) == 1)),
    (flag_congr hregs _ 0).trans (congrArg (· == 1) ?_ : _ = ((0 : Nat) == 1))⟩
  all_goals
    simp (disch := decide) only [get_put_same, get_put_apart]
    rfl

theorem ccCardRemove_goes (hr : ccRuns (s.sd n) = true) : CcGoes s n (.ccCardRemove n) fun _ x => x.flag R.CC_STATUS_PRESENT = false
    ∧ x.flag R.CC_STATUS_ACTIVE = false ∧ x.cc.step = .idle ∧ x.cc.order = (s.sd n).cc.order := by
  have he : exec (.ccCardRemove n) s = .next (s.setSd n (s.sd n).emptied) := by
    rw [show exec (.ccCardRemove n) s = execCcCardRemove n s from rfl, execCcCardRemove]
    rw [if_neg (by rw [hr]; decide)]
    rfl
  obtain ⟨hp, ha⟩ := (s.sd n).emptied_shows
  exact CcGoes.of_setSd he ⟨hp, ha, rfl, rfl⟩

/-! ### Block timeouts, R516 -/

theorem exec_t1BlockTimeout (n : Fin 4) (s : State) : exec (.t1BlockTimeout n) s = execT1BlockTimeout n s := rfl

theorem t1BlockTimeout_again (hr : ccRuns (s.sd n) = true) (ha : (s.sd n).flag R.CC_STATUS_ACTIVE = true) (hlt : (s.sd n).cc.retries < 2) :
    CcGoes s n (.t1BlockTimeout n) fun _ x => x.cc = { (s.sd n).cc with retries := (s.sd n).cc.retries + 1 }
      ∧ x.get R.CC_T1_RETRY = min ((s.sd n).get R.CC_T1_RETRY + 1) (2 ^ 32 - 1) := by
  have he : exec (.t1BlockTimeout n) s = .next (s.setSd n ((((s.sd n).bump R.CC_T1_RETRY).upCc fun c => { c with retries := c.retries + 1 }).t1Send
      (0x82 + 16 * b2n (s.sd n).cc.t1.nr) [])) := by
    rw [exec_t1BlockTimeout, execT1BlockTimeout]
    rw [if_neg (by rw [hr, ha]; decide), if_pos hlt]
  exact CcGoes.of_setSd he ⟨rfl, Strand.get_add_same (s.sd n) R.CC_T1_RETRY 1 0 (by decide)⟩

theorem t1BlockTimeout_resynch (hr : ccRuns (s.sd n) = true) (ha : (s.sd n).flag R.CC_STATUS_ACTIVE = true) (h2 : 2 ≤ (s.sd n).cc.retries)
    (h3 : (s.sd n).cc.resyncs < 3) : CcGoes s n (.t1BlockTimeout n) fun _ x =>
      x.cc = { (s.sd n).cc with retries := 0, resyncs := (s.sd n).cc.resyncs + 1, t1 := { (s.sd n).cc.t1 with ns := false, nr := false } }
      ∧ x.get R.CC_T1_RETRY = min ((s.sd n).get R.CC_T1_RETRY + 1) (2 ^ 32 - 1) := by
  have he : exec (.t1BlockTimeout n) s = .next (s.setSd n ((((s.sd n).bump R.CC_T1_RETRY).upCc fun c =>
      { c with retries := 0, resyncs := c.resyncs + 1, t1 := { c.t1 with ns := false, nr := false } }).t1Send 0xC0 [])) := by
    rw [exec_t1BlockTimeout, execT1BlockTimeout]
    rw [if_neg (by rw [hr, ha]; decide), if_neg (by omega), if_pos h3]
  exact CcGoes.of_setSd he ⟨rfl, Strand.get_add_same (s.sd n) R.CC_T1_RETRY 1 0 (by decide)⟩

theorem t1BlockTimeout_gone (hr : ccRuns (s.sd n) = true) (ha : (s.sd n).flag R.CC_STATUS_ACTIVE = true) (h2 : 2 ≤ (s.sd n).cc.retries)
    (h3 : 3 ≤ (s.sd n).cc.resyncs) : CcGoes s n (.t1BlockTimeout n) fun _ x => x.flag R.CC_STATUS_ACTIVE = false ∧ x.cc.step = .over := by
  have he : exec (.t1BlockTimeout n) s = .next (s.setSd n ((((((s.sd n).ccErr 2 0).put R.CC_STATUS_ACTIVE 0).put R.CC_STATUS_CLASS 0).put
      R.CC_STATUS_CUSTODIAN_OK 0).endSession 0x6B)) := by
    rw [exec_t1BlockTimeout, execT1BlockTimeout]
    rw [if_neg (by rw [hr, ha]; decide), if_neg (by omega), if_neg (by omega)]
  refine CcGoes.of_setSd he ?_
  generalize (s.sd n).ccErr 2 0 = x
  have hregs (x : Strand) : (x.endSession 0x6B).regs = x.regs := rfl
  refine ⟨(Strand.flag_congr (hregs _) _ 0).trans (congrArg (· == 1) ?_ : _ = ((0 : Nat) == 1)), rfl⟩
  simp (disch := decide) only [Strand.get_put_same, Strand.get_put_apart]
  rfl

/-! ### The card's answers, R520 -/

/-- The strand that an answer of the card reaches, R78, R516. -/
def Strand.answered (st : Strand) (now : Nat) (data : Bytes) : Strand :=
  (st.custodianActive now).upCc fun c =>
    { c with retries := 0, resyncs := 0, t1 := { c.t1 with nr := c.t1.nr ^^ ((data.length + 2 + 253) / 254 % 2 == 1) } }

/-- What an answer needs to count, R520, R524. -/
structure Answers (s : State) (n : Fin 4) (o : Order) : Prop where
  runs : ccRuns (s.sd n) = true
  active : (s.sd n).flag R.CC_STATUS_ACTIVE = true
  order : (s.sd n).cc.order = some o

variable {o : Order} {data : Bytes} {sw : Nat} {agree : Bool}

theorem exec_ccApduResponse (data : Bytes) (sw : Nat) (agree abort : Bool) (s : State) :
    exec (.ccApduResponse n data sw agree abort) s = execCcApduResponse n data sw agree s abort := rfl

theorem exec_ccApduResponse_abort (h : Answers s n o) : exec (.ccApduResponse n data sw agree true) s
    = .next (s.setSd n ((((s.sd n).answered s.now data).t1Send 0xE2 []).endSession 0x6B)) := by
  rw [exec_ccApduResponse, execCcApduResponse, h.order]
  dsimp -zeta only
  rw [if_neg (by rw [h.runs, h.active]; decide)]
  rfl

theorem exec_ccApduResponse_select (h : Answers s n o) (hs : (s.sd n).cc.step = .select) : exec (.ccApduResponse n data sw agree false) s
    = .next (s.setSd n (if sw ≠ 0x9000 then ((s.sd n).answered s.now data).refuseSw sw
        else (((s.sd n).answered s.now data).upCc fun c => { c with step := .getData }).apdu 0xCA [0x80, 0xCA, 0x00, 0x01])) := by
  have hst : ((s.sd n).answered s.now data).cc.step = .select := hs
  rw [exec_ccApduResponse, execCcApduResponse, h.order]
  dsimp -zeta only
  rw [if_neg (by rw [h.runs, h.active]; decide)]
  extract_lets turn st
  rw [if_neg (by decide), show st.cc.step = .select from hst]
  dsimp only
  split <;> rfl

/-- The strand whose card's certificate is accepted, R518, R520. -/
def Strand.certified (st : Strand) (data : Bytes) (now : Nat) : Strand :=
  ((st.put R.CC_STATUS_CUSTODIAN_OK 1).upCc fun c => { c with step := .verify, custodian := le data 8 8, cardKey := sub data 0x20 64 }).upCc
    fun c => { c with waitUntil := some (now + 60000000000) }

theorem exec_ccApduResponse_getData (h : Answers s n o) (hs : (s.sd n).cc.step = .getData) (hp : (s.sd n).cc.pin = none) :
    exec (.ccApduResponse n data 0x9000 agree false) s = .next (s.setSd n (if (s.sd n).custodianOk s.now o data = true
      then ((s.sd n).answered s.now data).certified data s.now else (((s.sd n).answered s.now data).ccErr 3 0x9000).endSession 0x6B)) := by
  have hst : ((s.sd n).answered s.now data).cc.step = .getData := hs
  have hpin : ((s.sd n).answered s.now data).cc.pin = none := hp
  have hok : ((s.sd n).answered s.now data).custodianOk s.now o data = (s.sd n).custodianOk s.now o data := rfl
  rw [exec_ccApduResponse, execCcApduResponse, h.order]
  dsimp -zeta only
  rw [if_neg (by rw [h.runs, h.active]; decide)]
  extract_lets turn st
  rw [if_neg (by decide), show st.cc.step = .getData from hst]
  dsimp only
  rw [if_neg (by decide), show st.custodianOk s.now o data = (s.sd n).custodianOk s.now o data from hok]
  by_cases hc : (s.sd n).custodianOk s.now o data = true
  · rw [if_neg (not_not.mpr hc), if_pos hc]
    rw [show ((st.put R.CC_STATUS_CUSTODIAN_OK 1).upCc fun c =>
      { c with step := .verify, custodian := le data 8 8, cardKey := sub data 0x20 64 }).cc.pin = none from hpin]
    rfl
  · rw [if_pos hc, if_neg hc]
    rfl

/-- The strand whose card has verified its holder: a challenge goes out over the order, R520. -/
def Strand.challenged (st : Strand) (o : Order) : Strand :=
  ((st.drawBytes 32).2.upCc fun c => { c with step := .auth, challenge := (st.drawBytes 32).1 }).apdu 0x88
    ([0x00, 0x88, 0x00, 0x00] ++ (st.drawBytes 32).1 ++ bvBytes (Config.sha256 o.block))

theorem exec_ccApduResponse_verify (h : Answers s n o) (hs : (s.sd n).cc.step = .verify) (hw : (s.sd n).cc.waitUntil = none) :
    exec (.ccApduResponse n data sw agree false) s = .next (s.setSd n (if sw ≠ 0x9000 then ((s.sd n).answered s.now data).refuseSw sw
      else ((s.sd n).answered s.now data).challenged o)) := by
  have hst : ((s.sd n).answered s.now data).cc.step = .verify := hs
  have hwait : ((s.sd n).answered s.now data).cc.waitUntil = none := hw
  rw [exec_ccApduResponse, execCcApduResponse, h.order]
  dsimp -zeta only
  rw [if_neg (by rw [h.runs, h.active]; decide)]
  extract_lets turn st
  rw [if_neg (by decide), show st.cc.step = .verify from hst]
  dsimp only
  rw [show st.cc.waitUntil = none from hwait, if_neg (by decide)]
  split <;> rfl

/-- Whether the card's signature over its challenge and the order verifies, R520. -/
def approves (st : Strand) (o : Order) (data : Bytes) : Bool :=
  Config.verify 0x20 st.cc.cardKey (signedText 0x20 (st.cc.challenge ++ bvBytes (Config.sha256 o.block))) data

theorem exec_ccApduResponse_auth (h : Answers s n o) (hs : (s.sd n).cc.step = .auth) : exec (.ccApduResponse n data 0x9000 agree false) s
    = .next (if approves (s.sd n) o data = true then (s.setSd n ((s.sd n).answered s.now data)).approve n o agree
        else s.setSd n ((((s.sd n).answered s.now data).ccErr 4 0x9000).endSession 0x6B)) := by
  have hst : ((s.sd n).answered s.now data).cc.step = .auth := hs
  have hap : approves ((s.sd n).answered s.now data) o data = approves (s.sd n) o data := rfl
  rw [exec_ccApduResponse, execCcApduResponse, h.order]
  dsimp -zeta only
  rw [if_neg (by rw [h.runs, h.active]; decide)]
  extract_lets turn st
  rw [if_neg (by decide), show st.cc.step = .auth from hst]
  dsimp only
  rw [if_neg (by decide), ← hap]
  by_cases hc : approves ((s.sd n).answered s.now data) o data = true
  · rw [if_pos hc]
    exact if_pos hc
  · rw [if_neg hc]
    exact if_neg hc

/-! ### What becomes of a session -/

theorem Strand.refuseSw_shows (st : Strand) (sw : Nat) : (st.refuseSw sw).cc.step = .over ∧ (st.refuseSw sw).flag R.CC_ERR_VALID = true
    ∧ (st.refuseSw sw).cc.order = st.cc.order
    ∧ (st.refuseSw sw).cc.ended = if st.cc.step = .verify ∧ (sw / 16 = 0x63C ∨ sw = 0x6983) then 0x6C else 0x6B := by
  unfold refuseSw
  extract_lets code
  have hcc := (st.ccErr_notified code sw).cc
  have hv := st.ccErr_valid code sw
  generalize st.ccErr code sw = x at *
  exact ⟨rfl, hv, congrArg (·.order) hcc, rfl⟩

theorem ccApduResponse_abort (h : Answers s n o) : CcGoes s n (.ccApduResponse n data sw agree true) fun _ x =>
    x.cc.step = .over ∧ x.cc.ended = 0x6B ∧ x.cc.order = some o := CcGoes.of_setSd (exec_ccApduResponse_abort h) ⟨rfl, rfl, h.order⟩

theorem ccApduResponse_select_refused (h : Answers s n o) (hs : (s.sd n).cc.step = .select) (hsw : sw ≠ 0x9000) :
    CcGoes s n (.ccApduResponse n data sw agree false) fun _ x =>
      x.cc.step = .over ∧ x.cc.ended = 0x6B ∧ x.flag R.CC_ERR_VALID = true ∧ x.cc.order = some o := by
  have he := exec_ccApduResponse_select (data := data) (sw := sw) (agree := agree) h hs
  rw [if_pos hsw] at he
  have hst : ((s.sd n).answered s.now data).cc.step = .select := hs
  have ho : ((s.sd n).answered s.now data).cc.order = some o := h.order
  obtain ⟨h1, h2, h3, h4⟩ := ((s.sd n).answered s.now data).refuseSw_shows sw
  refine CcGoes.of_setSd he ⟨h1, h4.trans (if_neg ?_), h2, h3.trans ho⟩
  rw [hst]
  rintro ⟨h, -⟩
  cases h

theorem ccApduResponse_select (h : Answers s n o) (hs : (s.sd n).cc.step = .select) : CcGoes s n (.ccApduResponse n data 0x9000 agree false) fun _ x =>
    x.cc.step = .getData ∧ ∃ w, x.sent = (s.sd n).sent ++ [⟨.custodianCard, 0xCA, [0x80, 0xCA, 0x00, 0x01], w⟩] := by
  have he := exec_ccApduResponse_select (data := data) (sw := 0x9000) (agree := agree) h hs
  rw [if_neg (by decide)] at he
  obtain ⟨_, wire, -, -, ha⟩ := (((s.sd n).answered s.now data).upCc fun c => { c with step := .getData }).apdu_eq 0xCA [0x80, 0xCA, 0x00, 0x01]
  refine CcGoes.of_setSd he ?_
  rw [ha]
  exact ⟨rfl, wire, rfl⟩

theorem ccApduResponse_getData (h : Answers s n o) (hs : (s.sd n).cc.step = .getData) (hp : (s.sd n).cc.pin = none) :
    CcGoes s n (.ccApduResponse n data 0x9000 agree false) fun _ x =>
      if (s.sd n).custodianOk s.now o data = true then x.cc.step = .verify ∧ x.cc.custodian = le data 8 8 ∧ x.cc.cardKey = sub data 0x20 64
        ∧ x.cc.waitUntil = some (s.now + 60000000000) ∧ x.flag R.CC_STATUS_CUSTODIAN_OK = true
      else x.cc.step = .over ∧ x.cc.ended = 0x6B := by
  have he := exec_ccApduResponse_getData (data := data) (agree := agree) h hs hp
  refine CcGoes.of_setSd he ?_
  by_cases hc : (s.sd n).custodianOk s.now o data = true
  · rw [if_pos hc, if_pos hc]
    exact ⟨rfl, rfl, rfl, rfl, congrArg (· == 1) (Strand.get_put_same ((s.sd n).answered s.now data) R.CC_STATUS_CUSTODIAN_OK 1 0 (by decide))⟩
  · rw [if_neg hc, if_neg hc]
    exact ⟨rfl, rfl⟩

theorem ccApduResponse_pinRefused (h : Answers s n o) (hs : (s.sd n).cc.step = .verify) (hw : (s.sd n).cc.waitUntil = none) (hsw : sw / 16 = 0x63C) :
    CcGoes s n (.ccApduResponse n data sw agree false) fun _ x => x.cc.step = .over ∧ x.cc.ended = 0x6C := by
  have he := exec_ccApduResponse_verify (data := data) (sw := sw) (agree := agree) h hs hw
  rw [if_pos (by omega)] at he
  have hst : ((s.sd n).answered s.now data).cc.step = .verify := hs
  obtain ⟨h1, -, -, h4⟩ := ((s.sd n).answered s.now data).refuseSw_shows sw
  exact CcGoes.of_setSd he ⟨h1, h4.trans (if_pos ⟨hst, .inl hsw⟩)⟩

theorem ccApduResponse_verified (h : Answers s n o) (hs : (s.sd n).cc.step = .verify) (hw : (s.sd n).cc.waitUntil = none) :
    CcGoes s n (.ccApduResponse n data 0x9000 agree false) fun _ x => x.cc.step = .auth ∧ x.cc.challenge.length = 32
      ∧ ∃ w, x.sent = (s.sd n).sent ++ [⟨.custodianCard, 0x88, [0x00, 0x88, 0x00, 0x00] ++ x.cc.challenge ++ bvBytes (Config.sha256 o.block), w⟩] := by
  have he := exec_ccApduResponse_verify (data := data) (sw := 0x9000) (agree := agree) h hs hw
  rw [if_neg (by decide)] at he
  have hlen := ((s.sd n).answered s.now data).length_drawBytes 32
  have hsent : (((s.sd n).answered s.now data).drawBytes 32).2.sent = (s.sd n).sent := rfl
  refine CcGoes.of_setSd he ?_
  unfold Strand.challenged
  generalize ((s.sd n).answered s.now data).drawBytes 32 = d at *
  obtain ⟨_, wire, -, -, ha⟩ := (d.2.upCc fun c => { c with step := .auth, challenge := d.1 }).apdu_eq 0x88
    ([0x00, 0x88, 0x00, 0x00] ++ d.1 ++ bvBytes (Config.sha256 o.block))
  rw [ha]
  exact ⟨rfl, hlen, wire, by rw [← hsent]; rfl⟩

end
end Sys2Proof.Machine
end

section
/-! O51, the entry to CEREMONY: what the end of the links leaves alone, and what the mode word shows then (R56, R489, R519). -/

namespace Sys2Proof.Machine
open Sys2Proof Sys2Proof.Claims

namespace Strand

variable (st : Strand)

/-! ### The links' end leaves the mode word alone -/

theorem rd_zero_put {f : Fld} (hf : f.off ≠ 0) (v k : Nat) : (st.put f v k).rd 0 = st.rd 0 :=
  rd_put_other st v (by simp only [Fld.at]; omega)

theorem upLk_rd (k : Nat) (f : Link → Link) (o : Nat) : (st.upLk k f).rd o = st.rd o := by
  unfold upLk setLk
  split <;> rfl

theorem slErr_rd_zero (code k : Nat) : (st.slErr code k).rd 0 = st.rd 0 :=
  (noteErr_shown (P := IsMode) (fun _ h => by subst h; decide) st code (by decide) (by decide) (by decide) fun x =>
    (Shown.refl x).put _ _ (by decide)).rd 0 rfl

theorem slSend_rd_zero (k ftype : Nat) (payload : Bytes) (more : Bool) : (st.slSend k ftype payload more).rd 0 = st.rd 0 := by
  unfold slSend
  extract_lets ctr
  split
  · rfl
  · split
    · exact slErr_rd_zero ..
    · next w _ => exact (rd_zero_put _ (by decide) _ _).trans ((upLk_rd ..).trans rfl)

theorem dropLinkKeys_rd (k o : Nat) : (st.dropLinkKeys k).rd o = st.rd o := by
  have hfree (x : Strand) (i : Option Nat) : (match i.bind x.slot with | some c => x.freeCtx c | none => x).rd o = x.rd o := by
    split <;> rfl
  unfold dropLinkKeys
  extract_lets l free
  exact (upLk_rd ..).trans ((hfree _ _).trans ((hfree _ _).trans (hfree _ _)))

theorem backOff_rd_zero (t k : Nat) (long : Bool) : (st.backOff t k long).rd 0 = st.rd 0 :=
  (upLk_rd ..).trans ((rd_zero_put _ (by decide) _ _).trans (dropLinkKeys_rd ..))

/-! ### The registers of a slot while relays wait -/

theorem oplSync_shown_slot : Shown (fun o => o = 0xE00004) st st.oplSync := by
  unfold oplSync
  split
  extract_lets level h x y z
  have hx : Shown (fun o => o = 0xE00004) st x := ⟨fun _ _ => rfl, rfl, rfl, rfl, rfl, rfl, rfl, rfl, rfl, rfl, rfl⟩
  have hy : Shown (fun o => o = 0xE00004) st y := (hx.put _ _ (by decide)).put _ _ (by decide)
  have hz : Shown (fun o => o = 0xE00004) st z := (hy.put _ _ (by decide)).put _ _ (by decide)
  exact hz.put _ _ (by decide)

/-- A strand in its ceremony, once its mode is set: the quorum shows, no link is left, and relays wait, R489, R519. -/
def ceremonious (t : Nat) (openers : List Nat) : Strand :=
  let x := (((st.put R.CC_STATUS_QUORUM 1).quietLinks).holdRelays).oplSync
  { x.upCc fun c => { c with openers := openers, pairPermit := false } with freezeOpen := false, retry := none }.custodianActive t

theorem ceremonious_shows (t : Nat) (openers : List Nat) : (st.ceremonious t openers).rd 0 = st.rd 0
    ∧ (st.ceremonious t openers).flag R.CC_STATUS_QUORUM = true ∧ (st.ceremonious t openers).cc.openers = openers
    ∧ (st.ceremonious t openers).links = [] := by
  have hm := ((((st.put R.CC_STATUS_QUORUM 1).quietLinks).holdRelays).oplSync_shown).rd 0 rfl
  have hs := (((st.put R.CC_STATUS_QUORUM 1).quietLinks).holdRelays).oplSync_shown_slot
  have hq := hs.flag R.CC_STATUS_QUORUM (k := 0) rfl
  have hl := hs.links
  unfold ceremonious
  generalize (((st.put R.CC_STATUS_QUORUM 1).quietLinks).holdRelays).oplSync = x at *
  refine ⟨hm.trans (rd_zero_put st (by decide) 1 0), hq.trans ?_, rfl, hl⟩
  exact congrArg (· == 1) (get_put_same st R.CC_STATUS_QUORUM 1 0 (by decide))

end Strand

/-- `t` differs from `s` in strand `n` alone of the strands, which keeps its mode word. -/
structure WordKept (n : Fin 4) (s t : State) : Prop where
  other : ∀ m, m ≠ n → t.sd m = s.sd m
  word : (t.sd n).rd 0 = (s.sd n).rd 0

namespace WordKept

variable {n : Fin 4} {s t u : State}

theorem refl (s : State) : WordKept n s s := ⟨fun _ _ => rfl, rfl⟩

theorem trans (h : WordKept n s t) (g : WordKept n t u) : WordKept n s u :=
  ⟨fun m hm => (g.other m hm).trans (h.other m hm), g.word.trans h.word⟩

theorem of_up (s : State) {f : Strand → Strand} (h : ∀ st, (f st).rd 0 = st.rd 0) : WordKept n s (s.up n f) :=
  ⟨fun _ hm => State.sd_up_other _ _ hm, by rw [State.sd_up_same, h]⟩

theorem of_fail (s : State) (j : Job) (status : Nat) : WordKept n s (s.fail n j status) := by
  obtain ⟨-, _, _, hx⟩ := s.fail_ends n j status 0
  exact ⟨fun _ hm => State.sd_fail_other _ _ _ _ hm, by rw [hx]; rfl⟩

theorem foldl {α : Type} {f : State → α → State} (h : ∀ s x, WordKept n s (f s x)) (l : List α) (s : State) : WordKept n s (l.foldl f s) := by
  induction l generalizing s with
  | nil => exact refl s
  | cons x r ih => exact (h s x).trans (ih _)

end WordKept

namespace State

theorem closeLink_wordKept (s : State) (n : Fin 4) (k : Nat) (sendClose : Bool) : WordKept n s (s.closeLink n k sendClose) := by
  have hclosed (l : Link) (st : Strand) : (((if sendClose then st.slSend k 0x3F [] else st).upLk k fun l =>
      { l with sends := [], receives := [] }).backOff s.now k (decide (s.now ≥ l.liveAt + 1000000000))).rd 0 = st.rd 0 := by
    rw [Strand.backOff_rd_zero, Strand.upLk_rd]
    split
    · exact Strand.slSend_rd_zero ..
    · rfl
  unfold closeLink
  extract_lets st l jobs t
  by_cases hl : l.st = .live
  · have ht : WordKept n s t := by
      simp only [t, if_pos hl]
      exact .of_up s (hclosed l)
    rw [if_pos hl]
    exact ht.trans (.foldl (fun u j => .of_fail u j 0x63) jobs t)
  · have ht : t = s := if_neg hl
    rw [if_neg hl, ht]
    exact .refl s

theorem dropLinkJobs_wordKept (s : State) (n : Fin 4) (k status : Nat) : WordKept n s (s.dropLinkJobs n k status) := by
  unfold dropLinkJobs
  exact (WordKept.of_up s fun st => st.upLk_rd k _ 0).trans (.foldl (fun u j => .of_fail u j status) _ _)

theorem linkOff_wordKept (s : State) (n : Fin 4) (k : Nat) : WordKept n s (s.linkOff n k) := by
  unfold linkOff
  refine ((closeLink_wordKept s n k true).trans (dropLinkJobs_wordKept _ n k 0x64)).trans (.of_up _ fun st => ?_)
  rw [Strand.upLk_rd, Strand.dropLinkKeys_rd]

/-! ### CEREMONY -/

theorem enterCeremony_eq (s : State) (n : Fin 4) (openers : List Nat) :
    ∃ u : State, WordKept n s u
      ∧ s.enterCeremony n openers = u.up n fun st => ((st.modeCheckpoint u.now).setMode 5 7).ceremonious u.now openers :=
  ⟨_, .foldl (fun u k => linkOff_wordKept u n k) _ s, rfl⟩

/-- A strand that enters CEREMONY shows the mode it left and its quorum, and has no link, R56, R489, R519. -/
theorem enterCeremony_shows (s : State) (n : Fin 4) (openers : List Nat) : (∀ m, m ≠ n → (s.enterCeremony n openers).sd m = s.sd m)
    ∧ ((s.enterCeremony n openers).sd n).mode = 5 ∧ ((s.enterCeremony n openers).sd n).get R.CHT_MODE_CAUSE = 7
    ∧ ((s.enterCeremony n openers).sd n).get R.CHT_MODE_PREV_MODE = (s.sd n).mode
    ∧ ((s.enterCeremony n openers).sd n).flag R.CC_STATUS_QUORUM = true
    ∧ ((s.enterCeremony n openers).sd n).cc.openers = openers ∧ ((s.enterCeremony n openers).sd n).links = [] := by
  obtain ⟨u, hu, he⟩ := enterCeremony_eq s n openers
  obtain ⟨hword, hq, ho, hl⟩ := (((u.sd n).modeCheckpoint u.now).setMode 5 7).ceremonious_shows u.now openers
  rw [he, sd_up_same]
  refine ⟨fun m hm => (sd_up_other _ _ hm).trans (hu.other m hm), ?_, ?_, ?_, hq, ho, hl⟩
  · exact (Strand.mode_congr hword).trans (Strand.setMode_mode ..)
  · exact (congrArg R.CHT_MODE_CAUSE.ofWord hword).trans (Strand.setMode_cause ..)
  · calc _ = (((u.sd n).modeCheckpoint u.now).setMode 5 7).get R.CHT_MODE_PREV_MODE := congrArg R.CHT_MODE_PREV_MODE.ofWord hword
      _ = ((u.sd n).modeCheckpoint u.now).mode := Strand.setMode_prev ..
      _ = (u.sd n).mode := Strand.mode_congr (Strand.modeCheckpoint_rd ..)
      _ = (s.sd n).mode := Strand.mode_congr hu.word

end State

end Sys2Proof.Machine
end

section
/-! O51, an approval by the card, and what lapses (R520, R521). -/

namespace Sys2Proof.Machine
open Sys2Proof Sys2Proof.Claims

/-- An order with one approval more, R521. -/
def Order.withApproval (o : Order) (custodian : Nat) : Order := { o with held := o.held ++ [custodian] }

theorem Order.length_withApproval (o : Order) (custodian : Nat) : (o.withApproval custodian).held.length = o.held.length + 1 := by
  simp [withApproval]

namespace Strand

variable (st : Strand)

/-- The strand whose session is over with an order's approvals shown, R521. -/
def approved (o : Order) : Strand := ((st.endSession 0).upCc fun c => { c with order := some o }).ccSync

/-- The strand whose order has its quorum, R521. -/
def quorate (o : Order) : Strand := ((st.approved o).upCc fun c => { c with order := none, effected := true }).ccSync

theorem approved_shows {o : Order} (h : o.held.length < 16) : (st.approved o).cc.order = some o
    ∧ (st.approved o).get R.CC_APPROVALS_HELD = o.held.length ∧ (st.approved o).cc.pairPermit = st.cc.pairPermit := by
  have hregs : ∃ x : Strand, (st.approved o).regs = (((x.put R.CC_APPROVALS_HELD o.held.length).put R.CC_APPROVALS_M o.m).put
      R.CC_APPROVALS_STATE 1).regs := ⟨_, rfl⟩
  obtain ⟨x, hx⟩ := hregs
  refine ⟨rfl, (get_congr hx _ 0).trans ?_, rfl⟩
  simp (disch := decide) only [get_put_same, get_put_apart]
  exact Nat.mod_eq_of_lt h

theorem quorate_shows (o : Order) : (st.quorate o).cc.order = none ∧ (st.quorate o).cc.effected = true ∧ (st.quorate o).mode = st.mode
    ∧ (st.quorate o).batchOpen = st.batchOpen := by
  have hsync (x : Strand) (f : Cc → Cc) : (x.upCc f).ccSync.rd 0 = x.rd 0 ∧ (x.upCc f).ccSync.post = x.post :=
    ⟨((ccSync_shown _).rd 0 rfl).trans (rd_congr rfl 0), (ccSync_shown _).post.trans rfl⟩
  obtain ⟨hrd, hpost⟩ := hsync (st.endSession 0) fun c => { c with order := some o }
  obtain ⟨hrd', hpost'⟩ := hsync (st.approved o) fun c => { c with order := none, effected := true }
  refine ⟨rfl, rfl, mode_congr (hrd'.trans hrd), ?_⟩
  exact congrArg (fun p : Post => p.batches.any fun b => !b.posted) (hpost'.trans hpost)

end Strand

section
variable {s : State} {n : Fin 4} {o : Order} {data : Bytes} {agree : Bool}

/-! ### Approvals -/

theorem State.approve_one (s : State) (n : Fin 4) (agree : Bool) (h : o.held.length + 1 < o.m) :
    s.approve n o agree = s.setSd n ((s.sd n).approved (o.withApproval (s.sd n).cc.custodian)) := by
  have hlen : ¬ (o.withApproval (s.sd n).cc.custodian).held.length ≥ (o.withApproval (s.sd n).cc.custodian).m := by
    rw [Order.length_withApproval]
    exact Nat.not_le.mpr h
  exact if_neg hlen

theorem State.approve_last (s : State) (n : Fin 4) (agree : Bool) (h : o.m ≤ o.held.length + 1) :
    s.approve n o agree = (s.setSd n ((s.sd n).quorate (o.withApproval (s.sd n).cc.custodian))).orderEffect n
      (o.withApproval (s.sd n).cc.custodian) agree := by
  have hlen : (o.withApproval (s.sd n).cc.custodian).held.length ≥ (o.withApproval (s.sd n).cc.custodian).m := by
    rw [Order.length_withApproval]
    exact h
  exact if_pos hlen

/-- What an order to pair a card does in CEREMONY, R519. -/
theorem State.orderEffect_pair {s : State} (hk : o.kind = 6) (hm : (s.sd n).mode = 5) (agree : Bool) :
    s.orderEffect n o agree = s.up n fun st => st.upCc fun c => { c with pairPermit := true } := by
  unfold orderEffect
  dsimp only
  rw [hk]
  exact if_pos hm

/-- What an order to open a ceremony does in SERVICE, R56, R519. -/
theorem State.orderEffect_ceremony {s : State} (hk : o.kind = 1) (hm : (s.sd n).mode = 2) (hb : (s.sd n).batchOpen = false) (agree : Bool) :
    s.orderEffect n o agree = s.enterCeremony n o.held := by
  unfold orderEffect
  dsimp only
  rw [hk]
  exact if_pos ⟨.inl hm, by rw [hb]; decide⟩

/-- A signature that does not verify ends the session, R520. -/
theorem ccApduResponse_unapproved (h : Answers s n o) (hs : (s.sd n).cc.step = .auth) (ha : approves (s.sd n) o data = false) :
    CcGoes s n (.ccApduResponse n data 0x9000 agree false) fun _ x => x.cc.step = .over ∧ x.cc.ended = 0x6B ∧ x.cc.order = some o := by
  have he := exec_ccApduResponse_auth (data := data) (agree := agree) h hs
  rw [if_neg (by rw [ha]; decide)] at he
  refine CcGoes.of_setSd he ⟨rfl, rfl, ?_⟩
  exact (congrArg (·.order) (Strand.ccErr_notified ((s.sd n).answered s.now data) 4 0x9000).cc).trans h.order

/-- An approval before the last is recorded, R521. -/
theorem ccApduResponse_oneApproval (h : Answers s n o) (hs : (s.sd n).cc.step = .auth) (ha : approves (s.sd n) o data = true)
    (hlt : o.held.length + 1 < 16) (hm : o.held.length + 1 < o.m) : CcGoes s n (.ccApduResponse n data 0x9000 agree false) fun _ x =>
      x.cc.order = some { o with held := o.held ++ [(s.sd n).cc.custodian] } ∧ x.get R.CC_APPROVALS_HELD = o.held.length + 1
      ∧ x.cc.pairPermit = (s.sd n).cc.pairPermit := by
  have he := exec_ccApduResponse_auth (data := data) (agree := agree) h hs
  have hcust : ((s.sd n).answered s.now data).cc.custodian = (s.sd n).cc.custodian := rfl
  have hperm : ((s.sd n).answered s.now data).cc.pairPermit = (s.sd n).cc.pairPermit := rfl
  rw [if_pos ha, State.approve_one _ _ _ hm, State.sd_setSd_same, hcust] at he
  generalize (s.sd n).answered s.now data = y at *
  obtain ⟨hord, hheld, hpp⟩ := y.approved_shows (o := o.withApproval (s.sd n).cc.custodian) (by rw [Order.length_withApproval]; exact hlt)
  refine ⟨_, he, fun m hne => (State.sd_setSd_other _ _ hne).trans (State.sd_setSd_other _ _ hne), ?_⟩
  rw [State.sd_setSd_same]
  exact ⟨hord, hheld.trans (Order.length_withApproval ..), hpp.trans hperm⟩

/-- The state in which the last approval of an order stands. -/
def quorumMet (s : State) (n : Fin 4) (o : Order) (data : Bytes) : State :=
  (s.setSd n ((s.sd n).answered s.now data)).setSd n (((s.sd n).answered s.now data).quorate (o.withApproval (s.sd n).cc.custodian))

theorem quorumMet_sd_other (s : State) (o : Order) (data : Bytes) {m : Fin 4} (h : m ≠ n) : (quorumMet s n o data).sd m = s.sd m :=
  (State.sd_setSd_other _ _ h).trans (State.sd_setSd_other _ _ h)

theorem quorumMet_shows (s : State) (n : Fin 4) (o : Order) (data : Bytes) : ((quorumMet s n o data).sd n).cc.order = none
    ∧ ((quorumMet s n o data).sd n).cc.effected = true ∧ ((quorumMet s n o data).sd n).mode = (s.sd n).mode
    ∧ ((quorumMet s n o data).sd n).batchOpen = (s.sd n).batchOpen := by
  unfold quorumMet
  rw [State.sd_setSd_same]
  exact ((s.sd n).answered s.now data).quorate_shows _

theorem exec_ccApduResponse_quorum (h : Answers s n o) (hs : (s.sd n).cc.step = .auth) (ha : approves (s.sd n) o data = true)
    (hm : o.m ≤ o.held.length + 1) : exec (.ccApduResponse n data 0x9000 agree false) s
      = .next ((quorumMet s n o data).orderEffect n (o.withApproval (s.sd n).cc.custodian) agree) := by
  have hcust : ((s.sd n).answered s.now data).cc.custodian = (s.sd n).cc.custodian := rfl
  rw [exec_ccApduResponse_auth h hs, if_pos ha, State.approve_last _ _ _ hm, State.sd_setSd_same, hcust]
  rfl

/-- With its quorum an order to pair a card permits it, R519, R521. -/
theorem ccApduResponse_pairPermitted (h : Answers s n o) (hs : (s.sd n).cc.step = .auth) (ha : approves (s.sd n) o data = true)
    (hm : o.m ≤ o.held.length + 1) (hk : o.kind = 6) (hmode : (s.sd n).mode = 5) : CcGoes s n (.ccApduResponse n data 0x9000 agree false) fun _ x =>
      x.cc.order = none ∧ x.cc.effected = true ∧ x.cc.pairPermit = true := by
  have he := exec_ccApduResponse_quorum (agree := agree) h hs ha hm
  obtain ⟨hord, heff, hmd, -⟩ := quorumMet_shows s n o data
  rw [State.orderEffect_pair (o := o.withApproval (s.sd n).cc.custodian) hk (hmd.trans hmode)] at he
  refine ⟨_, he, fun m hne => (State.sd_up_other _ _ hne).trans (quorumMet_sd_other s o data hne), ?_⟩
  rw [State.sd_up_same]
  exact ⟨hord, heff, rfl⟩

/-- With its quorum an order to open a ceremony leads from SERVICE to CEREMONY, R56, R489, R519. -/
theorem ccApduResponse_ceremony (h : Answers s n o) (hs : (s.sd n).cc.step = .auth) (ha : approves (s.sd n) o data = true)
    (hm : o.m ≤ o.held.length + 1) (hk : o.kind = 1) (hmode : (s.sd n).mode = 2) (hb : (s.sd n).batchOpen = false) :
    CcGoes s n (.ccApduResponse n data 0x9000 agree false) fun _ x => x.mode = 5 ∧ x.get R.CHT_MODE_CAUSE = 7 ∧ x.get R.CHT_MODE_PREV_MODE = 2
      ∧ x.flag R.CC_STATUS_QUORUM = true ∧ x.cc.openers = o.held ++ [(s.sd n).cc.custodian] ∧ x.links = [] := by
  have he := exec_ccApduResponse_quorum (agree := agree) h hs ha hm
  obtain ⟨-, -, hmd, hbo⟩ := quorumMet_shows s n o data
  rw [State.orderEffect_ceremony (o := o.withApproval (s.sd n).cc.custodian) hk (hmd.trans hmode) (hbo.trans hb)] at he
  obtain ⟨hother, h5, hcause, hprev, hq, hop, hl⟩ := (quorumMet s n o data).enterCeremony_shows n (o.withApproval (s.sd n).cc.custodian).held
  exact ⟨_, he, fun m hne => (hother m hne).trans (quorumMet_sd_other s o data hne), h5, hcause, hprev.trans (hmd.trans hmode), hq, hop, hl⟩

/-- The answer to the challenge of an order to pair a card, R519 to R521. -/
theorem ccApduResponse_pair (h : Answers s n o) (hs : (s.sd n).cc.step = .auth) (hlt : o.held.length + 1 < 16) (hk : o.kind = 6)
    (hmode : (s.sd n).mode = 5) : CcGoes s n (.ccApduResponse n data 0x9000 agree false) fun _ x =>
      if approves (s.sd n) o data = true then
        if o.held.length + 1 < o.m then x.cc.order = some { o with held := o.held ++ [(s.sd n).cc.custodian] }
          ∧ x.get R.CC_APPROVALS_HELD = o.held.length + 1 ∧ x.cc.pairPermit = (s.sd n).cc.pairPermit
        else x.cc.order = none ∧ x.cc.effected = true ∧ x.cc.pairPermit = true
      else x.cc.step = .over ∧ x.cc.ended = 0x6B ∧ x.cc.order = some o := by
  cases ha : approves (s.sd n) o data with
  | false =>
    simp only [Bool.false_eq_true, if_false]
    exact ccApduResponse_unapproved h hs ha
  | true =>
    simp only [if_true]
    by_cases hm : o.held.length + 1 < o.m
    · simp only [if_pos hm]
      exact ccApduResponse_oneApproval h hs ha hlt hm
    · simp only [if_neg hm]
      exact ccApduResponse_pairPermitted h hs ha (Nat.not_lt.mp hm) hk hmode

/-- The answer to the challenge of an order to open a ceremony, where it would be the last approval: with a signature that verifies the
strand enters CEREMONY, R56, R519 to R521. -/
theorem ccApduResponse_open (h : Answers s n o) (hs : (s.sd n).cc.step = .auth) (hk : o.kind = 1) (hmode : (s.sd n).mode = 2)
    (hb : (s.sd n).batchOpen = false) (hm : o.m ≤ o.held.length + 1) : CcGoes s n (.ccApduResponse n data 0x9000 agree false) fun _ x =>
      approves (s.sd n) o data = true → x.mode = 5 ∧ x.get R.CHT_MODE_CAUSE = 7 ∧ x.get R.CHT_MODE_PREV_MODE = 2
        ∧ x.flag R.CC_STATUS_QUORUM = true ∧ x.cc.openers = o.held ++ [(s.sd n).cc.custodian] ∧ x.links = [] := by
  cases ha : approves (s.sd n) o data with
  | false =>
    obtain ⟨t, ht, hother, -⟩ := ccApduResponse_unapproved (agree := agree) h hs ha
    exact ⟨t, ht, hother, fun hf => by cases hf⟩
  | true =>
    obtain ⟨t, ht, hother, hP⟩ := ccApduResponse_ceremony (agree := agree) h hs ha hm hk hmode hb
    exact ⟨t, ht, hother, fun _ => hP⟩

/-! ### What lapses, R520, R521 -/

theorem exec_ccPinLapse_held {p : Bytes} {t : Nat} (h : (s.sd n).cc.pin = some (p, t)) :
    exec (.ccPinLapse n) s = .next ((s.upTo t).up n fun st => st.upCc fun c => { c with pin := none }) := by
  rw [show exec (.ccPinLapse n) s = execCcPinLapse n s from rfl, execCcPinLapse, h]

theorem ccPinWaitExpired_goes {t0 : Nat} (h : (s.sd n).cc.waitUntil = some t0) : CcGoes s n (.ccPinWaitExpired n) fun t x =>
    t.now = max s.now t0 ∧ x.cc.step = .over ∧ x.cc.ended = 0x6C ∧ x.cc.waitUntil = none ∧ x.sent = (s.sd n).sent := by
  have he : exec (.ccPinWaitExpired n) s = .next ((s.upTo t0).up n fun st => (st.ccErr 5 0).endSession 0x6C) := by
    rw [show exec (.ccPinWaitExpired n) s = execCcPinWaitExpired n s from rfl, execCcPinWaitExpired, h]
  refine ⟨_, he, fun m hm => State.sd_up_other _ _ hm, rfl, ?_⟩
  rw [State.sd_up_same]
  exact ⟨rfl, rfl, rfl, (Strand.ccErr_notified (s.sd n) 5 0).sent⟩

theorem orderLifeExpired_goes (h : (s.sd n).cc.order = some o) : CcGoes s n (.orderLifeExpired n) fun t x =>
    t.now = max s.now o.deadline ∧ x.cc.order = none ∧ x.get R.CC_APPROVALS_HELD = 0 := by
  have he : exec (.orderLifeExpired n) s = .next ((s.upTo o.deadline).up n (·.discardOrder)) := by
    rw [show exec (.orderLifeExpired n) s = execOrderLifeExpired n s from rfl, execOrderLifeExpired, h]
  obtain ⟨hnone, hheld⟩ := (s.sd n).discardOrder_shows
  refine ⟨_, he, fun m hm => State.sd_up_other _ _ hm, rfl, ?_⟩
  rw [State.sd_up_same]
  exact ⟨hnone, hheld (by rw [h]; rfl)⟩

end
end Sys2Proof.Machine
end

section
/-! O51: the custodian's clauses together. -/

namespace Sys2Proof.Machine
open Sys2Proof Sys2Proof.Claims

section
variable {s : State} {n : Fin 4} {j : Job}

/-- CC_CLOSE outside CEREMONY, R522. -/
theorem ccClose_outside (h : State.CcServed s n j) (hm : (s.sd n).mode ≠ 5) (agree : Bool) (owner : Option (BitVec 384)) :
    ∃ d, exec (.ccClose n j agree owner) s = .next d ∧ Ended j (d.sd n) 0x30 :=
  ⟨_, exec_ccClose_outside h hm agree owner, (State.fail_ends _ n j 0x30 0).1⟩

end

/-- Settles O51, clause by clause: each opcode and each answer of the card by the strand that its work leaves, the close of a ceremony by what its
job's outcome leaves of the strand, the entry to CEREMONY by the mode word that the end of the links keeps. -/
theorem custodianCardSlotAndOrders : Obligations.CustodianCardSlotAndOrders := by
  intro s n j st Goes Ends
  refine ⟨?_, ?_, ?_, fun p t0 hp => exec_ccPinLapse_held hp, fun t0 hw => ccPinWaitExpired_goes hw, fun o ho => orderLifeExpired_goes ho⟩
  · intro hhalt hmode hdup hin hfn b kind
    have h : State.CcServed s n j := ⟨hhalt, hmode, hdup, hin, hfn⟩
    refine ⟨fun r hlen hz1 hz4 hz25 hroom hw hcop ho hrule => ?_, fun y c0 c hz hlen hc0 hlo hhi hrel => ?_, exec_ccOrderQ_fits h, ccCancel_goes h,
      fun hm agree o => ccClose_outside h hm agree o, fun hm hl => ⟨ccClose_agreed h hm hl, ccClose_disagreed h hm hl⟩, ccClose_transit h, ?_⟩
    · have hb : OrderBlock j := ⟨hlen, hz1, hz4, hz25, hroom⟩
      exact ⟨fun hid hn ha => ccOrder_accepted h hb hw hcop ho hrule hid hn ha, fun ha => ccOrder_refused h hb ho hrule ha⟩
    · exact ccPin_goes h ⟨hz, hlen, hrel, c0, hc0, hlo, hhi⟩
    · intro d i k hm hk
      exact ⟨fun hl => ccClose_newOwner h hm hk hl d, fun hl hrs => ccClose_firstOwner h hm hk hl hrs d⟩
  · intro hr cls atr h1 h2
    exact ⟨ccCardInsert_powered hr h1 h2 atr, ccCardInsert_mute hr h1 h2 atr, ccCardRemove_goes hr⟩
  · intro hr hact
    refine ⟨t1BlockTimeout_again hr hact, t1BlockTimeout_resynch hr hact, t1BlockTimeout_gone hr hact, fun o data ho => ?_⟩
    have h : Answers s n o := ⟨hr, hact, ho⟩
    exact ⟨fun sw agree => ccApduResponse_abort h, fun sw agree => ccApduResponse_select_refused h, fun agree => ccApduResponse_select h,
      fun agree => ccApduResponse_getData h, fun sw agree => ccApduResponse_pinRefused h, fun agree => ccApduResponse_verified h,
      fun agree => ccApduResponse_pair h, fun agree => ccApduResponse_open h⟩

end Sys2Proof.Machine
end


section
/-! SUPPORT. A read of a _LO register and of its _HI partner; reads of the ring window and of a function page (R122). -/

namespace Sys2Proof.Machine
open Sys2Proof

namespace State

/-! ### Reads by place, R122 -/

theorem regRead_ring {s : State} {who : Requester} {a off : Nat} (hp : s.ring.power = true) (h : Place.of who a = .ring off) :
    s.regRead who a = s.answer (s.ringWord off) := by simp [regRead, hp, h]

theorem regRead_page {s : State} {who : Requester} {n : Fin 4} {a off : Nat} (hp : s.ring.power = true) (h : Place.of who a = .page n off) :
    s.regRead who a = s.answer (s.pageWord who n off) := by simp [regRead, hp, h]

/-- A latched _HI register answers what was latched, once. -/
theorem readStrand_latched {s : State} {n : Fin 4} {o : Nat} {x : Nat × Word} (who : Requester) (ho : o ≠ 0x800008) (hd : o ∉ (s.sd n).dupBad)
    (hh : (s.sd n).hiLatch.find? (fun x => x.1 == o) = some x) :
    s.readStrand who n o
      = (s.up n fun st => { st with hiLatch := st.hiLatch.filter fun x => x.1 != o }).answer x.2 := by
  simp [readStrand, ho, hd, hh, up]

/-- The strand once the _HI register behind `o` is latched. -/
def hiLatched (s : State) (n : Fin 4) (o : Nat) : State :=
  s.up n fun st => { st with hiLatch := st.hiLatch.filter (·.1 != o + 4) ++ [(o + 4, s.strandWord n (o + 4))] }

/-- A _LO register answers its word and latches the _HI register behind it. -/
theorem readStrand_lo {s : State} {n : Fin 4} {o : Nat} (who : Requester) (ho : o ≠ 0x800008) (hl : o ∈ loRegs) (hd : o ∉ (s.sd n).dupBad)
    (hh : (s.sd n).hiLatch.find? (fun x => x.1 == o) = none) :
    s.readStrand who n o = (s.hiLatched n o).answer (s.strandWord n o) := by
  simp [readStrand, ho, hl, hd, hh, hiLatched, up]

theorem find_hiLatched (s : State) (n : Fin 4) (o : Nat) :
    ((s.hiLatched n o).sd n).hiLatch.find? (fun x => x.1 == o + 4) = some (o + 4, s.strandWord n (o + 4)) := by
  have hnone : ((s.sd n).hiLatch.filter (·.1 != o + 4)).find? (fun x => x.1 == o + 4) = none :=
    List.find?_eq_none.mpr fun x hx => by simpa using (List.mem_filter.mp hx).2
  simp [hiLatched, List.find?_append, hnone]

theorem dupBad_hiLatched (s : State) (n : Fin 4) (o : Nat) : ((s.hiLatched n o).sd n).dupBad = (s.sd n).dupBad := by simp [hiLatched]

end State

/-- A _LO register lies in the block of its _HI partner, which is not QTZ_DATA. -/
theorem loRegs_partner {o : Nat} (h : o ∈ loRegs) : (o + 4) / 0x100000 = o / 0x100000 ∧ o + 4 ≠ 0x800008 := by
  revert o; decide

theorem reaches_partner {who : Requester} {n : Fin 4} {o : Nat} (hl : o ∈ loRegs) (h : reaches who n o = true) : reaches who n (o + 4) = true := by
  rw [← h]; simp only [reaches, (loRegs_partner hl).1]

/-- A read that the fabric carries without error is the register read. -/
theorem exec_loRegisterRead_clean (who : Requester) {a : Nat} (s : State) (ha : a % 4 = 0) :
    exec (.loRegisterRead who a) s = .next (s.regRead who a) := by
  rw [exec_loRegisterRead_aligned who _ s ha, State.crossing_clean]

/-! ### The statement -/

/-- Settles O10: a read by the place it names; a _LO register latches, and its _HI partner answers from the latch. -/
theorem registerReadsAnswer : Obligations.RegisterReadsAnswer := by
  unfold Obligations.RegisterReadsAnswer
  refine ⟨fun s who n a off hp ha => ⟨fun h => ?_, fun h => ?_⟩, fun s who n a off hp ha hpl hr hq hd => ⟨fun hh hl => ?_, fun w hh => ?_, fun hh hl hd4 hpl4 => ?_⟩⟩
  · rw [exec_loRegisterRead_clean who s ha, State.regRead_ring hp h]; rfl
  · rw [exec_loRegisterRead_clean who s ha, State.regRead_page hp h]; rfl
  · rw [exec_loRegisterRead_clean who s ha, State.regRead_strand hp hpl hr, State.readStrand_plain who hq hl hd hh]; rfl
  · rw [exec_loRegisterRead_clean who s ha, State.regRead_strand hp hpl hr, State.readStrand_latched who hq hd hh]; rfl
  · rw [exec_loRegisterRead_clean who s ha, State.regRead_strand hp hpl hr, State.readStrand_lo who hq hl hd hh]
    have hlatch : (((s.hiLatched n off).answer (s.strandWord n off)).sd n).hiLatch.find? (fun x => x.1 == off + 4)
        = some (off + 4, s.strandWord n (off + 4)) := s.find_hiLatched n off
    have hd' : off + 4 ∉ (((s.hiLatched n off).answer (s.strandWord n off)).sd n).dupBad := (s.dupBad_hiLatched n off).symm ▸ hd4
    refine ⟨_, rfl, rfl, hlatch, _, exec_loRegisterRead_clean who _ (by omega), ?_⟩
    rw [State.regRead_strand (s := (s.hiLatched n off).answer _) hp hpl4 (reaches_partner hl hr), State.readStrand_latched who (loRegs_partner hl).2 hd' hlatch]
    rfl

end Sys2Proof.Machine
end


section
/-! SUPPORT. What a key's release, the counters and a fault's record leave of a strand; the outcome of a posting job (R98, R127, R136, R142). -/

namespace Sys2Proof.Machine
open Sys2Proof

/-- `b` is `a` with other registers, keys and draws, another snapshot, other vectors and other sentinel counts. -/
def KeyWork (a b : Strand) : Prop :=
  ∃ regs kept vault draws keyBus snap ipend jsp, b = { a with
    regs := regs, nv := { a.nv with vault := kept }, vault := vault, draws := draws, keyBus := keyBus, snap := snap, ipend := ipend, jsp := jsp }

namespace KeyWork

variable {a b c : Strand}

theorem refl (a : Strand) : KeyWork a a := ⟨_, _, _, _, _, _, _, _, rfl⟩

theorem trans (h : KeyWork a b) (g : KeyWork b c) : KeyWork a c := by
  obtain ⟨_, _, _, _, _, _, _, _, rfl⟩ := h
  obtain ⟨_, _, _, _, _, _, _, _, rfl⟩ := g
  exact ⟨_, _, _, _, _, _, _, _, rfl⟩

theorem put (h : KeyWork a b) (f : Fld) (v : Nat) (k : Nat := 0) : KeyWork a (b.put f v k) := h.trans ⟨_, _, _, _, _, _, _, _, rfl⟩

theorem of_notified (h : Notified a b) : KeyWork a b := by
  obtain ⟨_, _, _, rfl⟩ := h
  exact ⟨_, _, _, _, _, _, _, _, rfl⟩

theorem ite {p : Prop} [Decidable p] (h : KeyWork a b) (g : KeyWork a c) : KeyWork a (if p then b else c) := by split <;> assumption

theorem post (h : KeyWork a b) : b.post = a.post := by obtain ⟨_, _, _, _, _, _, _, _, rfl⟩ := h; rfl

theorem done (h : KeyWork a b) : b.done = a.done := by obtain ⟨_, _, _, _, _, _, _, _, rfl⟩ := h; rfl

theorem jnl (h : KeyWork a b) : b.jnl = a.jnl := by obtain ⟨_, _, _, _, _, _, _, _, rfl⟩ := h; rfl

end KeyWork

namespace Strand

variable (st : Strand)

theorem countEvent_keyWork (t src det island reading : Nat) : KeyWork st (st.countEvent t src det island reading) := by
  unfold countEvent
  extract_lets x f y old h keep
  split
  · exact ⟨_, _, _, _, _, _, _, _, rfl⟩
  · split
    · split <;> exact ⟨_, _, _, _, _, _, _, _, rfl⟩
    · exact ⟨_, _, _, _, _, _, _, _, rfl⟩

theorem event_keyWork (t src det island reading : Nat) : KeyWork st (st.event t src det island reading) := by
  unfold event
  extract_lets x
  split
  · exact (countEvent_keyWork ..).trans (countEvent_keyWork ..)
  · exact countEvent_keyWork ..

theorem mismatch_keyWork (t : Nat) : KeyWork st (st.mismatch t) := event_keyWork ..

theorem datapath_keyWork (t island : Nat) : KeyWork st (st.datapath t island) := event_keyWork ..

theorem noteErr_keyWork {info : Strand → Strand} (hi : ∀ x, Notified x (info x)) (valid code ovf : Fld) (c : Nat) :
    KeyWork st (st.noteErr valid code ovf c info) := .of_notified (noteErr_notified st hi ..)

theorem onxErr_keyWork (code idx receiver : Nat) : KeyWork st (st.onxErr code idx receiver) :=
  noteErr_keyWork st (fun x => ((Notified.refl x).put _ _).put _ _) ..

theorem pstErr_keyWork (stage order : Nat) : KeyWork st (st.pstErr stage order) :=
  noteErr_keyWork st (fun x => (Notified.refl x).put _ _) ..

theorem pstFault_keyWork (t stage order : Nat) : KeyWork st (st.pstFault t stage order) := (pstErr_keyWork ..).trans (datapath_keyWork ..)

theorem putCtx_keyWork (c : Ctx) : KeyWork st (st.putCtx c) := by
  unfold putCtx syncPersist
  split <;> exact ⟨_, _, _, _, _, _, _, _, rfl⟩

theorem drawCounter_keyWork (c : Ctx) (k : Nat) : KeyWork st (st.drawCounter c k).1 := by
  unfold drawCounter
  split <;> exact putCtx_keyWork ..

theorem deliver_keyWork (env : JobEnv) (idx receiver : Nat) (key : Bytes) : KeyWork st (st.deliver env idx receiver key).1 := by
  obtain ⟨-, -, h⟩ | ⟨-, h⟩ := deliver_cases st env idx receiver key
  · rw [h]; exact ⟨_, _, _, _, _, _, _, _, rfl⟩
  · rw [h]
    exact KeyWork.trans ⟨_, _, _, _, _, _, _, _, rfl⟩ (onxErr_keyWork ..)

theorem release_keyWork (t : Nat) (env : JobEnv) (fn gen h usage dest : Nat) (limits : Bool) :
    KeyWork st (st.release t env fn gen h usage dest limits).1 := by
  obtain ⟨-, e⟩ | ⟨c, -, e | ⟨-, e⟩ | ⟨-, -, -, c', -, ⟨-, e⟩ | ⟨-, e⟩⟩⟩ := release_cases st t env fn gen h usage dest limits
  · rw [e]; exact (KeyWork.refl st).put _ _
  · rw [e]; exact (KeyWork.refl st).put _ _
  · rw [e]; exact (onxErr_keyWork ..).trans (mismatch_keyWork ..)
  · rw [e]; exact (putCtx_keyWork ..).trans (deliver_keyWork ..)
  · rw [e]; exact (putCtx_keyWork ..).trans (deliver_keyWork ..)

theorem releaseLate_keyWork (t : Nat) (env : JobEnv) (fn gen h usage dest : Nat) (limits : Bool) :
    KeyWork st (st.releaseLate t env fn gen h usage dest limits).1 := by
  have hr := release_keyWork st t env fn gen h usage dest limits
  unfold releaseLate
  split
  · exact .refl st
  · exact .refl st
  · next e => rw [e] at hr; exact hr

theorem chargeKeys_keyWork (fn gen sctx rctx : Nat) : KeyWork st (st.chargeKeys fn gen sctx rctx).1 := by
  unfold chargeKeys
  extract_lets x
  have hx : KeyWork st x := by
    unfold x
    split
    · exact putCtx_keyWork ..
    · exact .refl st
  split
  · exact hx
  · next c _ =>
    have hd := hx.trans (drawCounter_keyWork x (chargeUse c) 1)
    split <;> next e => rw [e] at hd; exact hd

/-! ### The outcome of a posting job, R142 -/

theorem done_finish (t : Nat) (j : Job) (records status resLen detail : Nat) (counts : List (Fld × Nat)) :
    ∃ d ∈ (st.finish t j records status resLen detail counts).done, d.job = j ∧ d.status = status ∧ d.resLen = resLen ∧ d.detail = detail
      ∧ d.ended = t := by
  obtain ⟨_, d, h, hj, hs, hl, hd, he, -⟩ := finish_eq st t j records status resLen detail counts
  rw [h]
  exact ⟨d, by simp, hj, hs, hl, hd, he⟩

theorem done_finishEarly (t : Nat) (j : Job) (records status detail : Nat) :
    ∃ d ∈ (st.finishEarly t j records status detail).done, d.job.id = j.id ∧ d.status = status ∧ d.resLen = 0 ∧ d.detail = detail := by
  unfold finishEarly
  extract_lets last x
  obtain ⟨d, hd, hj, hs, hl, hde, -⟩ := done_finish st t { j with origin := max j.origin st.post.parseDone } records status 0 detail []
  have hid : d.job.id = j.id := congrArg (·.id) hj
  clear_value last
  cases last with
  | none => exact ⟨d, hd, hid, hs, hl, hde⟩
  | some b =>
    dsimp only
    split
    · exact ⟨_, List.mem_map_of_mem hd, by rw [if_pos hid]; exact ⟨hid, hs, hl, hde⟩⟩
    · exact ⟨d, hd, hid, hs, hl, hde⟩

end Strand

end Sys2Proof.Machine
end

section
/-! O17: the intake of a chain (R91, R94, R95, R98, R100). -/

namespace Sys2Proof.Machine
open Sys2Proof Sys2Proof.Claims

theorem State.headerMac_keyWork (s : State) (n : Fin 4) (j : Job) (relay : Option Relay) (check : Bool) :
    KeyWork (s.sd n) (s.headerMac n j relay check).1 := by
  unfold headerMac
  extract_lets st h
  split
  next fn gen _ =>
  have hr := Strand.releaseLate_keyWork st s.now j.env fn gen (Hdr.macCtx h) (2 ^ 3) 0 true
  split
  · next e => rw [e] at hr; exact hr
  · next y counts c e =>
    rw [e] at hr
    extract_lets y'
    have hy : KeyWork (s.sd n) y' := by
      unfold y'
      split
      · obtain ⟨_, _, _, _, _, _, _, _, rfl⟩ := hr
        exact ⟨_, _, _, _, _, _, _, _, rfl⟩
      · exact hr
    split
    · exact hy
    · split <;> exact hy

/-- The strand whose oldest waiting chain is taken off the list. -/
def Strand.nextChain (st : Strand) (rest : List (Job × Option Relay)) : Strand := st.upPost fun p => { p with waiting := rest }

/-- Stage 1 does not look at the chains that wait. -/
theorem State.intakeStatus_nextChain (s : State) (n : Fin 4) (j : Job) (relay : Option Relay) (rest : List (Job × Option Relay)) :
    (s.up n fun st => st.nextChain rest).intakeStatus n j relay = s.intakeStatus n j relay := by
  unfold intakeStatus
  rw [sd_up_same]
  rfl

/-- The batch that a chain becomes once it has passed stage 1, R95, R100. -/
structure Intake (st : Strand) (j : Job) (b : Batch) : Prop where
  order : b.order = st.post.nextOrder
  parsed : b.parsed = 0
  slot : b.slot = none
  phase : b.phase = (if b.fails = [] ∧ b.fault = none then .checking else .aborted)
  recs : b.recs = State.recordsOf j.input (Hdr.count (sub j.input 0 64))
  check : b.check = (j.op == 0x101)
  reserved : b.reserved = []

theorem exec_batchIntake (n : Fin 4) (s : State) : exec (.batchIntake n) s = execBatchIntake n s := rfl

section
variable {s : State} {n : Fin 4} {j : Job} {rest : List (Job × Option Relay)} (hh : (s.sd n).halted = false)
  (hw : (s.sd n).post.waiting = (j, none) :: rest) (hl : ((s.sd n).post.batches.filter fun b => !b.posted).length < 16)
  (hr : j.env.readOk = true)
include hh hw hl hr

/-- A chain that stage 1 passes becomes the youngest batch. -/
theorem exec_batchIntake_passes {p : Option Nat} (hs : s.intakeStatus n j none = (0, p)) :
    ∃ x b, KeyWork ((s.sd n).nextChain rest) x ∧ Intake (s.sd n) j b ∧ exec (.batchIntake n) s
      = .next (s.setSd n (x.upPost fun p => { p with batches := p.batches ++ [b], nextOrder := p.nextOrder + 1 })) := by
  have hs' : (s.up n fun st => st.nextChain rest).intakeStatus n j none = (0, p) := (s.intakeStatus_nextChain n j none rest).trans hs
  rw [exec_batchIntake]
  generalize ho : execBatchIntake n s = o
  unfold execBatchIntake at ho
  extract_lets st at ho
  split at ho
  · next h => rw [hw] at h; cases h
  next _ _ _ h =>
  rw [hw] at h
  cases h
  rw [if_neg (by simp [st, hh, hl])] at ho
  extract_lets s1 check h at ho
  rw [if_neg (by simp [hr])] at ho
  split at ho
  rotate_left
  · next h hne => rw [show s1.intakeStatus n j none = _ from hs'] at hne; cases hne; exact (h rfl).elim
  split at ho
  next fn gen hg =>
  generalize hc : (if check = true then _ else _ : State × Bytes) = p2 at ho
  obtain ⟨s2, iv⟩ := p2
  obtain ⟨y, hy, rfl⟩ : ∃ y, KeyWork (s1.sd n) y ∧ s2 = s1.setSd n y := by
    split at hc
    · cases hc; exact ⟨_, .refl _, (State.setSd_sd ..).symm⟩
    · cases hc; exact ⟨_, Strand.chargeKeys_keyWork .., rfl⟩
  dsimp -zeta only at ho
  have hm := State.headerMac_keyWork (s1.setSd n y) n j none check
  generalize (s1.setSd n y).headerMac n j none check = m at ho hm
  extract_lets b x at ho
  rw [State.sd_setSd_same] at hm
  have hx : KeyWork (s1.sd n) x := .ite ((hy.trans hm).trans (Strand.pstErr_keyWork ..)) (hy.trans hm)
  refine ⟨x, b, ?_, ⟨rfl, rfl, rfl, ?_, rfl, rfl, rfl⟩, ?_⟩
  · rwa [State.sd_up_same] at hx
  · simp [b]
  · rw [← ho, State.setSd_setSd]
    exact congrArg Host.Outcome.next (State.setSd_setSd ..)

/-- A chain that stage 1 refuses completes with its status. -/
theorem exec_batchIntake_refuses {e : Nat} {p : Option Nat} (he : e ≠ 0) (hs : s.intakeStatus n j none = (e, p)) :
    exec (.batchIntake n) s = .next (s.up n fun st => (st.nextChain rest).finishEarly s.now j (Hdr.count (sub j.input 0 64)) e
      (postDetail 1 (p.getD 0) 0 p.isNone)) := by
  have hs' : (s.up n fun st => st.upPost fun p => { p with waiting := rest }).intakeStatus n j none = (e, p) :=
    (s.intakeStatus_nextChain n j none rest).trans hs
  rw [exec_batchIntake, execBatchIntake]
  simp only [hw]
  rw [if_neg (by simp [hh, hl])]
  simp only [hr, Bool.not_true, Bool.false_eq_true, if_false, hs']
  rw [State.failIntake, State.up_up]
  rfl

end

theorem exec_postBatch (n : Fin 4) (j : Job) (s : State) : exec (.postBatch n j) s = .next (s.offer n { j with op := 0x100 }) := rfl

theorem exec_checkBatch (n : Fin 4) (j : Job) (s : State) : exec (.checkBatch n j) s = .next (s.offer n { j with op := 0x101 }) := rfl

/-- A chain that reaches a strand which is not HALTED waits behind the others. -/
theorem State.offer_waits {s : State} {n : Fin 4} (hh : (s.sd n).halted = false) (j : Job) :
    s.offer n j = s.up n fun st => st.upPost fun p => { p with waiting := p.waiting ++ [(j, none)] } := if_neg (by simp [hh])

/-- Settles O17: a chain waits its turn; stage 1 makes the first one the youngest batch, or records its status. -/
theorem postingIntake : Obligations.PostingIntake := by
  unfold Obligations.PostingIntake
  intro s n j rest hh
  refine ⟨?_, ?_, fun hw hl hr => ?_⟩
  · rw [exec_postBatch, State.offer_waits hh]
  · rw [exec_checkBatch, State.offer_waits hh]
  · rcases hst : s.intakeStatus n j none with ⟨e, p⟩
    by_cases he : e = 0
    · subst he
      obtain ⟨x, b, hx, hb, ht⟩ := exec_batchIntake_passes hh hw hl hr hst
      have hp : x.post = { (s.sd n).post with waiting := rest } := hx.post
      refine ⟨_, ht, onlyStrand_up s n fun _ => _, ?_, b, ?_, hb.order, ?_, hb.parsed, hb.slot, hb.phase, hb.recs, hb.check, hb.reserved⟩
      all_goals rw [State.sd_setSd_same]; simp only [Strand.upPost, hp]
    · rw [exec_batchIntake_refuses hh hw hl hr he hst]
      obtain ⟨_, _, hf⟩ := finishEarly_eq ((s.sd n).nextChain rest) s.now j (Hdr.count (sub j.input 0 64)) e (postDetail 1 (p.getD 0) 0 p.isNone)
      have hd := Strand.done_finishEarly ((s.sd n).nextChain rest) s.now j (Hdr.count (sub j.input 0 64)) e (postDetail 1 (p.getD 0) 0 p.isNone)
      refine ⟨_, rfl, onlyStrand_up .., ?_, ?_⟩
      · rw [State.sd_up_same, hf]; rfl
      · split
        · next h => cases h; exact absurd rfl he
        · next h =>
          cases h
          rw [State.sd_up_same]
          exact ⟨by rw [hf]; rfl, hd⟩

end Sys2Proof.Machine
end


section
/-! SUPPORT. The batches of a strand: how one is found and replaced, what becomes of one whose check fails, and what the work in its slot
leaves alone (R100, R127, R132, R140). -/

namespace Sys2Proof.Machine
open Sys2Proof

namespace Strand

variable (st : Strand)

/-! ### Finding and replacing a batch -/

theorem batch_congr {a b : Strand} (h : b.post.batches = a.post.batches) (o : Nat) : b.batch o = a.batch o := by unfold batch; rw [h]

theorem batch_order {o : Nat} {b : Batch} (h : st.batch o = some b) : b.order = o := by simpa using List.find?_some h

/-- A batch whose number is in the list is found as it was set. -/
theorem batch_setBatch {b c : Batch} (h : st.batch b.order = some c) : (st.setBatch b).batch b.order = some b := by
  have hp : (fun x : Batch => x.order == b.order) ∘ (fun c => if c.order = b.order then b else c) = fun x => x.order == b.order := by
    funext x
    by_cases hx : x.order = b.order <;> simp [hx]
  unfold batch at h ⊢
  simp only [setBatch, upPost, List.find?_map, hp, h]
  simp [show c.order = b.order by simpa using List.find?_some h]

/-- A batch of the list is found by its number, once it is set. -/
theorem batch_setBatch_mem {b c : Batch} (hc : c ∈ st.post.batches) (h : c.order = b.order) : (st.setBatch b).batch b.order = some b := by
  obtain ⟨d, hd⟩ : ∃ d, st.batch b.order = some d :=
    Option.isSome_iff_exists.mp (List.find?_isSome.mpr ⟨c, hc, by simp [h]⟩)
  exact batch_setBatch st hd

/-! ### The slot's content -/

/-- `b` is `a` with other content in the quarantine area. -/
def SlotWork (a b : Strand) : Prop := ∃ quar, b = { a with quar := quar }

theorem SlotWork.refl (a : Strand) : SlotWork a a := ⟨_, rfl⟩

theorem SlotWork.trans {a b c : Strand} (h : SlotWork a b) (g : SlotWork b c) : SlotWork a c := by
  obtain ⟨_, rfl⟩ := h
  obtain ⟨_, rfl⟩ := g
  exact ⟨_, rfl⟩

theorem SlotWork.post {a b : Strand} (h : SlotWork a b) : b.post = a.post := by obtain ⟨_, rfl⟩ := h; rfl

theorem SlotWork.foldl {α : Type} {f : Strand → α → Strand} (h : ∀ st x, SlotWork st (f st x)) (l : List α) : SlotWork st (l.foldl f st) := by
  induction l generalizing st with
  | nil => exact .refl st
  | cons x r ih => exact (h st x).trans (ih _)

theorem slotPut_slotWork (order off : Nat) (data : Bytes) : SlotWork st (st.slotPut order off data) := by
  unfold slotPut
  split
  · split
    · exact ⟨_, rfl⟩
    · exact .refl st
  · exact .refl st

theorem slotNodes_slotWork (b : Batch) (i : Nat) : SlotWork st (st.slotNodes b i) := by
  refine SlotWork.foldl st (fun st l => ?_) _
  dsimp only
  split
  · exact slotPut_slotWork ..
  · exact .refl st

theorem slotStream_slotWork (b : Batch) (key : Bytes) : SlotWork st (st.slotStream b key) := (slotPut_slotWork ..).trans (slotPut_slotWork ..)

/-! ### A batch whose check fails -/

@[simp] theorem batches_clearSlot (t order : Nat) : (st.clearSlot t order).post.batches = st.post.batches := rfl

@[simp] theorem batches_setBerEng (x : BerEng) : (st.setBerEng x).post.batches = st.post.batches := rfl

/-- What becomes of a batch's verdict: its records and its Parse stay, no failure is lost, and an abort is final. -/
structure Verdict (b c : Batch) : Prop where
  order : c.order = b.order
  job : c.job = b.job
  parsed : c.parsed = b.parsed
  recs : c.recs = b.recs
  lastSeq : c.lastSeq = b.lastSeq
  fails : ∀ f ∈ b.fails, f ∈ c.fails
  fault : b.fault.isSome = true → c.fault.isSome = true
  aborted : b.phase = .aborted → c.phase = .aborted
  clean : c.phase = .aborted ∨ c.phase = b.phase ∧ c.fails = b.fails

namespace Verdict

variable {b c d : Batch}

theorem refl (b : Batch) : Verdict b b := ⟨rfl, rfl, rfl, rfl, rfl, fun _ h => h, fun h => h, fun h => h, .inr ⟨rfl, rfl⟩⟩

theorem trans (h : Verdict b c) (g : Verdict c d) : Verdict b d where
  order := g.order.trans h.order
  job := g.job.trans h.job
  parsed := g.parsed.trans h.parsed
  recs := g.recs.trans h.recs
  lastSeq := g.lastSeq.trans h.lastSeq
  fails f hf := g.fails f (h.fails f hf)
  fault hb := g.fault (h.fault hb)
  aborted hb := g.aborted (h.aborted hb)
  clean := h.clean.elim (fun e => .inl (g.aborted e)) fun ⟨hp, hf⟩ => g.clean.imp_right fun ⟨gp, gf⟩ => ⟨gp.trans hp, gf.trans hf⟩

end Verdict

/-- Abandoned work leaves the batch's verdict as it is, R140. -/
theorem abandon_batch {b c : Batch} (t : Nat) (h : st.batch b.order = some c) :
    ∃ d, (st.abandon t b).batch b.order = some d ∧ Verdict b d ∧ d.phase = b.phase ∧ d.fails = b.fails ∧ d.fault = b.fault := by
  unfold abandon
  extract_lets wipe x
  have hx := batch_setBatch (b := { b with abandoned := b.abandoned || (b.spec && b.slot.isSome), prep := none, berWipes := b.berWipes + b2n wipe }) st h
  refine ⟨_, (batch_congr ?_ _).trans hx, ⟨rfl, rfl, rfl, rfl, rfl, fun _ h => h, fun h => h, fun h => h, .inr ⟨rfl, rfl⟩⟩, rfl, rfl, rfl⟩
  rw [batches_clearSlot]
  split <;> rfl

/-- A failed check is kept, and aborts the batch, R97, R100. -/
theorem failCheck_batch {b c : Batch} (t : Nat) (f : Fail) (h : st.batch b.order = some c) :
    ∃ d, (st.failCheck t b f).batch b.order = some d ∧ Verdict b d ∧ d.phase = .aborted ∧ d.fails = b.fails ++ [f] ∧ d.fault = b.fault := by
  unfold failCheck
  extract_lets first b'
  have hv : Verdict b b' := ⟨rfl, rfl, rfl, rfl, rfl, fun g hg => by simp [b', hg], fun h => h, fun _ => rfl, .inl rfl⟩
  split
  · obtain ⟨d, hd, hdv, hp, hf, hfl⟩ := abandon_batch (b := b') st t h
    exact ⟨d, hd, hv.trans hdv, hp, hf, hfl⟩
  · exact ⟨b', batch_setBatch (b := b') st h, hv, rfl, rfl, rfl⟩

/-- An internal fault aborts the batch, R127. -/
theorem faultCheck_batch {b c : Batch} (t stage : Nat) (h : st.batch b.order = some c) :
    ∃ d, (st.faultCheck t b stage).batch b.order = some d ∧ Verdict b d ∧ d.phase = .aborted ∧ d.fault.isSome = true := by
  unfold faultCheck
  extract_lets first b'
  have hv : Verdict b b' := ⟨rfl, rfl, rfl, rfl, rfl, fun _ h => h, fun _ => by simp [b'], fun _ => rfl, .inl rfl⟩
  have hs : b'.fault.isSome = true := by simp [b']
  have hk := fun x : Strand => batch_congr (congrArg Post.batches (pstErr_keyWork x stage b'.order).post) b'.order
  split
  · obtain ⟨d, hd, hdv, hp, -, hfl⟩ := abandon_batch (b := b') st t h
    exact ⟨d, (hk _).trans hd, hv.trans hdv, hp, hfl ▸ hs⟩
  · exact ⟨b', (hk _).trans (batch_setBatch (b := b') st h), hv, rfl, hs⟩

end Strand

end Sys2Proof.Machine
end

section
/-! O18: the check pass of a batch, record by record (R94, R97, R127, R139). -/

namespace Sys2Proof.Machine
open Sys2Proof Sys2Proof.Claims

namespace Strand

variable (st : Strand)

/-- The check of the batch of number `o` fails, where a batch bears it. -/
def failBatch (t o : Nat) (f : Fail) : Strand :=
  match st.batch o with
  | some c => st.failCheck t c f
  | none => st

/-- The internal fault of a check reaches the batch of number `o`. -/
def faultBatch (t o stage : Nat) (broken : Bool) : Strand :=
  match st.batch o with
  | some c => if broken then st.faultCheck t c stage else st
  | none => st

variable {st}

theorem failBatch_if {o : Nat} {c : Batch} (h : st.batch o = some c) (t : Nat) (p : Prop) [Decidable p] (f : Fail) :
    ∃ d, (if p then st.failBatch t o f else st).batch o = some d ∧ Verdict c d ∧ (p → d.phase = .aborted ∧ f ∈ d.fails) := by
  split
  · next hp =>
    have ho := batch_order st h
    obtain ⟨d, hd, hv, ha, hf, -⟩ := failCheck_batch (b := c) st t f (ho ▸ h)
    refine ⟨d, ?_, hv, fun _ => ⟨ha, by simp [hf]⟩⟩
    rw [failBatch, h, ← ho]
    exact hd
  · next hp => exact ⟨c, h, .refl c, fun hq => absurd hq hp⟩

theorem faultBatch_batch {o : Nat} {c : Batch} (h : st.batch o = some c) (t stage : Nat) (broken : Bool) :
    ∃ d, (st.faultBatch t o stage broken).batch o = some d ∧ Verdict c d ∧ (broken = true → d.phase = .aborted ∧ d.fault.isSome = true) := by
  rw [faultBatch, h]
  dsimp only
  split
  · have ho := batch_order st h
    obtain ⟨d, hd, hv, ha, hf⟩ := faultCheck_batch (b := c) st t stage (ho ▸ h)
    exact ⟨d, ho ▸ hd, hv, fun _ => ⟨ha, hf⟩⟩
  · next hb => exact ⟨c, h, .refl c, fun hq => absurd hq hb⟩

/-- A batch as Parse leaves it behind its next record, before the record is judged, R94, R139. -/
def parsedNext (b : Batch) : Batch := { b with parsed := b.parsed + 1, lastSeq := max b.lastSeq (Lrf.seq (b.recs.getD b.parsed [])) }

/-- A record check moves Parse on; a fault or a failed Parse aborts the batch, and the failure is kept. -/
theorem checkRecord_batch {b : Batch} (t fault : Nat) (hb : st.batch b.order = some b) (hl : b.parsed < b.recs.length) (hr : b.relay = none) :
    ∃ d, (st.checkRecord t b fault).batch b.order = some d ∧ Verdict (parsedNext b) d
      ∧ (2 ≤ fault → fault ≤ 5 → d.phase = .aborted ∧ d.fault.isSome = true)
      ∧ ∀ e k q, st.parseStatus b (b.recs.getD b.parsed []) b.parsed = (e, k, q) → e ≠ 0 →
        d.phase = .aborted ∧ ∃ f ∈ d.fails, f.stage = 2 ∧ f.place = b.parsed + 1 ∧ f.status = e := by
  generalize hx : st.checkRecord t b fault = x
  unfold checkRecord at hx
  extract_lets i r0 r clean b0 broken at hx
  have hr0 : r = r0 := by simp [r, hr]
  clear_value r
  subst hr0
  rcases hps : st.parseStatus b r0 i with ⟨e2, k2, slot⟩
  rw [hps] at hx
  dsimp -zeta only at hx
  extract_lets b1 s1 fail s2 s3 s4 badTag s5 e4 s6 b2 cur at hx
  have hrecs : b.recs.set i r0 = b.recs := by
    simp only [r0, i, List.getD_eq_getElem?_getD, List.getElem?_eq_getElem hl, Option.getD_some, List.set_getElem_self]
  have hv1 : Verdict (parsedNext b) b1 := by
    unfold b1
    split <;> exact ⟨rfl, rfl, rfl, hrecs, rfl, fun _ h => h, fun h => h, fun h => h, .inr ⟨rfl, rfl⟩⟩
  have h1 : s1.batch b1.order = some b1 := batch_setBatch st (hv1.order ▸ hb)
  have h2 : s2.batch b1.order = some b1 := by
    unfold s2
    split
    · exact (batch_congr (congrArg Post.batches (slotNodes_slotWork ..).post) _).trans h1
    · exact h1
  obtain ⟨c3, h3, hv3, hbroken⟩ := faultBatch_batch h2 t fault broken
  obtain ⟨c4, h4, hv4, hparse⟩ := failBatch_if (st := s3) h3 t (e2 ≠ 0) ⟨2, i + 1, k2, e2, if e2 = 0x15 then slot else 0, false⟩
  obtain ⟨c5, h5, hv5, -⟩ := failBatch_if (st := s4) h4 t (badTag = true) ⟨3, i + 1, 2, 0x10, 0, false⟩
  obtain ⟨c6, h6, hv6, -⟩ := failBatch_if (st := s5) h5 t (e4 ≠ 0) ⟨4, i + 1, if e4 = 0x18 then 0 else 1, e4, 0, false⟩
  have h6' : s6.batch b1.order = some c6 := h6
  split at hx
  · subst hx
    refine ⟨c6, hv1.order ▸ h6', (((hv1.trans hv3).trans hv4).trans hv5).trans hv6, fun h2 h5 => ?_, fun e k q he hne => ?_⟩
    · obtain ⟨ha, hf⟩ := hbroken (by simp [broken, h2, h5])
      exact ⟨hv6.aborted (hv5.aborted (hv4.aborted ha)), hv6.fault (hv5.fault (hv4.fault hf))⟩
    · cases he
      obtain ⟨ha, hf⟩ := hparse hne
      exact ⟨hv6.aborted (hv5.aborted ha), _, hv6.fails _ (hv5.fails _ hf), rfl, rfl, rfl⟩
  · next hno =>
    simp only [not_or] at hno
    obtain ⟨-, hnb, hne, -, -⟩ := hno
    have hv2 : Verdict b1 b2 := by
      unfold b2
      split <;> exact ⟨rfl, rfl, rfl, rfl, rfl, fun _ h => h, fun h => h, fun h => h, .inr ⟨rfl, rfl⟩⟩
    suffices h : ∃ d, x.batch b1.order = some d ∧ Verdict b2 d by
      obtain ⟨d, hd, hv⟩ := h
      refine ⟨d, hv1.order ▸ hd, (hv1.trans hv2).trans hv, fun h2 h5 => absurd ?_ hnb, fun e k q he hn => ?_⟩
      · simp [broken, h2, h5]
      · cases he; exact absurd hn hne
    rw [← hv2.order] at h6' ⊢
    split at hx
    · next k _ =>
      subst hx
      obtain ⟨d, hd, hv, -⟩ := failCheck_batch (s6.setBatch b2) t ⟨5, i + 1, 0, 0x17, k, false⟩ (batch_setBatch s6 h6')
      exact ⟨d, hd, hv⟩
    · subst hx
      exact ⟨_, batch_setBatch (b := { b2 with cur := cur }) s6 h6',
        ⟨rfl, rfl, rfl, rfl, rfl, fun _ h => h, fun h => h, fun h => h, .inr ⟨rfl, rfl⟩⟩⟩

end Strand

theorem exec_recordCheck (n : Fin 4) (order fault : Nat) (s : State) :
    exec (.recordCheck n order fault) s = execRecordCheck n order s fault := rfl

/-- The end of a Parse leaves every batch's verdict as it is, R142. -/
theorem find_nextBatch {l : List Batch} {o : Nat} {d : Batch} {f : Batch → Batch} (h : l.find? (·.order == o) = some d) (hf : ∀ c, (f c).order = c.order) :
    (l.map f).find? (·.order == o) = some (f d) := by
  have hp : (fun x : Batch => x.order == o) ∘ f = fun x => x.order == o := by funext x; simp [hf]
  rw [List.find?_map, hp, h]
  rfl

theorem exec_recordCheck_checks {s : State} {n : Fin 4} {b : Batch} (fault : Nat) (hh : (s.sd n).halted = false) (hb : (s.sd n).batch b.order = some b)
    (hp : b.phase = .checking) (hl : b.parsed < b.recs.length) (hw : (s.sd n).mustWait b = false) :
    ∃ x, exec (.recordCheck n b.order fault) s = .next (s.setSd n x)
      ∧ ∀ d, ((s.sd n).checkRecord s.now b fault).batch b.order = some d → d.order = b.order → x.batch b.order = some d := by
  rw [exec_recordCheck]
  generalize ho : execRecordCheck n b.order s fault = o
  unfold execRecordCheck at ho
  extract_lets st late nextB at ho
  rw [show st.batch b.order = some b from hb] at ho
  dsimp -zeta only at ho
  rw [if_neg (by simp [st, hh, Batch.deciding, hp, hl, hw])] at ho
  extract_lets y fix at ho
  split at ho
  · exact ⟨_, ho.symm, fun d hd _ => hd⟩
  · refine ⟨_, ho.symm, fun d hd hdo => ?_⟩
    have hn : nextB d = d := if_neg (by omega)
    exact (find_nextBatch hd fun c => by unfold nextB; split <;> rfl).trans (congrArg some hn)

/-! ### The slot, R130, R132 -/

/-- The keystream of a batch works in its slot, with a key of its own, R128. -/
theorem State.speculate_works (s : State) (n : Fin 4) (b : Batch) :
    ∃ x y, KeyWork (s.sd n) x ∧ Strand.SlotWork x y ∧ s.speculate n b = s.setSd n y := by
  unfold speculate
  extract_lets rctx
  split
  · exact ⟨_, _, .refl _, .refl _, (setSd_sd ..).symm⟩
  · have hr := Strand.releaseLate_keyWork (s.sd n) s.now b.job.env b.job.fn (s.jobGen b.job) rctx 1 0 false
    split
    · next e => rw [e] at hr; exact ⟨_, _, hr, Strand.slotStream_slotWork .., rfl⟩
    · exact ⟨_, _, .refl _, .refl _, (setSd_sd ..).symm⟩

theorem exec_quarantineSlotTake (n : Fin 4) (s : State) : exec (.quarantineSlotTake n) s = execQuarantineSlotTake n s := rfl

/-- The strand once a batch holds its slot, under a mask if it is not aborted, R130, R132. -/
def Strand.withSlot (st : Strand) (b : Batch) (k : Nat) (m : Option (BitVec 128)) : Strand :=
  (st.setBatch { b with slot := some k }).upPost fun p => { p with slots := p.slots ++ [{ num := k, order := b.order, mask := m }] }

/-- The first batch without a slot takes a free one; what speculation adds lies in the quarantine area, with a key of its own. -/
theorem exec_quarantineSlotTake_takes {s : State} {n : Fin 4} {b : Batch} {k : Nat}
    (hb : (s.sd n).post.batches.find? (fun b => b.slot.isNone && !b.posted) = some b) (hk : (s.sd n).freeSlot = some k) :
    ∃ (m : Option (BitVec 128)) (y : Strand), (m.isSome = true ↔ b.phase ≠ .aborted) ∧ exec (.quarantineSlotTake n) s = .next (s.setSd n y)
      ∧ y.post = ((s.sd n).withSlot b k m).post ∧ (b.spec = false → y.quar = (s.sd n).quar) := by
  rw [exec_quarantineSlotTake]
  generalize ho : execQuarantineSlotTake n s = o
  unfold execQuarantineSlotTake at ho
  extract_lets st at ho
  rw [show st.post.batches.find? _ = some b from hb, show st.freeSlot = some k from hk] at ho
  simp -zeta only [Strand.draw] at ho
  extract_lets mask b' x at ho
  have hm : mask.isSome = true ↔ b.phase ≠ .aborted := by simp [mask]
  split at ho
  · next hs =>
    have hx : Strand.SlotWork x ((List.range b.parsed).foldl (fun (st : Strand) i => st.slotNodes b' i) x) :=
      Strand.SlotWork.foldl x (fun st i => Strand.slotNodes_slotWork st b' i) _
    generalize (List.range b.parsed).foldl (fun (st : Strand) i => st.slotNodes b' i) x = z at ho hx
    obtain ⟨y, w, hy, hw, he⟩ := State.speculate_works (s.setSd n z) n b'
    rw [State.sd_setSd_same] at hy
    refine ⟨mask, w, hm, ?_, (hw.post.trans hy.post).trans hx.post, fun h => absurd hs.1 (by simp [b', h])⟩
    rw [← ho, he, State.setSd_setSd]
  · exact ⟨mask, x, hm, ho.symm, rfl, fun _ => rfl⟩

/-! ### The decision, R100, R104, R141 -/

namespace Strand

variable (st : Strand)

theorem batches_sweepApprovals : st.sweepApprovals.post.batches = st.post.batches := rfl

/-- A batch that ends is in the list as it ended, and its outcome waits. -/
theorem endBatch_ends {b c : Batch} (t status resLen detail : Nat) (h : st.batch b.order = some c) :
    (st.endBatch t b status resLen detail).batch b.order = some { b with ended := true }
    ∧ ∃ d ∈ (st.endBatch t b status resLen detail).done, d.job = b.job ∧ d.status = status ∧ d.resLen = resLen ∧ d.detail = detail ∧ d.ended = t :=
  ⟨batch_setBatch (b := { b with ended := true }) st h, done_finish ..⟩

/-- The path of ABORTED: the reservations end, and the batch with them, R100, R141. -/
def abortBatch (t : Nat) (b : Batch) (status detail : Nat) : Strand :=
  (st.unreserveAll b).endBatch t { b with phase := .aborted, reserved := [] } status 0 detail

theorem abortBatch_ends {b c : Batch} (t status detail : Nat) (h : st.batch b.order = some c) :
    ∃ b', (st.abortBatch t b status detail).batch b.order = some b' ∧ b'.phase = .aborted ∧ b'.reserved = []
      ∧ ∃ d ∈ (st.abortBatch t b status detail).done, d.job = b.job ∧ d.status = status ∧ d.resLen = 0 ∧ d.detail = detail := by
  have hu : (st.unreserveAll b).batch b.order = some { b with reserved := [] } :=
    (batch_congr (batches_sweepApprovals _) _).trans (batch_setBatch (b := { b with reserved := [] }) st h)
  obtain ⟨hb, d, hd, hj, hs, hl, hde, -⟩ := endBatch_ends (b := { b with phase := .aborted, reserved := [] }) (st.unreserveAll b) t status 0 detail hu
  exact ⟨_, hb, rfl, rfl, d, hd, hj, hs, hl, hde⟩

end Strand

theorem exec_batchDecision (n : Fin 4) (order : Nat) (s : State) : exec (.batchDecision n order) s = execBatchDecision n order s := rfl

/-- A batch whose check pass has ended at `t`. -/
def Batch.judged (b : Batch) (t : Nat) : Batch := { b with decision := some t }

/-- What a judged batch comes to: it ends with its fault or with the failure that is reported, or as a check that passed, or commits next. -/
def State.decided (s : State) (n : Fin 4) (x : Strand) (c : Batch) : State :=
  match c.fault, reported c.fails with
  | some k, _ => s.setSd n (x.abortBatch s.now (c.judged s.now) 0x7F (postDetail k 0 0 true))
  | none, some f => s.setSd n (x.abortBatch s.now (c.judged s.now) f.status (postDetail f.stage (f.place - 1) f.slot f.batch))
  | none, none => if c.check then s.setSd n ((x.clearSlot s.now c.order).abortBatch s.now (c.judged s.now) 0 0) else s.setSd n (x.setBatch (c.judged s.now))

section
variable {s : State} {n : Fin 4} {x : Strand} {c : Batch}

theorem State.decided_faulty {k : Nat} (h : c.fault = some k) : s.decided n x c = s.setSd n (x.abortBatch s.now (c.judged s.now) 0x7F (postDetail k 0 0 true)) := by
  unfold decided; rw [h]

theorem State.decided_failed {f : Fail} (h : c.fault = none) (hf : reported c.fails = some f) :
    s.decided n x c = s.setSd n (x.abortBatch s.now (c.judged s.now) f.status (postDetail f.stage (f.place - 1) f.slot f.batch)) := by
  unfold decided; rw [h, hf]

theorem State.decided_checked (h : c.fault = none) (hf : reported c.fails = none) (hc : c.check = true) :
    s.decided n x c = s.setSd n ((x.clearSlot s.now c.order).abortBatch s.now (c.judged s.now) 0 0) := by
  unfold decided; rw [h, hf]; exact if_pos hc

theorem State.decided_commits (h : c.fault = none) (hf : reported c.fails = none) (hc : c.check = false) :
    s.decided n x c = s.setSd n (x.setBatch (c.judged s.now)) := by
  unfold decided; rw [h, hf]; exact if_neg (by simp [hc])

end

/-- A batch in CHECKING whose sums differ fails stage 5 at the end of its check pass, R104. -/
def Strand.balanceChecked (st : Strand) (t : Nat) (b : Batch) : Strand :=
  match b.phase, Strand.unbalanced b.cur with
  | .checking, some k => st.failCheck t b ⟨5, 0, 1, 0x11, k, true⟩
  | _, _ => st

/-- At the end of its check pass a batch is judged. -/
theorem exec_batchDecision_judges {s : State} {n : Fin 4} {b c : Batch} (hh : (s.sd n).halted = false) (hb : (s.sd n).batch b.order = some b)
    (hl : b.parsed = b.recs.length) (hd : b.decision = none) (hp : b.phase = .checking ∨ b.phase = .aborted)
    (hc : ((s.sd n).balanceChecked s.now b).batch b.order = some c) :
    exec (.batchDecision n b.order) s = .next (s.decided n ((s.sd n).balanceChecked s.now b) c) := by
  have hdec : b.deciding = true := by rcases hp with hp | hp <;> simp [Batch.deciding, hp, hd]
  rw [exec_batchDecision]
  generalize ho : execBatchDecision n b.order s = o
  unfold execBatchDecision at ho
  extract_lets st at ho
  rw [show st.batch b.order = some b from hb] at ho
  dsimp -zeta only at ho
  rw [if_neg (by simp [st, hh, hdec, hl, hd])] at ho
  extract_lets x c0 c' finish at ho
  have hx : x = (s.sd n).balanceChecked s.now b := rfl
  have hc' : c' = c.judged s.now := by simp only [c', c0, hx, hc, Option.getD_some, Batch.judged]
  have ho' : c.order = b.order := Strand.batch_order _ hc
  clear_value c' c0 x
  subst hx hc'
  rw [← ho]
  simp only [finish, ← ho', State.decided, Batch.judged]
  rcases c.fault with _ | k
  · rcases reported c.fails with _ | f
    · dsimp only
      split <;> rfl
    · rfl
  · rfl

/-- The batch of a decision ends as one that was aborted. -/
theorem State.decided_ends {s : State} {n : Fin 4} {x : Strand} {b c d : Batch} {status detail : Nat} {o : Host.Outcome State Fault Refusal}
    (ho : o = .next (s.setSd n (x.abortBatch s.now c status detail))) (hc : x.batch b.order = some d) (hn : c.order = b.order) (hj : c.job = b.job) :
    ∃ t b', o = .next t ∧ OnlyStrand s t n ∧ (t.sd n).batch b.order = some b' ∧ b'.phase = .aborted ∧ b'.reserved = []
      ∧ ∃ d ∈ (t.sd n).done, d.job = b.job ∧ d.status = status ∧ d.resLen = 0 ∧ d.detail = detail := by
  obtain ⟨b', he⟩ := Strand.abortBatch_ends x s.now status detail (hn.symm ▸ hc)
  refine ⟨_, b', ho, onlyStrand_up s n fun _ => _, ?_⟩
  rw [State.sd_setSd_same, ← hn, ← hj]
  exact he

/-- Settles O18: a slot by what speculation adds to it, a record check by what becomes of the batch's verdict, a decision by what is reported. -/
theorem quarantineChecksAndDecision : Obligations.QuarantineChecksAndDecision := by
  unfold Obligations.QuarantineChecksAndDecision
  intro s n b
  refine ⟨fun k hb hk => ?_, fun hh hb => ⟨fun fault hp hl hr hw => ?_, fun hl hd => ⟨fun hp hf hfl => ⟨fun hu hc => ?_, fun k hu => ?_, fun hu hc => ?_⟩,
    fun hp => ⟨fun f hfl hf => ?_, fun k hfl => ?_⟩⟩⟩⟩
  · obtain ⟨m, y, hm, ht, hpost, hq⟩ := exec_quarantineSlotTake_takes hb hk
    refine ⟨_, m, ht, onlyStrand_up s n fun _ => _, ?_, hm, ?_, fun h => ?_⟩
    · rw [State.sd_setSd_same, hpost]; rfl
    · rw [State.sd_setSd_same, Strand.batch_congr (congrArg Post.batches hpost)]
      exact Strand.batch_setBatch_mem (b := { b with slot := some k }) (s.sd n) (List.mem_of_find?_eq_some hb) rfl
    · rw [State.sd_setSd_same, hq h]
  · obtain ⟨x, ht, hx⟩ := exec_recordCheck_checks fault hh hb hp hl hw
    obtain ⟨d, hd, hv, hfault, hparse⟩ := Strand.checkRecord_batch s.now fault hb hl hr
    have hclean : d.phase = .aborted ∨ d.phase = .checking ∧ d.fails = b.fails := hv.clean.imp_right fun ⟨h, g⟩ => ⟨h.trans hp, g⟩
    refine ⟨_, d, ht, onlyStrand_up s n fun _ => _, ?_, hv.parsed, hv.recs, hv.fails, hclean, hv.lastSeq, hfault, hparse⟩
    rw [State.sd_setSd_same]
    exact hx d hd hv.order
  · have hx : (s.sd n).balanceChecked s.now b = s.sd n := by unfold Strand.balanceChecked; rw [hp, hu]
    rw [exec_batchDecision_judges hh hb hl hd (.inl hp) (hx.symm ▸ hb), hx, State.decided_commits hfl (by simp [hf, reported]) hc]
    rfl
  · have hx : (s.sd n).balanceChecked s.now b = (s.sd n).failCheck s.now b ⟨5, 0, 1, 0x11, k, true⟩ := by
      unfold Strand.balanceChecked; rw [hp, hu]
    obtain ⟨c, hc, hv, -, hcf, hcl⟩ := Strand.failCheck_batch (s.sd n) s.now ⟨5, 0, 1, 0x11, k, true⟩ hb
    have ht := exec_batchDecision_judges hh hb hl hd (.inl hp) (hx.symm ▸ hc)
    rw [hx, State.decided_failed (f := ⟨5, 0, 1, 0x11, k, true⟩) (hcl.trans hfl) (by simp [hcf, hf, reported])] at ht
    exact State.decided_ends ht hc hv.order hv.job
  · have hx : (s.sd n).balanceChecked s.now b = s.sd n := by unfold Strand.balanceChecked; rw [hp, hu]
    have ht := exec_batchDecision_judges hh hb hl hd (.inl hp) (hx.symm ▸ hb)
    rw [hx, State.decided_checked hfl (by simp [hf, reported]) hc] at ht
    exact State.decided_ends ht hb rfl rfl
  · have hx : (s.sd n).balanceChecked s.now b = s.sd n := by unfold Strand.balanceChecked; rw [hp]
    have ht := exec_batchDecision_judges hh hb hl hd (.inr hp) (hx.symm ▸ hb)
    rw [hx, State.decided_failed hfl hf] at ht
    exact State.decided_ends ht hb rfl rfl
  · have hx : (s.sd n).balanceChecked s.now b = s.sd n := by unfold Strand.balanceChecked; rw [hp]
    have ht := exec_batchDecision_judges hh hb hl hd (.inr hp) (hx.symm ▸ hb)
    rw [hx, State.decided_faulty hfl] at ht
    exact State.decided_ends ht hb rfl rfl

end Sys2Proof.Machine
end


section
/-! O19: the commit of a batch, its hold limit and the clearing of its slot (R95, R100, R108, R130, R132, R164, R181). -/

namespace Sys2Proof.Machine
open Sys2Proof Sys2Proof.Claims

/-! ### Commit, R94, R95, R108, R164 -/

theorem markOf_raiseMark (l : List (Nat × Nat)) (sub mark : Nat) : markOf (raiseMark l sub mark) sub = max (markOf l sub) mark := by
  unfold raiseMark
  split
  · next h => omega
  · next h =>
    have hn : (l.filter (·.1 != sub)).find? (·.1 == sub) = none := by simp
    rw [markOf, List.find?_append, hn, Nat.max_eq_right (by omega)]
    simp

namespace Strand

variable (st : Strand)

/-- The registers of a 64-bit value hold it, cut to 64 bits. -/
theorem get64_put64 (lo : Fld) (v : Nat) : (st.put64 lo v).get64 lo = v % 2 ^ 64 := by
  unfold get64 put64
  rw [rd_wr_other _ _ (by omega), rd_wr_same, rd_wr_same]
  simp only [BitVec.toNat_ofNat]
  omega

theorem get64_put64_other {lo mo : Fld} (v : Nat) (h : lo.off + 8 ≤ mo.off) : (st.put64 mo v).get64 lo = st.get64 lo := by
  unfold get64 put64
  rw [rd_wr_other _ _ (by omega), rd_wr_other _ _ (by omega), rd_wr_other _ _ (by omega), rd_wr_other _ _ (by omega)]

theorem get64_congr {a b : Strand} (h : b.regs = a.regs) (lo : Fld) : b.get64 lo = a.get64 lo := by
  unfold get64 rd
  rw [h]

/-- The use of approvals leaves the batches, the journal and the registers as they are. -/
structure UseWork (a b : Strand) : Prop where
  batches : b.post.batches = a.post.batches
  jnl : b.jnl = a.jnl
  regs : b.regs = a.regs

theorem UseWork.trans {a b c : Strand} (h : UseWork a b) (g : UseWork b c) : UseWork a c :=
  ⟨g.batches.trans h.batches, g.jnl.trans h.jnl, g.regs.trans h.regs⟩

theorem SlotWork.useWork {a b : Strand} (h : SlotWork a b) : UseWork a b := by obtain ⟨_, rfl⟩ := h; exact ⟨rfl, rfl, rfl⟩

/-- One reservation becomes a use of its approval, R106. -/
def used (st : Strand) (r : Reserved) : Strand :=
  match st.post.approvals.find? fun a => a.num == r.app with
  | some a => st.setApproval { a with uses := a.uses - r.uses, removed := a.removed || a.uses - r.uses == 0 }
  | none => st

theorem consume_eq (b : Batch) : st.consume b = (b.reserved.foldl used st).unreserveAll b := rfl

theorem used_useWork (r : Reserved) : UseWork st (st.used r) := by unfold used; split <;> exact ⟨rfl, rfl, rfl⟩

theorem foldl_used_useWork (l : List Reserved) : UseWork st (l.foldl used st) := by
  induction l generalizing st with
  | nil => exact ⟨rfl, rfl, rfl⟩
  | cons r l ih => exact (used_useWork st r).trans (ih _)

/-- At commit the batch's reservations become uses, and end, R106, R108. -/
theorem consume_batch {b c : Batch} (h : st.batch b.order = some c) :
    ((st.setBatch b).consume b).batch b.order = some { b with reserved := [] } ∧ ((st.setBatch b).consume b).jnl = st.jnl
      ∧ ((st.setBatch b).consume b).regs = st.regs := by
  have hu := foldl_used_useWork (st.setBatch b) b.reserved
  rw [consume_eq]
  exact ⟨batch_setBatch (b := { b with reserved := [] }) _ ((batch_congr hu.batches _).trans (batch_setBatch st h)), hu.jnl, hu.regs⟩

theorem deliver_regs {env : JobEnv} {idx receiver : Nat} {key : Bytes} (h : (st.deliver env idx receiver key).2 = true) :
    (st.deliver env idx receiver key).1.regs = st.regs := by
  obtain ⟨-, -, he⟩ | ⟨-, he⟩ := deliver_cases st env idx receiver key
  · rw [he]; rfl
  · rw [he] at h; cases h

/-- A key that is released leaves the registers as they are. -/
theorem releaseLate_regs {t : Nat} {env : JobEnv} {fn gen h usage dest : Nat} {limits : Bool} {y : Strand} {k : List (Fld × Nat)} {c : Ctx}
    (hr : st.releaseLate t env fn gen h usage dest limits = (y, k, .inr c)) : y.regs = st.regs := by
  unfold releaseLate at hr
  obtain ⟨-, e⟩ | ⟨c, -, e | ⟨-, e⟩ | ⟨-, -, -, c', -, ⟨hd, e⟩ | ⟨-, e⟩⟩⟩ := release_cases st t env fn gen h usage dest limits
  · rw [e] at hr; cases hr
  · rw [e] at hr; cases hr
  · rw [e] at hr; cases hr
  · rw [e] at hr
    cases hr
    exact (deliver_regs _ hd).trans (putCtx_regs ..)
  · rw [e] at hr; cases hr

end Strand

/-- The keystream of a batch leaves the batches, the journal and the registers as they are. -/
theorem State.speculate_useWork (s : State) (n : Fin 4) (b : Batch) :
    ∃ y, Strand.UseWork (s.sd n) y ∧ s.speculate n b = s.setSd n y := by
  unfold speculate
  extract_lets rctx
  split
  · exact ⟨_, ⟨rfl, rfl, rfl⟩, (setSd_sd ..).symm⟩
  · have hr := Strand.releaseLate_keyWork (s.sd n) s.now b.job.env b.job.fn (s.jobGen b.job) rctx 1 0 false
    split
    · next e =>
      rw [e] at hr
      exact ⟨_, .trans ⟨congrArg Post.batches hr.post, hr.jnl, Strand.releaseLate_regs _ e⟩ (Strand.slotStream_slotWork _ b _).useWork, rfl⟩
    · exact ⟨_, ⟨rfl, rfl, rfl⟩, (setSd_sd ..).symm⟩

/-- The batches ahead of one that commits. -/
def Strand.ahead (st : Strand) : List Batch := st.post.batches.filter fun c => c.phase == .committed && !c.dead

/-- A batch as commit leaves it, R95, R164. -/
def Strand.committedBatch (st : Strand) (t : Nat) (b : Batch) : Batch :=
  { b with phase := .committed, commitAt := t, firstSeq := st.jnl.s.seq + (st.ahead.map fun c => c.recs.length).sum + 1
           entryNo := st.jnl.s.cur.no + st.ahead.length + 1 }

theorem exec_batchCommit (n : Fin 4) (order : Nat) (s : State) : exec (.batchCommit n order) s = execBatchCommit n order s := rfl

/-- The writer commits the oldest undecided batch once its check pass has ended. -/
theorem exec_batchCommit_commits {s : State} {n : Fin 4} {b : Batch} (hh : (s.sd n).halted = false) (hb : (s.sd n).batch b.order = some b)
    (hw : (s.sd n).writer = true) (hp : b.phase = .checking) (hd : b.decision.isSome = true)
    (ho : ∀ c ∈ (s.sd n).post.batches, c.order < b.order → c.deciding = false) :
    ∃ y, exec (.batchCommit n b.order) s = .next (s.setSd n y)
      ∧ y.batch b.order = some { (s.sd n).committedBatch s.now b with reserved := [] }
      ∧ y.jnl.s.marks = raiseMark (s.sd n).jnl.s.marks (Hdr.submitter b.header) b.lastSeq
      ∧ y.get64 R.PST_BATCH_LO = ((s.sd n).get64 R.PST_BATCH_LO + 1) % 2 ^ 64 := by
  rw [exec_batchCommit]
  generalize hg : execBatchCommit n b.order s = o
  unfold execBatchCommit at hg
  extract_lets st ahead at hg
  rw [show st.batch b.order = some b from hb] at hg
  dsimp -zeta only at hg
  have hany : (st.post.batches.any fun c => decide (c.order < b.order) && c.deciding) = false := by
    simpa [st] using ho
  rw [if_neg (by simp [st, hh, hw, hp, hany]; simpa [Option.isSome_iff_ne_none] using hd)] at hg
  extract_lets b1 _ _ _ _ x1 x2 s1 at hg
  obtain ⟨hcb, hcj, hcr⟩ := Strand.consume_batch (s.sd n) (b := b1) hb
  have hx : x2.batch b.order = some { b1 with reserved := [] } := hcb
  have hm : x2.jnl.s.marks = raiseMark (s.sd n).jnl.s.marks (Hdr.submitter b.header) b.lastSeq :=
    congrArg (fun j : Jnl => raiseMark j.s.marks (Hdr.submitter b.header) b.lastSeq) hcj
  have hc : x2.get64 R.PST_BATCH_LO = ((s.sd n).get64 R.PST_BATCH_LO + 1) % 2 ^ 64 := by
    have hr : x1.regs = (s.sd n).regs := hcr
    rw [Strand.get64_put64, Strand.get64_congr hr]
  have hc' : ((x2.put64 R.PST_REC_LO (x2.get64 R.PST_REC_LO + b1.recs.length)).get64 R.PST_BATCH_LO)
      = ((s.sd n).get64 R.PST_BATCH_LO + 1) % 2 ^ 64 := by rw [Strand.get64_put64_other _ _ (by decide), hc]
  split at hg
  · exact ⟨_, hg.symm, hx, hm, hc'⟩
  · have hf : Strand.SlotWork (s1.sd n) ((List.range b1.recs.length).foldl (fun (st : Strand) i => st.slotNodes b1 i) (s1.sd n)) :=
      .foldl _ (fun st i => Strand.slotNodes_slotWork st b1 i) _
    obtain ⟨y, hy, he⟩ := State.speculate_useWork (s1.up n fun st => (List.range b1.recs.length).foldl (fun (st : Strand) i => st.slotNodes b1 i) st) n b1
    rw [he] at hg
    rw [State.sd_up_same] at hy
    replace hy := hf.useWork.trans hy
    rw [State.sd_setSd_same] at hy
    refine ⟨y, ?_, ?_, ?_, ?_⟩
    · rw [← hg]; simp [s1, State.up]
    · rw [Strand.batch_congr hy.batches]; exact hx
    · rw [hy.jnl]; exact hm
    · rw [Strand.get64_congr hy.regs]; exact hc'

/-! ### The hold limit, R181 -/

theorem exec_holdLimitExpired (n : Fin 4) (order : Nat) (s : State) : exec (.holdLimitExpired n order) s = execHoldLimitExpired n order s := rfl

theorem exec_holdLimitExpired_ends {s : State} {n : Fin 4} {b : Batch} (hh : (s.sd n).halted = false) (hb : (s.sd n).batch b.order = some b)
    (he : b.ended = false) (hp : b.phase = .committed ∨ b.phase = .sealed) :
    let u := s.upTo (b.commitAt + 1000000000 * (s.sd n).get R.MIR_CTL_HOLD_LIMIT)
    exec (.holdLimitExpired n b.order) s = .next (u.up n fun st => st.endBatch u.now b 0x50 0 (postDetail 8 0 0 true)) := by
  rw [exec_holdLimitExpired, execHoldLimitExpired]
  simp only [hb]
  rw [if_neg (by simp [hh, he, hp])]

/-! ### The cleared slot, R130, R132 -/

theorem exec_slotClearDone (n : Fin 4) (k : Nat) (s : State) : exec (.slotClearDone n k) s = execSlotClearDone n k s := rfl

/-- The slots once the zeros of slot `k` are written. -/
def clearedSlots (q : QSlot) (k : Nat) (l : List QSlot) : List QSlot :=
  if q.free then l.filter (·.num != k) else l.map fun x => if x.num = k then { x with zeroAt := none } else x

theorem exec_slotClearDone_clears {s : State} {n : Fin 4} {k t0 : Nat} {q : QSlot} (hq : (s.sd n).post.slots.find? (fun x => x.num == k) = some q)
    (hz : q.zeroAt = some t0) : exec (.slotClearDone n k) s = .next ((s.upTo t0).up n fun st =>
      { st.upPost fun p => { p with slots := clearedSlots q k p.slots } with
        quar := st.quar.filter fun (c : Host.Cell) => decide (c.1 / 524288 ≠ k) }) := by
  rw [exec_slotClearDone, execSlotClearDone]
  simp only [hq, hz]
  rfl

theorem mem_clearedSlots_other (q : QSlot) {k : Nat} (l : List QSlot) {x : QSlot} (h : x.num ≠ k) : x ∈ clearedSlots q k l ↔ x ∈ l := by
  unfold clearedSlots
  split
  · simp [h]
  · rw [List.mem_map]
    constructor
    · rintro ⟨y, hy, rfl⟩
      split at h
      · next hk => exact absurd hk h
      · rwa [if_neg h]
    · exact fun hx => ⟨x, hx, if_neg h⟩

theorem zeroAt_of_mem_clearedSlots {q : QSlot} {k : Nat} {l : List QSlot} {x : QSlot} (hx : x ∈ clearedSlots q k l) (h : x.num = k) :
    q.free = false ∧ x.zeroAt = none := by
  unfold clearedSlots at hx
  split at hx
  · simp [h] at hx
  · next hf =>
    obtain ⟨y, -, rfl⟩ := List.mem_map.mp hx
    refine ⟨by simpa using hf, ?_⟩
    split
    · rfl
    · next hk => rw [if_neg hk] at h; exact absurd h hk

theorem mem_clearedSlots_kept {q : QSlot} {l : List QSlot} (hq : q ∈ l) (hf : q.free = false) : { q with zeroAt := none } ∈ clearedSlots q q.num l := by
  rw [clearedSlots, if_neg (by simp [hf]), List.mem_map]
  exact ⟨q, hq, if_pos rfl⟩

/-- Settles O19: commit by what the reservations and the keystream leave alone, the hold limit as a batch's end, a slot by its list. -/
theorem commitHoldLimitAndSlots : Obligations.CommitHoldLimitAndSlots := by
  unfold Obligations.CommitHoldLimitAndSlots
  intro s n b
  refine ⟨fun hh hb => ⟨fun hw hp hd ho => ?_, fun he hp => ?_⟩, fun k q t0 hq hz => ?_⟩
  · obtain ⟨y, ht, hyb, hym, hyc⟩ := exec_batchCommit_commits hh hb hw hp hd ho
    refine ⟨_, { (s.sd n).committedBatch s.now b with reserved := [] }, ht, onlyStrand_up s n fun _ => _, ?_, rfl, rfl, rfl, ⟨rfl, rfl⟩, ?_, ?_⟩
    all_goals rw [State.sd_setSd_same]
    · exact hyb
    · rw [hym, markOf_raiseMark]
    · exact hyc
  · refine ⟨_, exec_holdLimitExpired_ends hh hb he hp, rfl, onlyStrand_trans (onlyStrand_upTo ..) (onlyStrand_up ..), ?_⟩
    rw [State.sd_up_same]
    obtain ⟨-, d, hd, hj, hs, hl, -, ht⟩ := Strand.endBatch_ends ((s.upTo _).sd n) _ 0x50 0 (postDetail 8 0 0 true) hb
    exact ⟨d, hd, hj, hs, hl, ht⟩
  · have hk : q.num = k := by simpa using List.find?_some hq
    refine ⟨_, exec_slotClearDone_clears hq hz, rfl, onlyStrand_trans (onlyStrand_upTo ..) (onlyStrand_up ..), ?_⟩
    rw [State.sd_up_same, State.upTo_sd]
    refine ⟨rfl, fun c => ?_, fun x hx => mem_clearedSlots_other q _ hx, fun x hx h => zeroAt_of_mem_clearedSlots hx h, fun hf => ?_⟩
    · simp [List.mem_filter]
    · subst hk
      exact mem_clearedSlots_kept (List.mem_of_find?_eq_some hq) hf

end Sys2Proof.Machine
end


section
/-! O20: the preparation and the completion of a seal (R99, R112, R128, R134, R162, R164). -/

namespace Sys2Proof.Machine
open Sys2Proof Sys2Proof.Claims

/-! ### The engines of a seal, R282, R295 -/

namespace Strand

variable (st : Strand)

/-- `b` is `a` with other registers and other work on its engines. -/
def EngWork (a b : Strand) : Prop := ∃ regs eng, b = { a with regs := regs, eng := eng }

namespace EngWork

variable {a b c : Strand}

theorem refl (a : Strand) : EngWork a a := ⟨_, _, rfl⟩

theorem trans (h : EngWork a b) (g : EngWork b c) : EngWork a c := by
  obtain ⟨_, _, rfl⟩ := h
  obtain ⟨_, _, rfl⟩ := g
  exact ⟨_, _, rfl⟩

theorem put (h : EngWork a b) (f : Fld) (v : Nat) (k : Nat := 0) : EngWork a (b.put f v k) := h.trans ⟨_, _, rfl⟩

theorem upEng (h : EngWork a b) (f : Engines → Engines) : EngWork a (b.upEng f) := h.trans ⟨_, _, rfl⟩

theorem post (h : EngWork a b) : b.post = a.post := by obtain ⟨_, _, rfl⟩ := h; rfl

theorem jnl (h : EngWork a b) : b.jnl = a.jnl := by obtain ⟨_, _, rfl⟩ := h; rfl

end EngWork

/-- The strand's own work on an engine shows in the engine alone. -/
theorem berSeal_engine {t e cycles w : Nat} {x : Strand} (h : st.berSeal t e cycles = some (x, w)) : ∃ eng, x = { st with eng := eng } := by
  unfold berSeal at h
  split at h
  · cases h
  · cases h
    exact ⟨_, rfl⟩

theorem berAssign_engWork (t e : Nat) (j : Job) : EngWork st (st.berAssign t e j) := by
  unfold berAssign
  extract_lets x own wipe y z
  have hy : EngWork st y := (EngWork.refl st).upEng _
  have hz : EngWork st z := by
    unfold z
    split
    · exact hy.put _ _
    · exact hy
  exact ((hz.upEng _).put _ _).put _ _

end Strand

/-- From `s` to `t` the clock, the ring, host memory and every other strand stay, and strand `n` goes as `K` says. -/
structure Inside (K : Strand → Strand → Prop) (n : Fin 4) (s t : State) : Prop where
  now : t.now = s.now
  only : OnlyStrand s t n
  sd : K (s.sd n) (t.sd n)

theorem Inside.setSd {K : Strand → Strand → Prop} {n : Fin 4} {s : State} {x : Strand} (h : K (s.sd n) x) : Inside K n s (s.setSd n x) :=
  ⟨rfl, onlyStrand_up s n fun _ => x, by rwa [State.sd_setSd_same]⟩

theorem Inside.refl {K : Strand → Strand → Prop} (hr : ∀ x, K x x) (n : Fin 4) (s : State) : Inside K n s s :=
  ⟨rfl, ⟨⟨fun _ _ => rfl, rfl⟩, rfl⟩, hr _⟩

theorem Inside.trans {K : Strand → Strand → Prop} (ht : ∀ {x y z}, K x y → K y z → K x z) {n : Fin 4} {s t u : State} (h : Inside K n s t)
    (g : Inside K n t u) : Inside K n s u := ⟨g.now.trans h.now, onlyStrand_trans h.only g.only, ht h.sd g.sd⟩

theorem State.berStep_inside (s : State) (n : Fin 4) : Inside Strand.EngWork n s (s.berStep n) := by
  unfold berStep
  split
  · exact .setSd (.trans ⟨_, _, rfl⟩ (Strand.berAssign_engWork ..))
  · exact .refl .refl n s

theorem State.berNext_inside (s : State) (n : Fin 4) : Inside Strand.EngWork n s (s.berNext n) := by
  unfold berNext
  generalize (s.sd n).eng.berQ = l
  induction l generalizing s with
  | nil => exact .refl .refl n s
  | cons _ l ih => exact .trans .trans (s.berStep_inside n) (ih _)

theorem exec_sealPreparation (n : Fin 4) (order eng : Nat) (s : State) : exec (.sealPreparation n order eng) s = execSealPreparation n order eng s := rfl

/-- A batch as its preparation leaves it, R128. -/
def preparedBatch (b : Batch) (k eng w : Nat) : Batch :=
  { b with prep := some k, prepEng := eng, berJobs := b.berJobs + 1, berWipes := b.berWipes + w }

theorem exec_sealPreparation_prepares {s : State} {n : Fin 4} {b : Batch} {eng w : Nat} {x : Strand} (hh : (s.sd n).halted = false)
    (hb : (s.sd n).batch b.order = some b) (hx : (s.sd n).berSeal s.now eng (Strand.sealCycles b.sealAlg false) = some (x, w))
    (hc : b.check = false) (hp : b.prep = none) (hs : b.slot.isSome = true) (hph : b.phase = .checking ∧ b.spec = true ∨ b.phase = .committed) :
    exec (.sealPreparation n b.order eng) s = .next ((s.setSd n ((x.draw.2.setBatch (preparedBatch b x.draw.1 eng w)).slotPut b.order 0x40000
      (toLE 2048 x.draw.1))).berNext n) := by
  rw [exec_sealPreparation, execSealPreparation]
  simp only [hb, hx]
  rw [if_neg (by simp [hh, hc, hp, hph]; simpa [Option.isSome_iff_ne_none] using hs)]
  rfl

/-! ### The chain, R162, R164 -/

/-- The head of the live chain stays. -/
structure ChainKept (a b : Strand) : Prop where
  cur : b.jnl.s.cur = a.jnl.s.cur
  seq : b.jnl.s.seq = a.jnl.s.seq
  takeover : b.jnl.takeover = a.jnl.takeover

namespace ChainKept

variable {a b c : Strand}

theorem of_jnl (h : b.jnl = a.jnl) : ChainKept a b := by constructor <;> rw [h]

theorem refl (a : Strand) : ChainKept a a := .of_jnl rfl

theorem trans (h : ChainKept a b) (g : ChainKept b c) : ChainKept a c := ⟨g.cur.trans h.cur, g.seq.trans h.seq, g.takeover.trans h.takeover⟩

theorem of_notified (h : Notified a b) : ChainKept a b := by obtain ⟨_, _, _, rfl⟩ := h; exact .of_jnl rfl

end ChainKept

namespace Strand

variable (st : Strand)

theorem putBytes_notified (f : Fld) (b : Bytes) (k len : Nat) : Notified st (st.putBytes f b k len) := by
  induction len generalizing st k with
  | zero => exact .refl st
  | succ _ ih => exact Notified.trans ⟨_, _, _, rfl⟩ (ih _ _)

theorem put64_notified (lo : Fld) (v : Nat) : Notified st (st.put64 lo v) := ⟨_, _, _, rfl⟩

theorem jnlSync_notified : Notified st st.jnlSync := by
  unfold jnlSync
  extract_lets j x1 x2 x3 x4 x5 x6 x7 x8
  have h4 : Notified st x4 := (((put64_notified ..).trans (put64_notified ..)).trans (put64_notified ..)).trans (put64_notified ..)
  have h8 : Notified st x8 := ((((h4.put _ _).put _ _).put _ _).put _ _).put _ _
  exact (h8.trans (putBytes_notified ..)).trans (putBytes_notified ..)

theorem progDrop_notified (o : Nat) : Notified st (st.progDrop o) := by
  unfold progDrop
  extract_lets w
  split <;> exact ⟨_, _, _, rfl⟩

theorem mirErr_notified (code : Nat) : Notified st (st.mirErr code) := noteErr_notified st (fun x => .refl x) ..

theorem dropSession_jnl : st.dropSession.jnl = st.jnl := by
  have hf : ∀ (x : Strand) (k : Option Nat), (match k.bind x.slot with | some c => x.freeCtx c | none => x).jnl = x.jnl := by
    intro x k
    split <;> rfl
  unfold dropSession
  extract_lets free
  exact (hf _ _).trans (hf _ _)

theorem upMir_chainKept (f : Mir → Mir) : ChainKept st (st.upMir f) := .of_jnl rfl

theorem recallMarks_chainKept : ChainKept st st.recallMarks := ⟨rfl, rfl, rfl⟩

theorem unpair_chainKept (step : MirStep) : ChainKept st (st.unpair step) := by
  unfold unpair
  refine .trans ?_ (.of_notified (progDrop_notified ..))
  refine .trans ?_ (.of_jnl (dropSession_jnl _))
  refine .trans ?_ (upMir_chainKept ..)
  exact (recallMarks_chainKept st).trans (.of_notified (((Notified.refl _).put _ _).put _ _))

theorem trimBuf_chainKept : ChainKept st st.trimBuf := ⟨rfl, rfl, rfl⟩

/-- A frame that goes out leaves the journal as it is. -/
theorem lineSend_jnl (ftype flags ctr : Nat) (data payload tag : Bytes) : (st.lineSend ftype flags ctr data payload tag).jnl = st.jnl := rfl

theorem mirSend_chainKept (t ftype : Nat) (payload : Bytes) : ChainKept st (st.mirSend t ftype payload) := by
  unfold mirSend
  extract_lets m
  split
  · exact .refl st
  · split
    · exact .refl st
    · split
      · exact ((ChainKept.of_notified (mirErr_notified st 3)).trans (unpair_chainKept ..)).trans (upMir_chainKept ..)
      · exact .of_jnl (lineSend_jnl ..)

theorem endBatch_jnl (t : Nat) (b : Batch) (status resLen detail : Nat) : (st.endBatch t b status resLen detail).jnl = st.jnl := rfl

theorem countLate_jnl (order : Nat) (counts : List (Fld × Nat)) : (st.countLate order counts).jnl = st.jnl := by
  have ha : ∀ (l : List (Fld × Nat)) (x : Strand), (l.foldl (fun st c => st.add c.1 c.2) x).jnl = x.jnl := by
    intro l
    induction l with
    | nil => exact fun _ => rfl
    | cons c l ih => exact fun x => ih _
  unfold countLate
  split
  · rfl
  · split
    · exact ha ..
    · split <;> rfl

end Strand

/-- What a step makes of the device: the clock and the other strands stay, and the head of the chain of strand `n`. -/
structure ChainInside (n : Fin 4) (s t : State) : Prop where
  now : t.now = s.now
  others : ∀ m, m ≠ n → t.sd m = s.sd m
  sd : ChainKept (s.sd n) (t.sd n)

namespace ChainInside

variable {n : Fin 4} {s t u : State}

theorem refl (n : Fin 4) (s : State) : ChainInside n s s := ⟨rfl, fun _ _ => rfl, .refl _⟩

theorem trans (h : ChainInside n s t) (g : ChainInside n t u) : ChainInside n s u :=
  ⟨g.now.trans h.now, fun m hm => (g.others m hm).trans (h.others m hm), h.sd.trans g.sd⟩

theorem setSd {x : Strand} (h : ChainKept (s.sd n) x) : ChainInside n s (s.setSd n x) :=
  ⟨rfl, fun _ hm => State.sd_setSd_other _ _ hm, by rwa [State.sd_setSd_same]⟩

end ChainInside

/-- A batch that ends leaves the head of the chain. -/
theorem ChainInside.endBatch {n : Fin 4} {s t : State} (h : ChainInside n s t) (b : Batch) (status resLen detail : Nat) :
    ChainInside n s (t.up n fun st => st.endBatch t.now b status resLen detail) :=
  h.trans (.setSd (.of_jnl (Strand.endBatch_jnl ..)))

/-- A receipt that goes out leaves the head of the chain, R112. -/
theorem State.releaseBatch_chain (s : State) (n : Fin 4) (b : Batch) : ChainInside n s (s.releaseBatch n b) := by
  unfold releaseBatch
  extract_lets st j plain rctx write
  have hw : ∀ t out, ChainInside n s t → ChainInside n s (write t out) := by
    intro t out ht
    unfold write
    split
    · have hm : ChainInside n t { t with mem := Mem.writeBytes t.mem j.seg0.outAddr out } := ⟨rfl, fun _ _ => rfl, .refl _⟩
      exact (ht.trans hm).endBatch ..
    · have he : ChainInside n t (t.hqErr 3 j.sq 0 j.fn) := ⟨hqErr_now .., fun _ _ => hqErr_sd .., by rw [hqErr_sd]; exact .refl _⟩
      have hb := (ht.trans he).endBatch { b with phase := .released } 0x40 0 (2 * 2 ^ 16)
      rwa [hqErr_now] at hb
  split
  · exact .refl n s
  · split
    · exact (ChainInside.refl n s).endBatch ..
    · split
      · exact hw _ _ (.refl n s)
      · have hr := Strand.releaseLate_keyWork st s.now j.env j.fn (s.jobGen j) rctx 1 0 false
        split
        · next e => rw [e] at hr; exact .setSd (.of_jnl ((Strand.pstFault_keyWork ..).jnl.trans hr.jnl))
        · next e => rw [e] at hr; exact .setSd (.of_jnl ((Strand.countLate_jnl ..).trans ((Strand.pstFault_keyWork ..).jnl.trans hr.jnl)))
        · next e =>
          rw [e] at hr
          exact hw _ _ (.setSd (.of_jnl hr.jnl))

theorem State.releaseAll_chain (s : State) (n : Fin 4) : ChainInside n s (s.releaseAll n) := by
  unfold releaseAll
  generalize (s.sd n).post.batches.filter (fun b => b.phase == .sealed) = l
  induction l generalizing s with
  | nil => exact .refl n s
  | cons b l ih =>
    refine .trans ?_ (ih _)
    dsimp only
    split
    · exact s.releaseBatch_chain n _
    · exact .refl n s

/-! ### The entry, R163, R164 -/

theorem leNat_toLE (n v : Nat) : leNat (toLE n v) = v % 256 ^ n := by
  induction n generalizing v with
  | zero => simp [toLE, leNat, Nat.mod_one]
  | succ n ih =>
    rw [toLE, leNat, ih, BitVec.toNat_ofNat, Nat.pow_succ' (n := n), Nat.mod_mul]

/-- A number that lies within the first `m` bytes is read from them. -/
theorem le_fit {m off n v : Nat} {a r : Bytes} (ha : a.length = off) (hm : off + n ≤ m) : le (fit m (a ++ (toLE n v ++ r))) off n = v % 256 ^ n := by
  have hs : sub (fit m (a ++ (toLE n v ++ r))) off n = toLE n v := by
    unfold sub fit
    rw [List.drop_take, List.take_take, Nat.min_eq_left (by omega), List.append_assoc, List.append_assoc, ← ha, List.drop_left]
    exact List.take_left' (length_toLE n v)
  rw [le, hs, leNat_toLE]

namespace Strand

variable (st : Strand) (ident : Bytes) (b : Batch) (gen time : Nat) (root j sig : Bytes)

theorem joinChain_no (e : Entry) : (st.joinChain e).jnl.s.cur.no = e.no := rfl

theorem joinChain_seq (e : Entry) : (st.joinChain e).jnl.s.seq = e.lastSeq := rfl

theorem makeEntry_no : (st.makeEntry ident b gen time root j sig).no = b.entryNo % 2 ^ 64 := by
  have h : ∃ r, (st.makeEntry ident b gen time root j sig).head
      = fit 512 ((ascii "LJNL" ++ toLE 1 1 ++ toLE 1 st.id.val ++ toLE 1 b.sealAlg ++ toLE 1 (Hdr.pathMode b.header)) ++ (toLE 8 b.entryNo ++ r)) :=
    ⟨_, by unfold makeEntry; simp only [List.append_assoc]; rfl⟩
  obtain ⟨r, h⟩ := h
  rw [Entry.no, h]
  exact le_fit (by simp only [List.length_append, length_toLE]; decide) (by decide)

theorem makeEntry_lastSeq : (st.makeEntry ident b gen time root j sig).lastSeq = (b.firstSeq + b.recs.length - 1) % 2 ^ 64 := by
  have h : ∃ r, (st.makeEntry ident b gen time root j sig).head
      = fit 512 ((ascii "LJNL" ++ toLE 1 1 ++ toLE 1 st.id.val ++ toLE 1 b.sealAlg ++ toLE 1 (Hdr.pathMode b.header) ++ toLE 8 b.entryNo
          ++ toLE 8 b.firstSeq) ++ (toLE 8 (b.firstSeq + b.recs.length - 1) ++ r)) :=
    ⟨_, by unfold makeEntry; simp only [List.append_assoc]; rfl⟩
  obtain ⟨r, h⟩ := h
  rw [Entry.lastSeq, h]
  exact le_fit (by simp only [List.length_append, length_toLE]; decide) (by decide)

end Strand

theorem exec_sealCompletion (n : Fin 4) (order eng : Nat) (ok : Bool) (s : State) :
    exec (.sealCompletion n order eng ok) s = execSealCompletion n order eng ok s := rfl

section
variable {s : State} {n : Fin 4} {b : Batch} {eng w : Nat} {x : Strand} (hh : (s.sd n).halted = false) (hb : (s.sd n).batch b.order = some b)
  (hx : (s.sd n).berSeal s.now eng (Strand.sealCycles b.sealAlg true) = some (x, w)) (hw : (s.sd n).writer = true) (hp : b.phase = .committed)
  (hd : b.dead = false) (hn : b.prep.isSome = true)
  (hc : ∀ c ∈ (s.sd n).post.batches, c.order < b.order → c.phase = .committed → c.dead = true)
include hh hb hx hw hp hd hn hc

/-- While the seal key is refused the entry waits, behind a fault of stage 7, R99. -/
theorem exec_sealCompletion_refused {y : Strand} {k : List (Fld × Nat)} {e : Nat} (ok : Bool)
    (hr : x.releaseLate s.now b.job.env 0xFF 0 b.sealCtx (2 ^ 4) 1 false = (y, k, .inl e)) (he : e ≠ 0x7F) :
    exec (.sealCompletion n b.order eng ok) s = .next (s.setSd n ((y.pstFault s.now 7 b.order).countLate b.order k)) := by
  obtain ⟨nonce, hn⟩ := Option.isSome_iff_exists.mp hn
  rw [exec_sealCompletion, execSealCompletion]
  simp only [hb]
  rw [if_neg (by simpa [hh, hw, hp, hd] using hc)]
  simp only [hn, hx, hr]

/-- With the seal key the entry becomes the head of the chain, R162, R164. -/
theorem exec_sealCompletion_seals {y : Strand} {k : List (Fld × Nat)} {c : Ctx}
    (hr : x.releaseLate s.now b.job.env 0xFF 0 b.sealCtx (2 ^ 4) 1 false = (y, k, .inr c)) :
    ∃ z, exec (.sealCompletion n b.order eng true) s = .next (((s.setSd n z).berNext n).releaseAll n)
      ∧ z.jnl.s.cur.no = ((s.sd n).jnl.s.cur.no + 1) % 2 ^ 64 ∧ z.jnl.s.seq = ((s.sd n).jnl.s.seq + b.recs.length) % 2 ^ 64
      ∧ z.jnl.takeover = false := by
  obtain ⟨nonce, hn⟩ := Option.isSome_iff_exists.mp hn
  rw [exec_sealCompletion]
  generalize hg : execSealCompletion n b.order eng true s = o
  unfold execSealCompletion at hg
  extract_lets st at hg
  rw [show st.batch b.order = some b from hb] at hg
  dsimp -zeta only at hg
  rw [if_neg (by simpa [st, hh, hw, hp, hd] using hc)] at hg
  rw [hn, show st.berSeal s.now eng (Strand.sealCycles b.sealAlg true) = some (x, w) from hx] at hg
  dsimp -zeta only at hg
  extract_lets b1 _ root at hg
  rw [hr] at hg
  dsimp -zeta only at hg
  rw [if_neg (by decide)] at hg
  extract_lets clock time j head sig b2 y1 _ y2 _ y3 y4 at hg
  have hj : x.jnl = (s.sd n).jnl := by
    obtain ⟨_, rfl⟩ := Strand.berSeal_engine _ hx
    rfl
  have hk : ChainKept y2 y3 := by
    refine .trans ?_ (Strand.mirSend_chainKept ..)
    split
    · exact .of_jnl rfl
    · exact .refl y2
  have h4 : ChainKept y3 y4 := .of_jnl rfl
  have hz := ((hk.trans h4).trans (Strand.trimBuf_chainKept y4)).trans (.of_notified (Strand.jnlSync_notified _))
  refine ⟨_, hg.symm, ?_, ?_, hz.takeover⟩
  · have he : y1.jnl.s.cur.no = b2.entryNo % 2 ^ 64 := (Strand.joinChain_no ..).trans (Strand.makeEntry_no ..)
    rw [hz.cur, ← hj]
    exact he
  · have he : y1.jnl.s.seq = (b2.firstSeq + b2.recs.length - 1) % 2 ^ 64 := (Strand.joinChain_seq ..).trans (Strand.makeEntry_lastSeq ..)
    rw [hz.seq, ← hj]
    refine he.trans (congrArg (· % 2 ^ 64) ?_)
    simp only [b2, b1]
    omega

end

namespace Strand

variable (st : Strand)

/-- Behind a fault of the posting engine its record is in use, R127. -/
theorem pstErr_valid (stage order : Nat) : (st.pstErr stage order).flag R.PST_ERR_VALID = true := by
  unfold pstErr
  cases h : st.flag R.PST_ERR_VALID with
  | true =>
    rw [noteErr_later h]
    exact (congrArg (· == 1) (get_put_apart st (f := R.PST_ERR_OVERFLOW) (g := R.PST_ERR_VALID) _ rfl (by decide) (by decide))).trans h
  | false =>
    refine ((noteErr_first_shown h).flag _ (by decide)).trans (congrArg (· == 1) ?_ : _ = ((1 : Nat) == 1))
    simp (disch := decide) only [get_put_same, get_put_apart, get_put_other]
    rfl

/-- An event shows in the registers of the sentinel alone. -/
theorem rd_countEvent (t src det island reading : Nat) {o : Nat} (ho : o < 0x1000000) : (st.countEvent t src det island reading).rd o = st.rd o := by
  have he : o ≠ R.JSP_SRC_CNT_EVENTS.at src := by simp only [Fld.at, R.JSP_SRC_CNT_EVENTS]; omega
  have hf : o ≠ R.JSP_SRC_CNT_FIRINGS.at src := by simp only [Fld.at, R.JSP_SRC_CNT_FIRINGS]; omega
  obtain h | h := countEvent_regs st t src det island reading
  · rw [rd_congr h, rd_bump_other st he]
  · rw [rd_congr h, rd_bump_other _ hf, rd_bump_other st he]

theorem rd_event (t src det island reading : Nat) {o : Nat} (ho : o < 0x1000000) : (st.event t src det island reading).rd o = st.rd o := by
  unfold event
  extract_lets x
  split
  · exact (rd_countEvent _ _ _ _ _ _ ho).trans (rd_countEvent _ _ _ _ _ _ ho)
  · exact rd_countEvent _ _ _ _ _ _ ho

theorem pstFault_valid (t stage order : Nat) : (st.pstFault t stage order).flag R.PST_ERR_VALID = true :=
  (congrArg (fun w => R.PST_ERR_VALID.ofWord w == 1) (rd_event _ _ _ _ _ _ (by decide))).trans (st.pstErr_valid stage order)

/-- What a late release counts: its refusal alone, in a register of the vault, R136. -/
theorem releaseLate_counts {t : Nat} {env : JobEnv} {fn gen h usage dest : Nat} {limits : Bool} {y : Strand} {k : List (Fld × Nat)} {r : Nat ⊕ Ctx}
    (hr : st.releaseLate t env fn gen h usage dest limits = (y, k, r)) : ∀ c ∈ k, R.PST_ERR_VALID.off ≠ c.1.off := by
  unfold releaseLate at hr
  split at hr <;> cases hr <;> simp [R.PST_ERR_VALID, R.ONX_ABSENT, R.ONX_DENIED]

theorem countLate_valid (order : Nat) {counts : List (Fld × Nat)} (h : ∀ c ∈ counts, R.PST_ERR_VALID.off ≠ c.1.off) :
    (st.countLate order counts).flag R.PST_ERR_VALID = st.flag R.PST_ERR_VALID := by
  have ha : ∀ (l : List (Fld × Nat)) (x : Strand), (∀ c ∈ l, R.PST_ERR_VALID.off ≠ c.1.off) →
      (l.foldl (fun st c => st.add c.1 c.2) x).flag R.PST_ERR_VALID = x.flag R.PST_ERR_VALID := by
    intro l
    induction l with
    | nil => exact fun _ _ => rfl
    | cons c l ih =>
      intro x hl
      have hc : R.PST_ERR_VALID.at 0 ≠ c.1.at 0 := by simpa [Fld.at] using hl c (by simp)
      exact (ih _ fun d hd => hl d (by simp [hd])).trans (congrArg (· == 1) (get_add_other x _ hc))
  unfold countLate
  split
  · rfl
  · split
    · exact ha _ _ h
    · split <;> rfl

/-- A late count changes what a batch still waits to count, R136. -/
theorem countLate_batch {b : Batch} (counts : List (Fld × Nat)) (h : st.batch b.order = some b) :
    ∃ b', (st.countLate b.order counts).batch b.order = some b' ∧ b'.phase = b.phase := by
  have ha : ∀ (l : List (Fld × Nat)) (x : Strand), (l.foldl (fun st c => st.add c.1 c.2) x).post = x.post := by
    intro l
    induction l with
    | nil => exact fun _ => rfl
    | cons c l ih => exact fun x => ih _
  unfold countLate
  rw [h]
  dsimp only
  split
  · exact ⟨b, (batch_congr (congrArg Post.batches (ha ..)) _).trans h, rfl⟩
  · split
    · exact ⟨b, h, rfl⟩
    · exact ⟨_, batch_setBatch (b := { b with counts := b.counts ++ counts }) st h, rfl⟩

end Strand

/-- Settles O20: the preparation and the refusal by what they leave of the batch, the seal by the numbers in the entry's head. -/
theorem sealingFormsTheEntry : Obligations.SealingFormsTheEntry := by
  unfold Obligations.SealingFormsTheEntry
  intro s n b eng w x hh hb
  refine ⟨fun hx hc hp hs hph => ?_, fun hx hw hp hd hn hc => ⟨fun y k c hr hno hseq => ?_, fun y k e ok hr he => ?_⟩⟩
  · have hi := (s.setSd n ((x.draw.2.setBatch (preparedBatch b x.draw.1 eng w)).slotPut b.order 0x40000 (toLE 2048 x.draw.1))).berNext_inside n
    refine ⟨_, preparedBatch b x.draw.1 eng w, exec_sealPreparation_prepares hh hb hx hc hp hs hph,
      onlyStrand_trans (onlyStrand_up s n fun _ => _) hi.only, ?_, rfl, rfl, rfl, rfl, rfl⟩
    have hb' : x.draw.2.batch b.order = some b := by
      obtain ⟨_, rfl⟩ := Strand.berSeal_engine _ hx
      exact hb
    rw [Strand.batch_congr (congrArg Post.batches hi.sd.post), State.sd_setSd_same,
      Strand.batch_congr (congrArg Post.batches (Strand.slotPut_slotWork ..).post)]
    exact Strand.batch_setBatch (b := preparedBatch b x.draw.1 eng w) _ hb'
  · obtain ⟨z, ht, hzno, hzseq, hzt⟩ := exec_sealCompletion_seals hh hb hx hw hp hd hn hc hr
    have hi := ((s.setSd n z).berNext_inside n)
    have hr := ((s.setSd n z).berNext n).releaseAll_chain n
    have hk : ChainKept z ((((s.setSd n z).berNext n).releaseAll n).sd n) := by
      have h := (ChainKept.of_jnl hi.sd.jnl).trans hr.sd
      rwa [State.sd_setSd_same] at h
    refine ⟨_, ht, fun m hm => ?_, hr.now.trans hi.now, ?_, ?_, hk.takeover.trans hzt⟩
    · rw [hr.others m hm, hi.only.1.1 m hm, State.sd_setSd_other _ _ hm]
    · rw [hk.cur, hzno, Nat.mod_eq_of_lt hno]
    · rw [hk.seq, hzseq, Nat.mod_eq_of_lt hseq]
  · have hy := Strand.releaseLate_keyWork x s.now b.job.env 0xFF 0 b.sealCtx (2 ^ 4) 1 false
    rw [hr] at hy
    have hf : KeyWork x (y.pstFault s.now 7 b.order) := hy.trans (Strand.pstFault_keyWork ..)
    obtain ⟨_, rfl⟩ := Strand.berSeal_engine _ hx
    have hb' : (y.pstFault s.now 7 b.order).batch b.order = some b := (Strand.batch_congr (congrArg Post.batches hf.post) _).trans hb
    obtain ⟨b', hc', hph⟩ := Strand.countLate_batch _ k hb'
    refine ⟨_, b', exec_sealCompletion_refused hh hb hx hw hp hd hn hc ok hr he, onlyStrand_up s n fun _ => _, ?_⟩
    rw [State.sd_setSd_same]
    refine ⟨hc', hph.trans hp, (Strand.countLate_jnl ..).trans hf.jnl, ?_⟩
    rw [Strand.countLate_valid _ _ (Strand.releaseLate_counts _ hr)]
    exact Strand.pstFault_valid ..

end Sys2Proof.Machine
end


section
/-! O22: the verifier's opcodes, PIN translation and the submitter query (R106, R109, R110, R115, R679). -/

namespace Sys2Proof.Machine
open Sys2Proof Sys2Proof.Claims

/-- A job that the strand serves does its work. -/
theorem runJob_of_served {s : State} {n : Fin 4} {j : Job} (h : Served s n j) (work : State → State) : s.runJob n j work = work s := by
  obtain ⟨hh, hm, hd, hr, hc⟩ := h
  exact State.runJob_served hh hm hc hd hr work

theorem exec_approvalConfirm (n : Fin 4) (j : Job) (s : State) : exec (.approvalConfirm n j) s = execApprovalConfirm n j s := rfl

theorem exec_approvalRevoke (n : Fin 4) (j : Job) (s : State) : exec (.approvalRevoke n j) s = execApprovalRevoke n j s := rfl

theorem exec_approvalQuery (n : Fin 4) (j : Job) (s : State) : exec (.approvalQuery n j) s = execApprovalQuery n j s := rfl

theorem exec_relayBuffer (n : Fin 4) (j : Job) (s : State) : exec (.relayBuffer n j) s = execRelayBuffer n j s := rfl

/-- Where no notice waits, none takes a buffer. -/
theorem State.notify_idle {s : State} {n : Fin 4} (hw : (s.sd n).post.waits = []) : s.notify n = s := by
  unfold notify
  cases (s.sd n).post.buffers.length with
  | zero => rfl
  | succ k => simp [serveNotices, hw]

theorem exec_approvalExpiry (n : Fin 4) (ref : Bytes) (sta : Nat) (s : State) : exec (.approvalExpiry n ref sta) s = execApprovalExpiry n ref sta s := rfl

theorem exec_pinTranslate (n : Fin 4) (j : Job) (s : State) : exec (.pinTranslate n j) s = execPinTranslate n j s := rfl

theorem length_pinTranslate {src dst : Nat} {k1 k2 block acct out : Bytes} (ho : pinTranslate src dst k1 k2 block acct = some out) :
    out.length = pinLen dst := by
  unfold pinTranslate at ho
  split at ho
  · split at ho
    · cases ho; simp
    · cases ho
  · cases ho

theorem exec_submitterQuery (n : Fin 4) (j : Job) (s : State) : exec (.submitterQuery n j) s = execSubmitterQuery n j s := rfl

section
variable {s : State} {n : Fin 4} {j : Job} (h : Served s n j)
include h

/-! ### The verifier, R106, R110, R679 -/

/-- A verifier's opcode of the queue's owner meets the approval that its input names. -/
theorem verifierJob_owner (ho : s.rget R.HQ_CQ_CFG_OWNER ((s.sd n).get R.PST_RELAY_CQ_QUEUE) = j.fn) (hi : j.input.length = 18)
    {a : Option Approval} (ha : (s.sd n).approval (sub j.input 0 16) (le j.input 16 2) = a) (work : Option Approval → State → State) :
    s.verifierJob n j work = work a s := by
  unfold State.verifierJob
  rw [runJob_of_served h]
  dsimp only
  rw [if_neg (fun hn => hn.2 ho), if_neg (not_not.mpr hi), ha]

/-- A function that does not own the queue is refused. -/
theorem verifierJob_other (ho : s.rget R.HQ_CQ_CFG_OWNER ((s.sd n).get R.PST_RELAY_CQ_QUEUE) ≠ j.fn) (hc : j.cop = none)
    (work : Option Approval → State → State) : s.verifierJob n j work = s.fail n j 0x1A := by
  unfold State.verifierJob
  rw [runJob_of_served h]
  exact if_pos ⟨by simp [hc], ho⟩

/-- A buffer that nothing waits for is held, R110. -/
theorem exec_relayBuffer_held (hw : (s.sd n).post.waits = []) (hn : ∀ k ∈ (s.sd n).taken, k.id ≠ j.id) :
    exec (.relayBuffer n j) s = .next (s.up n fun st =>
      { st.upPost fun p => { p with buffers := p.buffers ++ [j] } with taken := st.taken ++ [j] }) := by
  have ht : ((s.sd n).taken.any fun k => k.id == j.id) = false := by simpa using hn
  rw [exec_relayBuffer, execRelayBuffer, runJob_of_served h, State.notify_idle (by rw [State.sd_up_same]; exact hw)]
  simp only [State.up, ht, Bool.false_eq_true, if_false]

/-! ### PIN blocks, R109, R115 -/

/-- A translation outside the table is an invalid operand. -/
theorem exec_pinTranslate_outside (ha : pinAllowed (s.sd n) (bits j.w6 0 8) (bits j.w6 8 8) = false) :
    exec (.pinTranslate n j) s = .next (s.fail n j 0x41) := by
  rw [exec_pinTranslate, execPinTranslate, runJob_of_served h]
  simp only [ha, Bool.not_false, if_true]

section
variable {x y : Strand} {c1 c2 : Ctx} (ha : pinAllowed (s.sd n) (bits j.w6 0 8) (bits j.w6 8 8) = true) (hl : pinLen (bits j.w6 8 8) ≤ j.seg0.outLen)
  (h1 : (s.sd n).release s.now j.env j.fn (s.jobGen j) j.ctx (2 ^ 9) 0 true = (x, .inr c1))
  (h2 : x.release s.now j.env j.fn (s.jobGen j) (j.w7 % 2 ^ 32) (2 ^ 9) 0 true = (y, .inr c2))
include ha hl h1 h2

/-- With both keys of the right type the block is translated, or fails its check. -/
theorem exec_pinTranslate_keyed (k1 : pinKeyOk (bits j.w6 0 8) c1.attr.alg = true) (k2 : pinKeyOk (bits j.w6 8 8) c2.attr.alg = true) :
    exec (.pinTranslate n j) s = .next ((s.setSd n y).fail n j 0x41)
      ∨ ∃ out, out.length = pinLen (bits j.w6 8 8) ∧ exec (.pinTranslate n j) s = .next ((s.setSd n y).succeed n j out) := by
  rw [exec_pinTranslate, execPinTranslate, runJob_of_served h]
  simp only [ha, Bool.not_true, Bool.false_eq_true, if_false, State.room_fits hl, h1, h2, k1, k2, not_true_eq_false, or_self]
  split
  · next out ho => exact .inr ⟨out, length_pinTranslate ho, rfl⟩
  · exact .inl rfl

/-- A key of the wrong type is refused. -/
theorem exec_pinTranslate_wrongKey (hk : pinKeyOk (bits j.w6 0 8) c1.attr.alg = false ∨ pinKeyOk (bits j.w6 8 8) c2.attr.alg = false) :
    exec (.pinTranslate n j) s = .next ((s.setSd n y).fail n j 0x21) := by
  rw [exec_pinTranslate, execPinTranslate, runJob_of_served h]
  simp only [ha, Bool.not_true, Bool.false_eq_true, if_false, State.room_fits hl, h1, h2]
  rw [if_pos (by simpa using hk)]

end

/-! ### Submitters, R115 -/

theorem exec_submitterQuery_answers (ho : j.fn = 0 ∨ j.cop.isSome = true ∨ s.submitterOk n j.fn (bits j.w6 0 12) = true) (hl : 8 ≤ j.seg0.outLen) :
    exec (.submitterQuery n j) s = .next (s.succeed n j (toLE 8 (markOf (s.sd n).jnl.s.marks (bits j.w6 0 12)))) := by
  have hn : ¬ (j.fn ≠ 0 ∧ j.cop.isNone = true ∧ ¬ s.submitterOk n j.fn (bits j.w6 0 12) = true) := by
    rintro ⟨hf, hc, hs⟩
    obtain h0 | h0 | h0 := ho
    · exact hf h0
    · rw [Option.isNone_iff_eq_none.mp hc] at h0
      cases h0
    · exact hs h0
  rw [exec_submitterQuery, execSubmitterQuery, runJob_of_served h]
  dsimp only
  rw [if_neg hn, State.room_fits hl]

theorem exec_submitterQuery_other (hf : j.fn ≠ 0) (hc : j.cop = none) (hs : s.submitterOk n j.fn (bits j.w6 0 12) = false) :
    exec (.submitterQuery n j) s = .next (s.fail n j 0x41) := by
  rw [exec_submitterQuery, execSubmitterQuery, runJob_of_served h]
  exact congrArg Host.Outcome.next (if_pos ⟨hf, by simp [hc], by simp [hs]⟩)

end

/-- Settles O22: each opcode by what its job meets once the strand serves it. -/
theorem approvalsPinBlocksAndSubmitters : Obligations.ApprovalsPinBlocksAndSubmitters := by
  unfold Obligations.ApprovalsPinBlocksAndSubmitters
  refine ⟨fun s n j a h => ⟨fun ho hi ha => ?_, fun ho hc => ?_, fun hw hn => exec_relayBuffer_held h hw hn, fun ref sta ha he => ?_⟩, fun s n j h => ?_⟩
  · refine ⟨fun hl hb ht => ?_, fun hl hb => ?_, ?_, fun hr => ?_⟩
    · rw [exec_approvalConfirm, execApprovalConfirm, verifierJob_owner h ho hi ha]
      simp only [hl, hb, ht, Bool.false_eq_true, if_false, decide_true, Bool.and_self, if_true]
    · rw [exec_approvalConfirm, execApprovalConfirm, verifierJob_owner h ho hi ha]
      simp only [hl, hb, Bool.false_eq_true, if_false, Bool.false_and]
    · rw [exec_approvalRevoke, execApprovalRevoke, verifierJob_owner h ho hi ha]
    · rw [exec_approvalQuery, execApprovalQuery, verifierJob_owner h ho hi ha, State.room_fits hr]
  · exact ⟨congrArg Host.Outcome.next (verifierJob_other h ho hc _), congrArg Host.Outcome.next (verifierJob_other h ho hc _),
      congrArg Host.Outcome.next (verifierJob_other h ho hc _)⟩
  · rw [exec_approvalExpiry, execApprovalExpiry, ha]
    exact if_neg (Nat.not_lt.mpr he)
  · refine ⟨fun hs hd => exec_pinTranslate_outside h ?_, exec_pinTranslate_outside h, fun x y c1 c2 ha hl h1 h2 =>
      ⟨exec_pinTranslate_keyed h ha hl h1 h2, exec_pinTranslate_wrongKey h ha hl h1 h2⟩, exec_submitterQuery_answers h, exec_submitterQuery_other h⟩
    rw [hs, hd]
    rfl

end Sys2Proof.Machine
end


section
/-! O29 (R142, R196): a JNL_EXPORT whose card leaves. Its completion is that of any failed job, so a job with the opcode of a chain takes the end of the
Parse before it as its origin. -/

namespace Sys2Proof.Machine
open Sys2Proof Sys2Proof.Claims

namespace Strand

variable (st : Strand)

/-- The job lists and the posting engine stay. -/
structure JobsKept (a b : Strand) : Prop where
  done : b.done = a.done
  post : b.post = a.post

theorem JobsKept.trans {a b c : Strand} (h : JobsKept a b) (g : JobsKept b c) : JobsKept a c := ⟨g.done.trans h.done, g.post.trans h.post⟩

theorem rewritten_jobsKept (k : Nat) : JobsKept st (st.rewritten k) := by
  unfold rewritten
  extract_lets cut l x y
  have hx : JobsKept st x := by
    unfold x
    split <;> exact ⟨rfl, rfl⟩
  exact hx.trans ⟨rfl, rfl⟩

theorem uncertain_jobsKept (e : Extent) : JobsKept st (st.uncertain e) := by
  unfold uncertain
  split
  · exact ⟨rfl, rfl⟩
  · split <;> exact ⟨rfl, rfl⟩

theorem wr_jobsKept (o : Nat) (w : Word) : JobsKept st (st.wr o w) := ⟨rfl, rfl⟩

theorem progress_jobsKept (o pct pos : Nat) : JobsKept st (st.progress o pct pos) := wr_jobsKept ..

theorem draw_emit_jobsKept (port : Port) (kind : Nat) (data : Bytes) : JobsKept st (st.draw.2.emit port kind data) := ⟨rfl, rfl⟩

theorem progDrop_jobsKept (o : Nat) : JobsKept st (st.progDrop o) := by
  unfold progDrop
  extract_lets w
  split <;> exact ⟨rfl, rfl⟩

/-- A chain that ends before intake takes the end of the Parse before it as its origin where that is later, R142. -/
theorem origin_of_mem_done_finishEarly {t : Nat} {j : Job} {records status detail : Nat} (h : st.done = []) {d : Done}
    (hd : d ∈ (st.finishEarly t j records status detail).done) : d.job.origin = max j.origin st.post.parseDone := by
  obtain ⟨_, c, hf, hc, -⟩ := finish_eq st t { j with origin := max j.origin st.post.parseDone } records status 0 detail []
  have hx : ∀ d ∈ (st.finish t { j with origin := max j.origin st.post.parseDone } records status 0 detail).done,
      d.job.origin = max j.origin st.post.parseDone := by
    intro d hd
    rw [hf] at hd
    obtain rfl : d = c := by simpa [h] using hd
    rw [hc]
  unfold finishEarly at hd
  extract_lets last x at hd
  clear_value last
  cases last with
  | none => exact hx d hd
  | some b =>
    dsimp only at hd
    split at hd
    · obtain ⟨e, he, rfl⟩ := List.mem_map.mp hd
      split
      · exact hx e he
      · exact hx e he
    · exact hx d hd

end Strand

theorem exec_jnlExport (n : Fin 4) (j : Job) (removed : Option (Nat × Nat)) (s : State) :
    exec (.jnlExport n j removed) s = execJnlExport n j removed s := rfl

/-- A JNL_EXPORT of one entry fails once its card has left, R196. -/
theorem exec_jnlExport_removed {s : State} {n : Fin 4} {j : Job} {e : Entry} {x : Strand} {c : Ctx} (h : Served s n j) (hf : j.fn = 0) (h6 : j.w6 ≠ 0)
    (h7 : j.w7 = j.w6) (hp : (s.sd n).flag R.JC_STATUS_PRESENT = true) (hj : (s.sd n).flag R.JC_STATUS_JARTEX = false)
    (he : (s.sd n).entryBody s.mem j.w6 = some e)
    (hr : (s.sd n).release s.now j.env 0xFF 0 ((s.sd n).get R.PST_SEAL_CTX_CTX) (2 ^ 4) 1 true = (x, .inr c)) (k unc : Nat) :
    ∃ z, Strand.JobsKept (s.sd n) z ∧ exec (.jnlExport n j (some (k, unc))) s = .next ((s.setSd n z).fail n j 0x66) := by
  have hk : KeyWork (s.sd n) x := by
    have hk := Strand.release_keyWork (s.sd n) s.now j.env 0xFF 0 ((s.sd n).get R.PST_SEAL_CTX_CTX) (2 ^ 4) 1 true
    rwa [hr] at hk
  rw [exec_jnlExport, execJnlExport, State.mgrJob, runJob_of_served h, if_neg (not_not.mpr hf)]
  generalize ho : Host.Outcome.next _ = o
  extract_lets st es at ho
  have hes : es = [some e] := by
    unfold es
    rw [h7, Nat.add_sub_cancel_left]
    exact congrArg (· :: []) he
  clear_value es
  subst hes
  rw [if_neg (by simp [h6, h7]), if_neg (by simp [st, hp, hj])] at ho
  dsimp -zeta only [List.filterMap, id] at ho
  rw [if_neg (by simp), show st.release s.now j.env 0xFF 0 (st.get R.PST_SEAL_CTX_CTX) (2 ^ 4) 1 true = (x, .inr c) from hr] at ho
  dsimp -zeta only at ho
  extract_lets _ _ _ _ all total y z at ho
  have hy : Strand.JobsKept x y := Strand.draw_emit_jobsKept ..
  have hz : Strand.JobsKept y z := ((Strand.rewritten_jobsKept ..).trans (Strand.uncertain_jobsKept ..)).trans (Strand.progress_jobsKept ..)
  exact ⟨_, ((Strand.JobsKept.trans ⟨hk.done, hk.post⟩ hy).trans hz).trans (Strand.progDrop_jobsKept ..), ho.symm⟩

/-! ### The counterexample -/

/-- A key of the device that may seal, in slot 5. -/
def sealKey : Ctx := { idx := 5, attr := ⟨1, 127, 0x1FFF, 0x10, 0xFF, 1, 128, 10, 0, 0⟩, key := zeros 16, baseGen := 1, curGen := 1 }

/-- An entry of number 1. -/
def firstEntry : Entry := { head := toLE 8 0 ++ toLE 8 1 ++ zeros 496, body := none }

/-- Strand 0 in SERVICE with that entry, its seal key and a generic card, once a Parse has ended at 1. -/
def parsedState : State := State.reset.up 0 fun st =>
  { ((st.put R.CHT_MODE_MODE 2).put R.JC_STATUS_PRESENT 1).put R.PST_SEAL_CTX_CTX (mkHandle 0 1 5) with
    vault := { st.vault with ctxs := [sealKey] }
    jnl := { st.jnl with buf := [firstEntry] }
    post := { st.post with parseDone := 1 } }

/-- A job of opcode 0x100 that names that entry. -/
def chainJob : Job := { op := 0x100, w6 := 1, w7 := 1 }

theorem parsedState_served : Served parsedState 0 chainJob := by unfold Served; decide +kernel

theorem parsedState_card : (parsedState.sd 0).flag R.JC_STATUS_PRESENT = true ∧ (parsedState.sd 0).flag R.JC_STATUS_JARTEX = false
    ∧ (parsedState.sd 0).entryBody parsedState.mem 1 = some firstEntry := by decide +kernel

theorem parsedState_idle : (parsedState.sd 0).done = [] ∧ (parsedState.sd 0).post.parseDone = 1 := by decide +kernel

theorem parsedState_releases : ∃ x c, (parsedState.sd 0).release parsedState.now chainJob.env 0xFF 0 ((parsedState.sd 0).get R.PST_SEAL_CTX_CTX)
    (2 ^ 4) 1 true = (x, .inr c) := by
  have h : ((parsedState.sd 0).release parsedState.now chainJob.env 0xFF 0 ((parsedState.sd 0).get R.PST_SEAL_CTX_CTX) (2 ^ 4) 1 true).2.isRight = true := by
    decide +kernel
  obtain ⟨c, hc⟩ := Sum.isRight_iff.mp h
  exact ⟨_, c, Prod.ext rfl hc⟩

/-- Refutes O29: the last clause holds for no JNL_EXPORT whose job carries the opcode of a chain and an origin before the end of the last Parse. Its
completion has the later moment for its origin (R142), so it is not that of the job as it was submitted. -/
theorem not_journalReadingOpcodes : ¬ Obligations.JournalReadingOpcodes := by
  unfold Obligations.JournalReadingOpcodes
  intro h
  obtain ⟨-, -, -, hexport⟩ := h parsedState 0 chainJob firstEntry parsedState_served
  obtain ⟨hp, hj, he⟩ := parsedState_card
  obtain ⟨x, c, hr⟩ := parsedState_releases
  obtain ⟨z, hz, ht⟩ := exec_jnlExport_removed parsedState_served rfl (by decide) rfl hp hj he hr 0 0
  obtain ⟨t, ht', -, d, hd, hdj, -⟩ := (hexport x c rfl (by decide) rfl hp hj he hr).2 0 0
  rw [ht] at ht'
  cases ht'
  obtain ⟨hdone, hparse⟩ := parsedState_idle
  rw [State.fail, if_pos (by decide), State.sd_up_same, State.sd_setSd_same] at hd
  have ho := Strand.origin_of_mem_done_finishEarly z (hz.done.trans hdone) hd
  rw [hdj, hz.post, hparse] at ho
  exact absurd ho (by decide)

end Sys2Proof.Machine
end
